-- ==== Sys2Proof/Word.lean ====
section
/-! DEFINITION. The word types of the module and the three-vertex tuple. -/

namespace Sys2Proof

/-- A byte (R90). -/
abbrev Byte := BitVec 8
/-- A DWORD, the width of every register (R13, R84). -/
abbrev Word := BitVec 32
/-- A 64-bit word, the width of an ECC word (R22) and of a register pair (R85). -/
abbrev Long := BitVec 64

/-- The three vertices: A plain, B reflected, C translated (R25, R26, R28). -/
inductive Vtx where
  | A
  | B
  | C
  deriving DecidableEq, Repr

/-- One value for each vertex. -/
structure Tri (α : Type) where
  a : α
  b : α
  c : α
  deriving DecidableEq, Repr

namespace Tri

/-- The value of vertex `v`. -/
def get {α : Type} (t : Tri α) (v : Vtx) : α :=
  match v with
  | .A => t.a
  | .B => t.b
  | .C => t.c

/-- Replace the value of vertex `v`. -/
def set {α : Type} (t : Tri α) (v : Vtx) (x : α) : Tri α :=
  match v with
  | .A => { t with a := x }
  | .B => { t with b := x }
  | .C => { t with c := x }

/-- The same value for all three. -/
def all {α : Type} (x : α) : Tri α := ⟨x, x, x⟩

/-- Apply a function to each. -/
def map {α β : Type} (f : α → β) (t : Tri α) : Tri β := ⟨f t.a, f t.b, f t.c⟩

/-- Apply a function of the vertex to each. -/
def mapv {α β : Type} (f : Vtx → α → β) (t : Tri α) : Tri β := ⟨f .A t.a, f .B t.b, f .C t.c⟩

end Tri

/-- The vertices in letter order. -/
def Vtx.list : List Vtx := [.A, .B, .C]

/-- 0 A, 1 B, 2 C. -/
def Vtx.num : Vtx → Nat
  | .A => 0
  | .B => 1
  | .C => 2

/-- The vertex of a number 0 to 2. -/
def Vtx.ofNum : Nat → Option Vtx
  | 0 => some .A
  | 1 => some .B
  | 2 => some .C
  | _ => none

/-- A three-bit mask: bit 0 A, bit 1 B, bit 2 C. -/
def Tri.mask (t : Tri Bool) : Nat :=
  (if t.a then 1 else 0) + (if t.b then 2 else 0) + (if t.c then 4 else 0)

/-- The vertices for which the mask is set. -/
def Tri.members (t : Tri Bool) : List Vtx := Vtx.list.filter t.get

end Sys2Proof
end

