-- ==== Sys2Proof/Machine/LoadSet.lean ====
section
/-! DEFINITION. What a load set carries, as plain data: the manifest (Table 14.1), the vendor block
(Table 14.2) and the content that the chapters name. The spec gives no byte layout for the application
header and the bus matrix, so their content is data, not bytes (notes/assumptions/9.md). -/

namespace Sys2Proof

/-- Capacity profiles (Table 1.8). -/
inductive Profile where
  | perch
  | rood
  | acre
  deriving DecidableEq, Repr

/-- A task as the application header declares it (R57 to R61, Tables 2.18 and 2.19). -/
structure TaskDecl where
  en : Bool
  period : Nat      -- code 0 to 4: 1, 2, 4, 8, 16 furlongs
  offset : Nat
  budget : Nat
  bound : Nat
  root : Nat        -- root descriptor
  frame : Nat       -- root frame address
  inBase : Nat      -- 16-byte units from 16#0200_0000
  inSize : Nat
  outBase : Nat
  outSize : Nat
  deriving DecidableEq, Repr

/-- A slot binding entry (Table 4.13). -/
structure Binding where
  stat : Nat        -- 4-byte units
  pay : Nat
  len : Nat
  task : Nat
  tx : Bool
  deriving DecidableEq, Repr

/-- A tunable set entry (Table 5.3). -/
structure Tunable where
  addr : Nat
  typ : Nat
  tag : Nat
  min : Word
  max : Word
  deriving DecidableEq, Repr

/-- Element kinds (Table 6.2). -/
inductive ElemKind where
  | point
  | signal
  | sect
  | crossing
  | boundary
  deriving DecidableEq, Repr

/-- The static part of an element (Table 6.2). -/
structure ElemDecl where
  kind : ElemKind
  agelim : Nat
  img : Nat
  deriving DecidableEq, Repr

/-- Term kinds (Table 6.5). -/
inductive TermKind where
  | path
  | flank
  | overlap
  | approach
  | clear
  | consent
  deriving DecidableEq, Repr

/-- A term (Table 6.5). -/
structure Term where
  elem : Nat
  req : Nat
  kind : TermKind
  deriving DecidableEq, Repr

/-- A route: its term list and conflict list with their offsets in 8-byte units (R178, R179). -/
structure RouteDecl where
  terms : List Term
  conf : List Nat
  toff : Nat
  coff : Nat
  deriving DecidableEq, Repr

/-- A position on the bus: area, position, senior bit (R47, R456). -/
structure Position where
  area : Nat
  pos : Nat
  senior : Bool
  deriving DecidableEq, Repr

/-- The three words of a slot descriptor (Table 8.5). -/
structure DescWords where
  w0 : Word
  w1 : Word
  w2 : Word
  deriving DecidableEq, Repr

/-- The fields of a slot descriptor (Table 8.5). -/
structure SlotDesc where
  slot : Nat
  dur : Nat         -- 0.5 µs units
  rep : Nat         -- code 0 to 5
  base : Nat
  plen : Nat
  owner : Position
  pairspec : Bool
  status : Bool     -- CLASS 1
  queue : Nat
  dir : Nat         -- 0 neither, 1 receive, 2 transmit
  agedw : Nat
  bind : Nat        -- 16#FFF none
  deriving DecidableEq, Repr

/-- The fields that the words of a descriptor hold (Table 8.5). -/
def DescWords.fields (d : DescWords) : SlotDesc :=
  { slot := (d.w0.extractLsb' 0 8).toNat, dur := (d.w0.extractLsb' 8 5).toNat, rep := (d.w0.extractLsb' 13 3).toNat,
    base := (d.w0.extractLsb' 16 6).toNat, plen := (d.w0.extractLsb' 24 8).toNat,
    owner := ⟨(d.w1.extractLsb' 0 8).toNat, (d.w1.extractLsb' 8 4).toNat, d.w1.getLsbD 12⟩, pairspec := d.w1.getLsbD 13,
    status := d.w1.extractLsb' 14 2 == 1, queue := (d.w1.extractLsb' 16 6).toNat, dir := (d.w1.extractLsb' 22 2).toNat,
    agedw := (d.w1.extractLsb' 24 8).toNat, bind := (d.w2.extractLsb' 0 12).toNat }

/-- The reserved bits of a descriptor are 0, and its CLASS is one in use (Table 8.5). -/
def DescWords.formed (d : DescWords) : Bool :=
  d.w0.extractLsb' 22 2 == 0 && d.w2.extractLsb' 12 20 == 0 && !d.w1.getLsbD 15

/-- A time-capable node of a segment (R284) with its data set and path delay estimates (R289). -/
structure TimeNode where
  clockId : Long
  module : Bool     -- a coldstart-capable module (R284)
  prio1 : Nat
  prio2 : Nat
  pd0X : Nat
  pd0Y : Nat
  deriving DecidableEq, Repr

/-- A node of a segment: its place, its arbitration priority (0 where it sends nothing in the arbitrating window), the
payload DWORDs of its largest EVENT frame, and whether it is coldstart-capable (R241, R253, R273). -/
structure SegNode where
  place : Position
  prio : Nat
  evMax : Nat
  cold : Bool
  deriving DecidableEq, Repr

/-- A segment of the bus matrix: its nodes in line order (R241). -/
structure Segment where
  hops : Nat
  ring : Bool
  line : List SegNode
  deriving DecidableEq, Repr

/-- NODES. -/
def Segment.nodes (g : Segment) : Nat := g.line.length

/-- The coldstart-capable modules. -/
def Segment.coldstart (g : Segment) : List Position := (g.line.filter SegNode.cold).map SegNode.place

/-- The place of a position in line order, from 0. -/
def Segment.indexOf (g : Segment) (p : Position) : Option Nat := g.line.findIdx? (fun n => n.place == p)

/-- An event channel mapping (R257). -/
structure Channel where
  tx : Bool
  src : BitVec 16
  chan : Nat
  queue : Nat
  bind : Nat
  deriving DecidableEq, Repr

/-- Queue configuration (R256, TTB.QCFG). -/
structure QCfg where
  kind : Nat
  depth : Nat       -- 256-byte units
  deriving DecidableEq, Repr

/-- The bus matrix of the modules of one position (R47, R251). -/
structure Matrix where
  etype : BitVec 16
  vid : Nat
  pcp : Nat
  area : Nat        -- area code of the modules' own position
  pos : Nat         -- its position
  arbres : Nat      -- NT clocks; once loaded, the allowance that the verifier computed (R255)
  descs : List DescWords
  segX : Segment
  segY : Segment
  timeNodes : List TimeNode
  channels : List Channel
  queues : List QCfg
  deriving DecidableEq, Repr

/-- The slot descriptors. -/
def Matrix.slots (m : Matrix) : List SlotDesc := m.descs.map DescWords.fields

/-- The arbitration priority of the node at a position (R254). -/
def Matrix.prioOf (m : Matrix) (p : Position) : Nat :=
  ((m.segX.line ++ m.segY.line).find? (fun n => n.place == p)).elim 0 SegNode.prio

/-- Parameters of an input pair (SIO.PCFG, Table 10.12). -/
structure PairCfg where
  func : Nat
  tpa : Nat
  tpb : Nat
  dt : Nat
  osd : Nat         -- OSSDTOL, 10 µs units
  deriving DecidableEq, Repr

/-- An I/O parameter set (R338). -/
structure IoParams where
  seq : Word
  pairs : List PairCfg
  imin : List Nat
  qasafe : List Nat -- 0 OFF, 1 ON, 2 HOLD
  deriving DecidableEq, Repr

/-- Preferred home (CHD.HCFG). -/
structure HomeCfg where
  en : Bool
  home : Bool
  win : Nat
  wlen : Nat
  deriving DecidableEq, Repr

/-- The application header. -/
structure AppHeader where
  build : Word
  solo : Bool
  mI : Nat
  mT : Nat
  mE : Nat
  tasks : List TaskDecl          -- tasks 0 to 7
  bindings : List Binding
  tunables : List Tunable
  inputDecl : List Word          -- R477
  mirror : List (Nat × Nat)      -- R349
  localBind : Nat                -- 16#FFF none
  edgeBind : Nat
  emax : Nat
  home : HomeCfg
  jumpth : Option Nat            -- µs; none where the load set leaves the default of 1 ms (R294)
  launchQueues : Bool            -- launch-time queues declared (R42)
  edgeCapture : Bool             -- edge capture declared (R42)
  deriving DecidableEq, Repr

/-- A code block: descriptor index and the code extent of the block (R135). -/
structure BlockDecl where
  desc : Nat
  first : Nat
  last : Nat        -- address after the last word
  deriving DecidableEq, Repr

/-- The content of a load set. Memory content is given at logical addresses in plain form. -/
structure Content where
  profile : Profile
  mid : Word
  hdr : AppHeader
  code : List Host.Cell          -- descriptor table and code
  inst : List Host.Cell          -- frames, globals, constants
  imgIn : List Host.Cell         -- restrictive input image
  imgOut : List Host.Cell        -- restrictive output image
  blocks : List BlockDecl
  frames : List (Nat × Nat)      -- every frame: address, descriptor
  timers : List (Nat × Nat)      -- timer slots: address, KIND code
  edges : List Nat               -- edge slots
  term : List Host.Cell          -- route directory, term lists and conflict lists (R173)
  elem : List Host.Cell          -- element table and route records, with their initial content (R173)
  nelems : Nat                   -- NELEMS
  nroutes : Nat                  -- NROUTES
  matrix : Matrix
  io : IoParams
  checks : Tri Long              -- check values of code and term SRAM (Table 7.11), one per vertex's load
  deriving DecidableEq, Repr

/-- The manifest and vendor block fields of a load set (Tables 14.1 and 14.2). -/
structure Manifest where
  magic : Word
  format : Nat
  ncomp : Nat
  build : Word
  mid : Word
  schema : Nat
  svn : Nat
  raise : Bool
  length : Nat
  comp : List (Nat × Nat × Nat × BitVec 384)  -- TYPE, OFFSET, LENGTH, digest
  opkE : BitVec 776
  opkL : BitVec 480
  osigE : BitVec 768
  osigL : List Byte
  vMagic : Word
  fwver : Word
  bodyLen : Nat
  bodyDig : BitVec 384
  vpkE : BitVec 776
  vpkL : BitVec 480
  vsigE : BitVec 768
  vsigL : List Byte
  deriving DecidableEq, Repr

/-- A load set as the flash holds it: the manifest with the fields of the vendor block, the bytes of the firmware body and of the
other components, and what application, matrix and schema say. -/
structure LoadSet where
  man : Manifest
  body : List Byte               -- the firmware body
  parts : List (List Byte)       -- application, bus matrix and settings schema
  content : Content
  deriving DecidableEq, Repr

end Sys2Proof
end

