-- ==== Sys2Proof/Syntax.lean ====
section
/-! DEFINITION. The commands: one constructor of Instr for each row of spec/opcode_table.json, with the
operands that the row's rule needs from outside. `dt` is the time since the previous timed command, in NT
clocks of 8 ns (notes/assumptions/2.md). `w` is the clocks that an access waits beyond its base count, and `busy` says that
it met a collision and received BUSY (R372). -/

namespace Sys2Proof

/-! ### Instruction formats (Table 4.1), with the fields marked 0 -/

/-- Format R. -/
structure FmtR where
  d : BitVec 4
  a : BitVec 4
  b : BitVec 4
  mod : BitVec 12
  deriving DecidableEq, Repr

/-- Format I. -/
structure FmtI where
  d : BitVec 4
  a : BitVec 4
  imm : BitVec 16
  deriving DecidableEq, Repr

/-- Format M. -/
structure FmtM where
  t : BitVec 4
  off : BitVec 20
  deriving DecidableEq, Repr

/-- Format G. -/
structure FmtG where
  t : BitVec 4
  b : BitVec 4
  disp : BitVec 16
  deriving DecidableEq, Repr

/-- Format B. -/
structure FmtB where
  cond : BitVec 4
  off : BitVec 20
  deriving DecidableEq, Repr

/-- Format S. -/
structure FmtS where
  d : BitVec 4
  bind : BitVec 12
  wix : BitVec 8
  deriving DecidableEq, Repr

/-- Format L. -/
structure FmtL where
  i : BitVec 4
  z : BitVec 3
  ix : Bool
  count : BitVec 16
  deriving DecidableEq, Repr

/-- Format C, with its extension word. -/
structure FmtC where
  d : BitVec 12
  z : BitVec 12
  f : BitVec 16
  z15 : Bool
  x : BitVec 15
  deriving DecidableEq, Repr

/-- Format X, with its extension word. -/
structure FmtX where
  d : BitVec 4
  z : BitVec 20
  imm : BitVec 32
  deriving DecidableEq, Repr

/-- Format N. -/
structure FmtN where
  z : BitVec 16
  code : BitVec 8
  deriving DecidableEq, Repr

/-- The address forms of a load (Table 4.2): each has an opcode of its own. -/
inductive LoadForm where
  | inst (m : FmtM)
  | image (m : FmtM)
  | const (m : FmtM)
  | glob (g : FmtG)
  deriving DecidableEq, Repr

/-- The address forms of a store. No constant-form store exists (R123). -/
inductive StoreForm where
  | inst (m : FmtM)
  | image (m : FmtM)
  | glob (g : FmtG)
  deriving DecidableEq, Repr

/-- What disturbs a centroid entry on its way: bits flipped, and a comparator of the receiving slice that does not see the
mismatch its self-check injects (R228). -/
structure LinkErr where
  flip : BitVec 80
  blind : Bool
  deriving DecidableEq, Repr

/-! ### Networks, links, ports -/

/-- Networks X and Y. -/
inductive Net where
  | X
  | Y
  deriving DecidableEq, Repr

/-- Chord links. -/
inductive Link where
  | C1
  | C2
  deriving DecidableEq, Repr

/-- Bus and chord ports, in the order of the LINK_FAULT argument (Table 13.4). -/
inductive Port where
  | X1
  | X2
  | Y1
  | Y2
  | C1
  | C2
  deriving DecidableEq, Repr

/-- What a port does at LINK_CHANGE (R240, R344). -/
inductive LinkEvent where
  | down
  | up
  | wrongSpeed
  deriving DecidableEq, Repr

/-- The two key receivers: the network chip and the safe I/O chip (R32). -/
inductive Receiver where
  | nt
  | si
  deriving DecidableEq, Repr

/-! ### Frames -/

/-- A Swisko frame as received or sent (Tables 8.2 and 8.3). DA and SA are fixed by SRC and the network. -/
structure Frame where
  fcsOk : Bool
  etype : BitVec 16
  vid : Nat
  verf : BitVec 8
  kind : BitVec 8
  src : BitVec 16
  rodslot : BitVec 16
  hop : Nat
  plen : Nat
  seq : Word
  ts : Long
  payload : List Word
  code1 : Word
  code2 : Word
  pcp : Nat := 0              -- PCP of the TCI; DEI is 0
  deriving DecidableEq, Repr

/-- A chord frame (Table 11.1). -/
structure ChordFrame where
  fcsOk : Bool
  etype : BitVec 16
  verf : BitVec 8
  kind : BitVec 8
  src : BitVec 16
  seq : Word
  idx : BitVec 16
  len : BitVec 16
  ts : Long
  payload : List Byte
  code1 : Word
  code2 : Word
  deriving DecidableEq, Repr

/-- The attributes of a PTP message that Table 9.1 fixes. -/
structure PtpHdr where
  dest : BitVec 48
  vid : Nat
  pcp : Nat
  domain : Nat
  sdo : Nat
  minor : Nat
  logInterval : Int
  twoStep : Bool
  unicast : Bool
  port : Nat              -- portNumber of the requesting port in Delay_Req and Delay_Resp: 1 X, 2 Y; 0 else
  utcOffset : Int         -- currentUtcOffset of an Announce (R280); 0 else
  deriving DecidableEq, Repr

/-- PTP messages of the profile (R283). Times are in ns, corrections in units of 2⁻¹⁶ ns. -/
inductive PtpMsg where
  | sync (h : PtpHdr) (clockId : Long) (origin : Nat) (corr : Int)
  | announce (h : PtpHdr) (clockId : Long) (prio1 cls acc var prio2 steps : Nat)
  | delayReq (h : PtpHdr) (clockId : Long) (seqId : Nat) (corr : Int)
  | delayResp (h : PtpHdr) (clockId : Long) (reqId : Long) (seqId : Nat) (receive : Nat) (corr : Int)
  | other (h : PtpHdr)
  deriving DecidableEq, Repr

/-- Any frame on a bus port. -/
inductive AnyFrame where
  | swisko (f : Frame)
  | ptp (fcsOk : Bool) (m : PtpMsg)
  | other (etype : BitVec 16)
  deriving DecidableEq, Repr

/-! ### Readings -/

/-- One vertex's samples of its 14 J6 pins (PAR is bit 13): in its own window and in the windows of the
other two vertices (R457). -/
structure J6Sample where
  own : BitVec 14
  other1 : BitVec 14
  other2 : BitVec 14
  deriving DecidableEq, Repr

/-- A word that failed the destructive march: bank, the vertex for banks 0 to 4, word, bit (R384). -/
structure MarchFail where
  bank : Nat
  chip : Vtx
  word : Nat
  bit : Nat
  deriving DecidableEq, Repr

/-- Where in step 3 the power fails (Table 14.6): while STAGING is verified, while block `k` is copied, or while ACTIVE is verified
after the copy. -/
inductive PowerCut where
  | staging
  | block (k : Nat)
  | active
  deriving DecidableEq, Repr

/-- What the module meets while it passes steps 1 to 5 of Table 2.7. -/
structure PowerOnIn where
  cold : Bool                 -- ambient below −25 °C (R464)
  hpres : Bool                -- HPRES# read low at step 1 (R461)
  aoLost : Bool               -- the AO rail was lost (R400)
  analogOk : Bool             -- analogue self-test of step 2
  march : List MarchFail      -- failing words of the first march
  again : List Nat            -- banks that fail the second march
  norOk : Bool                -- the NOR responds (R407)
  copyFail : Option Nat       -- block whose read-back fails (R429)
  sw3 : Tri Bool              -- SW3 as read at step 3 (R434)
  seals : Tri (BitVec 4)      -- SW1 to SW4 as read at step 5, or at the entry to COMMISSION
  j6 : Tri J6Sample
  sched : Tri (List Nat)      -- slot descriptors whose copy from the vertex reaches the guardians damaged (Table 1.6)
  torn : Bool                 -- the last write of the journal was torn by the power failure before (R422)
  cut : Option PowerCut       -- power fails again in step 3 (R433)
  found : Tri Nat             -- the check that fails on the bytes a vertex receives at step 4 where they differ, else 0 (R420)
  deriving DecidableEq, Repr

/-- Key words that end in one clock of a receiver: one, and the others with the judgement of their Manchester code (R32). -/
structure KeyEnds where
  word : BitVec 48
  more : List (Bool × BitVec 48)
  deriving DecidableEq, Repr

/-- What a furlong boundary brings from outside. -/
structure BoundaryIn where
  j6 : Tri J6Sample
  seals : Tri (BitVec 4)
  clocks : Tri Nat            -- vertex clocks since the last boundary (R39)
  siOk : Tri Bool             -- CRC-8 of the SI link transfer correct (R320)
  volt : Nat                  -- sample of the field supply, 10 mV units
  readback : BitVec 24        -- QS00 to QS15 and QA0 to QA7 on, by read-back
  deriving DecidableEq, Repr

/-- An input edge entry (Table 9.4). -/
structure EdgeEntry where
  time : Nat
  input : Nat
  newClass : Nat
  oldClass : Nat
  eseq : Nat
  ovf : Bool
  current : List Nat
  deriving DecidableEq, Repr

/-- The 56 samples of an edge entry, and for each vertex its copy where the entry has been damaged on its way. -/
structure EdgeCopies where
  current : List Nat
  damaged : Tri (Option EdgeEntry)
  deriving DecidableEq, Repr

/-- A terminal voltage and the field supply of the same instant, in units of 10 mV. -/
structure TermReading where
  volt : Nat
  supply : Nat
  deriving DecidableEq, Repr

/-- What a terminal reading of a QS output counts as (R324). -/
inductive Level where
  | low
  | mid
  | high
  deriving DecidableEq, Repr

/-- A slice or piece result (R383). -/
structure TestResult where
  sig : Word
  count : Nat
  complete : BitVec 16
  deriving DecidableEq, Repr

/-- How a NOR operation ends (Table 13.6); `torn` is one in which the K3M stops before it sets COMMIT (R405). -/
inductive NorOutcome where
  | ok
  | mismatch
  | torn
  | noResponse
  deriving DecidableEq, Repr

/-- A K3M access to the same host window word whose bank cycle overlaps (R371). -/
inductive Collide where
  | none
  | read
  | write
  deriving DecidableEq, Repr

/-- Who accesses a register: a vertex that writes it, or the K3M that writes or reads one in its own space (Table 16.5;
notes/assumptions/21.md). -/
inductive Writer where
  | vertex (v : Vtx)
  | k3m
  | k3mReads
  deriving DecidableEq, Repr

/-- The service sessions (R435). -/
inductive Sess where
  | s0
  | s1
  deriving DecidableEq, Repr

/-- Roles (R436). -/
inductive Role where
  | reader
  | maintainer
  | commissioner
  | admin
  deriving DecidableEq, Repr

/-- Channel of a service request: S1 or J7 (Table 14.9). -/
inductive Chan where
  | s1
  | j7
  deriving DecidableEq, Repr

/-- PWR-A or PWR-B. -/
inductive Pwr where
  | a
  | b
  deriving DecidableEq, Repr

/-! ### The commands -/

/-- One constructor per row of spec/opcode_table.json, in the table's order. -/
inductive Instr where
  -- Relku instructions
  | nop (v : Vtx) (f : FmtN)
  | trap (v : Vtx) (f : FmtN)
  | evt (v : Vtx) (f : FmtI)
  | rdtcw (v : Vtx) (f : FmtR)
  | wrtcw (v : Vtx) (f : FmtR)
  | mov (v : Vtx) (f : FmtR)
  | movi (v : Vtx) (f : FmtI)
  | movis (v : Vtx) (f : FmtI)
  | movhi (v : Vtx) (f : FmtI)
  | movx (v : Vtx) (f : FmtX)
  | sel (v : Vtx) (f : FmtR)
  | ldb (v : Vtx) (f : LoadForm) (w : Nat) (busy : Bool)
  | ldbs (v : Vtx) (f : LoadForm) (w : Nat) (busy : Bool)
  | ldh (v : Vtx) (f : LoadForm) (w : Nat) (busy : Bool)
  | ldhs (v : Vtx) (f : LoadForm) (w : Nat) (busy : Bool)
  | ldw (v : Vtx) (f : LoadForm) (w : Nat) (busy : Bool)
  | ldd (v : Vtx) (f : LoadForm) (w : Nat) (busy : Bool)
  | stb (v : Vtx) (f : StoreForm) (w : Nat)
  | sth (v : Vtx) (f : StoreForm) (w : Nat)
  | stw (v : Vtx) (f : StoreForm) (w : Nat)
  | std (v : Vtx) (f : StoreForm) (w : Nat)
  | adds (v : Vtx) (f : FmtR)
  | addu (v : Vtx) (f : FmtR)
  | subs (v : Vtx) (f : FmtR)
  | subu (v : Vtx) (f : FmtR)
  | muls (v : Vtx) (f : FmtR)
  | mulu (v : Vtx) (f : FmtR)
  | divs (v : Vtx) (f : FmtR)
  | divu (v : Vtx) (f : FmtR)
  | rems (v : Vtx) (f : FmtR)
  | remu (v : Vtx) (f : FmtR)
  | negs (v : Vtx) (f : FmtR)
  | abss (v : Vtx) (f : FmtR)
  | addl (v : Vtx) (f : FmtR)
  | subl (v : Vtx) (f : FmtR)
  | addsi (v : Vtx) (f : FmtI)
  | and (v : Vtx) (f : FmtR)
  | or (v : Vtx) (f : FmtR)
  | xor (v : Vtx) (f : FmtR)
  | not (v : Vtx) (f : FmtR)
  | andi (v : Vtx) (f : FmtI)
  | ori (v : Vtx) (f : FmtI)
  | xori (v : Vtx) (f : FmtI)
  | shl (v : Vtx) (f : FmtR)
  | shr (v : Vtx) (f : FmtR)
  | sar (v : Vtx) (f : FmtR)
  | ror (v : Vtx) (f : FmtR)
  | btst (v : Vtx) (f : FmtI)
  | bset (v : Vtx) (f : FmtI)
  | bclr (v : Vtx) (f : FmtI)
  | bext (v : Vtx) (f : FmtI)
  | bins (v : Vtx) (f : FmtI)
  | sand (v : Vtx) (f : FmtR)
  | sor (v : Vtx) (f : FmtR)
  | sxor (v : Vtx) (f : FmtR)
  | snot (v : Vtx) (f : FmtR)
  | stst (v : Vtx) (f : FmtR)
  | sfromb (v : Vtx) (f : FmtR)
  | stob (v : Vtx) (f : FmtR)
  | sget (v : Vtx) (f : FmtI)
  | sput (v : Vtx) (f : FmtI)
  | sandp (v : Vtx) (f : FmtR)
  | sorp (v : Vtx) (f : FmtR)
  | sall (v : Vtx) (f : FmtR)
  | cmp (v : Vtx) (f : FmtR)
  | cmpi (v : Vtx) (f : FmtI)
  | cmpl (v : Vtx) (f : FmtR)
  | tst (v : Vtx) (f : FmtR)
  | b (v : Vtx) (f : FmtB)
  | loopn (v : Vtx) (f : FmtL)
  | lend (v : Vtx) (f : FmtN)
  | callfb (v : Vtx) (f : FmtC) (w : Nat)
  | retfb (v : Vtx) (f : FmtN) (w : Nat)
  | rxslot (v : Vtx) (f : FmtS) (w : Nat) (busy : Bool)
  | txslot (v : Vtx) (f : FmtS) (w : Nat)
  | age (v : Vtx) (f : FmtI)
  | ton (v : Vtx) (f : FmtI) (w : Nat)
  | tof (v : Vtx) (f : FmtI) (w : Nat)
  | tp (v : Vtx) (f : FmtI) (w : Nat)
  | rtrig (v : Vtx) (f : FmtM) (w : Nat)
  | ftrig (v : Vtx) (f : FmtM) (w : Nat)
  | query (v : Vtx) (f : FmtR)
  | command (v : Vtx) (f : FmtR)
  | alStart (v : Vtx) (f : FmtR)
  | alStop (v : Vtx) (f : FmtR)
  | lresv (v : Vtx) (f : FmtR)
  | lrelRoute (v : Vtx) (f : FmtR)
  | lrelElement (v : Vtx) (f : FmtR)
  | lstat (v : Vtx) (f : FmtR)
  -- start, modes, boundaries
  | powerOn (dt : Nat) (p : PowerOnIn)
  | sealStateChange (dt : Nat) (sw : Fin 4)
  | sealDisagree (dt : Nat) (sw : Fin 4)
  | mailboxPoll (dt : Nat) (seals : Tri (BitVec 4))
  | timeWait (dt : Nat)
  | furlongBoundary (dt : Nat) (b : BoundaryIn)
  | rodBoundary (dt : Nat)
  | isolatedCleanCount (dt : Nat)
  | resyncWaitExpiry (dt : Nat)
  -- lattice pass, tasks, strides
  | latticePass (dt : Nat) (v : Vtx) (wait : Nat)
  | latticeOverrun (dt : Nat) (v : Vtx)
  | taskStart (v : Vtx)
  | budgetTrap (v : Vtx) (stall : Nat)
  | strideClose (v : Vtx)
  | phase2Start (dt : Nat)
  -- voting and commit
  | centroidEntry (dt : Nat) (slice sender : Vtx) (err : LinkErr)
  | wEnd (dt : Nat)
  | vrdLimit (dt : Nat)
  | keyWord (dt : Nat) (rx : Receiver) (manchesterOk : Bool) (word : KeyEnds)
  | bankCopyBack (dt : Nat)
  | phase2End (dt : Nat)
  | watchdogTrip (dt : Nat) (oscNs : Nat)
  -- bus transmission
  | slotFetch (dt : Nat) (rod slot : Nat) (busy : Tri Nat)
  | slotTransmit (dt : Nat) (rod slot : Nat)
  | statusTransmit (dt : Nat) (rod slot : Nat)
  | arbWindowStart (dt : Nat) (net : Net)
  | arbSend (dt : Nat) (net : Net) (idle len : Nat)
  | eventCopyExpiry (dt : Nat) (net : Net) (queue : Nat)
  | launchTimeReached (dt : Nat) (queue : Nat)
  -- bus reception and guardians
  | frameForward (dt : Nat) (port : Port) (busy : Bool) (f : AnyFrame)
  | frameCopyReceive (dt : Nat) (net : Net) (pre : Nat) (f : Frame)
  | combineWindowExpiry (dt : Nat) (src rodslot : BitVec 16) (seq : Word)
  | occurrenceDue (dt : Nat) (desc : Nat)
  | linkChange (dt : Nat) (port : Port) (e : LinkEvent)
  | guardianBoundaryPulse (dt : Nat) (net : Net) (off : Int)
  | babble (dt : Nat) (net : Net)
  | coldstartLtExpiry (dt : Nat)
  | coldstartEnd (dt : Nat)
  -- network time
  | syncReceive (dt : Nat) (net : Net) (h : PtpHdr) (clockId : Long) (origin : Nat) (corr : Int)
  | announceReceive (dt : Nat) (net : Net) (h : PtpHdr) (clockId : Long) (prio1 cls acc var prio2 steps : Nat)
  | delayReqReceive (dt : Nat) (net : Net) (h : PtpHdr) (clockId : Long) (seqId : Nat) (corr : Int)
  | delayRespReceive (dt : Nat) (net : Net) (h : PtpHdr) (clockId : Long) (reqId : Long) (seqId receive : Nat)
      (corr : Int)
  | delayReqSend (dt : Nat)
  | masterSyncSend (dt : Nat)
  | masterAnnounceSend (dt : Nat)
  | syncTimeout (dt : Nat)
  | announceReceiptTimeout (dt : Nat)
  | waitMasterTimeout (dt : Nat)
  | timeStore (dt : Nat)
  -- local inputs
  | inputEdgeEntry (dt : Nat) (copies : EdgeCopies)
  | classChange (dt : Nat) (input : Fin 32) (before : List Nat) (cur : Nat)
  | ioTick (dt : Nat)
  | discrepancyLatch (dt : Nat) (pair : Fin 16)
  | inputFaultLatch (dt : Nat) (input : Fin 32) (cur : Nat)
  | inputLatchClear (dt : Nat) (input : Fin 32)
  | twohandTimeout (dt : Nat) (pair : Fin 16)
  | tpPulseStart (dt : Nat) (tp : Fin 4)
  | tpPulseCheck (dt : Nat) (tp : Fin 4) (currents : List Nat)
  | tpOverload (dt : Nat) (tp : Fin 4) (cur us : Nat)
  -- local outputs
  | outputTestSlot (dt : Nat) (k : Fin 32)
  | outputTestReading (dt : Nat) (supply plus minus : Nat)
  | outputTestTimeout (dt : Nat) (volt : Nat)
  | outputTestRepeat (dt : Nat)
  | latchResetTestEnd (dt : Nat) (n : Fin 16) (hs ls : TermReading)
  | qsOvercurrent (dt : Nat) (n : Fin 16) (cur us : Nat)
  | qsOpenLoad (dt : Nat) (n : Fin 16) (cur us : Nat)
  | qsStuckOn (dt : Nat) (n : Fin 16) (plus minus supply : Nat)
  | qaReadback (dt : Nat) (j : Fin 8) (readOn : Bool) (us volt : Nat)
  | supplyWarn (dt : Nat) (volt : Nat)
  | supplyWarnClear (dt : Nat)
  | supplyLost (dt : Nat) (volt run : Nat)
  | supplyLostClear (dt : Nat)
  | sioFail (dt : Nat)
  -- the pair
  | heartbeatSend (dt : Nat)
  | heartbeatReceive (dt : Nat) (link : Link) (pre : Nat) (f : ChordFrame)
  | chordDown (dt : Nat) (link : Link)
  | mdataReceive (dt : Nat) (link : Link) (f : ChordFrame)
  | mcommitReceive (dt : Nat) (link : Link) (f : ChordFrame)
  | mirrorCutoff (dt : Nat)
  | takeoverDecision (dt : Nat)
  | takeover (dt : Nat)
  | yieldStop (dt : Nat)
  | homeEligible (dt : Nat)
  -- supply
  | supplyInput (dt : Nat) (p : Pwr) (volt overUs : Nat)
  | bothInputsLost (dt : Nat)
  | powerDownReset (dt : Nat) (store : Nat)
  | resetRelease (dt : Nat)
  -- memory test and self-test
  | preservingPiece (dt : Nat) (chip : Vtx) (bank : Fin 8)
  | pieceComplete (dt : Nat) (chip : Vtx) (bank : Fin 8) (r : TestResult) (word bit : Nat)
  | sliceStart (dt : Nat) (n : Nat)
  | sliceAbandon (dt : Nat) (n : Nat)
  | sliceComplete (dt : Nat) (n : Nat) (r : TestResult)
  | selftestOverdue (dt : Nat) (n : Nat)
  -- recorder
  | statusMirrorIntake (dt : Nat)
  | recordForm (dt : Nat)
  | recordCommit (dt : Nat) (o : NorOutcome)
  | foldTimeout (dt : Nat)
  | counterSave (dt : Nat)
  | k3mWatchdogRestart (dt : Nat)
  | freezeTimeout (dt : Nat)
  | probationCleanEnd (dt : Nat)
  | probationFaultRestart (dt : Nat)
  -- sessions and requests
  | sessionOpen (dt : Nat)
  | sessionIdleTimeout (dt : Nat) (n : Sess)
  | lockoutExpiry (dt : Nat) (r : Role)
  | login (dt : Nat) (n : Sess) (tag : BitVec 16) (r : Role) (pw : List Byte)
  | logout (dt : Nat) (n : Sess) (tag : BitVec 16)
  | setpw (dt : Nat) (n : Sess) (tag : BitVec 16) (r : Role) (pw : List Byte) (salt : BitVec 128)
  | clearpw (dt : Nat) (n : Sess) (tag : BitVec 16)
  | info (dt : Nat) (n : Sess) (tag : BitVec 16)
  | freeze (dt : Nat) (n : Sess) (tag : BitVec 16)
  | read (dt : Nat) (n : Sess) (tag : BitVec 16) (fromSeq max : Nat)
  | readsent (dt : Nat) (n : Sess) (tag : BitVec 16)
  | thaw (dt : Nat) (n : Sess) (tag : BitVec 16)
  | dlStart (dt : Nat) (n : Sess) (tag : BitVec 16) (length : Nat) (man : Manifest)
  | dlData (dt : Nat) (n : Sess) (tag : BitVec 16) (off : Nat) (data : List Byte)
  | dlEnd (dt : Nat) (n : Sess) (tag : BitVec 16) (got : LoadSet)
  | dlAbort (dt : Nat) (n : Sess) (tag : BitVec 16)
  | mailboxItem (dt : Nat) (n : Sess) (tag : BitVec 16) (kind : Nat) (cmd : Word) (body : List Byte)
  | attest (dt : Nat) (n : Sess) (tag : BitVec 16) (nonce : BitVec 256)
  | localAct (dt : Nat) (n : Sess) (tag : BitVec 16)
  | setting (dt : Nat) (n : Sess) (tag : BitVec 16) (id : Nat) (value : Word)
  | otpOperator (dt : Nat) (n : Sess) (tag : BitVec 16) (h1 h2 h3 h4 : BitVec 384)
  | mbctlPost (dt : Nat)
  | hostAccess (dt : Nat) (wr : Bool) (ha : BitVec 15) (data : BitVec 16) (c : Collide)
  | hostGo (dt : Nat)
  | hostResponse (dt : Nat)
  | hostAck (dt : Nat)
  -- commands of Table 2.9
  | restart (arg : BitVec 8) (tag : BitVec 16)
  | enterMaint (arg : BitVec 8) (tag : BitVec 16)
  | endMaint (arg : BitVec 8) (tag : BitVec 16)
  | withdraw (arg : BitVec 8) (tag : BitVec 16)
  | debug (arg : BitVec 8) (tag : BitVec 16)
  | debugEnd (arg : BitVec 8) (tag : BitVec 16)
  | rejoin (arg : BitVec 8) (tag : BitVec 16)
  | handover (arg : BitVec 8) (tag : BitVec 16)
  | stagePatch (arg : BitVec 8) (tag : BitVec 16)
  | stageIoParam (arg : BitVec 8) (tag : BitVec 16)
  | scheduleAct (arg : BitVec 8) (tag : BitVec 16)
  | confirm (arg : BitVec 8) (tag : BitVec 16)
  | cancelStage (arg : BitVec 8) (tag : BitVec 16)
  | fuseBurn (arg : BitVec 8) (tag : BitVec 16)
  -- register writes with behaviour of their own
  | fusectlBurn (v : Vtx) (val : Word) (readOk : Bool)
  | pmctlReq (v : Vtx) (val : Word)
  | loutWrite (v : Vtx) (val : Word)
  | ptbWrite (v : Vtx) (off : BitVec 12) (val : Word)
  | dctlRun (v : Vtx)
  | dctlStep (v : Vtx)
  | tuseClr (v : Vtx) (k : Fin 8)
  | latCtlClr (v : Vtx)
  | cenCtlClr (v : Vtx)
  | ttbCtlClr (v : Vtx)
  | ttbFlagClear (v : Vtx) (val : Word)
  | ntmCtlClr (v : Vtx)
  | ntmFlagClear (v : Vtx) (val : Word)
  | sioCtlClr (v : Vtx)
  | chdCtlClr (v : Vtx)
  | memCtlClr (v : Vtx)
  | memDoneClear (v : Vtx) (val : Word)
  | bstCtlClr (v : Vtx)
  | evrCtlClr (v : Vtx)
  | recnCtlClr
  | sentinelClear
  | hwinCtlClr
  | updmAbort (dt : Nat)
  | registerWrite (who : Writer) (addr val : Word)
  -- further steps
  | rejoinSelfTestEnd (dt : Nat) (testOk checkOk : Bool)
  | rejoinCopySlack (dt : Nat)
  | guardianWindowExpiry (dt : Nat) (net : Net)
  | sessionEnd (dt : Nat) (n : Sess)
  | downloadCheckEnd (dt : Nat)
  | passThroughRelease (dt : Nat) (port : Port)
  | tpRestoreEnd (dt : Nat) (tp : Fin 4) (cur us : Nat)
  | sectorEraseEnd (dt : Nat) (ok : Bool)
  deriving DecidableEq, Repr

end Sys2Proof
end

