-- ==== Sys2Proof/Decode.lean ====
section
/-! DEFINITION. Words to commands. No row of spec/opcode_table.json gives bits. The spec gives the Relku processor's
instructions bits of their own (R112, R113, R117), and those words are the ones that spell a command. -/

namespace Sys2Proof

/-! ### Instruction formats (Table 4.1) -/

/-- Format R. -/
def fmtR (w : Word) : FmtR := ⟨w.extractLsb' 20 4, w.extractLsb' 16 4, w.extractLsb' 12 4, w.extractLsb' 0 12⟩

/-- Format I. -/
def fmtI (w : Word) : FmtI := ⟨w.extractLsb' 20 4, w.extractLsb' 16 4, w.extractLsb' 0 16⟩

/-- Format M. -/
def fmtM (w : Word) : FmtM := ⟨w.extractLsb' 20 4, w.extractLsb' 0 20⟩

/-- Format G. -/
def fmtG (w : Word) : FmtG := ⟨w.extractLsb' 20 4, w.extractLsb' 16 4, w.extractLsb' 0 16⟩

/-- Format B. -/
def fmtB (w : Word) : FmtB := ⟨w.extractLsb' 20 4, w.extractLsb' 0 20⟩

/-- Format S. -/
def fmtS (w : Word) : FmtS := ⟨w.extractLsb' 20 4, w.extractLsb' 8 12, w.extractLsb' 0 8⟩

/-- Format L. -/
def fmtL (w : Word) : FmtL := ⟨w.extractLsb' 20 4, w.extractLsb' 17 3, w.getLsbD 16, w.extractLsb' 0 16⟩

/-- Format C, with its extension word. -/
def fmtC (w x : Word) : FmtC :=
  ⟨w.extractLsb' 12 12, w.extractLsb' 0 12, x.extractLsb' 16 16, x.getLsbD 15, x.extractLsb' 0 15⟩

/-- Format X, with its extension word. -/
def fmtX (w x : Word) : FmtX := ⟨w.extractLsb' 20 4, w.extractLsb' 0 20, x⟩

/-- Format N. -/
def fmtN (w : Word) : FmtN := ⟨w.extractLsb' 8 16, w.extractLsb' 0 8⟩

/-! ### The opcode map (Table 4.2) -/

/-- The instruction of vertex `v` that the word `w` spells, with the word after it for MOVX and CALLFB; none for an
undefined opcode. A field marked 0 is kept as it stands: the instruction traps on it (R114). Waits and BUSY, which no word
holds, are those of an undisturbed access. The four operations of LREQ share one word, as do the two of LREL. -/
def relkuOf (v : Vtx) (w x : Word) : Option Instr :=
  match (w.extractLsb' 24 8).toNat with
  | 0x01 => some (.nop v (fmtN w))
  | 0x02 => some (.trap v (fmtN w))
  | 0x03 => some (.evt v (fmtI w))
  | 0x04 => some (.rdtcw v (fmtR w))
  | 0x05 => some (.wrtcw v (fmtR w))
  | 0x08 => some (.mov v (fmtR w))
  | 0x09 => some (.movi v (fmtI w))
  | 0x0A => some (.movis v (fmtI w))
  | 0x0B => some (.movhi v (fmtI w))
  | 0x0C => some (.movx v (fmtX w x))
  | 0x0D => some (.sel v (fmtR w))
  | 0x10 => some (.ldb v (.inst (fmtM w)) 0 false)
  | 0x11 => some (.ldbs v (.inst (fmtM w)) 0 false)
  | 0x12 => some (.ldh v (.inst (fmtM w)) 0 false)
  | 0x13 => some (.ldhs v (.inst (fmtM w)) 0 false)
  | 0x14 => some (.ldw v (.inst (fmtM w)) 0 false)
  | 0x15 => some (.ldd v (.inst (fmtM w)) 0 false)
  | 0x18 => some (.ldb v (.image (fmtM w)) 0 false)
  | 0x19 => some (.ldbs v (.image (fmtM w)) 0 false)
  | 0x1A => some (.ldh v (.image (fmtM w)) 0 false)
  | 0x1B => some (.ldhs v (.image (fmtM w)) 0 false)
  | 0x1C => some (.ldw v (.image (fmtM w)) 0 false)
  | 0x1D => some (.ldd v (.image (fmtM w)) 0 false)
  | 0x20 => some (.ldb v (.const (fmtM w)) 0 false)
  | 0x21 => some (.ldbs v (.const (fmtM w)) 0 false)
  | 0x22 => some (.ldh v (.const (fmtM w)) 0 false)
  | 0x23 => some (.ldhs v (.const (fmtM w)) 0 false)
  | 0x24 => some (.ldw v (.const (fmtM w)) 0 false)
  | 0x25 => some (.ldd v (.const (fmtM w)) 0 false)
  | 0x28 => some (.ldb v (.glob (fmtG w)) 0 false)
  | 0x29 => some (.ldbs v (.glob (fmtG w)) 0 false)
  | 0x2A => some (.ldh v (.glob (fmtG w)) 0 false)
  | 0x2B => some (.ldhs v (.glob (fmtG w)) 0 false)
  | 0x2C => some (.ldw v (.glob (fmtG w)) 0 false)
  | 0x2D => some (.ldd v (.glob (fmtG w)) 0 false)
  | 0x30 => some (.stb v (.inst (fmtM w)) 0)
  | 0x31 => some (.sth v (.inst (fmtM w)) 0)
  | 0x32 => some (.stw v (.inst (fmtM w)) 0)
  | 0x33 => some (.std v (.inst (fmtM w)) 0)
  | 0x34 => some (.stb v (.image (fmtM w)) 0)
  | 0x35 => some (.sth v (.image (fmtM w)) 0)
  | 0x36 => some (.stw v (.image (fmtM w)) 0)
  | 0x37 => some (.std v (.image (fmtM w)) 0)
  | 0x38 => some (.stb v (.glob (fmtG w)) 0)
  | 0x39 => some (.sth v (.glob (fmtG w)) 0)
  | 0x3A => some (.stw v (.glob (fmtG w)) 0)
  | 0x3B => some (.std v (.glob (fmtG w)) 0)
  | 0x40 => some (.adds v (fmtR w))
  | 0x41 => some (.addu v (fmtR w))
  | 0x42 => some (.subs v (fmtR w))
  | 0x43 => some (.subu v (fmtR w))
  | 0x44 => some (.muls v (fmtR w))
  | 0x45 => some (.mulu v (fmtR w))
  | 0x46 => some (.divs v (fmtR w))
  | 0x47 => some (.divu v (fmtR w))
  | 0x48 => some (.rems v (fmtR w))
  | 0x49 => some (.remu v (fmtR w))
  | 0x4A => some (.negs v (fmtR w))
  | 0x4B => some (.abss v (fmtR w))
  | 0x4C => some (.addl v (fmtR w))
  | 0x4D => some (.subl v (fmtR w))
  | 0x4E => some (.addsi v (fmtI w))
  | 0x50 => some (.and v (fmtR w))
  | 0x51 => some (.or v (fmtR w))
  | 0x52 => some (.xor v (fmtR w))
  | 0x53 => some (.not v (fmtR w))
  | 0x54 => some (.andi v (fmtI w))
  | 0x55 => some (.ori v (fmtI w))
  | 0x56 => some (.xori v (fmtI w))
  | 0x57 => some (.shl v (fmtR w))
  | 0x58 => some (.shr v (fmtR w))
  | 0x59 => some (.sar v (fmtR w))
  | 0x5A => some (.ror v (fmtR w))
  | 0x5B => some (.btst v (fmtI w))
  | 0x5C => some (.bset v (fmtI w))
  | 0x5D => some (.bclr v (fmtI w))
  | 0x5E => some (.bext v (fmtI w))
  | 0x5F => some (.bins v (fmtI w))
  | 0x60 => some (.sand v (fmtR w))
  | 0x61 => some (.sor v (fmtR w))
  | 0x62 => some (.sxor v (fmtR w))
  | 0x63 => some (.snot v (fmtR w))
  | 0x64 => some (.stst v (fmtR w))
  | 0x65 => some (.sfromb v (fmtR w))
  | 0x66 => some (.stob v (fmtR w))
  | 0x67 => some (.sget v (fmtI w))
  | 0x68 => some (.sput v (fmtI w))
  | 0x69 => some (.sandp v (fmtR w))
  | 0x6A => some (.sorp v (fmtR w))
  | 0x6B => some (.sall v (fmtR w))
  | 0x70 => some (.cmp v (fmtR w))
  | 0x71 => some (.cmpi v (fmtI w))
  | 0x72 => some (.cmpl v (fmtR w))
  | 0x73 => some (.tst v (fmtR w))
  | 0x78 => some (.b v (fmtB w))
  | 0x79 => some (.loopn v (fmtL w))
  | 0x7A => some (.lend v (fmtN w))
  | 0x80 => some (.ton v (fmtI w) 0)
  | 0x81 => some (.tof v (fmtI w) 0)
  | 0x82 => some (.tp v (fmtI w) 0)
  | 0x83 => some (.rtrig v (fmtM w) 0)
  | 0x84 => some (.ftrig v (fmtM w) 0)
  | 0x90 => some (.query v (fmtR w))
  | 0x91 => some (.lresv v (fmtR w))
  | 0x92 => some (.lrelRoute v (fmtR w))
  | 0x93 => some (.lstat v (fmtR w))
  | 0xA0 => some (.rxslot v (fmtS w) 0 false)
  | 0xA1 => some (.txslot v (fmtS w) 0)
  | 0xA2 => some (.age v (fmtI w))
  | 0xC0 => some (.callfb v (fmtC w x) 0)
  | 0xC1 => some (.retfb v (fmtN w) 0)
  | _ => none

/-- The opcode of a word is defined (R117). -/
def opDefined (w : Word) : Bool := (relkuOf .A w 0).isSome

/-- The command that a word spells: the opcode table gives no row any bits, so only a Relku instruction word, alone or with its
extension word above it, spells one, as an instruction of vertex A (R112, R117; notes/assumptions/5.md). -/
def decodeTableWord (nbits w : Nat) : Option Instr :=
  if nbits = 32 ∨ nbits = 64 then relkuOf .A (BitVec.ofNat 32 w) (BitVec.ofNat 32 (w / 2 ^ 32)) else none

end Sys2Proof
end

