-- ==== Sys2Proof/Config.lean ====
section
/-! DEFINITION. What an implementation fixes and the spec leaves open: constants without a body, of which no
statement can use a value (notes/assumptions/10.md to 13.md). -/

namespace Sys2Proof

/-- The worst forwarding allowance of a segment for the arbitrating window, in NT clocks: the verifier computes it from the segment,
and the spec gives no formula (R255). -/
opaque Config.forwardAllowance : Segment → Nat

/-- A byte read from a word of the host window with an uncorrectable error: the spec names no result of that read (R368). -/
opaque Config.badWindowByte : Nat → Byte

/-- The SIG of a slice whose checks all pass: the checks of a slice kind are not listed (R383). -/
opaque Config.sliceSig : Nat → Word

/-- The COUNT of a slice whose checks all pass (R383). -/
opaque Config.sliceCount : Nat → Nat

/-- The hashes of the vendor's ECDSA and LMS root keys, programmed at manufacture (R418). -/
opaque Config.vendorRoots : BitVec 384 × BitVec 384

/-- SHA-384 (FIPS 180-4), which the spec names and does not write out. -/
opaque Config.sha384 : List Byte → BitVec 384

/-- An ECDSA P-384 signature verifies: key, digest, signature (R417). -/
opaque Config.ecdsaOk : BitVec 776 → BitVec 384 → BitVec 768 → Bool

/-- An HSS signature with L = 1 verifies: key, message, signature (R417). -/
opaque Config.lmsOk : BitVec 480 → List Byte → List Byte → Bool

/-- The ECDSA P-384 signature of the module's attestation key over a digest. Each use has a nonce of its own, numbered
by the counter of the state (R439). -/
opaque Config.ecdsaSign : Nat → BitVec 384 → BitVec 768

/-- The HSS signature of the module's attestation key with an index over a message (R439). -/
opaque Config.hssSign : Nat → List Byte → List Byte

/-- The Argon2id hash of a password and a salt with the parameters of R437. -/
opaque Config.argon2id : List Byte → BitVec 128 → BitVec 256

/-- The settings and their default values that a settings schema component gives (R432). -/
opaque Config.settingDefaults : Nat → List (Nat × Word)

/-- The IEEE 1588 clockIdentity of a module with a position code: the spec does not say how it is formed, but the position
code is the only source designation that the module has on the bus (R2). -/
opaque Config.clockIdentity : BitVec 16 → Long

/-- The currentUtcOffset that the module carries in its Announce messages before it has received one (R280). -/
opaque Config.utcOffset : Int

/-- The step that the servo of R291 gives RATE at a Sync, before the limits of R281 and R291. Numbered by the counter
of the state. -/
opaque Config.servoStep : Nat → Int

/-- The logical address that a staging copy of R163 or R338 stores to: area and offset. The staging areas have no address
in the map. -/
opaque Config.stageAddr : Nat → Nat → Nat

end Sys2Proof
end

