-- ==== Sys2Proof/Machine/VertexState.lean ====
section
/-! DEFINITION. The state of one vertex: registers, loop stack, memories, lattice, signature unit, slice and
buffers. Memory and registers are held once, in plain logical form (R26, R28: the physical forms of vertices B
and C are views, Machine/Forms.lean). -/

namespace Sys2Proof.Machine

/-! ### Names -/

/-- Operating modes (Table 2.5). -/
inductive Mode where
  | start
  | commission
  | resync
  | standby
  | active
  | isolated
  | maintenance
  | halt
  deriving DecidableEq, Repr

/-- Mode change causes (Table 2.13). -/
inductive MCause where
  | powerOn
  | sequence
  | command
  | positionMismatch
  | bistFail
  | loadsetFail
  | strengthLost
  | budgetCommon
  | ntClock
  | takeover
  | handover
  | yielded
  | startDisagree
  | soloStart
  | positionChanged
  | restartCmd
  deriving DecidableEq, Repr

/-- Trap causes (Table 3.12), in order of their codes and priorities. -/
inductive TrapCause where
  | ecc
  | budget
  | deadline
  | opcode
  | access
  | align
  | image
  | frame
  | stack
  | loop
  | sbool
  | divzero
  | slot
  | lattice
  | timer
  | trap
  deriving DecidableEq, Repr

/-- Exclusion causes (Table 7.8). -/
inductive XCause where
  | stride
  | image
  | selfcheck
  | verdict
  | skew
  | lateEnd
  | seq
  | clock
  | latticeOverrun
  | withdrawn
  | trap (c : TrapCause)
  | other (code : Nat)      -- a WD entry that carries a code of no cause
  deriving DecidableEq, Repr

/-- Record types (Table 13.4 and Table 14.10). -/
inductive RecType where
  | modeChange
  | command
  | sealRefused
  | positionMismatch
  | timeWait
  | noPartner
  | deadline
  | trapCommon
  | stageDiscarded
  | budgetCommon
  | writeRefused
  | vertexTrap
  | vertexExcluded
  | noMajority
  | keyMinority
  | outMismatch
  | withdrawCancelled
  | debugEnded
  | vertexRejoined
  | rejoinFail
  | latticeOverrun
  | appEvent
  | evtOverflow
  | patchApplied
  | patchDiscarded
  | tuningCleared
  | netDisagree
  | babble
  | busIntegrated
  | coldstartYield
  | linkFault
  | timeJumpRefused
  | netTimeDiff
  | pathDelayMismatch
  | betterMaster
  | launchLate
  | launchRange
  | edgeDisagree
  | inputEdge
  | ioFault
  | ioClear
  | paramApplied
  | paramDiscarded
  | takeover
  | splitBrain
  | handoverCancelled
  | homeReturn
  | seniorConflict
  | partnerBuild
  | chordDown
  | mirrorMismatch
  | mirrorCut
  | memTestFail
  | memRepair
  | fuseRepair
  | selftestOverdue
  | selftestFail
  | ptbSet
  | ptbCleared
  | recOverflow
  | holdOverflow
  | holdLost
  | logJump
  | freezeTimeout
  | aoRestored
  | sectorRetired
  | update (code : Nat)     -- 16#0A01 to 16#0AFF and the supply records 16#0B01 to 16#0B03
  deriving DecidableEq, Repr

/-- A record as a source forms it: type, source (Table 13.1) and body. -/
structure Rec where
  typ : RecType
  source : Nat
  body : List Byte
  deriving DecidableEq, Repr

/-! ### Program registers (Table 3.1, Table 3.3) -/

/-- The condition flags, TCW[4:0]. -/
structure Flags where
  z : Bool
  n : Bool
  c : Bool
  v : Bool
  s : Bool
  deriving DecidableEq, Repr

/-- An entry of the loop stack (R136). -/
structure LoopEntry where
  start : Word
  left : Nat
  total : Nat
  ix : Bool
  wi : BitVec 4
  deriving DecidableEq, Repr

/-- A signature record (Table 7.1). -/
inductive SigRec where
  | reg (r : Nat) (val : Word)
  | store (bytes : Nat) (addr : Nat) (val : Long)
  | bitSet (addr : Nat) (mask : Word)
  | bitClear (addr : Nat) (mask : Word)
  | loadLocal (r : Nat)
  | close (kind : Nat) (retired : Nat) (pc : Word) (tcw : Word) (nrec : Nat)
  deriving DecidableEq, Repr

/-- The program registers and the counters that go with them. -/
structure Core where
  w : Vector Word 16
  ib : Word
  xb : Word
  kb : Word
  fl : Flags
  task : Nat            -- TCW.TASK
  depth : Nat           -- TCW.DEPTH
  loops : List LoopEntry  -- top first; TCW.LOOPS is its length
  eloops : Nat          -- ELOOPS (R84)
  pc : Word
  count : Nat           -- budget count (R61)
  retired : Nat         -- instructions retired in the stride (R210)
  stream : List SigRec  -- records of the stride so far, newest first (R206)
  deriving DecidableEq, Repr

/-- Issue classes (Table 4.3). -/
inductive IClass where
  | A
  | M
  | B
  | U
  deriving DecidableEq, Repr

/-- What is kept of the last instruction, so that the next one can pair with it (R118), and so that the pair
can be undone when the budget ends inside it (R110). -/
structure LastIssue where
  addr : Word
  cls : IClass
  cyc : Nat
  rw : BitVec 16        -- registers it wrote
  fw : BitVec 5         -- flags it wrote
  core : Core           -- the registers before it
  undo : List Host.Cell -- the bytes its store replaced, at logical addresses
  deriving DecidableEq, Repr

/-! ### Memories -/

/-- The vertex memories, plain bytes at logical addresses. Each list is in the canonical form of
Machine/Ops.lean. The image SRAM holds the input side and two banks of output areas (R34). -/
structure VMem where
  code : List Host.Cell
  inst : List Host.Cell
  term : List Host.Cell   -- term SRAM: static tables of the lattice (R173)
  imgIn : List Host.Cell
  out0 : List Host.Cell
  out1 : List Host.Cell
  work1 : Bool            -- the working bank is out1
  ecc : List Nat          -- addresses of 8-byte words with an uncorrectable error (R22)
  ecc1 : List Nat         -- addresses of 8-byte words with a correctable error (R22)
  deriving DecidableEq, Repr

/-! ### Lattice -/

/-- An element (Table 6.2). -/
structure Elem where
  decl : ElemDecl
  dstate : Nat
  dage : Nat
  aged : Bool
  invalid : Bool
  stale : Bool
  cstate : Nat
  share : Nat
  owner : Option Nat      -- none is 16#FFFF
  alend : Word
  alst : Bool             -- RUNNING
  deriving DecidableEq, Repr

/-- RSTATE (Table 6.6). -/
inductive RState where
  | free
  | reserved
  | partly
  deriving DecidableEq, Repr

/-- A route with its record (R178 to R180) and its bit of the settable bitmap. -/
structure Route where
  decl : RouteDecl
  result : Word
  rstate : RState
  engaged : Bool
  sheld : BitVec 16
  settable : Bool
  deriving DecidableEq, Repr

/-- The lattice of a vertex and its LAT counters. -/
structure Lattice where
  elems : List Elem
  routes : List Route
  nominal : Nat           -- PASSN
  passDone : Bool         -- the pass of this furlong is complete
  held : List SigRec      -- pass writes not yet in the stream (R185)
  plast : Nat
  pmax : Nat
  resvOk : Nat
  resvSame : Nat
  relOk : Nat
  relAppr : Nat
  fResv : Nat
  fRel : Nat
  overrun : Nat
  blank : Bool           -- a march has left the element SRAM holding zero data (R375)
  deriving DecidableEq, Repr

/-! ### Centroid -/

/-- TYPE of a centroid entry (Table 7.4). -/
inductive EType where
  | sig
  | res
  | tst0
  | tst1
  | img
  | iend
  | vrd
  | wd
  | bad (code : Nat)
  deriving DecidableEq, Repr

/-- A centroid entry (Table 7.4). -/
structure Entry where
  typ : EType
  seq : Nat
  data : Long
  deriving DecidableEq, Repr

/-- Where a slice stands with one sender: the entries received and not yet decided (oldest first), the
alignment register, and what it has received of the end of the furlong. -/
structure Feed where
  queue : List Entry
  next : Nat              -- SEQ expected of a SIG, RES or IMG entry
  stage : Nat             -- 0 strides, 1 TST0, 2 TST1, 3 images, 4 VRD, 5 complete
  strides : Nat           -- SIG entries received
  vrd : Option Long
  deriving DecidableEq, Repr

/-- A centroid slice. -/
structure Slice where
  excl : Tri Bool         -- its exclusion view of the furlong
  feed : Tri Feed
  imgcrc : BitVec 16
  imgPrev : Option Long   -- last majority IMG word, not yet in the CRC: the local output word is left out (R220)
  iendDone : Bool         -- every position up to IEND is decided
  vrdSent : Bool
  checkFail : Bool        -- the self-check of the furlong failed (R228)
  noMaj : Bool
  verdict : Option Nat    -- the majority VRD, once complete (R224)
  keySent : Bool
  skewNow : Nat           -- largest skew of the furlong
  ref : List Entry        -- accepted entries not yet compared with a rejoining vertex, oldest first (R237)
  deriving DecidableEq, Repr

/-! ### Debug channel (Table 7.10) -/

/-- The registers of a debug channel. -/
structure Debug where
  halted : Bool
  why : Nat
  trapc : Nat
  single : Bool           -- STEP: halt after one retirement
  fresh : Bool            -- the first instruction after RUN or STEP meets no instruction breakpoint
  started : Bool          -- a debug furlong is in progress
  dfur : Word
  ibp : List Word         -- 8, EN in bit 0
  dbp : List Word         -- 4
  dma : Word
  lastSig : Long
  deriving DecidableEq, Repr

/-! ### Buffers -/

/-- An entry of the event buffer (R157). -/
structure Event where
  ev : BitVec 16
  task : Nat
  pc : Word
  a : Word
  b : Word
  deriving DecidableEq, Repr

/-- Vertex-local register fields (R215) and other fields that one vertex holds for itself. -/
structure Local where
  tuseMax : List Nat      -- 8
  tuseOvr : List Nat      -- 8
  skewLast : Nat
  skewMax : Nat
  scfail : Nat
  eccOwn : Nat
  p0busy : Nat
  p1busy : Nat
  qdrop : Nat
  edrop : Nat
  deriving DecidableEq, Repr

/-- Registers whose written value a vertex keeps: the launch-time set (R297) and LOUT (R36). -/
structure OwnWrites where
  ltctl : Word
  ltlo : List Word        -- 12
  lthi : List Word        -- 12
  lout : Word             -- as last written
  shadow : Word           -- the shadow in the safe I/O chip: the last write before phase 2
  deriving DecidableEq, Repr

/-- The tuning table (R168). -/
structure Tuning where
  vals : List Word
  seq : Word
  deriving DecidableEq, Repr

/-- One vertex. -/
structure Vertex where
  core : Core
  last : Option LastIssue
  cur : Option Nat        -- task that runs
  todo : List Nat         -- released tasks not yet started, ascending
  released : List Nat     -- tasks released in this furlong
  stopped : Bool          -- has stopped executing the application (R105, R226)
  closed : Bool           -- its end-of-cycle strides are closed
  strideNo : Nat
  strides : Nat           -- strides of this furlong so far
  rescnt : Nat            -- retired count of the last residual stride
  imgWords : Nat
  mem : VMem
  lat : Lattice
  slice : Slice
  dbg : Debug
  events : List Event
  evDrop : List Nat       -- 8
  recs : List Rec         -- record buffer, oldest first
  recDrop : Nat
  own : OwnWrites
  tune : Tuning
  loc : Local
  key : Option (BitVec 48)  -- key word sent in this furlong
  marking : Bool          -- the signature unit marks pages: the vertex is a rejoin source (R236)
  dirty : List Nat        -- marked 4 KiB page addresses
  patch : List Byte       -- its own patch staging area (R163)
  deriving DecidableEq, Repr

end Sys2Proof.Machine
end

