-- ==== Sys2Proof/Machine/IoState.lean ====
section
/-! DEFINITION. The state of the safe I/O chip: inputs, pairs, test-pulse supplies, outputs, tests and supply
(R305 to R342). Instants are NT clocks. -/

namespace Sys2Proof.Machine

/-- A latch of an input: set, and for how many ticks its condition has been absent, with the checks of R311 passed in
that time (R316). -/
structure InLatch where
  set : Bool
  clean : Nat
  passes : Nat
  deriving DecidableEq, Repr

/-- An input (R307, R309, R311, R316). -/
structure InputSt where
  cls : Nat                 -- classified state, code of Table 10.2
  leftAt : Option Nat       -- when it last left CLOSED (R313)
  bad : Nat                 -- consecutive ticks in WIRE_BREAK or INTERMEDIATE
  brk : InLatch             -- WIRE_BREAK
  inter : InLatch           -- INTERMEDIATE
  cross : InLatch           -- CROSS_SHORT
  xfail : List Bool         -- for each TP: the last check failed
  deriving DecidableEq, Repr

/-- The states of a two-hand function (R317). -/
inductive TwoHand where
  | released
  | one (second : Bool) (n : Nat)   -- `second`: the button first seen is that of pair p + 1
  | on
  | block
  deriving DecidableEq, Repr

/-- An input pair (R315, R317). -/
structure PairSt where
  count : Nat
  disc : Bool
  hand : TwoHand
  out : Bool
  deriving DecidableEq, Repr

/-- A test-pulse supply (R310, R335). -/
structure TpSt where
  off : Bool                -- switched off by an overload
  overload : Bool           -- TP_OVERLOAD latched
  restoreAt : Option Nat    -- switched on again by a reset request at this instant
  pulseAt : Option Nat      -- start of the last pulse
  checked : Bool            -- the check of that pulse is done
  deriving DecidableEq, Repr

/-- Latched QS faults (Table 10.10). -/
structure QsFaults where
  hsOn : Bool
  lsOn : Bool
  hsOff : Bool
  lsOff : Bool
  overcur : Bool
  openLoad : Bool
  deriving DecidableEq, Repr

/-- What an output waits for after SUPPLY_LOST (R332): nothing, a commit commanding off, a commit commanding on. -/
inductive Fresh where
  | none
  | needOff
  | needOn
  deriving DecidableEq, Repr

/-- A QS output. -/
structure QsSt where
  committed : Bool
  on : Bool
  faults : QsFaults
  fresh : Fresh
  resetAt : Option Nat      -- a reset test runs since this instant (R335)
  deriving DecidableEq, Repr

/-- A QA output. -/
structure QaSt where
  committed : Bool
  differ : Bool             -- the shadows of the last commit differ: its safe state applies (R36)
  on : Bool
  latched : Bool            -- QA_READBACK
  fresh : Fresh
  deriving DecidableEq, Repr

/-- A running output test (R326). -/
structure OutTest where
  n : Nat
  low : Bool                -- the low-side switch is tested
  on : Bool                 -- the output was on at the start
  at_ : Nat
  deriving DecidableEq, Repr

/-- A test to be repeated (R327). -/
structure Repeat where
  n : Nat
  low : Bool
  furlong : Nat             -- furlong in which it was abandoned
  deriving DecidableEq, Repr

/-- The safe I/O chip. -/
structure Sio where
  params : IoParams
  inputs : List InputSt     -- 32
  pairs : List PairSt       -- 16
  tps : List TpSt           -- 4
  qs : List QsSt            -- 16
  qa : List QaSt            -- 8
  tests : Option OutTest
  repeats : List Repeat
  warn : Bool
  lost : Bool
  wdt : Bool
  fail : Bool
  nocommit : Nat
  volt : Nat                -- last sample, 10 mV
  voltMin : Option Nat      -- lowest sample since restart or the last clear
  lastWarn : Option Nat     -- last sample below 19.2 V
  warnFurl : Option Nat     -- furlong of the last SUPPLY_WARN record
  lastLow : Option Nat      -- last sample below 18.0 V (R318)
  commits : Bool            -- a commit has been formed since restart (R45, R330)
  lastCommit : Nat
  entered : Bool            -- STANDBY or ACTIVE has been entered since restart (R329)
  sticky : List Bool        -- group FAULT, set at any tick since the last write of the record (4)
  shown : Option (List Bool)  -- group FAULT as of the last transfer, none before the first (SIO.STAT)
  mode : Mode               -- the mode that the chip has taken from two agreeing links (R329)
  lastTick : Option Nat     -- the last tick (R314)
  edges : List EdgeEntry    -- changes dated and not yet sent to the vertices, oldest first (R300)
  eseq : Nat                -- edges dated since restart, modulo 65 536
  readback : BitVec 24      -- QS and QA on by read-back
  abandoned : Nat
  wdtrip : Nat
  lastSlot : Option Nat     -- test slot last started
  linkf : Tri Bool          -- link transfer of the vertex failed at the last freeze
  snap : List Nat           -- classified states after the last tick
  snapOut : List Bool       -- function outputs after the last tick
  deriving DecidableEq, Repr

end Sys2Proof.Machine
end

