-- ==== Sys2Proof/Machine/Blocks.lean ====
section
/-! DEFINITION. The module-level content of the register blocks (Table 16.2): what the vertices latch at a
furlong boundary (R215) and deliver to the status mirror (R474). -/

namespace Sys2Proof.Machine

/-- A W1C bit: the NT clock in which the hardware last set it, none while it reads 0. -/
abbrev Flag := Option Nat

/-- The bit after a write of `b` in the clock `nt`: a bit that the hardware sets in the same clock ends set (R16). -/
def Flag.cleared (x : Flag) (nt : Nat) (b : Bool) : Flag := if b && x != some nt then none else x

/-- A staging area: state 0 empty, 1 checking, 2 next possible boundary, 3 target furlong (Table 2.17). -/
structure Stg where
  state : Nat
  target : Nat
  deriving DecidableEq, Repr

/-- The CYC block (Tables 2.12 to 2.20), but for its vertex-local fields and for the fields that other blocks
hold. -/
structure Cyc where
  mode : Mode
  cause : MCause
  senior : Bool
  partner : Bool
  fnum : Nat
  sw1 : Bool
  sw2 : Bool
  sw3 : Bool
  sw4 : Bool
  resCode : Nat
  resTag : BitVec 16
  stg0 : Stg
  stg1 : Stg
  stg2 : Stg
  tasks : List TaskDecl
  profile : Option Profile
  solo : Bool
  deriving DecidableEq, Repr

/-- The last exclusion of a vertex: XCAUSE and XPOS. -/
structure XInfo where
  cause : Nat
  furl : Nat
  seq : Nat
  typ : Nat
  deriving DecidableEq, Repr

/-- The CEN block (Table 7.14). -/
structure Cen where
  excl : Tri Bool
  withdrawn : Tri Bool
  wdOld : Tri Bool          -- withdrawn since before a restart: no debug channel opens (R231, R233)
  debugged : Tri Bool
  wpend : Option Vtx
  x : Tri XInfo
  strides : Nat
  rescnt : Nat
  exclN : Nat
  rejVtx : Option Vtx
  rejStep : Nat
  rejFurl : Nat
  rejFails : Tri Nat        -- of each vertex, since restart
  rejLast : Option Vtx      -- vertex of the last failure
  rejReason : Nat
  imgWords : Nat
  imgLimit : Nat
  deriving DecidableEq, Repr

/-- Coldstart states, TTB.BUS.STATE (Tables 8.11 and 8.14). -/
inductive BusState where
  | off
  | listen
  | coldstart
  | backoff
  | yielding
  | integrated
  deriving DecidableEq, Repr

/-- One value for each network. -/
structure Two (α : Type) where
  x : α
  y : α
  deriving DecidableEq, Repr

/-- The value of a network. -/
def Two.get {α : Type} (t : Two α) (n : Net) : α :=
  match n with
  | .X => t.x
  | .Y => t.y

/-- Replace the value of a network. -/
def Two.set {α : Type} (t : Two α) (n : Net) (a : α) : Two α :=
  match n with
  | .X => { t with x := a }
  | .Y => { t with y := a }

/-- The error counters of a network: ERRX or ERRY. -/
structure ErrCnt where
  format : Nat
  code : Nat
  seqts : Nat
  window : Nat
  deriving DecidableEq, Repr

/-- The TTB block (Table 8.14). -/
structure Ttb where
  matrix : Option Matrix
  mid : Word
  pos : Option Position       -- voted position in force
  state : BusState
  count : Nat
  up : List Bool              -- X1, X2, Y1, Y2
  babble : Two Bool
  syncLost : Two Bool
  fDisagree : Flag
  fForeign : Flag
  fTimeconf : Flag
  fCheckfail : Flag
  fOutmm : Flag
  fFwddrop : Flag
  pairs : Nat
  sgl : Two Nat
  dis : Nat
  late : Nat
  err : Two ErrCnt
  missed : Nat
  suppr : Nat
  silent : Nat
  qfill : List Nat            -- 64, as latched at the boundary
  qdrop : List Nat            -- 64
  deriving DecidableEq, Repr

/-- Clock states (Table 9.2). -/
inductive ClkState where
  | wait
  | locking
  | locked
  | slewing
  | holdover
  | master
  deriving DecidableEq, Repr

/-- The NTM block (Table 9.6), but for the registers that read back a vertex's own writes. -/
structure Ntm where
  state : ClkState
  gmcap : Bool
  net : Option Net
  fTimejump : Flag
  fNetdiff : Flag
  fPdmism : Flag
  fBettergm : Flag
  fLate : Flag
  fEdgeovf : Flag
  gmid : Long
  gmClass : Nat
  gmPrio1 : Nat
  gmPrio2 : Nat
  gmSteps : Nat
  offs : Int                  -- ns
  mpd : Nat                   -- ns
  rate : Int                  -- units of 2⁻⁴⁰
  jumpth : Nat                -- µs
  jumpofs : Int               -- µs
  ignProfile : Nat
  ignBm : Nat
  ltLate : Nat
  ltFull : Nat
  edgBind : Nat
  emax : Nat
  edgFill : Nat
  edgDrop : Nat
  deriving DecidableEq, Repr

end Sys2Proof.Machine
end

