-- ==== Sys2Proof/Machine/NetState.lean ====
section
/-! DEFINITION. The state of the network chip and of the guardians: local clock, key receivers, queues,
combination windows, guardians and the IEEE 1588 ports. -/

namespace Sys2Proof.Machine

/-- The local clock (R280, R281): seconds, nanoseconds below 10⁹, and 40 fractional bits of a nanosecond. -/
structure Clock where
  sec : Nat
  ns : Nat
  frac : Nat
  deriving DecidableEq, Repr

/-- A key word held by a receiver (R32). -/
structure HeldKey where
  src : Vtx
  word : BitVec 48
  endAt : Nat             -- NT clock of its end
  deriving DecidableEq, Repr

/-- A key receiver. -/
structure KeyRx where
  mask : Tri Bool         -- latched exclusion mask
  maskAtStart : Tri Bool  -- the mask at the start of the furlong
  held : List HeldKey
  pair : Option (Vtx × Vtx)  -- committing pair of this furlong
  word : BitVec 48        -- its first word
  ignored : Nat
  outOfWindow : Nat
  second : Nat
  deriving DecidableEq, Repr

/-- A frame in the receive image: the frame and the networks it came from. -/
structure RxFrame where
  frame : Frame
  fromX : Bool
  fromY : Bool
  rodcount : Nat
  at_ : Nat            -- NT clock in which its reception completed (R40, R263)
  deriving DecidableEq, Repr

/-- A first valid copy whose combination window is open (R262). -/
structure OpenCopy where
  frame : Frame
  net : Net
  endAt : Nat             -- NT clock at which the window ends
  desc : Option Nat       -- matching descriptor
  deriving DecidableEq, Repr

/-- A frame already accepted or discarded (R262). -/
structure Decided where
  frame : Frame
  fromX : Bool
  fromY : Bool
  accepted : Bool
  at_ : Nat
  deriving DecidableEq, Repr

/-- What became of the occurrence of a receive descriptor that last fell due (R265, R267). -/
structure OccState where
  due : Option Word       -- rod count of the occurrence, none before the first
  stale : Bool            -- it yielded no accepted frame
  disagree : Bool         -- it was discarded under R262
  deriving DecidableEq, Repr

/-- What has been accepted or discarded for the occurrences of a receive descriptor that have not yet fallen due. -/
structure OccSeen where
  accepted : List Word    -- SEQ of the frames accepted
  disagree : List Word    -- SEQ of the frames discarded under R262
  deriving DecidableEq, Repr

/-- A frame in an event transmit queue (R254 to R258, R297). -/
structure TxEvent where
  queue : Nat
  chan : Nat
  payload : List Word
  ts : Nat
  idx : Nat
  launch : Option Nat     -- launch time not yet reached
  waitX : Bool            -- the copy for X has not started
  waitY : Bool
  furl : Nat              -- furlong of its commit
  copy1 : List Word       -- the copy over which a port computes CODE1 (R248)
  copy2 : List Word
  deriving DecidableEq, Repr

/-- A PTP message waiting in queue 60 or 61 on a network (R285). -/
inductive TxPtp where
  | sync
  | announce
  | delayReq (seqId : Nat)
  | delayResp (port : Nat) (reqId : Long) (seqId : Nat) (receive : Nat) (corr : Int)
  deriving DecidableEq, Repr

/-- A MGMT frame from the K3M, waiting in queue 62 or 63. -/
structure TxMgmt where
  queue : Nat
  chan : Nat
  payload : List Word
  ts : Nat
  idx : Nat
  waitX : Bool
  waitY : Bool
  deriving DecidableEq, Repr

/-- The slot-bound frames of a binding: the newest accepted one, and the newest that was accepted in an earlier clock. -/
structure BindRx where
  newest : RxFrame
  before : Option RxFrame
  deriving DecidableEq, Repr

/-- A queued received EVENT frame. -/
structure RxEvent where
  queue : Nat
  bind : Nat
  rx : RxFrame
  deriving DecidableEq, Repr

/-- A fetched slot payload, ready to be sent (R259). -/
structure Fetched where
  rod : Nat
  slot : Nat
  payload : Option (List Word)    -- none: suppressed by OUT_MISMATCH (R35)
  copy1 : List Word               -- the copy over which a port computes CODE1 (R248)
  copy2 : List Word
  held : Bool
  due : Bool                      -- fetched in ACTIVE
  deriving DecidableEq, Repr

/-- A guardian (R39, R269). -/
structure Guardian where
  schedule : Option (List DescWords)  -- the voted schedule: the descriptors on which two copies agreed
  reference : Bool        -- it has adopted a first rod boundary
  misses : Nat            -- consecutive missed windows
  cut : Bool              -- transmitter cut until a restart (BABBLE or SYNC_LOST)
  deriving DecidableEq, Repr

/-- A candidate master (R293): the data set of its last Announce. -/
structure MasterInfo where
  clockId : Long
  prio1 : Nat
  cls : Nat
  acc : Nat
  var : Nat
  prio2 : Nat
  steps : Nat
  at_ : Nat               -- NT clock of the last Announce
  deriving DecidableEq, Repr

/-- The IEEE 1588 ordinary clock. -/
structure Ptp where
  selected : Option MasterInfo
  candidates : List MasterInfo  -- better data sets heard while no master is selected or after a timeout
  candidate : Bool              -- the module sends Announce as a candidate
  timedOut : Bool               -- announceReceiptTimeout of the selected master has passed
  enteredAt : Nat               -- NT clock at entry to the present state
  lastSync : Two (Option Nat)   -- NT clock of the last Sync from the selected master
  offset : Two (Option Int)     -- last offset per network, ns
  delay : Two (Option Nat)      -- measured mean path delay per network, ns
  msd : Two (Option Int)        -- last Sync receive time less its corrected origin, ns
  reqSent : Two (Option (Nat × Int))  -- seqId and egress time of the last Delay_Req
  reqId : Nat
  firstDelay : Two Bool         -- a first mean path delay has been judged (R290)
  stepped : Bool                -- in LOCKING: the last Sync stepped the clock
  overRun : Nat                 -- consecutive Syncs with |offset| > 1 µs
  diffRun : Nat                 -- consecutive intervals with X and Y apart by more than 500 ns
  rates : List Int              -- RATE of the last 16 Sync intervals in LOCKED, newest first
  syncPair : Two (Option (Int × Nat)) -- corrected origin in 2⁻¹⁶ ns and NT clock of the last Sync, for the measured rate
  jumped : Bool                 -- TIME_JUMP_REFUSED is written for the present excursion (R294)
  utcOffset : Option Int        -- currentUtcOffset of the last Announce of the selected master (R280)
  mrate : Int                   -- measured rate of the master, units of 2⁻⁴⁰
  lastReq : Option Nat          -- NT clock of the last Delay_Req
  lastMSync : Option Nat        -- NT clock of the last Sync sent as master
  lastMAnn : Option Nat
  deriving DecidableEq, Repr

/-- An entry of the edge FIFO (Table 9.4). -/
structure EdgeFifo where
  entries : List EdgeEntry      -- oldest first
  ovf : Bool                    -- the next stored entry carries OVF
  dropped : Nat                 -- since the last freeze of the edge binding
  fresh : List EdgeEntry        -- stored in this furlong, for the status mirror
  deriving DecidableEq, Repr

/-- The network chip. -/
structure Nic where
  rxBind : List (Nat × BindRx)    -- binding → newest accepted frames
  rxEvents : List RxEvent         -- oldest first
  evSeq : List (BitVec 16 × Nat × Word)  -- source, channel, SEQ last accepted
  openCopies : List OpenCopy
  decided : List Decided
  occ : List OccState             -- per descriptor
  seen : List OccSeen             -- per descriptor
  txEvents : List TxEvent         -- oldest first
  txLater : List TxEvent          -- frames that enter their queue at the next rod boundary (R246)
  txPtp : Two (List TxPtp)
  txMgmt : List TxMgmt
  rxMgmt : List Frame             -- accepted MGMT frames for the K3M
  srcCount : List (Nat × Nat)     -- rod count → EVENT and MGMT frames queued with TS in that rod
  countdown : Two (Option Nat)
  fetched : Option Fetched
  pass : List (Port × AnyFrame × Nat)  -- pass-through buffers: outgoing port, frame, arrival in NT clocks
  heldDown : List Port            -- bus ports held down until a restart
  fwdOther : Two Nat              -- frames of another EtherType dropped (R242)
  pair : Option (Vtx × Vtx)       -- committing pair of the last commit
  lastCommit : Option Nat         -- furlong of the last commit
  noCommit : Nat                  -- consecutive ends of phase 2 without a commit
  tasksMask : Nat
  copied : Bool                   -- the copy-back of R34 is done
  csRod : Nat                     -- rods since entry to COLDSTART
  csSent : Nat                    -- COLDSTART frames sent
  csPend : Option BusState        -- state to enter at the next rod boundary
  integBy : Option Nat            -- rank behind which it integrates at the next furlong boundary
  rodAt : Option Nat        -- NT clock of the last rod boundary (R50)
  yieldRank : Nat
  rxNow : Two Bool                -- a frame has been accepted from the network in this furlong
  rxLast : Two Bool               -- the same, in the last furlong
  deriving DecidableEq, Repr

end Sys2Proof.Machine
end

