-- ==== Sys2Proof/Machine/PairState.lean ====
section
/-! DEFINITION. The state of the pair: chord links, evidence, mirror sets, takeover and handover (R343 to R367).
Instants are NT clocks. -/

namespace Sys2Proof.Machine

/-- Handover state, CHD.STAT.HOST. -/
inductive Host4 where
  | idle
  | horeq
  | ready
  | go
  | cancelled
  deriving DecidableEq, Repr

/-- The CHD block (Table 11.11). -/
structure Chd where
  up : Bool × Bool
  heard : Bool
  evid : Bool
  host : Host4
  split : Bool
  conflict : Bool
  buildmm : Bool
  pmode : Nat
  pstr : Nat
  psenior : Bool
  phome : Bool
  bytes : Nat
  nchunk : Nat
  mseq : Word
  applied : Bool            -- a set has been applied since restart
  sent : Nat
  abandon : Nat
  cut : Nat
  err : Nat × Nat
  down : Nat × Nat
  tkoCause : Nat
  tkoStale : Bool
  tkoLag : Nat
  tkoFurl : Nat
  home : HomeCfg
  secs : Nat
  prseq : Nat
  deriving DecidableEq, Repr

/-- A chord link as received. -/
structure ChordRx where
  lastAt : Option Nat       -- last accepted HEARTBEAT
  lastSeq : Option Word
  down : Bool               -- held down (LINK_FAULT, R344 or R382)
  deriving DecidableEq, Repr

/-- A mirror set being received (R353). -/
structure RxSet where
  seq : Word
  chunks : List Nat         -- indices passed
  commit : Bool             -- its MCOMMIT has passed and matches
  deriving DecidableEq, Repr

/-- A mirror set being sent. -/
structure TxSet where
  seq : Word
  doneAt : Nat
  deriving DecidableEq, Repr

/-- The pair engine of the network chip. -/
structure PairSt2 where
  c1 : ChordRx
  c2 : ChordRx
  evidActive : Option Nat   -- last evidence of an active partner
  evidStanding : Option Nat
  lastActive : Bool         -- the last evidence showed ACTIVE
  pbuild : Word
  pmid : Word
  pmseq : Word
  pstrength : Nat
  standFor : Option Nat     -- furlong in which a HEARTBEAT showing RESYNC or STANDBY with own BUILD and MID was accepted
  target : Option Nat       -- handover target boundary
  goSent : Bool
  goGot : Bool
  readyGot : Bool
  decided : Option (Nat × Nat)  -- instant and CAUSE of the decision to take over
  noTakeover : Bool         -- from an activation boundary on (R426)
  tookOver : Option Nat     -- furlong of a takeover
  yieldAt : Option Nat      -- detection of split brain by a junior
  yielded : Bool            -- it has stopped sending
  rx : Option RxSet
  tx : Option TxSet
  tries : Nat               -- HOME_RETURN tries in this window
  cleanFail : Bool          -- a condition of HCLEAN failed in this second
  secAt : Nat               -- second last judged
  silent : Bool             -- abdicated: sends no chord frame until RESYNC
  heardAt : Option Nat      -- partner last heard on a chord or by its STATUS
  req : Option Word         -- CMD word of the module's own HANDOVER
  judged : Option Nat       -- target of the handover request last judged (R303)
  standAt : Nat             -- entry to the present STANDBY
  formed : Word             -- SEQ of the set formed last
  deriving DecidableEq, Repr

end Sys2Proof.Machine
end

