-- ==== Sys2Proof/Machine/TestState.lean ====
section
/-! DEFINITION. The state of memory test, repair, analogue self-test and perturbation (R368 to R391). -/

namespace Sys2Proof.Machine

/-- A repair entry: RPR[n] (Table 12.10). -/
structure Repair where
  bank : Nat
  column : Bool
  fused : Bool
  index : Nat
  deriving DecidableEq, Repr

/-- The fuse register (MEM.FUSECTL) of a vertex. -/
structure FuseCtl where
  bank : Nat
  burn : Bool               -- a burn of banks 5 to 7 waits for a second vertex
  done : Bool
  err : Bool
  deriving DecidableEq, Repr

/-- The parts of the MEM block that the vertices hold in common. -/
structure MemBlk where
  done : BitVec 8
  fail : BitVec 8
  req : BitVec 8            -- requests in force
  bank : Nat
  active : Bool
  piece : Nat
  shared : Nat              -- ECC1.SHARED
  fuse : FuseCtl            -- FUSECTL of the vertex that latches the block
  fuseLeft : Nat            -- its LEFT
  deriving DecidableEq, Repr

/-- A piece under test (R376). -/
structure PieceRun where
  bank : Nat
  piece : Nat
  bad : Bool                -- the save met an uncorrectable error
  res : TestResult          -- the result, cleared to 0 at the start (R383)
  deriving DecidableEq, Repr

/-- The march engines: requests and progress, one engine in each vertex, one in the network chip and one in the
K3M. -/
structure Engine where
  req : BitVec 8
  newReq : BitVec 8         -- requests written in this furlong, in force from the next boundary
  next : Nat                -- next piece of the bank under test
  cur : Option Nat          -- the bank whose march has begun: it is tested to its last piece
  run : Option PieceRun
  done : BitVec 8
  doneAt : Option (Nat × Nat)  -- NT clock and bank of the last setting of a DONE bit
  fail : BitVec 8
  deriving DecidableEq, Repr

/-- A slice (SLC[n]). -/
structure SliceSt where
  cons : Nat
  pass : Bool
  retry : Bool
  failed : Bool
  doneAt : Option Nat       -- furlong of the last completion
  doneNt : Nat              -- NT clock of the last completion, of the start before one
  reserved : Bool           -- runs in the reserved slot of the next furlong
  markF : Nat               -- furlong in which that was decided
  late : Bool               -- not completed for 10 s, and recorded
  res : TestResult          -- its result, cleared to 0 at its start (R383)
  deriving DecidableEq, Repr

/-- Words of the banks 5 to 7 with an error, by bank and word (R22, R368). -/
structure SharedEcc where
  hard : List (Nat × Nat)   -- uncorrectable
  soft : List (Nat × Nat)   -- single-bit
  deriving DecidableEq, Repr

/-- A running slice. -/
structure SliceRun where
  n : Nat
  reserved : Bool
  at_ : Nat                 -- NT clock of the start
  deriving DecidableEq, Repr

/-- The BST block (Table 12.12) and the slice scheduler. -/
structure Bst where
  cur : Nat
  curResv : Bool
  overdue : Bool
  fail : Bool
  rounds : Nat
  last : Nat
  outcome : Nat
  rsig : Word
  rcount : Nat
  rcomplete : Nat
  abandon : Nat
  resrun : Nat
  slices : List SliceSt     -- 69
  next : Nat                -- next slice in cyclic order
  running : List SliceRun
  deriving DecidableEq, Repr

/-- The writable perturbation fields (Table 12.14). -/
structure PtbVals where
  en : Bool
  strd : Word
  slotd : Word
  qbp : Word
  chdd : Word
  deriving DecidableEq, Repr

/-- The PTB block. -/
structure Ptb where
  own : Tri PtbVals         -- as each vertex has written
  vals : PtbVals            -- agreed by two vertices
  force : PtbVals           -- in force in this furlong
  inforce : Bool
  cnt : Nat
  live : Bool               -- MAINTENANCE with SW4 on at the last furlong boundary (R388)
  deriving DecidableEq, Repr

end Sys2Proof.Machine
end

