-- ==== Sys2Proof/Machine/ServiceState.lean ====
section
/-! DEFINITION. The state of the maintenance processor K3M: recorder, update path, sessions, mailbox, status
mirror, host window, and of the reset controller and the supply (R392 to R448, R470 to R476). -/

namespace Sys2Proof.Machine

/-! ### Recorder -/

/-- A record in the write queue. `fix`: REPEAT and LAST of a fold that closed before its record was committed. -/
structure QRec where
  id : Nat
  fix : Option (Nat × Nat)
  r : Rec
  disagree : Bool
  held : Bool
  optime : Nat
  pcycle : Nat
  wall : Option Nat
  deriving DecidableEq, Repr

/-- A record of the NOR log (Table 13.2). `rept` and `last` are none while the fold is open. -/
structure LogRec where
  q : QRec
  seq : Nat
  rept : Option Nat
  last : Option Nat
  sector : Nat
  sseq : Nat
  commit : Byte             -- COMMIT: 16#A5 committed, 16#FF torn, 16#00 void
  deriving DecidableEq, Repr

/-- An entry of the fold table (R402). -/
structure Fold where
  typ : RecType
  source : Nat
  id : Nat                  -- the record it names
  body : List Byte
  first : Nat               -- OPTIME of the record
  rept : Nat
  last : Nat                -- OPTIME of the last occurrence
  pcycle : Nat
  deriving DecidableEq, Repr

/-- A failure entry of the sentinel (R406). -/
structure SentEntry where
  kind : Nat
  sector : Nat
  seq : Nat
  optime : Nat
  pcycle : Nat
  deriving DecidableEq, Repr

/-- The recorder. -/
structure Recorder where
  formQ : List (Rec × Bool × Option Nat)  -- formed, not yet entered: record, DISAGREE, WALL
  queue : List QRec         -- oldest first
  folds : List Fold         -- least recently used first
  deferred : List Fold      -- closed while nothing may be programmed, to be programmed afterwards
  ids : Nat
  log : List LogRec         -- oldest first
  seq : Nat                 -- next SEQ
  optime : Nat              -- AO count
  frac : Nat                -- NT clocks since the last step of the AO count
  saved : Nat               -- OPTIME saved in FRAM
  pcycle : Nat
  sector : Nat
  pos : Nat                 -- write offset in the sector, 0 before the first is opened
  sseq : Nat
  erasing : Bool            -- the sector two places ahead is being erased
  wrote : Option Nat        -- furlong in whose slack a record was last committed
  retired : List Nat
  sentinel : List SentEntry -- the failure circle, by place: 64 at most
  fallback : List (Nat × List Byte)  -- the fallback circle, by place: SEQ and 64 bytes
  sentAt : Nat              -- place of the next failure entry once the circle is full
  fallAt : Nat              -- the same of the fallback circle
  fallSeq : Nat
  logfail : Bool
  frozen : Option Sess
  frozenNt : Nat
  heldCount : Nat
  overflow : Nat            -- dropped on a full queue, not yet recorded
  ovf : Nat                 -- RECN.HOLD.OVF
  lost : Nat                -- write-queue count kept in FRAM (R410)
  wasFrozen : Bool          -- a FREEZE was in force when the count was kept
  intake : Option Nat       -- furlong of the last status mirror taken up; before any, the one before the first delivered
  saveNt : Nat
  norHold : Bool            -- both supply inputs are lost: no NOR write is started (R447)
  deriving DecidableEq, Repr

/-! ### Update -/

/-- STAGING states (R423). -/
inductive SState where
  | empty
  | loading
  | loaded
  | checked
  | rejected
  | activated
  deriving DecidableEq, Repr

/-- Journal states (Table 14.4). -/
inductive JState where
  | idle
  | armed
  | copying
  | copied
  | probation
  deriving DecidableEq, Repr

/-- A journal record (Table 14.4). -/
structure Journal where
  jseq : Word
  state : JState
  act : Nat                 -- 0 or 1
  ret : Option Nat
  block : Nat
  fault : Bool
  clean : Nat               -- as saved
  dig16 : BitVec 128
  group : Word
  oldSchema : Nat
  deriving DecidableEq, Repr

/-- A journal slot: a record, torn or never written when none. -/
structure JSlots where
  a : Option Journal
  b : Option Journal
  deriving DecidableEq, Repr

/-- A service session (R435). -/
structure Session where
  role : Option Role
  lastNt : Nat
  deriving DecidableEq, Repr

/-- A stored password hash (R437). -/
structure PwHash where
  salt : BitVec 128
  tag : BitVec 256
  deriving DecidableEq, Repr

/-- Failed logins of a role. -/
structure Lock where
  fails : Nat
  until_ : Option Nat       -- NT clock at which the lockout ends
  deriving DecidableEq, Repr

/-- The OTP of the K3M (R418). -/
structure Otp where
  vendor : Option (BitVec 384 × BitVec 384)
  operator : Option (BitVec 384 × BitVec 384)
  svn : Nat
  variant : Nat
  serial : Long
  deriving DecidableEq, Repr

/-- The settings (R432). -/
structure Settings where
  schema : Nat
  vals : List (Nat × Word)
  deriving DecidableEq, Repr

/-- The update path and the sessions. -/
structure Update where
  bank0 : Option LoadSet
  bank1 : Option LoadSet
  staging : Option LoadSet
  sstate : SState
  dlMan : Option Manifest
  dlLen : Nat
  dlPos : Nat
  dlSess : Option Sess
  slots : JSlots
  reverted : Bool
  setreset : Bool
  actlost : Bool
  vreason : Nat
  seen : Option (Nat × BitVec 128 × Word)  -- TARGET, DIG16 and GROUP seen staged in the status mirror (R426)
  aoFlag : Bool             -- activation flag in the AO domain
  svn : Nat                 -- SVN of ACTIVE
  settings : Settings
  retained : Option Settings
  s0 : Option Session
  s1 : Option Session
  pws : List (Role × PwHash)
  locks : List Lock         -- roles 1 to 4
  otp : Otp
  hssidx : Nat
  lastAttest : Option Nat
  haltNt : Option Nat       -- entry to HALT in probation
  clean : Nat               -- clean probation seconds (R430)
  secNt : Nat               -- NT clocks of the running second of CLEAN
  commanded : Option Nat    -- furlong in which CONFIRM was accepted: PROBATION_END cause 1 once its status mirror is taken up
  dlBytes : List Byte       -- what STAGING holds of the set under download, from offset 4 096
  deriving DecidableEq, Repr

/-! ### Mailbox, mirror, host window -/

/-- A mailbox item (Table 16.4). -/
structure Item where
  mseq : Word
  kind : Nat
  len : Nat
  cmd : Word
  origin : Word
  body : List Byte          -- 2032
  deriving DecidableEq, Repr

/-- The MBX view of the vertices: the item and the K3M status words (R470, R472). -/
structure Mbx where
  item : Item
  ks : List Word            -- 16
  deriving DecidableEq, Repr

/-- The MBOX page and MBCTL. -/
structure Mbox where
  page : Item
  post : Bool
  ks : List Word
  posted : Option Nat       -- furlong of the last post (R471)
  placed : Bool             -- the page holds an item that is not posted yet
  deriving DecidableEq, Repr

/-- The host window (Table 16.6). -/
structure HostWin where
  mem : List Host.Cell      -- bytes, offsets 0 to 16#FFFF
  pres : Bool
  en : Bool
  reqs : Nat
  k3mBusy : Nat
  hostBusy : Nat
  busy : Bool               -- the last access ended with HBUSY# low
  data : Option (BitVec 16) -- data of the last read, none when it received BUSY
  request : Option (List Byte)  -- request taken
  owed : Option Nat         -- 64-bit word that the K3M port leaves to the J7 port for its next access (R373)
  deriving DecidableEq, Repr

/-- The K3M itself. -/
structure K3m where
  failed : Bool             -- K3M failed (Table 12.4, Table 12.6), or without power
  waiting : Option Nat      -- furlong of a delivery that has not been taken up
  boundary : Nat            -- network time of the boundary that opened the furlong of the delivery
  serving : Tri Bool        -- in service in that furlong
  edges : List EdgeEntry    -- entries that entered the edge FIFO in that furlong
  storedTime : Nat          -- network time in FRAM (R289)
  storedAt : Option Nat     -- NT clock of the last store
  mark : Option (Nat × Nat) -- power-down mark: OPTIME and queue count (R447)
  deriving DecidableEq, Repr

/-! ### Supply and reset -/

/-- A main supply input (R444). -/
structure PwrIn where
  present : Bool
  disconnected : Bool
  since : Nat               -- NT clock from which it has been present without a break
  deriving DecidableEq, Repr

/-- The supply and the reset controller. -/
structure Supply where
  a : PwrIn
  b : PwrIn
  bothLost : Bool
  held : Bool               -- the power-down reset is held
  deriving DecidableEq, Repr

/-! ### What the module sends -/

/-- A response of the K3M to a request (R435). -/
structure Response where
  chan : Chan
  code : Nat
  tag : BitVec 16
  result : Nat
  body : List Byte
  deriving DecidableEq, Repr

/-- What leaves the module. -/
inductive Out where
  | frame (net : Net) (f : Frame)
  | fwd (port : Port) (f : AnyFrame)
  | cutFrame (port : Port) (f : AnyFrame)   -- a forwarded frame ended with a false FCS (R243)
  | babbleNote (net : Net)                  -- the network that a STATUS frame on the other announces as cut by BABBLE (R270)
  | ptp (net : Net) (m : PtpMsg)
  | chord (link : Link) (f : ChordFrame)
  | response (r : Response)
  | busError (addr : Nat)                   -- a K3M access that ends with a bus error (R470, R473)
  | noSession (result : Nat)                -- what a third session is refused with (R435)
  deriving DecidableEq, Repr

end Sys2Proof.Machine
end

