-- ==== Sys2Proof/Machine/State.lean ====
section
/-! DEFINITION. The state of the module, its faults and refusals, and the state right after reset. -/

namespace Sys2Proof.Machine

/-- No command faults: every effect that the spec gives ends in a next state. The type is closed and
empty; a K3M access to an unlisted address ends with a bus error and no effect (R473), which is a next
state. -/
inductive Fault where
  deriving DecidableEq, Repr

/-- Refusals. -/
inductive Refusal where
  /-- The command has no meaning in this model yet. Safe: the model stops. -/
  | notModelled (mnemonic : String)
  deriving DecidableEq, Repr

/-- A trap of the present furlong, for the comparison of R107. -/
structure TrapSeen where
  v : Vtx
  cause : TrapCause
  task : Nat
  pc : Word
  deriving DecidableEq, Repr

/-- The seal switch readings (R434). Lists are over SW1 to SW4. -/
structure Seals where
  reads : Tri (BitVec 4)
  run : List Nat            -- consecutive readings whose majority differs from the voted state
  odd : List (Option Vtx)   -- the vertex that differed at the last reading
  oddRun : List Nat
  dis : Bool                -- UPD.STAT.SEALDIS
  done : List Bool          -- SEAL_DISAGREE of this disagreement is recorded
  deriving DecidableEq, Repr

/-- What the register blocks show of the module in common; the vertices latch a copy at every furlong boundary
(R215) and deliver it to the status mirror (R474). -/
structure Blocks where
  cyc : Cyc
  cen : Cen
  ttb : Ttb
  ntm : Ntm
  sio : Sio
  chd : Chd
  mem : MemBlk
  bst : Bst
  ptb : Ptb
  seals : Seals
  mbx : Mbx
  k3mUp : Bool
  k3mLoss : Word
  deriving DecidableEq, Repr

/-- What a vertex's registers show of the vertex alone: its own writes, its repairs and its vertex-local fields. -/
structure LocalRegs where
  loc : Local
  lat : Lattice
  own : OwnWrites
  freeRows : Nat
  repairs : List Repair
  ptb : PtbVals
  rod : Nat
  phase : Nat
  linkf : Bool
  deriving DecidableEq, Repr

/-- What a vertex has delivered to the status mirror (R393, R474). -/
structure Mirror where
  blk : Blocks
  regs : LocalRegs
  recs : List Rec
  recDrop : Nat
  events : List Event
  evDrop : List Nat
  deriving DecidableEq, Repr

/-- The three staging areas: patch list, I/O parameter set, activation request, as bytes (R74). -/
structure Staged where
  patch : List Byte
  io : List Byte
  act : List Byte
  deriving DecidableEq, Repr

/-- The position vote (R47, R48). -/
structure PosVote where
  reads : Tri (Option (BitVec 13))  -- valid readings
  deriving DecidableEq, Repr

/-- A rejoin under way (Table 7.11). -/
structure Rejoin where
  source : Option Vtx
  copied : Nat              -- bytes of the bulk copy done
  stepDue : Nat             -- the step that begins at the next boundary, 0 none
  done : Bool               -- the share of this furlong has been copied
  word : Word               -- CMD word of the accepted REJOIN
  deriving DecidableEq, Repr

/-- Start-up progress (Table 2.7). -/
structure Start where
  step : Nat                -- 0 held in reset, 1 to 8; 9 done
  acquired : Bool
  waitFrom : Nat            -- NT clock at which step 6 began to wait
  waits : Nat               -- TIME_WAIT records
  position : Bool           -- step 5 agreed an owned position
  polled : Option Nat       -- NT clock of the last mailbox copy made without boundaries (R80)
  deriving DecidableEq, Repr

/-- The whole state of the module. -/
structure State where
  pending : List Instr
  free : Nat
  vtx : Tri Vertex
  links : Tri (Tri (List Entry))  -- centroid links: sender, then slice; oldest first
  blk : Blocks
  view : Tri Blocks
  mirror : Tri Mirror
  loaded : Option Content
  nt : Nat
  clock : Clock
  boundaries : Bool
  p2 : Bool               -- phase 2 of this furlong has begun
  p2End : Bool            -- phase 2 of this furlong has ended
  traps : List TrapSeen
  overran : Tri Bool
  wdEffect : Bool         -- the furlong at whose commit a pending withdrawal is carried (R229)
  keyNt : KeyRx
  keySi : KeyRx
  nic : Nic
  ptp : Ptp
  guard : Two Guardian
  edge : EdgeFifo
  pair : PairSt2
  repairs : Tri (List Repair)
  repairsSh : List Repair
  fuses : Tri (List Repair)
  fusesSh : List Repair
  fuse : Tri FuseCtl
  engines : Tri Engine
  engN : Engine
  engM : Engine
  sharedReq : Tri (BitVec 8)
  shEcc : SharedEcc
  recorder : Recorder
  upd : Update
  mbox : Mbox
  hwin : HostWin
  k3m : K3m
  supply : Supply
  staged : Staged
  start : Start
  stageCopy : List (Nat × Tri (List Byte))  -- staging copies to be made in phase 0: area, and the set as each vertex reads it (R163)
  pos : PosVote
  rejoin : Rejoin
  change : Option (Mode × MCause)  -- mode change due at the next furlong boundary (R67)
  faultChange : Option (Mode × MCause)
  changeCmd : Word        -- CMD word of the commanded change
  wWord : Word            -- CMD word of the pending withdrawal
  wAt : Nat               -- furlong in which it was accepted
  taken : Bool            -- a command has been taken in this furlong (R83)
  fwHash : Nat            -- MSEQ of the mailbox item last seen in a mailbox copy (R80)
  clean : Nat             -- clean furlongs in ISOLATED
  cleanDue : Bool         -- 16 clean furlongs are complete: RESYNC at the furlong boundary (R68)
  startDue : Option Bool  -- the rule of R73 as applied for the coming boundary: start from the initial state, or none yet
  resyncF : Nat
  inReset : Bool          -- the module waits for POWER_ON
  votes : List (Nat × Word × List Vtx)  -- register writes of this furlong that act when two vertices agree
  out : List Out
  deriving DecidableEq, Repr

/-! ### The state right after reset

The module is held in reset and waits for POWER_ON. Every register field has the reset value of its table (R17);
what no table gives is 0, empty, false or none (notes/assumptions/14.md). -/

/-- Reset of the profile-independent I/O parameters: no parameter set is in force. -/
def noParams : IoParams :=
  { seq := 0, pairs := List.replicate 16 ⟨0, 0, 0, 0, 0⟩, imin := List.replicate 16 0, qasafe := List.replicate 8 0 }

/-- A program register file of zeros. -/
def Core.reset : Core :=
  { w := Vector.replicate 16 0, ib := 0, xb := 0, kb := 0, fl := ⟨false, false, false, false, false⟩, task := 0,
    depth := 0, loops := [], eloops := 0, pc := 0, count := 0, retired := 0, stream := [] }

/-- Empty vertex memories. -/
def VMem.reset : VMem :=
  { code := [], inst := [], term := [], imgIn := [], out0 := [], out1 := [], work1 := false, ecc := [], ecc1 := [] }

/-- A lattice without elements. -/
def Lattice.reset : Lattice :=
  { elems := [], routes := [], nominal := 0, passDone := false, held := [], plast := 0, pmax := 0, resvOk := 0,
    resvSame := 0, relOk := 0, relAppr := 0, fResv := 0, fRel := 0, overrun := 0, blank := false }

/-- A feed at the start of a furlong. -/
def Feed.reset : Feed := { queue := [], next := 0, stage := 0, strides := 0, vrd := none }

/-- A slice at the start of a furlong, with exclusion view `excl`. -/
def Slice.fresh (excl : Tri Bool) : Slice :=
  { excl := excl, feed := Tri.all .reset, imgcrc := 0xFFFF, imgPrev := none, iendDone := false, vrdSent := false,
    checkFail := false, noMaj := false, verdict := none, keySent := false, skewNow := 0, ref := [] }

/-- A debug channel (Table 7.10). -/
def Debug.reset : Debug :=
  { halted := true, why := 0, trapc := 0, single := false, fresh := false, started := false, dfur := 0,
    ibp := List.replicate 8 0, dbp := List.replicate 4 0, dma := 0, lastSig := 0 }

/-- Vertex-local fields. -/
def Local.reset : Local :=
  { tuseMax := List.replicate 8 0, tuseOvr := List.replicate 8 0, skewLast := 0, skewMax := 0, scfail := 0,
    eccOwn := 0, p0busy := 0, p1busy := 0, qdrop := 0, edrop := 0 }

/-- Launch times and LOUT as written. -/
def OwnWrites.reset : OwnWrites :=
  { ltctl := 0, ltlo := List.replicate 12 0, lthi := List.replicate 12 0, lout := 0, shadow := 0 }

/-- A vertex. -/
def Vertex.reset : Vertex :=
  { core := .reset, last := none, cur := none, todo := [], released := [], stopped := false, closed := false,
    strideNo := 0, strides := 0, rescnt := 0, imgWords := 0, mem := .reset, lat := .reset,
    slice := .fresh (Tri.all false), dbg := .reset, events := [], evDrop := List.replicate 8 0, recs := [],
    recDrop := 0, own := .reset, tune := ⟨[], 0⟩, loc := .reset, key := none, marking := false, dirty := [], patch := [] }

/-- The CYC block. -/
def Cyc.reset : Cyc :=
  { mode := .start, cause := .powerOn, senior := false, partner := false, fnum := 0, sw1 := false, sw2 := false,
    sw3 := false, sw4 := false, resCode := 0, resTag := 0, stg0 := ⟨0, 0⟩, stg1 := ⟨0, 0⟩, stg2 := ⟨0, 0⟩,
    tasks := List.replicate 8 ⟨false, 0, 0, 0, 0, 0, 0, 0, 0, 0, 0⟩, profile := none, solo := false }

/-- The CEN block: every vertex is in service, and the application does not run. -/
def Cen.reset : Cen :=
  { excl := Tri.all false, withdrawn := Tri.all false, wdOld := Tri.all false, debugged := Tri.all false, wpend := none,
    x := Tri.all ⟨0, 0, 0, 0⟩, strides := 0, rescnt := 0, exclN := 0, rejVtx := none, rejStep := 0, rejFurl := 0,
    rejFails := Tri.all 0, rejLast := none, rejReason := 0, imgWords := 0, imgLimit := 0 }

/-- The TTB block. -/
def Ttb.reset : Ttb :=
  { matrix := none, mid := 0, pos := none, state := .off, count := 0, up := [false, false, false, false],
    babble := ⟨false, false⟩, syncLost := ⟨false, false⟩, fDisagree := none, fForeign := none, fTimeconf := none,
    fCheckfail := none, fOutmm := none, fFwddrop := none, pairs := 0, sgl := ⟨0, 0⟩, dis := 0, late := 0,
    err := ⟨⟨0, 0, 0, 0⟩, ⟨0, 0, 0, 0⟩⟩, missed := 0, suppr := 0, silent := 0, qfill := List.replicate 64 0,
    qdrop := List.replicate 64 0 }

/-- The NTM block. -/
def Ntm.reset : Ntm :=
  { state := .wait, gmcap := false, net := none, fTimejump := none, fNetdiff := none, fPdmism := none,
    fBettergm := none, fLate := none, fEdgeovf := none, gmid := 0, gmClass := 0, gmPrio1 := 0, gmPrio2 := 0,
    gmSteps := 0, offs := 0, mpd := 0, rate := 0, jumpth := 0, jumpofs := 0, ignProfile := 0, ignBm := 0,
    ltLate := 0, ltFull := 0, edgBind := 0xFFF, emax := 0, edgFill := 0, edgDrop := 0 }

/-- An input. -/
def InputSt.reset : InputSt :=
  { cls := 0, leftAt := none, bad := 0, brk := ⟨false, 0, 0⟩, inter := ⟨false, 0, 0⟩, cross := ⟨false, 0, 0⟩,
    xfail := [false, false, false, false] }

/-- A QS output without a fault. -/
def QsSt.reset : QsSt :=
  { committed := false, on := false, faults := ⟨false, false, false, false, false, false⟩, fresh := .none,
    resetAt := none }

/-- The safe I/O chip. -/
def Sio.reset : Sio :=
  { params := noParams, inputs := List.replicate 32 .reset,
    pairs := List.replicate 16 ⟨0, false, .released, false⟩,
    tps := List.replicate 4 ⟨false, false, none, none, false⟩, qs := List.replicate 16 .reset,
    qa := List.replicate 8 ⟨false, false, false, false, .none⟩, tests := none, repeats := [], warn := false,
    lost := false, wdt := false, fail := false, nocommit := 0, volt := 0, voltMin := none, lastWarn := none,
    warnFurl := none, lastLow := none, commits := false, lastCommit := 0, entered := false,
    sticky := [false, false, false, false], shown := none, mode := .start, lastTick := none, edges := [], eseq := 0,
    readback := 0, abandoned := 0, wdtrip := 0, lastSlot := none,
    linkf := Tri.all false, snap := List.replicate 32 0, snapOut := List.replicate 16 false }

/-- The CHD block. -/
def Chd.reset : Chd :=
  { up := (false, false), heard := false, evid := false, host := .idle, split := false, conflict := false,
    buildmm := false, pmode := 0, pstr := 0, psenior := false, phome := false, bytes := 0, nchunk := 0, mseq := 0,
    applied := false, sent := 0, abandon := 0, cut := 0, err := (0, 0), down := (0, 0), tkoCause := 0,
    tkoStale := false, tkoLag := 0, tkoFurl := 0, home := ⟨false, false, 0, 0⟩, secs := 0, prseq := 0 }

/-- The MEM block. -/
def MemBlk.reset : MemBlk :=
  { done := 0, fail := 0, req := 0, bank := 0, active := false, piece := 0, shared := 0,
    fuse := ⟨0, false, false, false⟩, fuseLeft := 0 }

/-- A march engine. -/
def Engine.reset : Engine := { req := 0, newReq := 0, next := 0, cur := none, run := none, done := 0, doneAt := none, fail := 0 }

/-- A result as a slice or a piece starts with it (R383). -/
def clearedResult : TestResult := ⟨0, 0, 0⟩

/-- The BST block. -/
def Bst.reset : Bst :=
  { cur := 127, curResv := false, overdue := false, fail := false, rounds := 0, last := 127, outcome := 0, rsig := 0,
    rcount := 0, rcomplete := 0, abandon := 0, resrun := 0,
    slices := List.replicate 69 ⟨0, false, false, false, none, 0, false, 0, false, clearedResult⟩, next := 0, running := [] }

/-- Perturbation fields (Table 12.14). -/
def PtbVals.reset : PtbVals := ⟨false, 3, 0, 0, 0⟩

/-- The PTB block. -/
def Ptb.reset : Ptb :=
  { own := Tri.all .reset, vals := .reset, force := .reset, inforce := false, cnt := 0, live := false }

/-- The seals. -/
def Seals.reset : Seals :=
  { reads := Tri.all 0, run := [0, 0, 0, 0], odd := [none, none, none, none], oddRun := [0, 0, 0, 0], dis := false,
    done := [false, false, false, false] }

/-- An empty mailbox item (R470). -/
def Item.empty : Item := { mseq := 0, kind := 0, len := 0, cmd := 0, origin := 0, body := [] }

/-- The mailbox view of the vertices. -/
def Mbx.reset : Mbx := { item := .empty, ks := List.replicate 16 0 }

/-- The register blocks. -/
def Blocks.reset : Blocks :=
  { cyc := .reset, cen := .reset, ttb := .reset, ntm := .reset, sio := .reset, chd := .reset, mem := .reset,
    bst := .reset, ptb := .reset, seals := .reset, mbx := .reset, k3mUp := false, k3mLoss := 0 }

/-- The registers of a vertex after reset. -/
def LocalRegs.reset : LocalRegs :=
  { loc := .reset, lat := .reset, own := .reset, freeRows := 0, repairs := [],
    ptb := .reset, rod := 0, phase := 0, linkf := false }

/-- A status mirror without a delivery. -/
def Mirror.reset : Mirror :=
  { blk := .reset, regs := .reset, recs := [], recDrop := 0, events := [], evDrop := List.replicate 8 0 }

/-- A key receiver. -/
def KeyRx.reset : KeyRx :=
  { mask := Tri.all false, maskAtStart := Tri.all false, held := [], pair := none, word := 0, ignored := 0,
    outOfWindow := 0, second := 0 }

/-- The network chip. -/
def Nic.reset : Nic :=
  { rxBind := [], rxEvents := [], evSeq := [], openCopies := [], decided := [], occ := [], seen := [],
    txEvents := [], txLater := [], txPtp := ⟨[], []⟩, txMgmt := [], rxMgmt := [], srcCount := [], countdown := ⟨none, none⟩,
    fetched := none, pass := [], heldDown := [], fwdOther := ⟨0, 0⟩, pair := none, lastCommit := none, noCommit := 0,
    tasksMask := 0, copied := false, csRod := 0, csSent := 0, csPend := none, integBy := none,
    yieldRank := 0, rodAt := none, rxNow := ⟨false, false⟩, rxLast := ⟨false, false⟩ }

/-- The ordinary clock. -/
def Ptp.reset : Ptp :=
  { selected := none, candidates := [], candidate := false, timedOut := false, enteredAt := 0,
    lastSync := ⟨none, none⟩, offset := ⟨none, none⟩, delay := ⟨none, none⟩, msd := ⟨none, none⟩,
    reqSent := ⟨none, none⟩, reqId := 0, firstDelay := ⟨false, false⟩, stepped := false, overRun := 0, diffRun := 0,
    rates := [], syncPair := ⟨none, none⟩, jumped := false, utcOffset := none, mrate := 0, lastReq := none, lastMSync := none, lastMAnn := none }

/-- A guardian. -/
def Guardian.reset : Guardian := { schedule := none, reference := false, misses := 0, cut := false }

/-- A chord link. -/
def ChordRx.reset : ChordRx := { lastAt := none, lastSeq := none, down := false }

/-- The pair engine. -/
def PairSt2.reset : PairSt2 :=
  { c1 := .reset, c2 := .reset, evidActive := none, evidStanding := none, lastActive := false, pbuild := 0, pmid := 0,
    pmseq := 0, pstrength := 0, standFor := none, target := none, goSent := false, goGot := false, readyGot := false,
    decided := none, noTakeover := false, tookOver := none, yieldAt := none, yielded := false, rx := none, tx := none,
    tries := 0, cleanFail := false, secAt := 0, silent := false,
    heardAt := none, req := none, judged := none, standAt := 0, formed := 0 }

/-- The recorder with an empty log: the next SEQ is 1. -/
def Recorder.reset : Recorder :=
  { formQ := [], queue := [], folds := [], deferred := [], ids := 0, log := [], seq := 1, optime := 0, frac := 0,
    saved := 0, pcycle := 0, sector := 0, pos := 0, sseq := 0, erasing := false, wrote := none, retired := [], sentinel := [],
    fallback := [], sentAt := 0, fallAt := 0, fallSeq := 0, logfail := false, frozen := none, frozenNt := 0, heldCount := 0, overflow := 0,
    ovf := 0, lost := 0, wasFrozen := false, intake := none, saveNt := 0, norHold := false }

/-- The update path with nothing stored but the vendor roots, which are programmed at manufacture (R418). -/
def Update.reset : Update :=
  { bank0 := none, bank1 := none, staging := none, sstate := .empty, dlMan := none, dlLen := 0, dlPos := 0,
    dlSess := none, slots := ⟨none, none⟩, reverted := false, setreset := false, actlost := false, vreason := 0,
    seen := none, aoFlag := false, svn := 0, settings := ⟨0, []⟩, retained := none, s0 := none, s1 := none, pws := [],
    locks := List.replicate 4 ⟨0, none⟩, otp := ⟨some Config.vendorRoots, none, 0, 0, 0⟩, hssidx := 0, lastAttest := none, haltNt := none,
    clean := 0, secNt := 0, commanded := none, dlBytes := [] }

/-- The K3M. -/
def K3m.reset : K3m :=
  { failed := false, waiting := none, boundary := 0, serving := Tri.all false, edges := [], storedTime := 0, storedAt := none,
    mark := none }

/-- The machine right after reset: it waits for POWER_ON. -/
def State.reset : State :=
  { pending := [], free := 0, vtx := Tri.all .reset, links := Tri.all (Tri.all []), blk := .reset,
    view := Tri.all .reset, mirror := Tri.all .reset, loaded := none, nt := 0, clock := ⟨0, 0, 0⟩, boundaries := false,
    p2 := false, p2End := false, traps := [], overran := Tri.all false, wdEffect := false, keyNt := .reset, keySi := .reset,
    nic := .reset, ptp := .reset, guard := ⟨.reset, .reset⟩, edge := ⟨[], false, 0, []⟩, pair := .reset,
    repairs := Tri.all [], repairsSh := [], fuses := Tri.all [], fusesSh := [],
    fuse := Tri.all ⟨0, false, false, false⟩, engines := Tri.all .reset, engN := .reset, engM := .reset,
    sharedReq := Tri.all 0, shEcc := ⟨[], []⟩, recorder := .reset, upd := .reset,
    mbox := ⟨.empty, false, List.replicate 16 0, none, false⟩, hwin := ⟨[], false, false, 0, 0, 0, false, none, none, none⟩,
    k3m := .reset, supply := ⟨⟨true, false, 0⟩, ⟨true, false, 0⟩, false, false⟩, staged := ⟨[], [], []⟩,
    start := ⟨0, false, 0, 0, false, none⟩, pos := ⟨Tri.all none⟩, rejoin := ⟨none, 0, 0, false, 0⟩,
    change := none, faultChange := none, changeCmd := 0, wWord := 0, wAt := 0, stageCopy := [], taken := false,
    fwHash := 0, clean := 0, cleanDue := false, startDue := none,
    resyncF := 0, inReset := true, votes := [], out := [] }

end Sys2Proof.Machine
end

