-- ==== Sys2Proof/Machine/Codes.lean ====
section
/-! DEFINITION. The numbers that the tables give to names, and the constants of the profiles. -/

namespace Sys2Proof.Machine

/-- Mode codes (Table 2.5). -/
def modeCode : Mode → Nat
  | .start => 0
  | .commission => 1
  | .resync => 2
  | .standby => 3
  | .active => 4
  | .isolated => 5
  | .maintenance => 6
  | .halt => 7

/-- Mode change causes (Table 2.13). -/
def mcauseCode : MCause → Nat
  | .powerOn => 0x00
  | .sequence => 0x01
  | .command => 0x02
  | .positionMismatch => 0x03
  | .bistFail => 0x04
  | .loadsetFail => 0x05
  | .strengthLost => 0x06
  | .budgetCommon => 0x07
  | .ntClock => 0x08
  | .takeover => 0x09
  | .handover => 0x0A
  | .yielded => 0x0B
  | .startDisagree => 0x0C
  | .soloStart => 0x0D
  | .positionChanged => 0x0E
  | .restartCmd => 0x0F

/-- Trap codes, which are also their priorities (Table 3.12). -/
def trapCode : TrapCause → Nat
  | .ecc => 0x01
  | .budget => 0x02
  | .deadline => 0x03
  | .opcode => 0x04
  | .access => 0x05
  | .align => 0x06
  | .image => 0x07
  | .frame => 0x08
  | .stack => 0x09
  | .loop => 0x0A
  | .sbool => 0x0B
  | .divzero => 0x0C
  | .slot => 0x0D
  | .lattice => 0x0E
  | .timer => 0x0F
  | .trap => 0x10

/-- Exclusion causes (Table 7.8). -/
def xcauseCode : XCause → Nat
  | .stride => 0x01
  | .image => 0x02
  | .selfcheck => 0x03
  | .verdict => 0x04
  | .skew => 0x05
  | .lateEnd => 0x06
  | .seq => 0x07
  | .clock => 0x08
  | .latticeOverrun => 0x09
  | .withdrawn => 0x0A
  | .trap c => 0x80 + trapCode c
  | .other n => n

/-- TYPE codes of a centroid entry (Table 7.4). -/
def etypeCode : EType → Nat
  | .sig => 1
  | .res => 2
  | .tst0 => 3
  | .tst1 => 4
  | .img => 5
  | .iend => 6
  | .vrd => 7
  | .wd => 8
  | .bad n => n

/-- The TYPE of a code. -/
def etypeOf (n : Nat) : EType :=
  match n with
  | 1 => .sig
  | 2 => .res
  | 3 => .tst0
  | 4 => .tst1
  | 5 => .img
  | 6 => .iend
  | 7 => .vrd
  | 8 => .wd
  | k => .bad k

/-- Record type codes (Table 13.4). -/
def recCode : RecType → Nat
  | .modeChange => 0x0101
  | .command => 0x0102
  | .sealRefused => 0x0103
  | .positionMismatch => 0x0104
  | .timeWait => 0x0105
  | .noPartner => 0x0106
  | .deadline => 0x0107
  | .trapCommon => 0x0108
  | .stageDiscarded => 0x0109
  | .budgetCommon => 0x010A
  | .writeRefused => 0x010B
  | .vertexTrap => 0x0201
  | .vertexExcluded => 0x0202
  | .noMajority => 0x0203
  | .keyMinority => 0x0204
  | .outMismatch => 0x0205
  | .withdrawCancelled => 0x0206
  | .debugEnded => 0x0207
  | .vertexRejoined => 0x0208
  | .rejoinFail => 0x0209
  | .latticeOverrun => 0x020A
  | .appEvent => 0x0301
  | .evtOverflow => 0x0302
  | .patchApplied => 0x0303
  | .patchDiscarded => 0x0304
  | .tuningCleared => 0x0305
  | .netDisagree => 0x0401
  | .babble => 0x0402
  | .busIntegrated => 0x0403
  | .coldstartYield => 0x0404
  | .linkFault => 0x0405
  | .timeJumpRefused => 0x0501
  | .netTimeDiff => 0x0502
  | .pathDelayMismatch => 0x0503
  | .betterMaster => 0x0504
  | .launchLate => 0x0505
  | .launchRange => 0x0506
  | .edgeDisagree => 0x0507
  | .inputEdge => 0x0508
  | .ioFault => 0x0601
  | .ioClear => 0x0602
  | .paramApplied => 0x0603
  | .paramDiscarded => 0x0604
  | .takeover => 0x0701
  | .splitBrain => 0x0702
  | .handoverCancelled => 0x0703
  | .homeReturn => 0x0704
  | .seniorConflict => 0x0705
  | .partnerBuild => 0x0706
  | .chordDown => 0x0707
  | .mirrorMismatch => 0x0708
  | .mirrorCut => 0x0709
  | .memTestFail => 0x0801
  | .memRepair => 0x0802
  | .fuseRepair => 0x0803
  | .selftestOverdue => 0x0804
  | .selftestFail => 0x0805
  | .ptbSet => 0x0806
  | .ptbCleared => 0x0807
  | .recOverflow => 0x0901
  | .holdOverflow => 0x0902
  | .holdLost => 0x0903
  | .logJump => 0x0904
  | .freezeTimeout => 0x0905
  | .aoRestored => 0x0906
  | .sectorRetired => 0x0907
  | .update c => c

/-- CYC.PRFL.PROFILE (Table 2.20). -/
def profileCode : Profile → Nat
  | .perch => 0
  | .rood => 1
  | .acre => 2

/-- Furlong length in ns (Table 2.1). -/
def furlongNs : Profile → Nat
  | .perch => 2500000
  | .rood => 5000000
  | .acre => 10000000

/-- Rod length in ns (Table 2.1). -/
def rodNs (p : Profile) : Nat := furlongNs p / 40

/-- Furlong length in µs, L_us of R145. -/
def furlongUs (p : Profile) : Nat := furlongNs p / 1000

/-- Nominal vertex clocks per furlong (R39). -/
def nominalClocks : Profile → Nat
  | .perch => 1250000
  | .rood => 2500000
  | .acre => 5000000

/-- E_max in ns (Table 6.7). -/
def emaxNs : Profile → Nat
  | .perch => 375000
  | .rood => 750000
  | .acre => 1500000

/-- E_max in vertex clocks (LAT.EMAX). -/
def emaxClocks (p : Profile) : Nat := emaxNs p / 2

/-- W_end, as ns from the start of phase 2 (Table 7.5). -/
def wEndNs : Profile → Nat
  | .perch => 62500
  | .rood => 125000
  | .acre => 250000

/-- The VRD limit, as ns from the start of phase 2 (Table 7.5). -/
def vrdNs : Profile → Nat
  | .perch => 100000
  | .rood => 200000
  | .acre => 400000

/-- Limit of R219 in 64-bit words (CEN.IMGV.LIMIT). -/
def imgLimit : Profile → Nat
  | .perch => 5120
  | .rood => 12288
  | .acre => 24576

/-- Base of the mirror receive area (R350). -/
def mirrorBase : Profile → Nat
  | .perch => 0x015F0000
  | .rood => 0x015E0000
  | .acre => 0x015C0000

/-- Element kind codes (Table 6.2). -/
def kindCode : ElemKind → Nat
  | .point => 1
  | .signal => 2
  | .sect => 3
  | .crossing => 4
  | .boundary => 5

/-- The element kind of a code, none for a code that Table 6.2 does not list. -/
def kindOfCode : Nat → Option ElemKind
  | 1 => some .point
  | 2 => some .signal
  | 3 => some .sect
  | 4 => some .crossing
  | 5 => some .boundary
  | _ => none

/-- The term kind of a code, none for a code that Table 6.5 does not list. -/
def termKindOf : Nat → Option TermKind
  | 1 => some .path
  | 2 => some .flank
  | 3 => some .overlap
  | 4 => some .approach
  | 5 => some .clear
  | 6 => some .consent
  | _ => none

/-- RSTATE codes (Table 6.6). -/
def rstateCode : RState → Nat
  | .free => 0
  | .reserved => 1
  | .partly => 2

end Sys2Proof.Machine
end

