-- ==== Sys2Proof/Machine/Bits.lean ====
section
/-! DEFINITION. Bit fields, byte orders and the checksums of the spec. -/

namespace Sys2Proof.Machine

/-- The `n` low bytes of `x`, least significant first (R10). -/
def leBytes : Nat → Nat → List Byte
  | 0, _ => []
  | n + 1, x => BitVec.ofNat 8 x :: leBytes n (x / 256)

/-- The `n` low bytes of `x`, most significant first. -/
def beBytes (n x : Nat) : List Byte := (leBytes n x).reverse

/-- The number that bytes spell, least significant first. -/
def ofLe : List Byte → Nat
  | [] => 0
  | b :: bs => b.toNat + 256 * ofLe bs

/-- Bits [lo+len−1:lo] of a number. -/
def field (x lo len : Nat) : Nat := x / 2 ^ lo % 2 ^ len

/-- A Bool as 0 or 1. -/
def bit (b : Bool) : Nat := if b then 1 else 0

/-- Bit `i` of a number. -/
def testB (x i : Nat) : Bool := x / 2 ^ i % 2 == 1

/-- A saturating count of `w` bits. -/
def satInc (w n : Nat) : Nat := min (n + 1) (2 ^ w - 1)

/-- Saturating addition at `w` bits. -/
def satAdd (w n k : Nat) : Nat := min (n + k) (2 ^ w - 1)

/-- A 32-bit word of a number. -/
def w32 (n : Nat) : Word := BitVec.ofNat 32 n

/-- A 32-bit word of an integer, in two's complement. -/
def w32i (n : Int) : Word := BitVec.ofInt 32 n

/-- A signed integer limited to 32 bits. -/
def sat32i (n : Int) : Int := max (-(2 ^ 31)) (min n (2 ^ 31 - 1))

/-- Ceiling of a quotient. -/
def ceilDiv (a b : Nat) : Nat := (a + b - 1) / b

/-- Replace element `i` of a list. -/
def setNth {α : Type} (l : List α) (i : Nat) (x : α) : List α := l.set i x

/-- Apply a function to element `i`. -/
def modNth {α : Type} (l : List α) (i : Nat) (f : α → α) : List α :=
  match l[i]? with
  | some x => l.set i (f x)
  | none => l

/-- One step of the CRC of R213. -/
def crc64Bit (r : Long) (b : Bool) : Long :=
  if r.msb != b then (r <<< 1) ^^^ 0x42F0E1EBA9EA3693#64 else r <<< 1

/-- One byte into the CRC of R213, most significant bit first. -/
def crc64Byte (r : Long) (x : Byte) : Long :=
  [7, 6, 5, 4, 3, 2, 1, 0].foldl (fun r i => crc64Bit r (x.getLsbD i)) r

/-- Bytes into the CRC of R213. -/
def crc64 (r : Long) (l : List Byte) : Long := l.foldl crc64Byte r

/-- One byte into the CRC-16 of Table 1.4: polynomial 16#1021, unreflected. -/
def crc16Byte (r : BitVec 16) (x : Byte) : BitVec 16 :=
  [7, 6, 5, 4, 3, 2, 1, 0].foldl
    (fun r i => if r.msb != x.getLsbD i then (r <<< 1) ^^^ 0x1021#16 else r <<< 1) r

/-- Bytes into the CRC-16. -/
def crc16 (r : BitVec 16) (l : List Byte) : BitVec 16 := l.foldl crc16Byte r

/-- One byte into a reflected CRC-32 with the reflected polynomial `p`. -/
def crc32Byte (p : Word) (r : Word) (x : Byte) : Word :=
  [0, 1, 2, 3, 4, 5, 6, 7].foldl
    (fun r i => if r.getLsbD 0 != x.getLsbD i then (r >>> 1) ^^^ p else r >>> 1) r

/-- A reflected CRC-32 with initial value and final XOR 16#FFFF_FFFF. -/
def crc32 (p : Word) (l : List Byte) : Word := (l.foldl (crc32Byte p) 0xFFFFFFFF#32) ^^^ 0xFFFFFFFF#32

/-- CRC-32C (R162): 16#1EDC_6F41 reflected. -/
def crc32c (l : List Byte) : Word := crc32 0x82F63B78#32 l

/-- CRC-32K (R247): 16#741B_8CD7 reflected. -/
def crc32k (l : List Byte) : Word := crc32 0xEB31D82E#32 l

end Sys2Proof.Machine
end

