-- ==== Sys2Proof/Machine/Memory.lean ====
section
/-! DEFINITION. Memory as a canonical list of cells: addresses strictly rising, no cell of 0, and an unlisted
address reads as 0 (notes/assumptions/3.md). The memories of a vertex are lists of this form. -/

namespace Sys2Proof.Machine

/-- What an unlisted address reads as. -/
def Memory.default : Byte := 0

/-- Read one byte. -/
def Memory.read : List Host.Cell → Nat → Byte
  | [], _ => Memory.default
  | (k, b) :: m, a => if k = a then b else Memory.read m a

/-- Write one byte: a cell of 0 is removed. -/
def Memory.write : List Host.Cell → Nat → Byte → List Host.Cell
  | [], a, x => if x = Memory.default then [] else [(a, x)]
  | (k, b) :: m, a, x =>
    if a < k then (if x = Memory.default then (k, b) :: m else (a, x) :: (k, b) :: m)
    else if a = k then (if x = Memory.default then m else (a, x) :: m)
    else (k, b) :: Memory.write m a x

/-- Every key of the list is above `a`. -/
def Memory.above (a : Nat) (m : List Host.Cell) : Bool := m.all (fun c => decide (a < c.1))

/-- The canonical form. -/
def Memory.wf : List Host.Cell → Bool
  | [] => true
  | (a, x) :: m => x != Memory.default && Memory.above a m && Memory.wf m

/-- The canonical form of any list of cells; a later cell of one address wins. -/
def Memory.ofCells (l : List Host.Cell) : List Host.Cell :=
  l.foldl (fun m c => Memory.write m c.1 c.2) []

/-- `n` bytes from `a`. -/
def Memory.bytes (m : List Host.Cell) (a : Nat) : Nat → List Byte
  | 0 => []
  | n + 1 => Memory.read m a :: Memory.bytes m (a + 1) n

/-- Write bytes from `a`. -/
def Memory.put (m : List Host.Cell) (a : Nat) : List Byte → List Host.Cell
  | [] => m
  | b :: bs => Memory.put (Memory.write m a b) (a + 1) bs

/-- The number of `n` bytes at `a`, least significant first (R10). -/
def Memory.load (m : List Host.Cell) (a n : Nat) : Nat := ofLe (Memory.bytes m a n)

/-- Store the `n` low bytes of `x` at `a`. -/
def Memory.store (m : List Host.Cell) (a n x : Nat) : List Host.Cell := Memory.put m a (leBytes n x)

/-- The cells with addresses in a range. -/
def Memory.range (m : List Host.Cell) (a n : Nat) : List Host.Cell :=
  m.filter (fun c => a ≤ c.1 && c.1 < a + n)

/-- Replace a range by that of another memory. -/
def Memory.copyRange (src dst : List Host.Cell) (a n : Nat) : List Host.Cell :=
  dst.filter (fun c => c.1 < a) ++ Memory.range src a n ++ dst.filter (fun c => a + n ≤ c.1)

/-! ### The memories of a vertex -/

/-- A memory of a vertex that is held as cells; the element SRAM is held as the tables of its lattice. -/
inductive Region where
  | code
  | inst
  | term
  | imgIn
  | imgOut                -- the working bank
  deriving DecidableEq, Repr

/-- The cells of a region. -/
def VMem.cells (m : VMem) : Region → List Host.Cell
  | .code => m.code
  | .inst => m.inst
  | .term => m.term
  | .imgIn => m.imgIn
  | .imgOut => if m.work1 then m.out1 else m.out0

/-- Replace the cells of a region. -/
def VMem.setCells (m : VMem) (r : Region) (c : List Host.Cell) : VMem :=
  match r with
  | .code => { m with code := c }
  | .inst => { m with inst := c }
  | .term => { m with term := c }
  | .imgIn => { m with imgIn := c }
  | .imgOut => if m.work1 then { m with out1 := c } else { m with out0 := c }

/-- The transmit bank (R34). -/
def VMem.transmit (m : VMem) : List Host.Cell := if m.work1 then m.out0 else m.out1

/-- Replace the transmit bank. -/
def VMem.setTransmit (m : VMem) (c : List Host.Cell) : VMem :=
  if m.work1 then { m with out0 := c } else { m with out1 := c }

/-- The name under which the 8-byte word at `a` stands in the error lists: the two image banks share their
logical addresses, so bank 1 is told apart by an offset. -/
def VMem.eccKey (m : VMem) (r : Region) (a : Nat) : Nat :=
  let k := a / 8 * 8
  match r with
  | .imgOut => if m.work1 then k + 0x10000000 else k
  | _ => k

/-- Load `n` bytes. -/
def VMem.load (m : VMem) (r : Region) (a n : Nat) : Nat := Memory.load (m.cells r) a n

/-- The 8-byte word at `a` has an uncorrectable error. -/
def VMem.bad (m : VMem) (r : Region) (a : Nat) : Bool := m.ecc.contains (m.eccKey r a)

/-- Reading the word at `a` meets a correctable error. -/
def VMem.soft (m : VMem) (r : Region) (a : Nat) : Bool := m.ecc1.contains (m.eccKey r a)

/-- Reading the word at `a` writes back a correctable error (R22). -/
def VMem.correct (m : VMem) (r : Region) (a : Nat) : VMem :=
  { m with ecc1 := m.ecc1.filter (fun k => k != m.eccKey r a) }

/-- The name of the word at `a` of a region other than the output banks. -/
def wordKey (a : Nat) : Nat := a / 8 * 8

/-- The word named lies in the code SRAM or the term SRAM, which only a load writes. -/
def staticKey (k : Nat) : Bool := decide (k < 0x00400000) || (decide (0x03000000 ≤ k) && decide (k < 0x04000000))

/-- The first of the words with an uncorrectable error. -/
def VMem.firstBad (m : VMem) (keys : List Nat) : Option Nat := keys.find? (fun k => m.ecc.contains k)

/-- The words that `p` names are read: their correctable errors are written back and counted (R22). -/
def Vertex.scrubIf (x : Vertex) (p : Nat → Bool) : Vertex :=
  { x with
    mem := { x.mem with ecc1 := x.mem.ecc1.filter (fun k => !p k) },
    loc := { x.loc with eccOwn := satAdd 16 x.loc.eccOwn (x.mem.ecc1.filter p).length } }

/-- The words of a list are read. -/
def Vertex.scrub (x : Vertex) (keys : List Nat) : Vertex := x.scrubIf (fun k => keys.contains k)

/-- Store the `n` low bytes of `x`. A store of a whole 8-byte word replaces its check bits. -/
def VMem.store (m : VMem) (r : Region) (a n x : Nat) : VMem :=
  let m1 := if n = 8 then { m with ecc := m.ecc.filter (fun k => k != m.eccKey r a),
                                   ecc1 := m.ecc1.filter (fun k => k != m.eccKey r a) }
            else m.correct r a
  m1.setCells r (Memory.store (m.cells r) a n x)

/-- The address of the word on which an address of an alias window acts (Table 12.2); any other address is its own. -/
def aliasWord (a : Nat) : Nat :=
  if 0x01800000 ≤ a ∧ a < 0x01C00000 then a - 0x00400000
  else if 0x01C00000 ≤ a ∧ a < 0x02000000 then a - 0x00800000
  else if 0x02100000 ≤ a ∧ a < 0x02200000 then a - 0x00100000
  else if 0x02200000 ≤ a ∧ a < 0x02300000 then a - 0x00200000
  else a

end Sys2Proof.Machine
end

