-- ==== Sys2Proof/Machine/Ops.lean ====
section
/-! DEFINITION. Operations over the whole state that every family uses: time, records, who is in service,
mode changes, exclusion, traps. -/

namespace Sys2Proof.Machine

/-! ### Access to the vertices -/

/-- Vertex `v`. -/
def State.v (s : State) (v : Vtx) : Vertex := s.vtx.get v

/-- Replace vertex `v`. -/
def State.setV (s : State) (v : Vtx) (x : Vertex) : State := { s with vtx := s.vtx.set v x }

/-- Change vertex `v`. -/
def State.modV (s : State) (v : Vtx) (f : Vertex → Vertex) : State := s.setV v (f (s.v v))

/-- Change every vertex. -/
def State.modAll (s : State) (f : Vtx → Vertex → Vertex) : State := { s with vtx := s.vtx.mapv f }

/-- Change the CYC block. -/
def State.modCyc (s : State) (f : Cyc → Cyc) : State := { s with blk := { s.blk with cyc := f s.blk.cyc } }

/-- Change the CEN block. -/
def State.modCen (s : State) (f : Cen → Cen) : State := { s with blk := { s.blk with cen := f s.blk.cen } }

/-- Change the TTB block. -/
def State.modTtb (s : State) (f : Ttb → Ttb) : State := { s with blk := { s.blk with ttb := f s.blk.ttb } }

/-- Change the NTM block. -/
def State.modNtm (s : State) (f : Ntm → Ntm) : State := { s with blk := { s.blk with ntm := f s.blk.ntm } }

/-- Change the network chip. -/
def State.modNic (s : State) (f : Nic → Nic) : State := { s with nic := f s.nic }

/-- The mode. -/
def State.mode (s : State) : Mode := s.blk.cyc.mode

/-- The furlong number. -/
def State.fnum (s : State) : Nat := s.blk.cyc.fnum

/-- The loaded profile; ACRE while none is loaded (R11). -/
def State.profile (s : State) : Profile := s.blk.cyc.profile.getD .acre

/-! ### Time (R49 to R53, R280, R281) -/

/-- Network time in ns, T of R49. -/
def Clock.ns1588 (c : Clock) : Nat := c.sec * 1000000000 + c.ns

/-- The clock with a time of `t` units of 2⁻⁴⁰ ns. -/
def Clock.ofUnits (t : Nat) : Clock :=
  let n := t / 2 ^ 40
  { sec := n / 1000000000 % 2 ^ 48, ns := n % 1000000000, frac := t % 2 ^ 40 }

/-- The time of a clock in units of 2⁻⁴⁰ ns. -/
def Clock.units (c : Clock) : Nat := c.ns1588 * 2 ^ 40 + c.frac

/-- `dt` NT clocks of 8 ns × (1 + RATE × 2⁻⁴⁰) each (R281). -/
def Clock.advance (c : Clock) (rate : Int) (dt : Nat) : Clock :=
  Clock.ofUnits (((c.units : Int) + (dt : Int) * 8 * (2 ^ 40 + rate)).toNat)

/-- The AO count of 0.1 s counts on (R400). -/
def Recorder.elapse (r : Recorder) (dt : Nat) : Recorder :=
  { r with optime := (r.optime + (r.frac + dt) / 12500000) % 2 ^ 40, frac := (r.frac + dt) % 12500000 }

/-- Clean probation time counts on (R430): whole seconds in RESYNC, STANDBY or ACTIVE. -/
def Update.elapse (u : Update) (counts : Bool) (dt : Nat) : Update :=
  if counts then { u with clean := min 86400 (u.clean + (u.secNt + dt) / 125000000), secNt := (u.secNt + dt) % 125000000 }
  else u

/-- The journal record in force is one of probation (R430). -/
def Update.onProbation (u : Update) : Bool :=
  let p := fun (j : Option Journal) => match j with
    | some x => x.state == .probation
    | none => false
  match u.slots.a, u.slots.b with
  | some x, some y => if y.jseq.toNat ≤ x.jseq.toNat then p (some x) else p (some y)
  | a, none => p a
  | none, b => p b

/-- CLEAN counts now. -/
def State.cleanCounts (s : State) : Bool :=
  s.upd.onProbation && (s.blk.cyc.mode == .resync || s.blk.cyc.mode == .standby || s.blk.cyc.mode == .active)

/-- `dt` NT clocks pass: the local clock, the operating time and the clean probation time count on. -/
def State.elapse (s : State) (dt : Nat) : State :=
  { s with
    nt := s.nt + dt, clock := s.clock.advance s.blk.ntm.rate dt, recorder := s.recorder.elapse dt,
    upd := s.upd.elapse s.cleanCounts dt }

/-- Network time in ns. -/
def State.time (s : State) : Nat := s.clock.ns1588

/-- Ns since the last furlong boundary. -/
def State.inFurlong (s : State) : Nat := s.time % furlongNs s.profile

/-- The first NT clock edge that reaches an instant `off` + k × `period` ns of network time, for some k. -/
def State.onGrid (s : State) (period off : Nat) : Bool :=
  let p := period * 2 ^ 40
  decide ((s.clock.units + p - off * 2 ^ 40 % p) % p < (8 * (2 ^ 40 + s.blk.ntm.rate)).toNat)

/-- The rod within the furlong (R49). -/
def State.rod (s : State) : Nat := s.inFurlong / rodNs s.profile

/-- The phase of the furlong (Table 2.2): 1, 2 or 3. -/
def phaseOf (rod : Nat) : Nat := if rod < 26 then 1 else if rod < 28 then 2 else 3

/-- CYC.ROD.PHASE: 0 before time acquisition. -/
def State.phase (s : State) : Nat := if s.boundaries then phaseOf s.rod else 0

/-! ### Who is in service -/

/-- ISOLATED under R478. -/
def State.r478 (s : State) : Bool :=
  s.mode == .isolated && (s.blk.cyc.cause == .positionMismatch || s.blk.cyc.cause == .positionChanged)

/-- The application runs in this mode (Table 2.5). -/
def State.appMode (s : State) : Bool :=
  match s.mode with
  | .resync => true
  | .standby => true
  | .active => true
  | .maintenance => true
  | .isolated => !s.r478
  | _ => false

/-- Vertex `v` is in service. -/
def State.inService (s : State) (v : Vtx) : Bool := !s.blk.cen.excl.get v

/-- The vertices in service, in letter order. -/
def State.serving (s : State) : List Vtx := Vtx.list.filter s.inService

/-- Strength: the number of vertices in service. -/
def State.strength (s : State) : Nat := s.serving.length

/-- The strength that CYC.MODE.STRENGTH shows (R69). -/
def Blocks.shownStrength (b : Blocks) : Nat :=
  match b.cyc.mode with
  | .resync => 3 - b.cen.excl.members.length
  | .standby => 3 - b.cen.excl.members.length
  | .active => 3 - b.cen.excl.members.length
  | _ => 0

/-- The rejoin trial runs in vertex `v` (steps 5 to 7 of CEN.REJ, R237). -/
def State.trial (s : State) (v : Vtx) : Bool :=
  s.blk.cen.rejVtx == some v && decide (5 ≤ s.blk.cen.rejStep)

/-- Vertex `v` has a debug furlong under way and is not halted (R232). -/
def State.debugging (s : State) (v : Vtx) : Bool :=
  s.blk.cen.debugged.get v && (s.v v).dbg.started && !(s.v v).dbg.halted

/-- Vertex `v` takes part in the application. -/
def State.runsApp (s : State) (v : Vtx) : Bool :=
  s.appMode && (s.inService v || s.trial v) && !(s.v v).stopped

/-- Vertex `v` executes instructions of a task now. -/
def State.executing (s : State) (v : Vtx) : Bool :=
  (s.v v).cur.isSome && (s.runsApp v || s.debugging v)

/-! ### Records (R392 to R397) -/

/-- The short body of Table 13.3. -/
def shortBody (a1 a2 a3 : Nat) : List Byte := leBytes 4 a1 ++ leBytes 4 a2 ++ leBytes 4 a3 ++ leBytes 4 0

/-- A vertex places a record in its buffer of 64 entries; one that finds it full is dropped and counted (R393). -/
def Vertex.addRec (x : Vertex) (r : Rec) : Vertex :=
  if x.recs.length < 64 then { x with recs := x.recs ++ [r] }
  else { x with recDrop := x.recDrop + 1, loc := { x.loc with qdrop := satInc 16 x.loc.qdrop } }

/-- A record of the triangle in common (source 16#10): every vertex in service forms it. -/
def State.recBody (s : State) (t : RecType) (body : List Byte) : State :=
  s.modAll (fun v x => if s.inService v then x.addRec ⟨t, 0x10, body⟩ else x)

/-- A record of the triangle with the short body. -/
def State.record (s : State) (t : RecType) (a1 a2 a3 : Nat) : State := s.recBody t (shortBody a1 a2 a3)

/-- A record of vertex `v` about itself (sources 16#11 to 16#13). -/
def State.recOwn (s : State) (v : Vtx) (t : RecType) (body : List Byte) : State :=
  s.modV v (fun x => x.addRec ⟨t, 0x11 + v.num, body⟩)

end Sys2Proof.Machine
end

