-- ==== Sys2Proof/Machine/Frames.lean ====
section
/-! DEFINITION. Bus and chord frames: the position words of a source and the safety codes (Tables 8.3 and 11.1,
R247, R345), and the log of what leaves the module. -/

namespace Sys2Proof

/-- SRC of a position (Table 8.3). -/
def Position.src (p : Position) : BitVec 16 :=
  BitVec.ofNat 16 (2 ^ 8 * (p.area % 256) + 2 ^ 4 * (p.pos % 16) + (if p.senior then 8 else 0))

/-- SRC with the senior bit forced to 0 (R247). -/
def srcBase (s : BitVec 16) : BitVec 16 := s &&& 0xFFF7#16

/-- The senior bit of SRC. -/
def srcSenior (s : BitVec 16) : Bool := s.getLsbD 3

open Machine

/-- The covered bytes of a Swisko frame (R247). -/
def coveredBytes (mid : Word) (f : Frame) : List Byte :=
  beBytes 4 mid.toNat ++ beBytes 2 (srcBase f.src).toNat ++ beBytes 2 f.rodslot.toNat ++ beBytes 1 f.kind.toNat ++
    beBytes 1 f.plen ++ beBytes 4 f.seq.toNat ++ beBytes 8 f.ts.toNat ++ f.payload.flatMap (fun w => beBytes 4 w.toNat)

/-- The frame with its two codes (R247). -/
def Frame.coded (f : Frame) (mid : Word) : Frame :=
  { f with code1 := crc32c (coveredBytes mid f), code2 := crc32k (coveredBytes mid f) }

/-- The frame with the codes that two image ports compute, each over its own copy of the payload (R248). -/
def Frame.codedBy (f : Frame) (mid : Word) (p1 p2 : List Word) : Frame :=
  { f with
    code1 := crc32c (coveredBytes mid { f with payload := p1, plen := p1.length }),
    code2 := crc32k (coveredBytes mid { f with payload := p2, plen := p2.length }) }

/-- SA of a source on a network (Table 8.2). -/
def frameSa (src : BitVec 16) (n : Net) : List Byte :=
  [0x02, 0x00, 0x53, 0x57, src.extractLsb' 8 8, (src.extractLsb' 0 8 &&& 0xF8#8) ||| (if n = .Y then 1 else 0)]

/-- The bytes of a frame on a network from DA to CODE2 (Table 8.2). -/
def Frame.body (f : Frame) (n : Net) : List Byte :=
  [0x03, 0x00, 0x53, 0x57, 0x00, 0x00] ++ frameSa f.src n ++ [0x81, 0x00] ++ beBytes 2 (f.pcp % 8 * 2 ^ 13 + f.vid % 4096) ++
    beBytes 2 f.etype.toNat ++ beBytes 1 f.verf.toNat ++ beBytes 1 f.kind.toNat ++ beBytes 2 f.src.toNat ++
    beBytes 2 f.rodslot.toNat ++ beBytes 1 f.hop ++ beBytes 1 f.plen ++ beBytes 4 f.seq.toNat ++ beBytes 8 f.ts.toNat ++
    f.payload.flatMap (fun w => beBytes 4 w.toNat) ++ beBytes 4 f.code1.toNat ++ beBytes 4 f.code2.toNat

/-- The frame as it is sent (Table 8.2): the FCS of IEEE 802.3 follows, inverted where the frame was cut. -/
def Frame.bytes (f : Frame) (n : Net) : List Byte :=
  let b := f.body n
  let c := crc32 0xEDB88320#32 b
  b ++ leBytes 4 (if f.fcsOk then c else ~~~c).toNat

/-- Both codes of a frame are correct. -/
def Frame.codesOk (f : Frame) (mid : Word) : Bool :=
  f.code1 == crc32c (coveredBytes mid f) && f.code2 == crc32k (coveredBytes mid f)

/-- KIND of a HEARTBEAT, MDATA and MCOMMIT frame (Table 11.1). -/
def kHeartbeat : BitVec 8 := 0x51
def kMdata : BitVec 8 := 0x52
def kMcommit : BitVec 8 := 0x53

/-- The covered bytes of a chord frame: the MID bytes of a HEARTBEAT are taken as 0 (R345). -/
def chordCovered (mid : Word) (f : ChordFrame) : List Byte :=
  beBytes 4 (if f.kind = kHeartbeat then 0 else mid.toNat) ++ beBytes 2 f.src.toNat ++ beBytes 1 f.kind.toNat ++
    beBytes 4 f.seq.toNat ++ beBytes 2 f.idx.toNat ++ beBytes 2 f.len.toNat ++ beBytes 8 f.ts.toNat ++ f.payload

/-- The chord frame with its two codes. -/
def ChordFrame.coded (f : ChordFrame) (mid : Word) : ChordFrame :=
  { f with code1 := crc32c (chordCovered mid f), code2 := crc32k (chordCovered mid f) }

/-- The chord frame with the codes that two image ports compute, each over its own copy of the payload (R345, R248). -/
def ChordFrame.codedBy (f : ChordFrame) (mid : Word) (p1 p2 : List Byte) : ChordFrame :=
  { f with code1 := crc32c (chordCovered mid { f with payload := p1 }), code2 := crc32k (chordCovered mid { f with payload := p2 }) }

/-- The bytes of a chord frame on a link from DA to CODE2 (Table 11.1). -/
def ChordFrame.body (f : ChordFrame) (l : Link) : List Byte :=
  [0x03, 0x00, 0x53, 0x57, 0x00, 0x01] ++ [0x02, 0x00, 0x53, 0x57, f.src.extractLsb' 8 8,
      (f.src.extractLsb' 0 8 &&& 0xF8#8) ||| (if l = .C2 then 1 else 0)] ++
    beBytes 2 f.etype.toNat ++ beBytes 1 f.verf.toNat ++ beBytes 1 f.kind.toNat ++ beBytes 2 f.src.toNat ++
    beBytes 4 f.seq.toNat ++ beBytes 2 f.idx.toNat ++ beBytes 2 f.len.toNat ++ beBytes 8 f.ts.toNat ++ f.payload ++
    beBytes 4 f.code1.toNat ++ beBytes 4 f.code2.toNat

/-- The chord frame as it is sent (Table 11.1): the FCS of IEEE 802.3 follows. -/
def ChordFrame.bytes (f : ChordFrame) (l : Link) : List Byte :=
  let b := f.body l
  let c := crc32 0xEDB88320#32 b
  b ++ leBytes 4 (if f.fcsOk then c else ~~~c).toNat

/-- Both codes of a chord frame are correct. -/
def ChordFrame.codesOk (f : ChordFrame) (mid : Word) : Bool :=
  f.code1 == crc32c (chordCovered mid f) && f.code2 == crc32k (chordCovered mid f)

end Sys2Proof

namespace Sys2Proof.Machine

/-- Something leaves the module. -/
def State.emit (s : State) (o : Out) : State := { s with out := o :: s.out }

/-- EtherType of the loaded matrix; 16#88B5 while none is loaded (Table 8.2). -/
def State.etype (s : State) : BitVec 16 :=
  match s.blk.ttb.matrix with
  | some m => m.etype
  | none => 0x88B5

/-- SRC of the module. -/
def State.ownSrc (s : State) : BitVec 16 :=
  match s.blk.ttb.pos with
  | some p => p.src
  | none => 0

/-- BUILD of the loaded application header. -/
def State.build (s : State) : Word :=
  match s.loaded with
  | some c => c.hdr.build
  | none => 0

/-- A HEARTBEAT (R346, Table 11.2). -/
def State.heartbeat (s : State) (ts : Nat) (abdicate : Bool) : ChordFrame :=
  let c := s.blk.chd
  let horeq := s.pair.target.isSome && (s.mode == .standby || s.mode == .active)
  let hoTarget := if horeq then s.pair.target.getD 0 else 0
  let homeEl := c.home.en && c.home.home == s.blk.cyc.senior && s.mode == .standby && decide (86400 ≤ c.secs) &&
    c.pmode == 4 && c.pstr == 3
  let flags := bit s.blk.cyc.senior + 2 * bit abdicate + 4 * bit horeq +
    8 * bit (s.mode == .standby && (c.host == .ready || c.host == .go)) + 16 * bit s.pair.goSent + 32 * bit homeEl
  let mseq := if s.mode == .active || abdicate then s.pair.formed.toNat
    else match s.pair.rx with
      | some r => if r.commit && r.chunks.length == c.nchunk then r.seq.toNat else c.mseq.toNat
      | none => c.mseq.toNat
  let payload := leBytes 1 (modeCode s.mode) ++ leBytes 1 s.blk.shownStrength ++ leBytes 1 flags ++ [0] ++
    beBytes 4 s.fnum ++ beBytes 4 hoTarget ++ beBytes 4 mseq ++ beBytes 6 (s.recorder.seq - 1) ++ [0, 0] ++
    beBytes 4 s.build.toNat ++ beBytes 4 s.blk.ttb.mid.toNat
  ({ fcsOk := true, etype := s.etype, verf := 0x10, kind := kHeartbeat, src := s.ownSrc,
     seq := w32 (ts / 25000), idx := 0, len := 32, ts := BitVec.ofNat 64 ts, payload := payload,
     code1 := 0, code2 := 0 } : ChordFrame).coded 0

/-- A chord frame goes out on both links at once, but on none whose port is held down (R344). -/
def State.sendChord (s : State) (f : ChordFrame) : State :=
  let t := if s.pair.c1.down then s else s.emit (.chord .C1 f)
  if s.pair.c2.down then t else t.emit (.chord .C2 f)

end Sys2Proof.Machine
end

