-- ==== Sys2Proof/Machine/SafeIo.lean ====
section
/-! DEFINITION. Shared operations of the safe I/O chip: records, groups, output drive and the safe state (R305,
R327 to R332, R336, R337). -/

namespace Sys2Proof.Machine

/-- Change the safe I/O chip. -/
def State.modSio (s : State) (f : Sio → Sio) : State := { s with blk := { s.blk with sio := f s.blk.sio } }

/-- The payload of Table 10.9. -/
def ioBody (group kind chan val time : Nat) : List Byte :=
  leBytes 1 group ++ leBytes 1 kind ++ leBytes 1 chan ++ leBytes 1 0 ++ leBytes 4 val ++ leBytes 8 time

/-- An IO_FAULT record. -/
def State.ioFault (s : State) (group kind chan val : Nat) : State :=
  s.recBody .ioFault (ioBody group kind chan val s.time)

/-- An IO_CLEAR record. -/
def State.ioClear (s : State) (group kind chan val : Nat) : State :=
  s.recBody .ioClear (ioBody group kind chan val s.time)

/-- One record for each output group, with CHAN 16#FF (R337). -/
def State.outputsFault (s : State) (kind val : Nat) : State := (s.ioFault 2 kind 0xFF val).ioFault 3 kind 0xFF val

/-- The clearing of an event that concerns the outputs as a whole. -/
def State.outputsClear (s : State) (kind val : Nat) : State := (s.ioClear 2 kind 0xFF val).ioClear 3 kind 0xFF val

/-- A fault of the output is latched. -/
def QsFaults.any (f : QsFaults) : Bool := f.hsOn || f.lsOn || f.hsOff || f.lsOff || f.overcur || f.openLoad

/-- A latch of the input is set. -/
def InputSt.latched (i : InputSt) : Bool := i.brk.set || i.inter.set || i.cross.set

/-- A latch of input group 0 or 1 is set (Table 10.1). -/
def Sio.inputGroup (x : Sio) (g : Nat) : Bool :=
  ((x.inputs.drop (16 * g)).take 16).any InputSt.latched || ((x.pairs.drop (8 * g)).take 8).any PairSt.disc ||
    ((x.tps.drop (2 * g)).take 2).any TpSt.overload

/-- The latches of each group (Table 10.1). -/
def Sio.groups (x : Sio) : List Bool :=
  [x.inputGroup 0, x.inputGroup 1, x.qs.any (fun q => q.faults.any) || x.lost, x.qa.any QaSt.latched || x.lost]

/-- The group FAULT bits take the latches of this instant. -/
def Sio.stick (x : Sio) : Sio := { x with sticky := (x.sticky.zip x.groups).map (fun (a, b) => a || b) }

/-- A shadow difference sets the FAULT bit of the group (R36). -/
def Sio.stickGroup (x : Sio) (g : Nat) : Sio := { x with sticky := setNth x.sticky g true }

/-- QASAFE of output `j`. -/
def Sio.qaSafe (x : Sio) (j : Nat) : Nat := x.params.qasafe.getD j 0

/-- QS output `n` closes its switches (R325, R329 to R332, R335). -/
def Sio.qsDrive (x : Sio) (q : QsSt) : Bool :=
  x.mode == .active && x.commits && q.committed && !q.faults.any && !x.lost && !x.wdt && !x.fail && q.fresh == .none &&
    q.resetAt.isNone

/-- QA outputs are in their safe state (Table 2.5, R330, R336). -/
def Sio.qaSafeNow (x : Sio) : Bool := x.mode != .active || x.wdt || x.fail

/-- QA outputs are off whatever their safe state (Table 2.5, R329, R330). -/
def Sio.qaOff (x : Sio) : Bool := x.mode == .start || x.mode == .commission || !x.entered || !x.commits || x.lost

/-- QA output `j` closes its switch (R328 to R332). -/
def Sio.qaDrive (x : Sio) (j : Nat) (q : QaSt) : Bool :=
  if x.qaOff || q.latched then false
  else if x.qaSafeNow || q.differ then
    (match x.qaSafe j with
     | 0 => false
     | 1 => true
     | _ => q.on)
  else q.committed && q.fresh == .none

/-- Every output takes the state that the chip gives it. -/
def Sio.drive (x : Sio) : Sio :=
  { x with
    qs := x.qs.map (fun q => { q with on := x.qsDrive q }),
    qa := x.qa.zipIdx.map (fun (q, j) => { q with on := x.qaDrive j q }) }

/-- Every output takes the state that the chip gives it. -/
def State.drive (s : State) : State := s.modSio Sio.drive

/-- The running test is abandoned, counted, and is to be repeated in the next furlong (R327). -/
def Sio.abandonTest (x : Sio) (fnum : Nat) : Sio :=
  match x.tests with
  | none => x
  | some t =>
    { x with
      tests := none, abandoned := satInc 16 x.abandoned,
      repeats := x.repeats ++ [⟨t.n, t.low, fnum⟩] }

/-- Reset tests are cut short: their latches stay set. -/
def Sio.dropResets (x : Sio) : Sio := { x with qs := x.qs.map (fun q => { q with resetAt := none }) }

/-- A forced switch-off meets running tests (Table 10.8). -/
def Sio.forceOff (x : Sio) (fnum : Nat) : Sio := (x.abandonTest fnum).dropResets

/-- Two of the three vertex links have passed their last transfer: the chip takes mode and rod from them (R329). -/
def Sio.linksAgree (x : Sio) : Bool := decide (2 ≤ (Vtx.list.filter (fun v => !x.linkf.get v)).length)

/-- The chip takes mode `m` (R329): a mode other than ACTIVE meets running tests as a forced switch-off (Table 10.8), and the
first entry to STANDBY or ACTIVE is remembered (R45). -/
def Sio.takeMode (x : Sio) (m : Mode) (fnum : Nat) : Sio :=
  let y := { x with mode := m, entered := x.entered || m == .standby || m == .active }
  if m = .active then y else y.forceOff fnum

/-- The chip takes the mode of the module once two links agree. -/
def State.outputsMode (s : State) : State :=
  if s.blk.sio.linksAgree then (s.modSio (fun x => x.takeMode s.mode s.fnum)).drive else s

/-- An SIO record of SIO_FAIL for each of the four groups (R337). -/
def State.sioFailRecords (s : State) : State :=
  (((s.ioFault 0 0x13 0xFF 0).ioFault 1 0x13 0xFF 0).ioFault 2 0x13 0xFF 0).ioFault 3 0x13 0xFF 0

end Sys2Proof.Machine
end

