-- ==== Sys2Proof/Machine/Slices.lean ====
section
/-! DEFINITION. Shared operations of the analogue self-test scheduler, of SIO_FAIL, of perturbation and of the
update journal, which other families cause (R336, R381, R388, R422, R431). -/

namespace Sys2Proof.Machine

/-- Change the self-test block. -/
def State.modBst (s : State) (f : Bst → Bst) : State := { s with blk := { s.blk with bst := f s.blk.bst } }

/-- Change the perturbation block. -/
def State.modPtb (s : State) (f : Ptb → Ptb) : State := { s with blk := { s.blk with ptb := f s.blk.ptb } }

/-- Change the pair block. -/
def State.modChd (s : State) (f : Chd → Chd) : State := { s with blk := { s.blk with chd := f s.blk.chd } }

/-- Change the pair engine. -/
def State.modPair (s : State) (f : PairSt2 → PairSt2) : State := { s with pair := f s.pair }

/-- The slice is marked in furlong `f` for the reserved slot of the next one (R379, R380, R382). -/
def SliceSt.mark (x : SliceSt) (f : Nat) : SliceSt := if x.reserved then x else { x with reserved := true, markF := f }

/-- The slice after an abandonment in furlong `f`: counted, and marked for the reserved slot at the eighth in a row (R380). -/
def SliceSt.abandon (x : SliceSt) (f : Nat) : SliceSt :=
  let y := { x with cons := min (x.cons + 1) 8, res := clearedResult }
  if 8 ≤ x.cons + 1 then y.mark f else y

/-- A round of the slices 0 to 68 is complete when slice 68 has had its turn (Table 12.12). -/
def Bst.roundsAfter (b : Bst) (n : Nat) : Nat :=
  if b.running.any (fun r => r.n == n && n == 68 && !r.reserved) then satInc 16 b.rounds else b.rounds

/-- Slice `n` is abandoned without a result in furlong `f` (R380). -/
def Bst.abandonSlice (b : Bst) (n f : Nat) : Bst :=
  { b with
    running := b.running.filter (fun r => r.n != n), abandon := satInc 16 b.abandon, rounds := b.roundsAfter n,
    slices := modNth b.slices n (fun x => x.abandon f),
    last := n, outcome := 2, rsig := 0, rcount := 0, rcomplete := 0 }

/-- A service request that Table 12.5 names abandons the slices that `p` tells, but for one in its reserved slot: there the request
waits for the slice's end (R380). -/
def State.serviceRequest (s : State) (p : Nat → Bool) : State :=
  (s.blk.bst.running.filter (fun r => p r.n && !r.reserved)).foldl (fun t r => t.modBst (fun b => b.abandonSlice r.n t.fnum)) s

/-- Every running slice ends at once in furlong `f` and is counted as abandoned (R381). -/
def Bst.endAll (b : Bst) (f : Nat) : Bst := b.running.foldl (fun b r => b.abandonSlice r.n f) b

/-- Every running slice ends at once. -/
def State.endSlices (s : State) : State := s.modBst (fun b => b.endAll s.fnum)

/-- SIO_FAIL: the chip goes safe until a restart (R327, R336, R381). -/
def State.sioFail (s : State) : State :=
  if s.blk.sio.fail then s
  else
    ((s.sioFailRecords.endSlices).modSio (fun x => { x.forceOff s.fnum with fail := true })).drive


/-- Perturbations could be set since the last furlong boundary or in it: the module was in MAINTENANCE with SW4 on there, or a field
is not at its reset value. -/
def Ptb.any (p : Ptb) : Bool := p.live || p != .reset

/-- Every field returns to its reset value, and PTB_CLEARED is recorded (R388): at the first boundary out of MAINTENANCE or with SW4
off, or at the change to HALT. -/
def State.ptbClear (s : State) : State :=
  if s.blk.ptb.any then
    (s.record .ptbCleared PtbVals.reset.strd.toNat PtbVals.reset.slotd.toNat PtbVals.reset.qbp.toNat).modPtb (fun _ => .reset)
  else s

/-- A frame of a mirror set whose instant, its TS, is still to come. -/
def State.unsent (s : State) (o : Out) : Bool :=
  match o with
  | .chord _ f => (f.kind == kMdata || f.kind == kMcommit) && decide (s.time < f.ts.toNat)
  | _ => false

/-- The module falls silent on the chords: the frames of a set that is still under way and whose instants have not come do not
leave, and the set is abandoned (R346, R352). -/
def State.cutSet (s : State) : State :=
  let t : State := { s with out := s.out.filter (fun o => !s.unsent o) }
  match s.pair.tx with
  | some x =>
    if s.nt < x.doneAt then
      (t.modPair (fun p => { p with tx := none })).modChd (fun c => { c with abandon := satInc 8 c.abandon })
    else t
  | none => t

/-- One HEARTBEAT with ABDICATE, and then no chord frame until RESYNC (R346). -/
def State.abdicate (s : State) : State :=
  (s.cutSet.sendChord (s.heartbeat s.time true)).modPair (fun p => { p with silent := true })

/-! ### The journal (R422) -/

/-- The journal before any write: IDLE, bank 0 ACTIVE, no RETAINED. -/
def Journal.initial : Journal := ⟨0, .idle, 0, none, 0, false, 0, 0, 0, 0⟩

/-- The record in force: the valid slot with the higher JSEQ. -/
def JSlots.cur (j : JSlots) : Journal :=
  match j.a, j.b with
  | some x, some y => if y.jseq.toNat ≤ x.jseq.toNat then x else y
  | some x, none => x
  | none, some y => y
  | none, none => .initial

/-- Slot A holds the newest valid record. -/
def JSlots.newestA (j : JSlots) : Bool :=
  match j.a, j.b with
  | some x, some y => decide (y.jseq.toNat ≤ x.jseq.toNat)
  | some _, none => true
  | none, _ => false

/-- A journal write goes to the other slot, with JSEQ one higher. -/
def JSlots.write (j : JSlots) (f : Journal → Journal) : JSlots :=
  let n := { f j.cur with jseq := j.cur.jseq + 1 }
  if j.newestA then { j with b := some n } else { j with a := some n }

/-- Change the update path. -/
def State.modUpd (s : State) (f : Update → Update) : State := { s with upd := f s.upd }

/-- Write the journal. -/
def State.journal (s : State) (f : Journal → Journal) : State := s.modUpd (fun u => { u with slots := u.slots.write f })

/-- An entry to HALT in probation sets the fault mark (R431). -/
def State.probationHalt (s : State) : State :=
  if s.upd.slots.cur.state = .probation then
    (s.journal (fun j => { j with fault := true })).modUpd (fun u => { u with haltNt := some s.nt })
  else s

/-- What a change to HALT brings at once outside the vertices (R67, R381, R388, R431). -/
def State.haltEffects (s : State) : State := ((s.endSlices).ptbClear).probationHalt

/-- A handover under way is dropped. -/
def PairSt2.dropHandover (p : PairSt2) : PairSt2 :=
  { p with target := none, req := none, goSent := false, goGot := false, readyGot := false }

/-- What the pair engine keeps in mode `m` (R357, R361, R363). An accepted HANDOVER that the mode does not know stays until
its boundary, at which it is dropped with its record (R79). -/
def PairSt2.inMode (p : PairSt2) (m : Mode) : PairSt2 :=
  let a := if m = .active then p else { p with yieldAt := none, yielded := false }
  let b := if m = .standby then a else { a with decided := none }
  if m = .standby ∨ m = .active ∨ b.req.isSome = true then b else b.dropHandover

/-- What a change of mode brings at the pair: the heartbeat with ABDICATE, the return of the chord frames in RESYNC
(R346), and the end of a handover or a yield that the new mode does not know. -/
def State.pairMode (s : State) (was : Mode) : State :=
  let t := if was = .active ∧ (s.mode = .halt ∨ s.mode = .isolated) then s.abdicate else s
  let w := t.modPair (fun p => p.inMode s.mode)
  let w1 := if s.mode = .standby ∨ s.mode = .active then w
    else w.modChd (fun c => { c with host := if c.host = .cancelled then .cancelled else .idle })
  let u := if s.mode = .standby then w1.modPair (fun p => { p with standAt := w1.nt }) else w1
  if u.mode = .resync then { u with pair := { u.pair with silent := false }, resyncF := u.fnum } else u

end Sys2Proof.Machine
end

