-- ==== Sys2Proof/Machine/Modes.lean ====
section
/-! DEFINITION. Mode changes, exclusion, loss of majority and traps: each once, for every family. -/

namespace Sys2Proof.Machine

/-- A vertex stops executing the application (R105, R226). -/
def Vertex.stop (x : Vertex) : Vertex :=
  { x with stopped := true, cur := none, todo := [], last := none }

/-- Write the mode and its cause and the MODE_CHANGE record (R68); the outputs and the chords follow the mode (R329,
R346). -/
def State.setMode (s : State) (m : Mode) (c : MCause) : State :=
  (((s.record .modeChange (modeCode s.mode) (modeCode m) (mcauseCode c)).modCyc
    (fun y => { y with mode := m, cause := c })).outputsMode).pairMode s.mode

/-- A rejoin ends with REJOIN_FAIL and its reason, and the vertex stays out of service (R238). An accepted REJOIN that has not
started is judged at its boundary (R79). -/
def State.rejoinFail (s : State) (reason : Nat) : State :=
  match s.blk.cen.rejVtx with
  | none => s
  | some v =>
    if s.blk.cen.rejStep = 0 then s
    else
    ((s.record .rejoinFail v.num reason 0).modV v Vertex.stop).modCen
      (fun y => { y with rejVtx := none, rejStep := 0, rejFurl := 0,
                         rejFails := y.rejFails.set v (min (y.rejFails.get v + 1) 3), rejLast := some v,
                         rejReason := reason })

/-- The change to HALT, at once (R67): every vertex stops, and what Table 2.5 gives for HALT holds from here. -/
def State.halt (s : State) (c : MCause) : State :=
  if s.mode = .halt then s
  else
    ((((s.rejoinFail 6).setMode .halt c).modAll (fun _ x => x.stop)).haltEffects)

/-- A slice has no majority (R223), or an exclusion would leave one vertex in service. -/
def State.noMajority (s : State) (typ seq : Nat) : State :=
  if s.mode = .start ∨ s.mode = .isolated then s.halt .startDisagree
  else (s.record .noMajority typ seq 0).halt .strengthLost

/-- The VERTEX_EXCLUDED body (Table 7.7). -/
def excludedBody (v : Vtx) (c : XCause) (typ seq deciders fnum : Nat) : List Byte :=
  leBytes 1 v.num ++ leBytes 1 (xcauseCode c) ++ leBytes 1 typ ++ leBytes 1 deciders ++ leBytes 2 seq ++
    leBytes 2 0 ++ leBytes 4 fnum

/-- A withdrawal whose furlong F + 1 runs is cancelled by an exclusion for a fault (R230); before that furlong the check of
R229 drops it. -/
def State.cancelWithdraw (s : State) : State :=
  match s.blk.cen.wpend with
  | none => s
  | some w =>
    if s.wdEffect then
      { (s.record .withdrawCancelled w.num 0 0).modCen (fun y => { y with wpend := none }) with wdEffect := false }
    else s

/-- Vertex `v` leaves service at strength 3: record, cause registers, and it stops. -/
def State.takeOut (s : State) (v : Vtx) (c : XCause) (typ seq deciders : Nat) : State :=
  (((s.recBody .vertexExcluded (excludedBody v c typ seq deciders s.fnum)).modV v Vertex.stop).modAll
    (fun _ x => { x with slice := { x.slice with excl := x.slice.excl.set v true } })).modCen
    (fun y => { y with excl := y.excl.set v true, exclN := satInc 16 y.exclN,
                       x := y.x.set v ⟨xcauseCode c, s.fnum % 2 ^ 24, seq, typ⟩ })

/-- A vertex is excluded (R222 to R226). In START and ISOLATED any such event takes the module to HALT (R225);
at strength 2 it is no majority (R223). `deciders` is the mask of Table 7.7. -/
def State.exclude (s : State) (v : Vtx) (c : XCause) (typ seq deciders : Nat) : State :=
  if !s.inService v then s
  else if s.mode = .start ∨ s.mode = .isolated then s.halt .startDisagree
  else if s.strength < 3 then s.noMajority typ seq
  else ((s.cancelWithdraw).takeOut v c typ seq deciders)

/-- The debug session of vertex `v` ends (R233). -/
def State.endDebug (s : State) (v : Vtx) : State :=
  if s.blk.cen.debugged.get v then
    ((s.record .debugEnded v.num 0 0).modV v (fun x =>
      { x with cur := none, todo := [], last := none, dbg := { x.dbg with halted := true, started := false } })).modCen
      (fun c => { c with debugged := c.debugged.set v false })
  else s

/-- Every debug session ends. -/
def State.endDebugs (s : State) : State := Vtx.list.foldl State.endDebug s

/-- The mask of the vertices in service other than `v`. -/
def State.others (s : State) (v : Vtx) : Nat :=
  ((s.serving.filter (fun u => u != v)).map (fun u => 2 ^ u.num)).foldl (· + ·) 0

/-- A vertex sends an entry to the three slices (R216). -/
def State.sendEntry (s : State) (v : Vtx) (e : Entry) : State :=
  { s with links := s.links.set v ((s.links.get v).map (fun q => q ++ [e])) }

/-- The WD entry with a cause (Table 7.4). -/
def wdEntry (c : XCause) : Entry := ⟨.wd, 0, BitVec.ofNat 64 (xcauseCode c)⟩

/-- A vertex in service finds itself at fault: it stops, which withholds its key, and sends WD with the cause; the slices
that receive it exclude the vertex (R226). One in a rejoin trial ends the rejoin (R237). -/
def State.selfFault (s : State) (v : Vtx) (c : XCause) : State :=
  if s.trial v then (s.modV v Vertex.stop).rejoinFail 4
  else if s.inService v then (s.modV v Vertex.stop).sendEntry v (wdEntry c)
  else s

/-- The cause of a WD that vertex `v` has sent and that is still on a link. -/
def State.wdOnLink (s : State) (v : Vtx) : Option Nat :=
  let q := s.links.get v
  ((q.a ++ q.b ++ q.c).find? (fun e => e.typ == .wd)).map (fun e => e.data.toNat % 256)

/-! ### Traps (R105 to R108) -/

/-- TCW as a word (Table 3.3). -/
def Core.tcw (c : Core) : Nat :=
  bit c.fl.z + 2 * bit c.fl.n + 4 * bit c.fl.c + 8 * bit c.fl.v + 16 * bit c.fl.s +
    2 ^ 8 * c.task + 2 ^ 12 * c.depth + 2 ^ 21 * c.loops.length

/-- The VERTEX_TRAP body (Table 3.13). -/
def trapBody (v : Vtx) (c : TrapCause) (user task : Nat) (pc : Word) (addr tcw fnum count : Nat) : List Byte :=
  leBytes 1 v.num ++ leBytes 1 (trapCode c) ++ leBytes 1 user ++ leBytes 1 task ++ leBytes 4 pc.toNat ++
    leBytes 4 addr ++ leBytes 4 tcw ++ leBytes 4 fnum ++ leBytes 4 count

/-- Another vertex has trapped in this furlong with the same cause, in the same task and at the same PC. -/
def State.trapMatch (s : State) (v : Vtx) (c : TrapCause) (task : Nat) (pc : Word) : Bool :=
  s.traps.any (fun t => t.v != v && t.cause == c && t.task == task && t.pc == pc)

/-- The mask of the vertices that trapped BUDGET in this task in this furlong. -/
def State.budgetMask (s : State) (v : Vtx) (task : Nat) : Nat :=
  2 ^ v.num + (Vtx.list.map (fun u => if u != v && s.traps.any (fun t => t.v == u && t.cause == .budget && t.task == task)
    then 2 ^ u.num else 0)).foldl (· + ·) 0

/-- What a trap of a vertex in service does to the module: the common traps of R62 and R107 take it to HALT, any
other is a fault of that vertex. -/
def State.trapOutcome (s : State) (v : Vtx) (c : TrapCause) (task : Nat) (pc : Word) : State :=
  let common := s.trapMatch v c task pc
  let budget := c == .budget && s.budgetMask v task != 2 ^ v.num
  let seen : State := { s with traps := ⟨v, c, task, pc⟩ :: s.traps }
  if common || budget then
    let s1 := if common then seen.record .trapCommon (trapCode c) task pc.toNat else seen
    let s2 := if budget then s1.record .budgetCommon task (s.budgetMask v task) s.fnum else s1
    s2.halt (if c == .budget then .budgetCommon else .strengthLost)
  else seen.selfFault v (.trap c)

/-- A trap stops vertex `v` (R105). In a debug furlong it is reported over the channel alone (R232); in a rejoin
trial it ends the rejoin (R237). -/
def State.raiseTrap (s : State) (v : Vtx) (c : TrapCause) (user addr : Nat) (pc : Word) (count : Nat) : State :=
  let x := s.v v
  let task := x.core.task
  if s.debugging v then
    s.modV v (fun x =>
      { x with
        cur := none, todo := [], last := none,
        dbg := { x.dbg with halted := true, why := 4, trapc := trapCode c, started := false } })
  else
    let s1 := s.recOwn v .vertexTrap (trapBody v c user task pc addr x.core.tcw s.fnum count)
    let s2 := if c == .deadline then s1.record .deadline v.num task 0 else s1
    let s3 := if c == .budget then 
        s2.modV v (fun x => { x with loc := { x.loc with tuseOvr := modNth x.loc.tuseOvr task (satInc 7) } })
      else s2
    if s.trial v then s3.selfFault v (.trap c) else s3.trapOutcome v c task pc

/-- Vertex `v` meets an uncorrectable error at `a` with no task running: the trap ECC. The VERTEX_TRAP record has PC, TASK and TCW as
the last task left them (DESIGN CHOICE, notes/assumptions/69.md). -/
def State.eccTrap (s : State) (v : Vtx) (a : Nat) : State :=
  if s.inService v || s.trial v then s.raiseTrap v .ecc 0 a (s.v v).core.pc (s.v v).core.count else s

end Sys2Proof.Machine
end

