-- ==== Sys2Proof/Machine/Signature.lean ====
section
/-! DEFINITION. The write-signature unit: records, signatures, strides and the entries sent to the slices
(R206 to R218). -/

namespace Sys2Proof.Machine

/-- The 16 bytes of a record (Table 7.1). -/
def sigBytes : SigRec → List Byte
  | .reg r val => beBytes 1 0x10 ++ beBytes 1 r ++ beBytes 2 0 ++ beBytes 4 0 ++ beBytes 4 0 ++ beBytes 4 val.toNat
  | .store n addr val =>
    beBytes 1 (if n = 1 then 0x20 else if n = 2 then 0x21 else if n = 4 then 0x22 else 0x23) ++ beBytes 3 0 ++
      beBytes 4 addr ++ beBytes 8 val.toNat
  | .bitSet addr mask => beBytes 1 0x30 ++ beBytes 3 0 ++ beBytes 4 addr ++ beBytes 4 0 ++ beBytes 4 mask.toNat
  | .bitClear addr mask => beBytes 1 0x31 ++ beBytes 3 0 ++ beBytes 4 addr ++ beBytes 4 0 ++ beBytes 4 mask.toNat
  | .loadLocal r => beBytes 1 0x40 ++ beBytes 1 r ++ beBytes 2 0 ++ beBytes 4 0 ++ beBytes 8 0
  | .close kind retired pc tcw nrec =>
    beBytes 1 0xF0 ++ beBytes 1 kind ++ beBytes 2 retired ++ beBytes 4 pc.toNat ++ beBytes 4 tcw.toNat ++
      beBytes 4 nrec

/-- The seed of a stride (R213). -/
def sigSeed (fnum n kind : Nat) : Long :=
  0x9E3779B97F4A7C15#64 ^^^ BitVec.ofNat 64 (fnum % 2 ^ 32 * 2 ^ 32) ^^^ BitVec.ofNat 64 (n * 16) ^^^
    BitVec.ofNat 64 kind

/-- The signature of a stride: its records in order, the close record last. -/
def signature (fnum n kind : Nat) (recs : List SigRec) : Long :=
  recs.foldl (fun r x => crc64 r (sigBytes x)) (sigSeed fnum n kind)

/-- The page that a record marks while the vertex is a rejoin source (R236): a page of the instance region or of
the image region. -/
def SigRec.page : SigRec → Option Nat
  | .store _ a _ =>
    if 0x01000000 ≤ a ∧ a < 0x01800000 ∨ 0x02000000 ≤ a ∧ a < 0x02040000 then some (a / 4096 * 4096) else none
  | .bitSet a _ =>
    if 0x01800000 ≤ a ∧ a < 0x02000000 then some ((a - 0x00400000) / 4096 * 4096)
    else some ((a - 0x00100000) / 4096 * 4096)
  | .bitClear a _ =>
    if 0x01800000 ≤ a ∧ a < 0x02000000 then some ((a - 0x00800000) / 4096 * 4096)
    else some ((a - 0x00200000) / 4096 * 4096)
  | _ => none

/-- The unit forms a record. -/
def Vertex.feed (x : Vertex) (r : SigRec) : Vertex :=
  let y := { x with core := { x.core with stream := r :: x.core.stream } }
  match r.page with
  | some p => if x.marking && !x.dirty.contains p then { y with dirty := p :: x.dirty } else y
  | none => y

/-- Records in order. -/
def Vertex.feedAll (x : Vertex) (l : List SigRec) : Vertex := l.foldl Vertex.feed x

/-- The pass writes held back under R185 enter the stream. -/
def Vertex.placePass (x : Vertex) : Vertex :=
  { x.feedAll x.lat.held with lat := { x.lat with held := [] } }

/-- The close record: PC of the next instruction to retire and TCW, or 0 when no task is running. -/
def Vertex.closeRec (x : Vertex) (kind : Nat) : SigRec :=
  let running := x.cur.isSome
  .close kind x.core.retired (if running then x.core.pc else 0) (if running then w32 x.core.tcw else 0)
    x.core.stream.length

/-- The signature of the open stride, closed as `kind`. -/
def Vertex.closeSig (x : Vertex) (fnum kind : Nat) : Long :=
  signature fnum x.strideNo kind (x.core.stream.reverse ++ [x.closeRec kind])

/-- The open stride is closed and the next one begins. -/
def Vertex.nextStride (x : Vertex) (sig : Long) : Vertex :=
  { x with
    core := { x.core with retired := 0, stream := [] },
    strideNo := x.strideNo + 1, strides := x.strides + 1, dbg := { x.dbg with lastSig := sig } }

/-- An ordinary stride closes at the retirement of its 256th instruction (R211) and its signature is sent. A vertex
in debug sends no entry (R232). -/
def State.closeFull (s : State) (v : Vtx) : State :=
  let x := s.v v
  if x.core.retired < 256 then s
  else
    let f := if s.debugging v then x.dbg.dfur.toNat else s.fnum
    let sig := x.closeSig f 0
    let s1 := s.setV v (x.nextStride sig)
    if s.debugging v then s1 else s1.sendEntry v ⟨.sig, x.strideNo % 4096, sig⟩

/-- The fixed test records of R212. -/
def testRecs (fnum : Nat) : List SigRec :=
  [0, 1, 2, 3].map (fun i => .reg i ((w32 fnum).rotateLeft (8 * i)))

/-- The signature of test stride T0 (kind 2) or T1 (kind 3). -/
def testSig (fnum kind : Nat) : Long :=
  signature fnum 0 kind (testRecs fnum ++ [.close kind 0 0 0 4])

/-! ### Phase 0 stores (R210) -/

/-- A store of phase 0 work: it forms its store record and retires one instruction. -/
def Vertex.phase0Store (x : Vertex) (n a val : Nat) : Vertex :=
  let y := x.feed (.store n a (BitVec.ofNat 64 val))
  { y with core := { y.core with retired := y.core.retired + 1 } }

/-- A store of phase 0 work of vertex `v`; a stride it fills is closed. -/
def State.phase0Store (s : State) (v : Vtx) (n a val : Nat) : State :=
  (s.modV v (fun x => x.phase0Store n a val)).closeFull v

end Sys2Proof.Machine
end

