-- ==== Sys2Proof/Machine/Issue.lean ====
section
/-! DEFINITION. Issue, cycle counts, pairing, traps common to all instructions and retirement (R106, R110,
R112, R118, R119, R121, R122), once for every instruction. -/

namespace Sys2Proof.Machine

/-- What an instruction is to the issue logic: its class, its cycle count, and the registers and flags it reads and
writes (masks; flags in the order of TCW). -/
structure IMeta where
  cls : IClass
  cyc : Nat
  rr : BitVec 16 := 0
  rw : BitVec 16 := 0
  fr : BitVec 5 := 0
  fw : BitVec 5 := 0
  words : Nat := 1

/-- What an instruction does on its vertex, when nothing common to all instructions stops it. `undo` holds the bytes
its store replaced. -/
inductive IRes where
  | trap (c : TrapCause) (user addr : Nat)
  | done (x : Vertex) (npc : Option Word) (undo : List Host.Cell)

/-- The address space of instruction fetch (Table 16.1). -/
def inCode (a : Nat) : Bool := 0x00010000 ≤ a && a < 0x00400000

/-- The mask of one register. -/
def rbit (r : BitVec 4) : BitVec 16 := 1#16 <<< r.toNat

/-- The mask of a register pair. -/
def rpair (r : BitVec 4) : BitVec 16 := rbit r ||| rbit (r + 1)

/-- A class that can be the first of a pair (Table 4.3). -/
def IClass.first : IClass → Bool
  | .A => true
  | .M => true
  | _ => false

/-- The classes pair in this order (Table 4.3). -/
def IClass.pairs : IClass → IClass → Bool
  | .A, .A => true
  | .A, .M => true
  | .M, .A => true
  | .A, .B => true
  | _, _ => false

/-- The instruction at PC issues as the second of a pair with the last one (R118). -/
def Vertex.pairsWith (x : Vertex) (m : IMeta) : Option LastIssue :=
  match x.last with
  | none => none
  | some l =>
    if l.addr + 4 = x.core.pc ∧ l.addr.toNat % 8 = 0 ∧ l.cls.pairs m.cls ∧ m.words = 1 ∧
       l.rw &&& (m.rr ||| m.rw) = 0 ∧ l.fw &&& m.fr = 0 then some l else none

/-- The budget count after the instruction: a pair takes the larger of the two cycle counts, of which the first has counted
its own (R118). Stalls between the two stay counted (R61). -/
def Vertex.countAfter (x : Vertex) (m : IMeta) : Nat :=
  match x.pairsWith m with
  | some l => x.core.count + (max l.cyc m.cyc - l.cyc)
  | none => x.core.count + m.cyc

/-- The budget of the running task. -/
def State.budget (s : State) (x : Vertex) : Nat :=
  match s.blk.cyc.tasks[x.core.task]? with
  | some t => t.budget
  | none => 0

/-- A fetch of the words of the instruction meets an uncorrectable error (R122). -/
def Vertex.fetchBad (x : Vertex) (words : Nat) : Bool :=
  x.mem.bad .code x.core.pc.toNat || (words == 2 && x.mem.bad .code (x.core.pc.toNat + 4))

/-- A word of the instruction lies outside the code region (R122). -/
def Vertex.fetchOut (x : Vertex) (words : Nat) : Bool :=
  !inCode x.core.pc.toNat || (words == 2 && !inCode (x.core.pc.toNat + 4))

/-- The word at PC has an opcode that Table 4.2 does not list (R114, R117). -/
def Vertex.undefinedOp (x : Vertex) : Bool :=
  inCode x.core.pc.toNat && !opDefined (w32 (x.mem.load .code x.core.pc.toNat 4))

/-- The address of the word of the instruction at which its fetch fails: PC, or PC + 4 for the extension word (R108). -/
def Vertex.fetchAt (x : Vertex) (fails : Nat → Bool) : Nat :=
  if fails x.core.pc.toNat then x.core.pc.toNat else x.core.pc.toNat + 4

/-- The lower of two trap causes (R106). -/
def lowerCause (a b : Option (TrapCause × Nat × Nat)) : Option (TrapCause × Nat × Nat) :=
  match a, b with
  | none, y => y
  | x, none => x
  | some x, some y => if trapCode y.1 < trapCode x.1 then some y else some x

/-- The word of the instruction is malformed: `bad` says that one of its fields is, or its opcode is undefined. -/
def State.malformed (s : State) (v : Vtx) (bad : Bool) : Bool := bad || (s.v v).undefinedOp

/-- The causes that do not depend on what the instruction does. -/
def State.commonCause (s : State) (v : Vtx) (m : IMeta) (bad : Bool) : Option (TrapCause × Nat × Nat) :=
  let x := s.v v
  lowerCause (if x.fetchBad m.words then some (.ecc, 0, x.fetchAt (x.mem.bad .code)) else none)
    (lowerCause
      (if !s.debugging v && decide (s.budget x < x.countAfter m) then some (.budget, 0, 0) else none)
      (lowerCause (if s.malformed v bad then some (.opcode, 0, 0) else none)
        (if x.fetchOut m.words then some (.access, 0, x.fetchAt (fun a => !inCode a)) else none)))

/-- The cause that the instruction traps with, with its user code and address, if any. A malformed word does not
execute, so it meets no cause of its own operation. -/
def State.causeOf (s : State) (v : Vtx) (m : IMeta) (bad : Bool) (r : IRes) : Option (TrapCause × Nat × Nat) :=
  lowerCause (s.commonCause v m bad)
    (match r with
     | .trap c u a => if s.malformed v bad then none else some (c, u, a)
     | .done _ _ _ => none)

/-- A read of the 8-byte word at `a`: a correctable error is written back and counted (R22). -/
def Vertex.touch (x : Vertex) (r : Region) (a : Nat) : Vertex :=
  if x.mem.soft r a then
    { x with mem := x.mem.correct r a, loc := { x.loc with eccOwn := satInc 16 x.loc.eccOwn } }
  else x

/-- Correctable errors that the fetch meets are written back and counted (R22). -/
def Vertex.fetchCorrect (x : Vertex) (words : Nat) : Vertex :=
  let pc := x.core.pc.toNat
  if words = 2 then (x.touch .code pc).touch .code (pc + 4) else x.touch .code pc

/-- Retirement (R121): PC, budget count, retired count, and what the next instruction needs to pair with it. -/
def Vertex.retire (x0 x : Vertex) (m : IMeta) (npc : Option Word) (undo : List Host.Cell) : Vertex :=
  let paired := (x0.pairsWith m).isSome
  let pc := npc.getD (x0.core.pc + BitVec.ofNat 32 (4 * m.words))
  { x with
    core := { x.core with pc := pc, count := x0.countAfter m, retired := x.core.retired + 1 },
    last := if m.cls.first && !paired && npc.isNone && m.words == 1
            then some ⟨x0.core.pc, m.cls, m.cyc, m.rw, m.fw, x0.core, undo⟩ else none }

/-- The vertex as it was before the first of a pair: neither of the two retires (R110). -/
def Vertex.undoFirst (x : Vertex) (l : LastIssue) : Vertex :=
  { x with
    core := l.core, last := none,
    mem := { x.mem with inst := l.undo.foldl (fun a p => Memory.write a p.1 p.2) x.mem.inst } }

/-- The trap of an instruction. When the budget ends inside a pair, the first of the pair traps and neither retires
(R110). -/
def State.trapInstr (s : State) (v : Vtx) (m : IMeta) (c : TrapCause × Nat × Nat) : State :=
  let x := s.v v
  match c.1, x.pairsWith m with
  | .budget, some l => (s.setV v (x.undoFirst l)).raiseTrap v .budget 0 0 l.addr (s.budget x + 1)
  | .budget, none => s.raiseTrap v .budget 0 0 x.core.pc (s.budget x + 1)
  | k, _ => s.raiseTrap v k c.2.1 c.2.2 x.core.pc x.core.count

/-- An enabled instruction breakpoint names PC (Table 7.10). -/
def Vertex.atBreak (x : Vertex) : Bool :=
  !x.dbg.fresh && x.dbg.ibp.any (fun w => w.getLsbD 0 && w &&& 0xFFFFFFFC#32 == x.core.pc &&& 0xFFFFFFFC#32)

/-- The address that a record stored into: an alias write stores into the word on which it acts. -/
def SigRec.storedAt : SigRec → Option Nat
  | .store _ a _ => some a
  | .bitSet a _ => some (aliasWord a)
  | .bitClear a _ => some (aliasWord a)
  | _ => none

/-- A data breakpoint names an 8-byte word that one of the new records stored into. -/
def Vertex.dataBreak (x : Vertex) (n : Nat) : Bool :=
  ((x.core.stream.take (x.core.stream.length - n)).filterMap SigRec.storedAt).any (fun a =>
    x.dbg.dbp.any (fun w => w.getLsbD 0 && w.toNat / 8 == a / 8))

/-- After a retired instruction of a debug furlong: halt on a data breakpoint or after a single step. -/
def Vertex.debugAfter (x : Vertex) (n : Nat) : Vertex :=
  if x.dataBreak n then { x with dbg := { x.dbg with halted := true, why := 3, fresh := false } }
  else if x.dbg.single then { x with dbg := { x.dbg with halted := true, why := 1, fresh := false, single := false } }
  else { x with dbg := { x.dbg with fresh := false } }

/-- One instruction of vertex `v`. `bad`: the word breaks R114. `body` says what the instruction does. `post` is what
follows its retirement in the module. A vertex that executes no task takes no instruction. -/
def State.instr (s0 : State) (v : Vtx) (m : Vertex → IMeta) (bad : Bool) (body : Vertex → IRes)
    (post : State → State) : State :=
  if !s0.executing v then s0
  else
    let s := s0.closeFull v
    let x := s.v v
    let dbg := s.debugging v
    if dbg && x.atBreak then
      s.modV v (fun x => { x with dbg := { x.dbg with halted := true, why := 2 } })
    else
      let k := m x
      let r := body (x.fetchCorrect k.words)
      match s.causeOf v k bad r, r with
      | some c, _ => s.trapInstr v k c
      | none, .trap c u a => s.trapInstr v k (c, u, a)
      | none, .done y npc undo =>
        let z := x.retire y k npc undo
        post (s.setV v (if dbg then z.debugAfter x.core.stream.length else z))

/-- An instruction with nothing to follow. -/
def State.run (s : State) (v : Vtx) (m : Vertex → IMeta) (bad : Bool) (body : Vertex → IRes) : State :=
  s.instr v m bad body id

/-- The meaning of a command that always ends in a next state. -/
def ok (s : State) : Host.Outcome State Fault Refusal := .next s

end Sys2Proof.Machine
end

