-- ==== Sys2Proof/Machine/Operands.lean ====
section
/-! DEFINITION. Operands: the general registers, register pairs, immediates and conditions (R84, R85, R113, R115,
R132). -/

namespace Sys2Proof.Machine

/-- Register `r`, in plain form. -/
def Core.reg (c : Core) (r : BitVec 4) : Word := c.w[r.toNat]'(r.isLt)

/-- Register `r` replaced. -/
def Core.setReg (c : Core) (r : BitVec 4) (x : Word) : Core := { c with w := c.w.set r.toNat x r.isLt }

/-- Register `r` of a vertex. -/
def Vertex.reg (x : Vertex) (r : BitVec 4) : Word := x.core.reg r

/-- A register write of an instruction, with its record (R206). -/
def Vertex.setReg (x : Vertex) (r : BitVec 4) (val : Word) : Vertex :=
  { x with core := x.core.setReg r val }.feed (.reg r.toNat val)

/-- A register write whose record is that of a load from a vertex-local register (R215). -/
def Vertex.setRegLocal (x : Vertex) (r : BitVec 4) (val : Word) : Vertex :=
  { x with core := x.core.setReg r val }.feed (.loadLocal r.toNat)

/-- The register after an even one. -/
def succReg (r : BitVec 4) : BitVec 4 := r + 1

/-- An odd register, which no 64-bit operand names (R85). -/
def oddReg (r : BitVec 4) : Bool := r.getLsbD 0

/-- A 64-bit operand: the even register holds bits [31:0] (R85). -/
def Vertex.pair (x : Vertex) (r : BitVec 4) : Long := x.reg (succReg r) ++ x.reg r

/-- A 64-bit register result: two records, the even register first (R208). -/
def Vertex.setPair (x : Vertex) (r : BitVec 4) (val : Long) : Vertex :=
  (x.setReg r (val.extractLsb' 0 32)).setReg (succReg r) (val.extractLsb' 32 32)

/-- The flags replaced. -/
def Vertex.setFlags (x : Vertex) (f : Flags) : Vertex := { x with core := { x.core with fl := f } }

/-- An immediate, zero-extended. -/
def immZ (i : BitVec 16) : Word := i.zeroExtend 32

/-- An immediate, sign-extended. -/
def immS (i : BitVec 16) : Word := i.signExtend 32

/-- A condition holds (Table 4.10). -/
def condHolds (cond : BitVec 4) (f : Flags) : Bool :=
  match cond.toNat with
  | 0 => true
  | 1 => f.z
  | 2 => !f.z
  | 3 => f.n != f.v
  | 4 => f.n == f.v
  | 5 => f.z || f.n != f.v
  | 6 => !f.z && f.n == f.v
  | 7 => !f.c
  | 8 => f.c
  | 9 => !f.c || f.z
  | 10 => f.c && !f.z
  | 11 => f.n
  | 12 => !f.n
  | 13 => f.v
  | 14 => f.s
  | _ => !f.s

/-! Flag masks, in the order of TCW. -/

def fZ : BitVec 5 := 1
def fN : BitVec 5 := 2
def fC : BitVec 5 := 4
def fV : BitVec 5 := 8
def fS : BitVec 5 := 16
def fZN : BitVec 5 := 3
def fZNC : BitVec 5 := 7
def fZNCV : BitVec 5 := 15

/-- The flags that a condition reads. -/
def condFlags (cond : BitVec 4) : BitVec 5 :=
  match cond.toNat with
  | 0 => 0
  | 1 => fZ
  | 2 => fZ
  | 3 => fN ||| fV
  | 4 => fN ||| fV
  | 5 => fZ ||| fN ||| fV
  | 6 => fZ ||| fN ||| fV
  | 7 => fC
  | 8 => fC
  | 9 => fC ||| fZ
  | 10 => fC ||| fZ
  | 11 => fN
  | 12 => fN
  | 13 => fV
  | 14 => fS
  | _ => fS

/-- A register-only instruction of class A with one result. -/
def metaA (rr rw : BitVec 16) (fr fw : BitVec 5) (cyc : Nat) : IMeta :=
  { cls := .A, cyc := cyc, rr := rr, rw := rw, fr := fr, fw := fw }

/-- An instruction of class U. -/
def metaU (cyc : Nat) : IMeta := { cls := .U, cyc := cyc }

end Sys2Proof.Machine
end

