-- ==== Sys2Proof/Machine/Flags.lean ====
section
/-! DEFINITION. Results and flags: saturating arithmetic (R127 to R129), logic, shifts and bit fields (R130),
compares (R133), and the SBOOL codes (R90, R91, R131). -/

namespace Sys2Proof.Machine

/-- A result with the flags it leaves. -/
structure Alu where
  val : Word
  fl : Flags

/-- A 64-bit result with the flags it leaves. -/
structure Alu64 where
  val : Long
  fl : Flags

/-! ### Saturating arithmetic -/

/-- The operand size of MOD[11:10] in bits; 2#11 is reserved (R127). -/
def sizeOf (mod : BitVec 12) : Option Nat :=
  match field mod.toNat 10 2 with
  | 0 => some 32
  | 1 => some 16
  | 2 => some 8
  | _ => none

/-- A malformed MOD of the sized group: a reserved size or a bit outside SZ (R114, R127). -/
def badSize (mod : BitVec 12) : Bool := (sizeOf mod).isNone || field mod.toNat 0 10 != 0

/-- The size, 32 bits for a malformed word (which never executes). -/
def sizeBits (mod : BitVec 12) : Nat := (sizeOf mod).getD 32

/-- The low `n` bits as unsigned. -/
def unsignedOf (n : Nat) (x : Word) : Nat := x.toNat % 2 ^ n

/-- The low `n` bits as signed. -/
def signedOf (n : Nat) (x : Word) : Int :=
  let u := x.toNat % 2 ^ n
  if u < 2 ^ (n - 1) then u else (u : Int) - 2 ^ n

/-- The range of an `n`-bit type. -/
def minOf (signed : Bool) (n : Nat) : Int := if signed then -(2 ^ (n - 1)) else 0

/-- The upper end of the range. -/
def maxOf (signed : Bool) (n : Nat) : Int := if signed then 2 ^ (n - 1) - 1 else 2 ^ n - 1

/-- The exact result limited to the range. -/
def limit (signed : Bool) (n : Nat) (r : Int) : Int := max (minOf signed n) (min r (maxOf signed n))

/-- Result and flags of the sized group (R127, R128): limited, written extended, Z and N of the result at its size,
V when it was limited. -/
def sized (f : Flags) (signed : Bool) (n : Nat) (exact : Int) (c : Bool) : Alu :=
  let r := limit signed n exact
  { val := BitVec.ofInt 32 r,
    fl := { f with z := r == 0, n := testB (r % 2 ^ n).toNat (n - 1), c := c, v := r != exact } }

/-- Carry out of the unsigned addition at the size. -/
def carryAdd (n : Nat) (a b : Word) : Bool := decide (2 ^ n ≤ unsignedOf n a + unsignedOf n b)

/-- No borrow out of the unsigned subtraction at the size. -/
def noBorrow (n : Nat) (a b : Word) : Bool := decide (unsignedOf n b ≤ unsignedOf n a)

/-- An operand of the size as an integer. -/
def operand (signed : Bool) (n : Nat) (x : Word) : Int :=
  if signed then signedOf n x else (unsignedOf n x : Int)

/-- Addition. -/
def addAlu (f : Flags) (signed : Bool) (n : Nat) (a b : Word) : Alu :=
  sized f signed n (operand signed n a + operand signed n b) (carryAdd n a b)

/-- Subtraction. -/
def subAlu (f : Flags) (signed : Bool) (n : Nat) (a b : Word) : Alu :=
  sized f signed n (operand signed n a - operand signed n b) (noBorrow n a b)

/-- Multiplication. -/
def mulAlu (f : Flags) (signed : Bool) (n : Nat) (a b : Word) : Alu :=
  sized f signed n (operand signed n a * operand signed n b) false

/-- Division, rounded toward zero (R129). -/
def divAlu (f : Flags) (signed : Bool) (n : Nat) (a b : Word) : Alu :=
  sized f signed n ((operand signed n a).tdiv (operand signed n b)) false

/-- Remainder with the sign of the dividend; V is 0 (R129). -/
def remAlu (f : Flags) (signed : Bool) (n : Nat) (a b : Word) : Alu :=
  sized f signed n ((operand signed n a).tmod (operand signed n b)) false

/-- Negation. -/
def negAlu (f : Flags) (n : Nat) (a : Word) : Alu := sized f true n (-(signedOf n a)) false

/-- Absolute value. -/
def absAlu (f : Flags) (n : Nat) (a : Word) : Alu :=
  sized f true n (if signedOf n a < 0 then -(signedOf n a) else signedOf n a) false

/-- A 64-bit signed result, limited. -/
def sized64 (f : Flags) (exact : Int) (c : Bool) : Alu64 :=
  let r := limit true 64 exact
  { val := BitVec.ofInt 64 r,
    fl := { f with z := r == 0, n := decide (r < 0), c := c, v := r != exact } }

/-- 64-bit addition. -/
def addAlu64 (f : Flags) (a b : Long) : Alu64 :=
  sized64 f (a.toInt + b.toInt) (decide (2 ^ 64 ≤ a.toNat + b.toNat))

/-- 64-bit subtraction. -/
def subAlu64 (f : Flags) (a b : Long) : Alu64 :=
  sized64 f (a.toInt - b.toInt) (decide (b.toNat ≤ a.toNat))

/-! ### Logic and shifts (R130) -/

/-- Z and N of a 32-bit result. -/
def znFlags (f : Flags) (r : Word) : Flags := { f with z := r == 0, n := r.msb }

/-- A logic result. -/
def logicAlu (f : Flags) (r : Word) : Alu := { val := r, fl := znFlags f r }

/-- A shift result with its carry. -/
def shiftAlu (f : Flags) (r : Word) (c : Bool) : Alu := { val := r, fl := { znFlags f r with c := c } }

/-- SHL: the last bit shifted out is bit 32 − n. -/
def shlAlu (f : Flags) (a : Word) (n : Nat) : Alu :=
  if n = 0 then shiftAlu f a false
  else if n ≤ 32 then shiftAlu f (a <<< n) (a.getLsbD (32 - n))
  else shiftAlu f 0 false

/-- SHR: the last bit shifted out is bit n − 1. -/
def shrAlu (f : Flags) (a : Word) (n : Nat) : Alu :=
  if n = 0 then shiftAlu f a false
  else if n ≤ 32 then shiftAlu f (a >>> n) (a.getLsbD (n - 1))
  else shiftAlu f 0 false

/-- SAR: for counts of 32 or more every bit equals bit 31; C is bit 31 for counts above 32. -/
def sarAlu (f : Flags) (a : Word) (n : Nat) : Alu :=
  if n = 0 then shiftAlu f a false
  else if n ≤ 32 then shiftAlu f (a.sshiftRight n) (a.getLsbD (n - 1))
  else shiftAlu f (a.sshiftRight 32) a.msb

/-- ROR: the count modulo 32; C is bit 31 of the result, or 0 for a multiple of 32. -/
def rorAlu (f : Flags) (a : Word) (n : Nat) : Alu :=
  let r := a.rotateRight (n % 32)
  shiftAlu f r (if n % 32 = 0 then false else r.msb)

/-- A mask of `len` bits at `pos`. -/
def maskAt (pos len : Nat) : Word := w32 ((2 ^ len - 1) * 2 ^ pos)

/-! ### Compares (R133) -/

/-- The flags of a 32-bit difference without saturation. -/
def cmpFlags (f : Flags) (a b : Word) : Flags :=
  let d := a - b
  { f with z := d == 0, n := d.msb, c := decide (b.toNat ≤ a.toNat), v := decide (d.toInt ≠ a.toInt - b.toInt) }

/-- The flags of a 64-bit difference without saturation. -/
def cmpFlags64 (f : Flags) (a b : Long) : Flags :=
  let d := a - b
  { f with z := d == 0, n := d.msb, c := decide (b.toNat ≤ a.toNat), v := decide (d.toInt ≠ a.toInt - b.toInt) }

/-! ### SBOOL (R90, R91, R131) -/

/-- FALSE in register form. -/
def sFalse : Word := 1

/-- TRUE in register form. -/
def sTrue : Word := 2

/-- A two-bit code is valid. -/
def validCode (c : Nat) : Bool := c == 1 || c == 2

/-- An operand in register form is valid: a valid code and no other bit. -/
def sValid (w : Word) : Bool := w == sFalse || w == sTrue

/-- The register form of a truth value. -/
def sOf (b : Bool) : Word := if b then sTrue else sFalse

/-- Position `j` of a packed word. -/
def packed (w : Word) (j : Nat) : Nat := field w.toNat (2 * j) 2

/-- All 16 positions are valid. -/
def sValid16 (w : Word) : Bool := (List.range 16).all (fun j => validCode (packed w j))

/-- 16 results, position by position. -/
def sMap16 (op : Bool → Bool → Bool) (a b : Word) : Word :=
  w32 (((List.range 16).map (fun j =>
    (if op (packed a j == 2) (packed b j == 2) then 2 else 1) * 4 ^ j)).foldl (· + ·) 0)

/-- Z replaced. -/
def setZ (f : Flags) (z : Bool) : Flags := { f with z := z }

end Sys2Proof.Machine
end

