-- ==== Sys2Proof/Machine/Moves.lean ====
section
/-! DEFINITION. Moves and system instructions (Table 4.5), TRAP and EVT (R142, R143), and the runners that the register families share. -/

namespace Sys2Proof.Machine

/-- An instruction that writes one register and no flag. -/
def State.runReg (s : State) (v : Vtx) (m : IMeta) (bad : Bool) (d : BitVec 4) (val : Vertex → Word) : State :=
  s.run v (fun _ => m) bad (fun x => .done (x.setReg d (val x)) none [])

/-- An instruction that writes one register and flags. -/
def State.runAlu (s : State) (v : Vtx) (m : IMeta) (bad : Bool) (d : BitVec 4) (f : Vertex → Alu) : State :=
  s.run v (fun _ => m) bad (fun x => .done ((x.setReg d (f x).val).setFlags (f x).fl) none [])

/-- An instruction that writes a register pair and flags. -/
def State.runAlu64 (s : State) (v : Vtx) (m : IMeta) (bad : Bool) (d : BitVec 4) (f : Vertex → Alu64) : State :=
  s.run v (fun _ => m) bad (fun x => .done ((x.setPair d (f x).val).setFlags (f x).fl) none [])

/-- An instruction that writes flags alone. -/
def State.runFlags (s : State) (v : Vtx) (m : IMeta) (bad : Bool) (f : Vertex → Flags) : State :=
  s.run v (fun _ => m) bad (fun x => .done (x.setFlags (f x)) none [])

/-- NOP. -/
def execNop (v : Vtx) (f : FmtN) (s : State) : Host.Outcome State Fault Refusal :=
  ok (s.run v (fun _ => metaU 1) (f.z != 0 || f.code != 0) (fun x => .done x none []))

/-- TRAP #code (R142): a code of 0 is malformed. -/
def execTrap (v : Vtx) (f : FmtN) (s : State) : Host.Outcome State Fault Refusal :=
  ok (s.run v (fun _ => metaU 1) (f.z != 0 || f.code == 0) (fun _ => .trap .trap f.code.toNat 0))

/-- The event buffer takes 32 entries per furlong; a further EVT is dropped and counted for its task (R157). -/
def Vertex.addEvent (x : Vertex) (e : Event) : Vertex :=
  if x.events.length < 32 then { x with events := x.events ++ [e] }
  else { x with evDrop := modNth x.evDrop e.task (· + 1), loc := { x.loc with edrop := satInc 16 x.loc.edrop } }

/-- EVT Wa, Wb, #ev (R143): the first register stands in bits [23:20]. -/
def execEvt (v : Vtx) (f : FmtI) (s : State) : Host.Outcome State Fault Refusal :=
  ok (s.run v (fun _ => metaU 6) false
    (fun x => .done (x.addEvent ⟨f.imm, x.core.task, x.core.pc, x.reg f.d, x.reg f.a⟩) none []))

/-- RDTCW. -/
def execRdtcw (v : Vtx) (f : FmtR) (s : State) : Host.Outcome State Fault Refusal :=
  ok (s.runReg v (metaU 1) (f.a != 0 || f.b != 0 || f.mod != 0) f.d (fun x => w32 x.core.tcw))

/-- The flags of a word's bits [4:0]. -/
def flagsOf (w : Word) : Flags :=
  ⟨w.getLsbD 0, w.getLsbD 1, w.getLsbD 2, w.getLsbD 3, w.getLsbD 4⟩

/-- WRTCW: writes TCW[4:0] alone (R89). -/
def execWrtcw (v : Vtx) (f : FmtR) (s : State) : Host.Outcome State Fault Refusal :=
  ok (s.runFlags v (metaU 1) (f.d != 0 || f.b != 0 || f.mod != 0) (fun x => flagsOf (x.reg f.a)))

/-- MOV. -/
def execMov (v : Vtx) (f : FmtR) (s : State) : Host.Outcome State Fault Refusal :=
  ok (s.runReg v (metaA (rbit f.a) (rbit f.d) 0 0 1) (f.b != 0 || f.mod != 0) f.d (fun x => x.reg f.a))

/-- MOVI. -/
def execMovi (v : Vtx) (f : FmtI) (s : State) : Host.Outcome State Fault Refusal :=
  ok (s.runReg v (metaA 0 (rbit f.d) 0 0 1) (f.a != 0) f.d (fun _ => immZ f.imm))

/-- MOVIS. -/
def execMovis (v : Vtx) (f : FmtI) (s : State) : Host.Outcome State Fault Refusal :=
  ok (s.runReg v (metaA 0 (rbit f.d) 0 0 1) (f.a != 0) f.d (fun _ => immS f.imm))

/-- MOVHI reads its Wd (R118). -/
def execMovhi (v : Vtx) (f : FmtI) (s : State) : Host.Outcome State Fault Refusal :=
  ok (s.runReg v (metaA (rbit f.d) (rbit f.d) 0 0 1) (f.a != 0) f.d
    (fun x => f.imm ++ (x.reg f.d).extractLsb' 0 16))

/-- MOVX occupies two words. -/
def execMovx (v : Vtx) (f : FmtX) (s : State) : Host.Outcome State Fault Refusal :=
  ok (s.runReg v { cls := .U, cyc := 2, words := 2 } (f.z != 0) f.d (fun _ => f.imm))

/-- SEL: MOD[11:8] is the condition. -/
def execSel (v : Vtx) (f : FmtR) (s : State) : Host.Outcome State Fault Refusal :=
  let cond := f.mod.extractLsb' 8 4
  ok (s.runReg v (metaA (rbit f.a ||| rbit f.b) (rbit f.d) (condFlags cond) 0 1) (f.mod.extractLsb' 0 8 != 0) f.d
    (fun x => if condHolds cond x.core.fl then x.reg f.a else x.reg f.b))

end Sys2Proof.Machine
end

