-- ==== Sys2Proof/Machine/Arith.lean ====
section
/-! DEFINITION. Saturating arithmetic (Table 4.7). -/

namespace Sys2Proof.Machine

/-- The issue data of a sized instruction with two operands. -/
def metaArith (f : FmtR) (cls : IClass) (cyc : Nat) : IMeta :=
  { cls := cls, cyc := cyc, rr := rbit f.a ||| rbit f.b, rw := rbit f.d, fw := fZNCV }

/-- ADDS. -/
def execAdds (v : Vtx) (f : FmtR) (s : State) : Host.Outcome State Fault Refusal :=
  ok (s.runAlu v (metaArith f .A 1) (badSize f.mod) f.d
    (fun x => addAlu x.core.fl true (sizeBits f.mod) (x.reg f.a) (x.reg f.b)))

/-- ADDU. -/
def execAddu (v : Vtx) (f : FmtR) (s : State) : Host.Outcome State Fault Refusal :=
  ok (s.runAlu v (metaArith f .A 1) (badSize f.mod) f.d
    (fun x => addAlu x.core.fl false (sizeBits f.mod) (x.reg f.a) (x.reg f.b)))

/-- SUBS. -/
def execSubs (v : Vtx) (f : FmtR) (s : State) : Host.Outcome State Fault Refusal :=
  ok (s.runAlu v (metaArith f .A 1) (badSize f.mod) f.d
    (fun x => subAlu x.core.fl true (sizeBits f.mod) (x.reg f.a) (x.reg f.b)))

/-- SUBU. -/
def execSubu (v : Vtx) (f : FmtR) (s : State) : Host.Outcome State Fault Refusal :=
  ok (s.runAlu v (metaArith f .A 1) (badSize f.mod) f.d
    (fun x => subAlu x.core.fl false (sizeBits f.mod) (x.reg f.a) (x.reg f.b)))

/-- MULS. -/
def execMuls (v : Vtx) (f : FmtR) (s : State) : Host.Outcome State Fault Refusal :=
  ok (s.runAlu v (metaArith f .U 3) (badSize f.mod) f.d
    (fun x => mulAlu x.core.fl true (sizeBits f.mod) (x.reg f.a) (x.reg f.b)))

/-- MULU. -/
def execMulu (v : Vtx) (f : FmtR) (s : State) : Host.Outcome State Fault Refusal :=
  ok (s.runAlu v (metaArith f .U 3) (badSize f.mod) f.d
    (fun x => mulAlu x.core.fl false (sizeBits f.mod) (x.reg f.a) (x.reg f.b)))

/-- DIVS: a divisor of 0 at the size traps with DIVZERO (R129). -/
def execDivs (v : Vtx) (f : FmtR) (s : State) : Host.Outcome State Fault Refusal :=
  ok (s.run v (fun _ => metaArith f .U 34) (badSize f.mod)
    (fun x =>
      if unsignedOf (sizeBits f.mod) (x.reg f.b) = 0 then .trap .divzero 0 0
      else
        let r := divAlu x.core.fl true (sizeBits f.mod) (x.reg f.a) (x.reg f.b)
        .done ((x.setReg f.d r.val).setFlags r.fl) none []))

/-- DIVU: a divisor of 0 at the size traps with DIVZERO (R129). -/
def execDivu (v : Vtx) (f : FmtR) (s : State) : Host.Outcome State Fault Refusal :=
  ok (s.run v (fun _ => metaArith f .U 34) (badSize f.mod)
    (fun x =>
      if unsignedOf (sizeBits f.mod) (x.reg f.b) = 0 then .trap .divzero 0 0
      else
        let r := divAlu x.core.fl false (sizeBits f.mod) (x.reg f.a) (x.reg f.b)
        .done ((x.setReg f.d r.val).setFlags r.fl) none []))

/-- REMS: a divisor of 0 at the size traps with DIVZERO (R129). -/
def execRems (v : Vtx) (f : FmtR) (s : State) : Host.Outcome State Fault Refusal :=
  ok (s.run v (fun _ => metaArith f .U 34) (badSize f.mod)
    (fun x =>
      if unsignedOf (sizeBits f.mod) (x.reg f.b) = 0 then .trap .divzero 0 0
      else
        let r := remAlu x.core.fl true (sizeBits f.mod) (x.reg f.a) (x.reg f.b)
        .done ((x.setReg f.d r.val).setFlags r.fl) none []))

/-- REMU: a divisor of 0 at the size traps with DIVZERO (R129). -/
def execRemu (v : Vtx) (f : FmtR) (s : State) : Host.Outcome State Fault Refusal :=
  ok (s.run v (fun _ => metaArith f .U 34) (badSize f.mod)
    (fun x =>
      if unsignedOf (sizeBits f.mod) (x.reg f.b) = 0 then .trap .divzero 0 0
      else
        let r := remAlu x.core.fl false (sizeBits f.mod) (x.reg f.a) (x.reg f.b)
        .done ((x.setReg f.d r.val).setFlags r.fl) none []))

/-- NEGS: uses Wa only. -/
def execNegs (v : Vtx) (f : FmtR) (s : State) : Host.Outcome State Fault Refusal :=
  ok (s.runAlu v (metaA (rbit f.a) (rbit f.d) 0 fZNCV 1) (badSize f.mod || f.b != 0) f.d
    (fun x => negAlu x.core.fl (sizeBits f.mod) (x.reg f.a)))

/-- ABSS: uses Wa only. -/
def execAbss (v : Vtx) (f : FmtR) (s : State) : Host.Outcome State Fault Refusal :=
  ok (s.runAlu v (metaA (rbit f.a) (rbit f.d) 0 fZNCV 1) (badSize f.mod || f.b != 0) f.d
    (fun x => absAlu x.core.fl (sizeBits f.mod) (x.reg f.a)))

/-- ADDL: 64-bit signed pairs; an odd register is malformed (R85). -/
def execAddl (v : Vtx) (f : FmtR) (s : State) : Host.Outcome State Fault Refusal :=
  ok (s.runAlu64 v (metaU 2) (f.mod != 0 || oddReg f.d || oddReg f.a || oddReg f.b) f.d
    (fun x => addAlu64 x.core.fl (x.pair f.a) (x.pair f.b)))

/-- SUBL: 64-bit signed pairs; an odd register is malformed (R85). -/
def execSubl (v : Vtx) (f : FmtR) (s : State) : Host.Outcome State Fault Refusal :=
  ok (s.runAlu64 v (metaU 2) (f.mod != 0 || oddReg f.d || oddReg f.a || oddReg f.b) f.d
    (fun x => subAlu64 x.core.fl (x.pair f.a) (x.pair f.b)))

/-- ADDSI: a 32-bit signed addition of the sign-extended immediate. -/
def execAddsi (v : Vtx) (f : FmtI) (s : State) : Host.Outcome State Fault Refusal :=
  ok (s.runAlu v (metaA (rbit f.a) (rbit f.d) 0 fZNCV 1) false f.d
    (fun x => addAlu x.core.fl true 32 (x.reg f.a) (immS f.imm)))

end Sys2Proof.Machine
end

