-- ==== Sys2Proof/Machine/SioIn.lean ====
section
/-! DEFINITION. Local inputs: classes, ticks, discrepancy, latches, two-hand functions and test pulses (R306 to
R318). -/

namespace Sys2Proof.Machine

/-! ### Names -/

/-- NT clocks of a number of microseconds. -/
def usClocks (n : Nat) : Nat := 125 * n

/-- Class codes (Table 10.2). -/
def cInter : Nat := 0
def cBreak : Nat := 1
def cOpen : Nat := 2
def cClosed : Nat := 3

/-- The class of a sample in units of 10 µA (Table 10.2). -/
def classOf (cur : Nat) : Nat :=
  if cur < 20 then cBreak else if cur < 40 then cInter else if cur ≤ 100 then cOpen else if cur < 200 then cInter
  else cClosed

/-- The class that five consecutive samples show (R307). -/
def classRun : List Nat → Option Nat
  | [a, b, c, d, e] => if [b, c, d, e].all (fun x => classOf x == classOf a) then some (classOf a) else none
  | _ => none

/-- Parameters of pair `p`. -/
def Sio.cfg (x : Sio) (p : Nat) : PairCfg := x.params.pairs.getD p ⟨0, 0, 0, 0, 0⟩

/-- Input `i`. -/
def Sio.input (x : Sio) (i : Nat) : InputSt :=
  x.inputs.getD i ⟨cInter, none, 0, ⟨false, 0, 0⟩, ⟨false, 0, 0⟩, ⟨false, 0, 0⟩, []⟩

/-- Pair `p`. -/
def Sio.pair (x : Sio) (p : Nat) : PairSt := x.pairs.getD p ⟨0, false, .block, false⟩

/-- FUNC of the pair of input `i`. -/
def Sio.func (x : Sio) (i : Nat) : Nat := (x.cfg (i / 2)).func

/-- The input is used in contact mode (R308). -/
def Sio.contact (x : Sio) (i : Nat) : Bool := x.func i == 1 || x.func i == 2 || x.func i == 3

/-- The TP that feeds input `i`. -/
def Sio.feed (x : Sio) (i : Nat) : Nat := if i % 2 = 0 then (x.cfg (i / 2)).tpa else (x.cfg (i / 2)).tpb

/-- The permissive class of a channel (Table 10.3). -/
def permClass (func i : Nat) : Nat :=
  match func with
  | 2 => if i % 2 = 0 then cClosed else cOpen
  | 3 => if i % 2 = 0 then cClosed else cOpen
  | _ => cClosed

/-- The OSSD channel of input `i` is ON: CLOSED, or out of CLOSED for no longer than the tolerance (R313). `nt` is the
present NT clock. -/
def Sio.ossdOn (x : Sio) (nt i : Nat) : Bool :=
  (x.input i).cls == cClosed ||
    (match (x.input i).leftAt with
     | some t => decide (nt - t ≤ usClocks (10 * (x.cfg (i / 2)).osd))
     | none => false)

/-- The channel is permissive (R312 to R314). -/
def Sio.perm (x : Sio) (nt i : Nat) : Bool :=
  match x.func i with
  | 0 => false
  | 4 => x.ossdOn nt i
  | f => (x.input i).cls == permClass f i

/-- The channel shows its safe class (R312); an OSSD channel within its tolerance is still ON (R313). -/
def Sio.safe (x : Sio) (nt i : Nat) : Bool :=
  match x.func i with
  | 0 => false
  | 4 => !x.ossdOn nt i
  | f => (x.input i).cls == (if permClass f i = cClosed then cOpen else cClosed)

/-- Both channels of pair `p` are permissive. -/
def Sio.both (x : Sio) (nt p : Nat) : Bool := x.perm nt (2 * p) && x.perm nt (2 * p + 1)

/-- Both channels of pair `p` show their safe class. -/
def Sio.bothSafe (x : Sio) (nt p : Nat) : Bool := x.safe nt (2 * p) && x.safe nt (2 * p + 1)

/-- A latch of pair `p` or of its inputs is set. -/
def Sio.pairLatched (x : Sio) (p : Nat) : Bool :=
  (x.pair p).disc || (x.input (2 * p)).latched || (x.input (2 * p + 1)).latched

/-- The field supply is low (R318). -/
def State.supplyLow (s : State) : Bool :=
  match s.blk.sio.lastLow with
  | some t => decide (s.nt - t ≤ usClocks 100000)
  | none => false

/-- A pulse window of TP `k` is open (R311). -/
def State.inPulse (s : State) (k : Nat) : Bool :=
  match s.blk.sio.tps[k]? with
  | some t =>
    (match t.pulseAt with
     | some a => decide (s.nt - a ≤ usClocks 300)
     | none => false)
  | none => false

/-- Input `i` holds its classified state (R311, R379). -/
def State.inputHeld (s : State) (i : Nat) : Bool :=
  (s.blk.sio.contact i && s.inPulse (s.blk.sio.feed i)) || s.blk.bst.running.any (fun r => r.n == i)

/-! ### Classes -/

/-- A class that an input falls to when a pulse takes its current away. -/
def pulsedClass (c : Nat) : Bool := c == cBreak || c == cInter

/-- A change of input `i` from class `old` to class `new` that is dated now is captured (R300): in ACRE, with the samples aligned
to the rod boundaries, and not where a test pulse of the module causes it. A pulse takes the current of a contact-mode input
away and gives it back: such a change leads to WIRE_BREAK or INTERMEDIATE, or from it, with its first sample, 4 µs ago, in a
pulse window (notes/assumptions/42.md). -/
def State.captures (s : State) (i old new : Nat) : Bool :=
  s.profile == .acre && s.boundaries &&
    !(s.blk.sio.contact i && (pulsedClass new || pulsedClass old) && s.blk.sio.tps.any (fun t =>
      match t.pulseAt with
      | some a => decide (s.nt - a ≤ usClocks 304)
      | none => false))

/-- The change of input `i` from class `old` to class `new` is dated at the sample that first shows it, the first of the five, rounded
down to the microsecond (R300, Table 9.4). -/
def Sio.dateEdge (x : Sio) (time i old new : Nat) : Sio :=
  let e : EdgeEntry := { time := (time - 4000) / 1000 * 1000, input := i, newClass := new, oldClass := old, eseq := x.eseq,
                         ovf := false, current := [] }
  { x with edges := x.edges ++ [e], eseq := (x.eseq + 1) % 65536 }

/-- The classified state of input `i` changes. -/
def Sio.setClass (x : Sio) (nt i new : Nat) : Sio :=
  { x with
    inputs := modNth x.inputs i (fun y =>
      { y with cls := new, leftAt := if y.cls = cClosed then some nt else y.leftAt }) }

/-- CLASS_CHANGE: 5 consecutive samples, in units of 10 µA, show a new class (R307); in ACRE the change is dated (R300).
`before` is the four samples before the last, `cur` the last. -/
def execClassChange (dt : Nat) (input : Fin 32) (before : List Nat) (cur : Nat) (s0 : State) :
    Host.Outcome State Fault Refusal :=
  let s := s0.elapse dt
  let i := input.val
  let old := (s.blk.sio.input i).cls
  match classRun (before ++ [cur]) with
  | none => ok s
  | some new =>
    let r := if old == new then s else s.serviceRequest (fun n => n == i)
    if r.inputHeld i || old == new then ok r
    else ok (r.modSio (fun x =>
      let y := x.setClass r.nt i new
      if r.captures i old new then y.dateEdge r.time i old new else y))

/-! ### The tick (R314 to R317) -/

/-- A latch at a tick: its condition is present or absent (R316). -/
def InLatch.tick (l : InLatch) (present : Bool) : InLatch :=
  if present then { l with clean := 0, passes := 0 } else { l with clean := l.clean + 1 }

/-- An input at a tick: its run of fault classes and its latches (R309, R316). -/
def InputSt.tick (y : InputSt) (func : Nat) : InputSt :=
  let bad := y.cls == cInter || (y.cls == cBreak && func != 4)
  if func = 0 then y
  else
    { y with
      bad := if bad then y.bad + 1 else 0,
      brk := y.brk.tick (y.cls == cBreak), inter := y.inter.tick (y.cls == cInter),
      cross := y.cross.tick (y.xfail.any id) }

/-- The discrepancy counter of pair `p` (R315), and the clearing of its latch (R316). -/
def Sio.tickPair (x : Sio) (nt p : Nat) : Sio :=
  let y := x.pair p
  let n := if x.perm nt (2 * p) != x.perm nt (2 * p + 1) then y.count + 1 else 0
  if (x.cfg p).func = 0 then x
  else if y.disc && x.bothSafe nt p then { x with pairs := setNth x.pairs p { y with count := 0, disc := false } }
  else { x with pairs := setNth x.pairs p { y with count := n } }

/-- Pair `p` is the first pair of a two-hand function. -/
def Sio.handBase (x : Sio) (p : Nat) : Bool := p % 2 == 0 && (x.cfg p).func == 3

/-- Pair `p` belongs to a two-hand function. -/
def Sio.inHand (x : Sio) (p : Nat) : Bool := x.handBase (p / 2 * 2)

/-- The two-hand state after a tick (R317): actuated and released are given for the two buttons. -/
def TwoHand.tick (h : TwoHand) (latched a0 a1 r0 r1 : Bool) : TwoHand :=
  if latched then .block
  else
    match h with
    | .released => if a0 && a1 then .on else if a0 || a1 then .one (!a0) 0 else .released
    | .one second n =>
      let first := if second then a1 else a0
      let other := if second then a0 else a1
      if !first then (if r0 && r1 then .released else .block)
      else if other && decide (n + 1 ≤ 500) then .on
      else .one second (n + 1)
    | .on => if a0 && a1 then .on else .block
    | .block => if r0 && r1 then .released else .block

/-- The function output of pair `p` (R315, R317). -/
def Sio.tickOut (x : Sio) (nt p : Nat) : Sio :=
  let y := x.pair p
  if x.handBase p then
    let h := y.hand.tick (x.pairLatched p || x.pairLatched (p + 1)) (x.both nt p) (x.both nt (p + 1))
      (x.bothSafe nt p) (x.bothSafe nt (p + 1))
    { x with pairs := setNth x.pairs p { y with hand := h, out := h == .on } }
  else if x.inHand p then { x with pairs := setNth x.pairs p { y with out := false } }
  else
    { x with
      pairs := setNth x.pairs p { y with out := (x.cfg p).func != 0 && x.both nt p && !x.pairLatched p } }

/-- Everything of a tick but the records. -/
def Sio.tick (x : Sio) (nt : Nat) : Sio :=
  let a : Sio := { x with inputs := x.inputs.zipIdx.map (fun q => InputSt.tick q.1 (x.func q.2)) }
  let b := (List.range 16).foldl (fun z p => z.tickPair nt p) a
  let c := (List.range 16).foldl (fun z p => z.tickOut nt p) b
  { c.stick with snap := c.inputs.map InputSt.cls, snapOut := c.pairs.map PairSt.out, lastTick := some nt }

/-- The pairs whose DISCREPANCY latch clears at this tick. -/
def Sio.discClearing (x : Sio) (nt : Nat) : List Nat :=
  (List.range 16).filter (fun p => (x.cfg p).func != 0 && (x.pair p).disc && x.bothSafe nt p)

/-- While there is no rod framing, the chip ticks after 50 000 clocks of its own oscillator: 1 ms of NT clocks after the last
tick, but for the ±100 ppm to which its oscillator is held (R379). -/
def ownTick (d : Nat) : Bool := decide (124987 ≤ d) && decide (d ≤ 125013)

/-- The chip ticks now (R314): at a whole millisecond of network time, or, while there is no rod framing, by its own
oscillator. It ticks once at an instant. -/
def State.tickDue (s : State) : Bool :=
  match s.blk.sio.lastTick with
  | none => !s.boundaries || s.onGrid 1000000 0
  | some t => if s.boundaries then s.onGrid 1000000 0 && t != s.nt else ownTick (s.nt - t)

/-- The last tick was at this instant. -/
def State.atTick (s : State) : Bool := s.blk.sio.lastTick == some s.nt

/-- IO_TICK. A chip in SIO_FAIL evaluates nothing. -/
def execIoTick (dt : Nat) (s0 : State) : Host.Outcome State Fault Refusal :=
  let s := s0.elapse dt
  if s.blk.sio.fail || !s.tickDue then ok s
  else
    let t := (s.blk.sio.discClearing s.nt).foldl (fun u p => u.ioClear (p / 8) 0x01 p 0) s
    ok (t.modSio (fun x => x.tick s.nt))

/-- A latch of a pair of a two-hand function forces BLOCK (R317). -/
def Sio.forceBlock (x : Sio) (p : Nat) : Sio :=
  if x.inHand p then
    { x with pairs := modNth x.pairs (p / 2 * 2) (fun y => { y with hand := .block, out := false }) }
  else { x with pairs := modNth x.pairs p (fun y => { y with out := false }) }

/-- DISCREPANCY_LATCH: at this tick the counter has reached DT (R315). -/
def execDiscrepancyLatch (dt : Nat) (pair : Fin 16) (s0 : State) : Host.Outcome State Fault Refusal :=
  let s := s0.elapse dt
  let p := pair.val
  let x := s.blk.sio
  if s.atTick && !x.fail && (x.cfg p).func != 0 && (x.pair p).count == (x.cfg p).dt && !(x.pair p).disc && !s.supplyLow then
    ok ((s.ioFault (p / 8) 0x01 p (x.pair p).count).modSio (fun x =>
      (({ x with pairs := modNth x.pairs p (fun y => { y with disc := true }) } : Sio).forceBlock p).stick))
  else ok s

/-- A fresh latch of an input. -/
def InLatch.fresh : InLatch := ⟨true, 0, 0⟩

/-- INPUT_FAULT_LATCH: at this tick the input has been in WIRE_BREAK or INTERMEDIATE for 20 consecutive ticks or more (R309); a
fault that a low supply has held back latches at the first tick after it (R318). -/
def execInputFaultLatch (dt : Nat) (input : Fin 32) (cur : Nat) (s0 : State) : Host.Outcome State Fault Refusal :=
  let s := s0.elapse dt
  let i := input.val
  let x := s.blk.sio
  let y := x.input i
  if !s.atTick || x.fail || x.func i == 0 || decide (y.bad < 20) || s.supplyLow then ok s
  else if y.cls = cBreak ∧ x.contact i ∧ !y.brk.set then
    ok ((s.ioFault (i / 16) 0x02 i cur).modSio (fun x =>
      (({ x with inputs := modNth x.inputs i (fun y => { y with brk := .fresh }) } : Sio).forceBlock (i / 2)).stick))
  else if y.cls = cInter ∧ !y.inter.set then
    ok ((s.ioFault (i / 16) 0x03 i cur).modSio (fun x =>
      (({ x with inputs := modNth x.inputs i (fun y => { y with inter := .fresh }) } : Sio).forceBlock (i / 2)).stick))
  else ok s

/-- A latch of input `i` may clear (R316). -/
def Sio.mayClear (x : Sio) (nt i : Nat) (l : InLatch) : Bool :=
  !x.fail && x.lastTick == some nt && l.set && decide (1000 ≤ l.clean) && (x.func i == 4 || decide (2 ≤ l.passes)) &&
    x.bothSafe nt (i / 2)

/-- INPUT_LATCH_CLEAR (R316): at a tick, each latch of the input that may clear does, with its record. -/
def execInputLatchClear (dt : Nat) (input : Fin 32) (s0 : State) : Host.Outcome State Fault Refusal :=
  let s := s0.elapse dt
  let i := input.val
  let x := s.blk.sio
  let y := x.input i
  let b := x.mayClear s.nt i y.brk
  let n := x.mayClear s.nt i y.inter
  let c := x.mayClear s.nt i y.cross
  let s1 := if b then s.ioClear (i / 16) 0x02 i 0 else s
  let s2 := if n then s1.ioClear (i / 16) 0x03 i 0 else s1
  let s3 := if c then s2.ioClear (i / 16) 0x04 i 0 else s2
  ok (s3.modSio (fun x =>
    { x with
      inputs := modNth x.inputs i (fun y =>
        { y with
          brk := { y.brk with set := y.brk.set && !b }, inter := { y.inter with set := y.inter.set && !n },
          cross := { y.cross with set := y.cross.set && !c } }),
      pairs := if b || n || c then modNth x.pairs (i / 2) (fun q => { q with count := 0 }) else x.pairs }))

/-- TWOHAND_TIMEOUT: at this tick the synchronism count has reached 501 (R317). -/
def execTwohandTimeout (dt : Nat) (pair : Fin 16) (s0 : State) : Host.Outcome State Fault Refusal :=
  let s := s0.elapse dt
  let p := pair.val
  match (s.blk.sio.pair p).hand with
  | .one _ n =>
    if s.atTick ∧ s.blk.sio.fail = false ∧ s.blk.sio.handBase p ∧ 501 ≤ n then
      ok (s.modSio (fun x => { x with pairs := modNth x.pairs p (fun y => { y with hand := .block, out := false }) }))
    else ok s
  | _ => ok s

/-! ### Test pulses (R310, R311) -/

/-- A pulse of TP `k` is due (R310): at 2`k` ms + 0.25 ms of its 8 ms period of network time; while there is no rod
framing, 8 ms of NT clocks or more after its last pulse and outside the pulse windows of the others
(notes/assumptions/45.md). -/
def State.pulseDue (s : State) (k : Nat) : Bool :=
  if s.boundaries then s.onGrid 8000000 (2000000 * k + 250000)
  else
    (List.range 4).all (fun j => j == k || !s.inPulse j) &&
      (match (s.blk.sio.tps[k]?).bind TpSt.pulseAt with
       | some a => decide (usClocks 8000 ≤ s.nt - a)
       | none => true)

/-- A pulse starts at `nt`. A check that the pulse before did not make leaves no run of failures (R311). -/
def Sio.startPulse (x : Sio) (k nt : Nat) : Sio :=
  let made := match x.tps[k]? with
    | some t => t.checked
    | none => false
  { x with
    tps := modNth x.tps k (fun t => { t with pulseAt := some nt, checked := false }),
    inputs := if made then x.inputs else x.inputs.map (fun y => { y with xfail := setNth y.xfail k false }) }

/-- TP_PULSE_START: the TP is switched off for 200 µs, and its pulse window begins. -/
def execTpPulseStart (dt : Nat) (tp : Fin 4) (s0 : State) : Host.Outcome State Fault Refusal :=
  let s := s0.elapse dt
  match s.blk.sio.tps[tp.val]? with
  | none => ok s
  | some t =>
    if t.off || t.pulseAt == some s.nt || !s.pulseDue tp.val then ok s
    else ok ((s.serviceRequest (fun n => decide (n < 32) && s.blk.sio.feed n == tp.val)).modSio (fun x => x.startPulse tp.val s.nt))

/-- The check of input `i` at a pulse of TP `k` passes: the current is in units of 10 µA. -/
def Sio.pulsePass (x : Sio) (i k cur : Nat) : Bool := if x.feed i = k then decide (cur < 20) else decide (20 ≤ cur)

/-- The check applies to input `i`. -/
def Sio.pulseApplies (x : Sio) (i : Nat) : Bool :=
  x.contact i && ((x.input i).cls == cOpen || (x.input i).cls == cClosed)

/-- A check of an input at a pulse of TP `k`: a pass on its own TP counts for its latches. -/
def InputSt.checked (y : InputSt) (k : Nat) (own pass : Bool) : InputSt :=
  let up := fun (l : InLatch) => if own && pass then { l with passes := l.passes + 1 } else l
  { y with
    xfail := setNth y.xfail k (!pass), brk := up y.brk, inter := up y.inter,
    cross := if pass then up y.cross else { y.cross with clean := 0, passes := 0 } }

/-- The check of input `i`: a failure at two consecutive pulses of one TP latches CROSS_SHORT. A pulse at which the check does
not apply breaks the run. -/
def State.pulseInput (s : State) (k i cur : Nat) : State :=
  let x := s.blk.sio
  if !x.pulseApplies i then
    s.modSio (fun x => { x with inputs := modNth x.inputs i (fun y => { y with xfail := setNth y.xfail k false }) })
  else
    let pass := x.pulsePass i k cur
    let latch := !pass && (x.input i).xfail.getD k false && !(x.input i).cross.set && !s.supplyLow
    let t := if latch then s.ioFault (i / 16) 0x04 i cur else s
    t.modSio (fun x =>
      let y : Sio := { x with
                       inputs := modNth x.inputs i (fun y =>
                         let z := y.checked k (x.feed i == k) pass
                         if latch then { z with cross := .fresh } else z) }
      if latch then (y.forceBlock (i / 2)).stick else y)

/-- TP_PULSE_CHECK: the sample 150 µs into a pulse. -/
def execTpPulseCheck (dt : Nat) (tp : Fin 4) (currents : List Nat) (s0 : State) : Host.Outcome State Fault Refusal :=
  let s := s0.elapse dt
  match s.blk.sio.tps[tp.val]? with
  | none => ok s
  | some t =>
    match t.pulseAt with
    | none => ok s
    | some a =>
      if t.checked || decide (s.nt - a < usClocks 150) || decide (usClocks 151 ≤ s.nt - a) || s.blk.sio.fail then ok s
      else
        let u := (List.range 32).foldl (fun u i => u.pulseInput tp.val i (currents.getD i 0)) s
        ok (u.modSio (fun x => { x with tps := modNth x.tps tp.val (fun t => { t with checked := true }) }))

/-- TP_OVERLOAD: more than 150 mA for 1 ms. -/
def execTpOverload (dt : Nat) (tp : Fin 4) (cur us : Nat) (s0 : State) : Host.Outcome State Fault Refusal :=
  let s := s0.elapse dt
  let k := tp.val
  match s.blk.sio.tps[k]? with
  | none => ok s
  | some t =>
    if t.off || decide (cur ≤ 15000) || decide (us < 1000) then ok s
    else
      let u := if t.overload then s else s.ioFault (k / 2) 0x05 k cur
      ok (u.modSio (fun x =>
        ({ x with
          tps := modNth x.tps k (fun t =>
            { t with off := true, overload := true, restoreAt := none, pulseAt := none }) } : Sio).stick))

end Sys2Proof.Machine
end

