-- ==== Sys2Proof/Machine/SioOut.lean ====
section
/-! DEFINITION. Local outputs: tests, faults, the commit, the output watchdog and the field supply (R324 to R336,
R36). -/

namespace Sys2Proof.Machine

/-! ### Faults of an output (R325, R328) -/

/-- The QS fault kinds (Table 10.10). -/
inductive QsKind where
  | hsOn
  | lsOn
  | hsOff
  | lsOff
  | overcur
  | openLoad
  deriving DecidableEq, Repr

/-- The code of a kind. -/
def QsKind.code : QsKind → Nat
  | .hsOn => 0x08
  | .lsOn => 0x09
  | .hsOff => 0x0A
  | .lsOff => 0x0B
  | .overcur => 0x0C
  | .openLoad => 0x0D

/-- The kind is latched. -/
def QsFaults.has (f : QsFaults) : QsKind → Bool
  | .hsOn => f.hsOn
  | .lsOn => f.lsOn
  | .hsOff => f.hsOff
  | .lsOff => f.lsOff
  | .overcur => f.overcur
  | .openLoad => f.openLoad

/-- Latch a kind. -/
def QsFaults.latch (f : QsFaults) : QsKind → QsFaults
  | .hsOn => { f with hsOn := true }
  | .lsOn => { f with lsOn := true }
  | .hsOff => { f with hsOff := true }
  | .lsOff => { f with lsOff := true }
  | .overcur => { f with overcur := true }
  | .openLoad => { f with openLoad := true }

/-- No fault. -/
def QsFaults.none : QsFaults := ⟨false, false, false, false, false, false⟩

/-- The kinds in code order. -/
def QsKind.all : List QsKind := [.hsOn, .lsOn, .hsOff, .lsOff, .overcur, .openLoad]

/-- QS output `n`. -/
def Sio.out (x : Sio) (n : Nat) : QsSt := x.qs.getD n ⟨false, false, .none, .none, none⟩

/-- A fault found at a QS output is written as IO_FAULT and latched: both switches open (R325, R335, R337). -/
def State.qsFault (s : State) (n : Nat) (k : QsKind) (val : Nat) : State :=
  ((s.ioFault 2 k.code n val).modSio (fun x =>
    ({ x with qs := modNth x.qs n (fun q => { q with faults := q.faults.latch k }) } : Sio).stick)).drive

/-- A QS output latches a fault that is not latched yet. -/
def State.qsLatch (s : State) (n : Nat) (k : QsKind) (val : Nat) : State :=
  if (s.blk.sio.out n).faults.has k then s else s.qsFault n k val

/-- What a terminal voltage counts as, beside the field supply of that instant (R324). -/
def levelOf (supply v : Nat) : Level :=
  if 2 * supply < 3 * v then .high else if 3 * v < supply then .low else .mid

/-- QS_OVERCURRENT: more than 0.6 A for 100 µs. -/
def execQsOvercurrent (dt : Nat) (n : Fin 16) (cur us : Nat) (s0 : State) : Host.Outcome State Fault Refusal :=
  let s := s0.elapse dt
  if decide (60000 < cur) && decide (100 ≤ us) then ok (s.qsLatch n.val .overcur cur) else ok s

/-- IMIN of output `n`, in units of 10 µA. -/
def Sio.imin (x : Sio) (n : Nat) : Nat := 200 * x.params.imin.getD n 0

/-- QS_OPEN_LOAD: on, below IMIN for 10 ms. -/
def execQsOpenLoad (dt : Nat) (n : Fin 16) (cur us : Nat) (s0 : State) : Host.Outcome State Fault Refusal :=
  let s := s0.elapse dt
  let x := s.blk.sio
  if (x.out n.val).on && decide (cur < x.imin n.val) && decide (10000 ≤ us) then ok (s.qsLatch n.val .openLoad cur)
  else ok s

/-- Output `n` is under test. -/
def Sio.testing (x : Sio) (n : Nat) : Bool :=
  (match x.tests with
   | some t => t.n == n
   | none => false) || (x.out n).resetAt.isSome

/-- QS_STUCK_ON: off, and a terminal reads the wrong level (R325). The voltages of the two terminals and of the field supply
are in units of 10 mV; VALUE is the terminal's. -/
def execQsStuckOn (dt : Nat) (n : Fin 16) (plus minus supply : Nat) (s0 : State) : Host.Outcome State Fault Refusal :=
  let s := s0.elapse dt
  let x := s.blk.sio
  if (x.out n.val).on || x.testing n.val then ok s
  else
    let t := if levelOf supply plus = .high then s.qsLatch n.val .hsOn plus else s
    ok (if levelOf supply minus = .low then t.qsLatch n.val .lsOn minus else t)

/-- QA output `j`. -/
def Sio.aux (x : Sio) (j : Nat) : QaSt := x.qa.getD j ⟨false, false, false, false, .none⟩

/-- QA_READBACK: the read-back differs from the state for 1 ms (R328). -/
def execQaReadback (dt : Nat) (j : Fin 8) (readOn : Bool) (us volt : Nat) (s0 : State) :
    Host.Outcome State Fault Refusal :=
  let s := s0.elapse dt
  let q := s.blk.sio.aux j.val
  if q.on != readOn && decide (1000 ≤ us) && !q.latched then
    ok (((s.ioFault 3 0x0E j.val volt).modSio (fun x =>
      ({ x with qa := modNth x.qa j.val (fun q => { q with latched := true }) } : Sio).stick)).drive)
  else ok s

/-! ### Output tests (R326, R327) -/

/-- A test of output `n` may start: an output with a latched fault stays off with both switches open, and
de-energised tests need a good field supply (R325, R329). -/
def Sio.mayTest (x : Sio) (n : Nat) : Bool :=
  x.tests.isNone && !(x.out n).faults.any && (x.out n).resetAt.isNone && !x.lost && !x.fail

/-- The number of the test slot since the epoch. -/
def State.testSlot (s : State) : Nat := s.time / 31250000

/-- OUTPUT_TEST_SLOT: slot `k` of the second starts, and one switch of output `k` div 2 is tested. -/
def execOutputTestSlot (dt : Nat) (k : Fin 32) (s0 : State) : Host.Outcome State Fault Refusal :=
  let s := s0.elapse dt
  let n := k.val / 2
  if s.onGrid 31250000 0 = true ∧ s.testSlot % 32 = k.val ∧ s.blk.sio.lastSlot ≠ some s.testSlot then
    ok ((s.serviceRequest (fun m => m == 32 + n)).modSio (fun x =>
      { x with
        lastSlot := some s.testSlot,
        tests := if x.mayTest n then some ⟨n, k.val % 2 == 1, (x.out n).on, s.nt⟩ else x.tests }))
  else ok s

/-- The expected reading of a test (Table 10.7). -/
def OutTest.expected (t : OutTest) (plus minus : Level) : Bool :=
  match t.on, t.low with
  | true, false => plus == .low && minus == .low
  | true, true => plus == .high && minus == .high
  | false, false => plus == .high
  | false, true => minus == .low

/-- The fault of a failed test (Table 10.7). -/
def OutTest.fault (t : OutTest) : QsKind :=
  match t.on, t.low with
  | true, false => .hsOn
  | true, true => .lsOn
  | false, false => .hsOff
  | false, true => .lsOff

/-- OUTPUT_TEST_READING: the expected reading, 20 to 300 µs after the start, ends the test and restores the switch. -/
def execOutputTestReading (dt supply plus minus : Nat) (s0 : State) : Host.Outcome State Fault Refusal :=
  let s := s0.elapse dt
  match s.blk.sio.tests with
  | none => ok s
  | some t =>
    if t.expected (levelOf supply plus) (levelOf supply minus) && decide (usClocks 20 ≤ s.nt - t.at_) &&
       decide (s.nt - t.at_ ≤ usClocks 300) then ok (s.modSio (fun x => { x with tests := none }))
    else ok s

/-- OUTPUT_TEST_TIMEOUT: no expected reading by 300 µs. -/
def execOutputTestTimeout (dt volt : Nat) (s0 : State) : Host.Outcome State Fault Refusal :=
  let s := s0.elapse dt
  match s.blk.sio.tests with
  | none => ok s
  | some t =>
    if s.nt - t.at_ < usClocks 300 then ok s
    else ok ((s.modSio (fun x => { x with tests := none })).qsLatch t.n t.fault volt)

/-- A repeat test may start (R327): at a rod boundary of phase 1 from rod 1 on, of a furlong after that of the abandoned test,
so early that its 300 µs do not reach phase 2. -/
def State.repeatDue (s : State) (r : Repeat) : Bool :=
  s.boundaries && s.onGrid (rodNs s.profile) 0 && decide (1 ≤ s.rod) &&
    decide (s.inFurlong + 300000 ≤ 26 * rodNs s.profile) && decide (r.furlong < s.fnum)

/-- OUTPUT_TEST_REPEAT: an abandoned test runs again. -/
def execOutputTestRepeat (dt : Nat) (s0 : State) : Host.Outcome State Fault Refusal :=
  let s := s0.elapse dt
  match s.blk.sio.repeats with
  | [] => ok s
  | r :: rest =>
    if s.repeatDue r = true ∧ s.blk.sio.tests = none then
      ok (s.modSio (fun x =>
        { x with
          repeats := rest,
          tests := if x.mayTest r.n then some ⟨r.n, r.low, (x.out r.n).on, s.nt⟩ else x.tests }))
    else ok s

/-! ### The reset of latches (R334, R335) -/

/-- The reset test of an output runs, and its 600 µs have not passed. -/
def QsSt.resetRuns (q : QsSt) (nt : Nat) : Bool :=
  match q.resetAt with
  | some a => decide (nt - a ≤ usClocks 600)
  | none => false

/-- LATCH_RESET_TEST_END: the de-energised test of both switches of output `n` has ended (R335). `hs` is QSnn+ as read with the high-side
switch closed alone, `ls` QSnn− as read with the low-side switch closed alone (Table 10.7). -/
def execLatchResetTestEnd (dt : Nat) (n : Fin 16) (hs ls : TermReading) (s0 : State) :
    Host.Outcome State Fault Refusal :=
  let s := s0.elapse dt
  let q := s.blk.sio.out n.val
  if !q.resetRuns s.nt then ok s
  else
    let done := s.modSio (fun x => { x with qs := modNth x.qs n.val (fun q => { q with resetAt := none }) })
    let hsOk := levelOf hs.supply hs.volt == .high
    let lsOk := levelOf ls.supply ls.volt == .low
    if hsOk && lsOk then
      let t := (QsKind.all.filter q.faults.has).foldl (fun u k => u.ioClear 2 k.code n.val 0) done
      ok ((t.modSio (fun x => { x with qs := modNth x.qs n.val (fun q => { q with faults := .none }) })).drive)
    else
      let t := if hsOk then done else done.qsFault n.val .hsOff hs.volt
      ok (if lsOk then t else t.qsFault n.val .lsOff ls.volt)

/-- A TP was switched on again at least 1 ms ago. -/
def TpSt.restored (t : TpSt) (nt : Nat) : Bool :=
  match t.restoreAt with
  | some a => decide (usClocks 1000 ≤ nt - a)
  | none => false

/-- TP_RESTORE_END: a TP switched on again has carried at most 150 mA for 1 ms. -/
def execTpRestoreEnd (dt : Nat) (tp : Fin 4) (cur us : Nat) (s0 : State) : Host.Outcome State Fault Refusal :=
  let s := s0.elapse dt
  let k := tp.val
  match s.blk.sio.tps[k]? with
  | none => ok s
  | some t =>
    if t.off || !t.restored s.nt || decide (15000 < cur) || decide (us < 1000) then ok s
    else
      ok ((s.ioClear (k / 2) 0x05 k cur).modSio (fun x =>
        { x with tps := modNth x.tps k (fun t => { t with overload := false, restoreAt := none }) }))

/-! ### The commit (R36, R327, R330, R332, R334) -/

/-- The FRESH state after a commit that commands `on` (R332). `held`: a QA output in its safe state HOLD. -/
def Fresh.commit (f : Fresh) (on held : Bool) : Fresh :=
  match f with
  | .none => .none
  | .needOff => if on then .needOff else .needOn
  | .needOn => if on && !held then .none else .needOn

/-- The number of ones among the `n` low bits. -/
def ones (x n : Nat) : Nat := ((List.range n).filter (testB x)).length

/-- The local output words of two vertices come into force. -/
def Sio.commit (x : Sio) (a b : Nat) : Sio :=
  { x with
    commits := true, wdt := false, nocommit := 0,
    qs := x.qs.zipIdx.map (fun (q, n) =>
      let on := testB a n && testB b n
      { q with committed := on, fresh := q.fresh.commit on false }),
    qa := x.qa.zipIdx.map (fun (q, j) =>
      let da := testB a (16 + j)
      let db := testB b (16 + j)
      { q with
        committed := da && db, differ := da != db,
        fresh := q.fresh.commit (da && db) (x.qaSafeNow && x.qaSafe j == 2) }) }

/-- A running test meets the new drive of its output (Table 10.8). -/
def Sio.meetCommit (x : Sio) (fnum : Nat) : Sio :=
  match x.tests with
  | some t => if (x.out t.n).on != t.on then x.abandonTest fnum else x
  | none => x

/-- The reset requests of a commit: TP outputs switch on again, latched QS outputs that are commanded off start their
reset test, QA latches commanded off clear (R335). -/
def Sio.resetRequests (x : Sio) (rst nt : Nat) : Sio :=
  { x with
    tps := x.tps.zipIdx.map (fun (t, k) =>
      if testB rst (k / 2) && t.overload then { t with off := false, restoreAt := some nt } else t),
    qs := x.qs.map (fun q =>
      if testB rst 2 && q.faults.any && !q.committed && !x.lost && !x.fail then { q with resetAt := some nt } else q),
    qa := x.qa.map (fun q => if testB rst 3 && q.latched && !q.committed then { q with latched := false } else q) }

/-- The IO_CLEAR records of QA latches that a reset request clears. -/
def State.qaClears (s : State) (rst a b : Nat) : State :=
  (s.blk.sio.qa.zipIdx.filter (fun (q, j) =>
    testB rst 3 && q.latched && !(testB a (16 + j) && testB b (16 + j)))).foldl
    (fun u (_, j) => u.ioClear 3 0x0E j 0) s

/-- A shadow difference is recorded and sets the FAULT bit of its group (R36). -/
def State.shadowDiff (s : State) (a b : Nat) : State :=
  let d := (BitVec.ofNat 32 a ^^^ BitVec.ofNat 32 b).toNat
  let q := ones d 16
  let p := ones (d / 2 ^ 16) 8
  let s1 := if 0 < q then (s.ioFault 2 0x0F 0xFF q).modSio (fun x => x.stickGroup 2) else s
  if 0 < p then (s1.ioFault 3 0x0F 0xFF p).modSio (fun x => x.stickGroup 3) else s1

/-- The commit at the safe I/O chip with the shadows of vertices `u` and `w` (R36, R330). -/
def State.commitOutputs (s : State) (u w : Vtx) : State :=
  let a := (s.v u).own.shadow.toNat
  let b := (s.v w).own.shadow.toNat
  let rst := ((s.v u).own.shadow &&& (s.v w).own.shadow).toNat / 2 ^ 24
  let s1 := s.shadowDiff a b
  let s2 := if s.blk.sio.wdt then s1.outputsClear 0x12 s.blk.sio.nocommit else s1
  let s3 := s2.qaClears rst a b
  s3.modSio (fun x =>
    (((({ x.commit a b with lastCommit := s.nt } : Sio).resetRequests rst s.nt).drive).meetCommit s.fnum).stick)

/-! ### The watchdog (R330) -/

/-- The trip: every QS opens, every QA takes its safe state, WATCHDOG is written, slices end (R327, R330, R381). -/
def State.watchdogTrip (s : State) : State :=
  (((s.outputsFault 0x12 s.blk.sio.nocommit).endSlices).modSio (fun x =>
    { x.forceOff s.fnum with wdt := true, wdtrip := satInc 16 x.wdtrip })).drive

/-- WATCHDOG_TRIP: the second consecutive furlong without a commit has ended its phase 2, or 2 × L + 1 ms of the chip's
own oscillator have passed since the last commit. -/
def execWatchdogTrip (dt oscNs : Nat) (s0 : State) : Host.Outcome State Fault Refusal :=
  let s := s0.elapse dt
  let x := s.blk.sio
  if x.commits && !x.wdt && (decide (2 ≤ x.nocommit) || decide (2 * furlongNs s.profile + 1000000 ≤ oscNs)) then
    ok s.watchdogTrip
  else ok s

/-! ### Field supply (R331, R332) -/

/-- A sample of the field supply, in units of 10 mV. -/
def Sio.sample (x : Sio) (nt volt : Nat) : Sio :=
  { x with
    volt := volt, voltMin := some (match x.voltMin with
      | some m => min m volt
      | none => volt),
    lastLow := if volt < 1800 then some nt else x.lastLow,
    lastWarn := if volt < 1920 then some nt else x.lastWarn,
    warn := x.warn || decide (volt < 1920) }

/-- The SUPPLY_WARN records, at most once in a furlong. -/
def State.supplyWarnRec (s : State) (volt : Nat) : State :=
  if s.blk.sio.warnFurl = some s.fnum then s
  else (s.outputsFault 0x10 volt).modSio (fun x => { x with warnFurl := some s.fnum })

/-- SUPPLY_WARN: a sample of the field supply; one below 19.2 V warns. -/
def execSupplyWarn (dt volt : Nat) (s0 : State) : Host.Outcome State Fault Refusal :=
  let s := s0.elapse dt
  let t := if volt < 1920 then (s.supplyWarnRec volt).serviceRequest (fun n => n == 57) else s
  ok (t.modSio (fun x => x.sample s.nt volt))

/-- 100 ms have passed since the last sample below 19.2 V. -/
def State.supplyGood (s : State) : Bool :=
  match s.blk.sio.lastWarn with
  | some t => decide (usClocks 100000 ≤ s.nt - t)
  | none => true

/-- SUPPLY_WARN_CLEAR. -/
def execSupplyWarnClear (dt : Nat) (s0 : State) : Host.Outcome State Fault Refusal :=
  let s := s0.elapse dt
  if s.supplyGood then ok (s.modSio (fun x => { x with warn := false })) else ok s

/-- SUPPLY_LOST: the 42nd consecutive sample below 16.0 V. -/
def execSupplyLost (dt volt run : Nat) (s0 : State) : Host.Outcome State Fault Refusal :=
  let s := s0.elapse dt
  if decide (volt < 1600) && decide (42 ≤ run) && !s.blk.sio.lost then
    ok (((((s.supplyWarnRec volt).outputsFault 0x11 volt).endSlices).modSio (fun x =>
      ({ (x.sample s.nt volt).forceOff s.fnum with
         lost := true, qs := x.qs.map (fun q => { q with fresh := .needOff, resetAt := none }),
         qa := x.qa.map (fun q => { q with fresh := .needOff }) } : Sio).stick)).drive)
  else ok s

/-- SUPPLY_LOST_CLEAR. -/
def execSupplyLostClear (dt : Nat) (s0 : State) : Host.Outcome State Fault Refusal :=
  let s := s0.elapse dt
  if s.blk.sio.lost && s.supplyGood then
    ok (((s.outputsClear 0x11 s.blk.sio.volt).modSio (fun x => { x with lost := false })).drive)
  else ok s

/-- SIO_FAIL (R336). -/
def execSioFail (dt : Nat) (s0 : State) : Host.Outcome State Fault Refusal := ok (s0.elapse dt).sioFail

end Sys2Proof.Machine
end

