-- ==== Sys2Proof/Machine/Votes.lean ====
section
/-! DEFINITION. Register writes that act on the module in common: they take effect when two vertices in service have
written the same value to the same address in the furlong (notes/assumptions/20.md), and records that the writing
vertex forms. -/

namespace Sys2Proof.Machine

/-- A record of the triangle in common that vertex `v` forms for its own register write. -/
def State.recBy (s : State) (v : Vtx) (t : RecType) (a1 a2 a3 : Nat) : State :=
  s.modV v (fun x => x.addRec ⟨t, 0x10, shortBody a1 a2 a3⟩)

/-- The vertices that have made the write in the furlong, each as often as it has made it. -/
def State.voters (s : State) (addr : Nat) (val : Word) : List Vtx :=
  match s.votes.find? (fun q => q.1 == addr && q.2.1 == val) with
  | some q => q.2.2
  | none => []

/-- Vertex `v` votes for the write. -/
def State.addVote (s : State) (v : Vtx) (addr : Nat) (val : Word) : State :=
  { s with
    votes := (addr, val, v :: s.voters addr val) :: s.votes.filter (fun q => !(q.1 == addr && q.2.1 == val)) }

/-- The vertices in service that have made the write `n` times or more. -/
def State.agreeing (s : State) (addr : Nat) (val : Word) (n : Nat) : List Vtx :=
  Vtx.list.filter (fun u => s.inService u && decide (n ≤ (s.voters addr val).count u))

/-- A write of vertex `v` with an effect `f` on the module in common: the second vertex in service that makes it brings it
about. The writes of a vertex are counted: its second write of the value goes with the second write of another, and so on
(R14). -/
def State.voted (s : State) (v : Vtx) (addr : Nat) (val : Word) (f : State → State) : State :=
  if !s.inService v then s
  else
    let t := s.addVote v addr val
    if (t.agreeing addr val ((t.voters addr val).count v)).length = 2 then f t else t

/-- A write refused for the mode (Table 0.3): WRITE_REFUSED with result WRONG_MODE. -/
def State.writeRefused (s : State) (v : Vtx) (addr : Nat) : State := s.recBy v .writeRefused addr 1 0

/-- A write refused because its seal switch is off: SEAL_REFUSED. -/
def State.sealRefused (s : State) (v : Vtx) (addr : Nat) : State := s.recBy v .sealRefused addr 0 0

end Sys2Proof.Machine
end

