-- ==== Sys2Proof/Machine/SelfTest.lean ====
section
/-! DEFINITION. The preserving march, the analogue slices, fuse repair and the perturbation registers (R368 to
R391). -/

namespace Sys2Proof.Machine

/-! ### Ports and the K3M as consequences -/

/-- The port number of a LINK_FAULT record (Table 13.4). -/
def portNum : Port → Nat
  | .X1 => 0
  | .X2 => 1
  | .Y1 => 2
  | .Y2 => 3
  | .C1 => 4
  | .C2 => 5

/-- A port is held down and recorded as LINK_FAULT (R240, R344, Table 12.6). -/
def State.portFault (s : State) (p : Port) : State :=
  let t := s.record .linkFault (portNum p) 0 0
  match p with
  | .C1 => t.modPair (fun x => { x with c1 := { x.c1 with down := true } })
  | .C2 => t.modPair (fun x => { x with c2 := { x.c2 with down := true } })
  | _ =>
    (t.modTtb (fun b => { b with up := setNth b.up (portNum p) false })).modNic
      (fun c => { c with heldDown := p :: c.heldDown })

/-- The K3M has failed (Tables 12.4 and 12.6). -/
def State.k3mFail (s : State) : State := { s with k3m := { s.k3m with failed := true } }

/-- A guardian disables its transmitter and latches SYNC_LOST (R39, Table 12.6). -/
def State.syncLost (s : State) (n : Net) : State :=
  let t := s.modTtb (fun b => { b with syncLost := b.syncLost.set n true })
  { t with guard := t.guard.set n { t.guard.get n with cut := true } }

/-! ### The preserving march (R376 to R378) -/

/-- The bank has an engine of its own vertex. -/
def ownBank (b : Nat) : Bool := b < 5

/-- Pieces of a bank (Table 12.1). -/
def bankPieces : Nat → Nat
  | 0 => 1024
  | 1 => 2048
  | 2 => 64
  | 3 => 4096
  | 4 => 128
  | 5 => 512
  | 6 => 128
  | _ => 16

/-- Duration of a preserving piece in ns (Table 12.1). -/
def pieceNs (b : Nat) : Nat := if b < 5 then 22530 else if b < 7 then 90110 else 28160

/-- The engine that tests a bank of chip `v`. -/
def State.engine (s : State) (v : Vtx) (b : Nat) : Engine :=
  if b < 5 then s.engines.get v else if b < 7 then s.engN else s.engM

/-- Change that engine. -/
def State.modEngine (s : State) (v : Vtx) (b : Nat) (f : Engine → Engine) : State :=
  if b < 5 then { s with engines := s.engines.set v (f (s.engines.get v)) }
  else if b < 7 then { s with engN := f s.engN }
  else { s with engM := f s.engM }

/-- The bank under test: the one whose march has begun, to its last piece, else the lowest with a request. The spec does not say in
which order an engine takes its banks (DESIGN CHOICE, notes/assumptions/56.md). -/
def Engine.bank (e : Engine) : Option Nat :=
  match e.cur with
  | some b => some b
  | none => (List.range 8).find? (fun b => e.req.getLsbD b)

/-- Work of `ns` nanoseconds fits the slack of phase 3 with `spare` ns left (R56, R377). -/
def State.fitsSlack (s : State) (ns spare : Nat) : Bool :=
  s.boundaries && s.phase == 3 && decide (s.inFurlong + ns + spare ≤ furlongNs s.profile)

/-- The mirror set of this furlong has been sent: it comes first in the slack (R56, R352). -/
def State.mirrorSent (s : State) : Bool :=
  match s.pair.tx with
  | some x => decide (x.doneAt ≤ s.nt)
  | none => true

/-- The slice is to run in the reserved slot of furlong `f`: an earlier one has marked it (R379, R380, R382). -/
def SliceSt.due (x : SliceSt) (f : Nat) : Bool := x.reserved && x.markF != f

/-- No slice waits for its reserved slot in furlong `f`, and none runs in one. -/
def Bst.reservedDone (b : Bst) (f : Nat) : Bool := !b.slices.any (fun x => x.due f) && !b.running.any (fun r => r.reserved)

/-- The slack of phase 3 has come to what follows the mirror set and the reserved slices (R56). -/
def State.slackFree (s : State) : Bool := s.boundaries && s.phase == 3 && s.mirrorSent && s.blk.bst.reservedDone s.fnum

/-- The rejoin copy makes the march of source and rejoining vertex wait (R377). -/
def State.marchWaits (s : State) (v : Vtx) : Bool :=
  decide (2 ≤ s.blk.cen.rejStep) && decide (s.blk.cen.rejStep ≤ 4) &&
    (s.rejoin.source == some v || s.blk.cen.rejVtx == some v)

/-- Vertex `v` is out of service at step 1 of a rejoin: its pieces run back to back (R377). -/
def State.backToBack (s : State) (v : Vtx) : Bool := s.blk.cen.rejVtx == some v && s.blk.cen.rejStep == 1

/-- The vertex memory word at the key `k` lies in piece `p` of bank `b`. -/
def inPiece (b p k : Nat) : Bool :=
  let base := 0x01000000 * b
  decide (b < 5) && (k / 4096 * 4096 == base + 4096 * p || k / 4096 * 4096 == base + 4096 * p + 0x10000000)

/-- The word `q` of bank `b`, 5 to 7, lies in piece `p` (R376). -/
def inSharedPiece (b p : Nat) (q : Nat × Nat) : Bool := q.1 == b && q.2 / 512 == p

/-- The single-bit errors of banks 5 to 7 in the words that `p` takes in are corrected, written back and counted (R22, R368). -/
def State.scrubShared (s : State) (p : Nat × Nat → Bool) : State :=
  if s.shEcc.soft.any p then
    { s with
      shEcc := { s.shEcc with soft := s.shEcc.soft.filter (fun q => !p q) },
      blk := { s.blk with mem := { s.blk.mem with shared := satAdd 16 s.blk.mem.shared (s.shEcc.soft.filter p).length } } }
  else s

/-- A word of the host window that `n` bytes from offset `a` take in. -/
def inWindowWords (a n : Nat) (q : Nat × Nat) : Bool := q.1 == 7 && decide (a / 8 ≤ q.2) && decide (q.2 ≤ (a + n - 1) / 8)

/-- The `n` bytes at offset `a` of the host window as they are read: a byte of a word with an uncorrectable error is a free value
(R22, R368). -/
def State.windowBytes (s : State) (a n : Nat) : List Byte :=
  (List.range n).map (fun i =>
    if s.shEcc.hard.contains (7, (a + i) / 8) then Config.badWindowByte (a + i) else Memory.read s.hwin.mem (a + i))

/-- The bytes of `x` are written to the host window from offset `a`: a partial write of a word corrects its single-bit error; an
uncorrectable one stands (R22, R368). -/
def State.windowStore (s : State) (a n x : Nat) : State :=
  let t := s.scrubShared (inWindowWords a n)
  { t with hwin := { t.hwin with mem := Memory.store t.hwin.mem a n x } }

/-- Ordinary slices and pieces of a preserving march come before the recorder writes of a slack: none starts after one (R56). -/
def State.ordinaryTurn (s : State) : Bool := s.recorder.wrote != some s.fnum

/-- PRESERVING_PIECE: the next piece of a requested bank is saved, marched and restored. Single-bit errors of the piece
are corrected; an uncorrectable one counts as a failure of the piece. -/
def execPreservingPiece (dt : Nat) (chip : Vtx) (bank : Fin 8) (s0 : State) : Host.Outcome State Fault Refusal :=
  let s := s0.elapse dt
  let b := bank.val
  let e := s.engine chip b
  let may := e.run.isNone && e.bank == some b &&
    (if ownBank b then !s.marchWaits chip &&
      ((s.slackFree && s.ordinaryTurn && s.fitsSlack (pieceNs b) 10000) || s.backToBack chip)
     else s.slackFree && s.ordinaryTurn && s.fitsSlack (pieceNs b) 10000)
  if may then
    let p := e.next
    let m := (s.v chip).mem
    let hard := if ownBank b then m.ecc.any (inPiece b p) else s.shEcc.hard.any (inSharedPiece b p)
    let soft := (m.ecc1.filter (inPiece b p)).length
    let t := s.modEngine chip b (fun e => { e with run := some ⟨b, p, hard, clearedResult⟩, cur := some b })
    if ownBank b then
      ok (t.modV chip (fun x =>
        { x with
          mem := { x.mem with ecc1 := x.mem.ecc1.filter (fun k => !inPiece b p k) },
          loc := { x.loc with eccOwn := satAdd 16 x.loc.eccOwn soft } }))
    else ok (t.scrubShared (inSharedPiece b p))
  else ok s

/-- A background of the march in the nine bytes of a 72-bit word: B0 has every bit at 0, B1 bit i at i mod 2 (R374). -/
def marchGrounds : List Byte := [0x00, 0xAA]

/-- The bytes that a fault-free March C− of `n` words reads, in order: each background is read in five passes, in the order b, not b,
b, not b, b (R374). Each word reads as nine equal bytes. -/
def marchReads (n : Nat) : List Byte :=
  marchGrounds.flatMap (fun b => [b, ~~~b, b, ~~~b, b].flatMap (fun x => List.replicate (9 * n) x))

/-- The CRC that a fault-free march of a piece of 512 words produces (R374, R378). -/
def marchSig : Word := crc32c (marchReads 512)

/-- Operations of a piece: 20 a word in the test, and one each in the save and the restore (R378). -/
def pieceCount : Nat := 512 * (20 + 2)

/-- COMPLETE of a result (R383). -/
def completeWord : BitVec 16 := 0xC3A5

/-- The piece passes (R378). -/
def PieceRun.passes (p : PieceRun) (r : TestResult) : Bool :=
  !p.bad && r.sig == marchSig && r.count == pieceCount && r.complete == completeWord

/-- The engine after a piece that ends in the clock `nt`: the next one, or DONE after the last. -/
def Engine.advance (e : Engine) (nt b : Nat) (pass : Bool) : Engine :=
  let last := decide (bankPieces b ≤ e.next + 1)
  { e with
    run := none, next := if last then 0 else e.next + 1, cur := if last then none else some b,
    done := if last then e.done ||| (1#8 <<< b) else e.done, doneAt := if last then some (nt, b) else e.doneAt,
    req := if last then e.req &&& ~~~(1#8 <<< b) else e.req,
    fail := if pass then e.fail else e.fail ||| (1#8 <<< b) }

/-- The consequence of a failed piece (Table 12.4). -/
def State.pieceFails (s : State) (chip : Vtx) (b : Nat) : State :=
  if b < 5 then
    if s.blk.cen.rejVtx = some chip then s.rejoinFail 1
    else if s.inService chip then s.selfFault chip (.trap .ecc) else s
  else if b < 7 then s.halt .bistFail
  else s.k3mFail

/-- PIECE_COMPLETE: the result of the piece is judged. -/
def execPieceComplete (dt : Nat) (chip : Vtx) (bank : Fin 8) (r : TestResult) (word bit : Nat) (s0 : State) :
    Host.Outcome State Fault Refusal :=
  let s := s0.elapse dt
  let b := bank.val
  match (s.engine chip b).run with
  | none => ok s
  | some p =>
    if p.bank ≠ b then ok s
    else
      let pass := p.passes r
      let t := s.modEngine chip b (fun e => e.advance s.nt b pass)
      if pass then ok t
      else
        let body := shortBody b p.piece (word * 128 + bit)
        let u := if ownBank b then t.recOwn chip .memTestFail body else t.recBody .memTestFail body
        ok (u.pieceFails chip b)

/-- PMCTL_REQ: a request takes effect from the next furlong boundary (R377). -/
def State.pmctlWrite (s : State) (v : Vtx) (val : Word) : State :=
  let m := val.extractLsb' 0 8
  { s with
    engines := s.engines.set v { s.engines.get v with newReq := (s.engines.get v).newReq ||| (m &&& 0x1F#8) },
    sharedReq := s.sharedReq.set v (s.sharedReq.get v ||| (m &&& 0xE0#8)) }

/-- PMCTL_REQ. -/
def execPmctlReq (v : Vtx) (val : Word) (s : State) : Host.Outcome State Fault Refusal := ok (s.pmctlWrite v val)

/-- The requests for banks 5 to 7 on which two vertices in service agree. -/
def State.sharedAgreed (s : State) : BitVec 8 :=
  let q := fun v => if s.inService v then s.sharedReq.get v else 0#8
  (q .A &&& q .B) ||| (q .A &&& q .C) ||| (q .B &&& q .C)

/-- At a furlong boundary the requests come into force. -/
def State.marchRequests (s : State) : State :=
  let g := s.sharedAgreed
  { s with
    engines := s.engines.map (fun e => { e with req := e.req ||| e.newReq, newReq := 0 }),
    engN := { s.engN with req := s.engN.req ||| (g &&& 0x60#8) },
    engM := { s.engM with req := s.engM.req ||| (g &&& 0x80#8) },
    sharedReq := s.sharedReq.map (fun r => r &&& ~~~g) }

/-! ### The MEM block -/

/-- MEM_CTL_CLR: ECC1 and COLL of vertex `v`; the shared count by agreement. -/
def State.memCtl (s : State) (v : Vtx) : State :=
  (s.modV v (fun x => { x with loc := { x.loc with eccOwn := 0, p0busy := 0, p1busy := 0 } })).voted v 0x0800701C 1
    (fun t => { t with blk := { t.blk with mem := { t.blk.mem with shared := 0 } } })

/-- MEM_CTL_CLR. -/
def execMemCtlClr (v : Vtx) (s : State) : Host.Outcome State Fault Refusal := ok (s.memCtl v)

/-- The DONE bits after a W1C write in the clock `nt`: a bit that the engine sets in the same clock ends set (R16). -/
def Engine.clearDone (e : Engine) (nt : Nat) (m : BitVec 8) : Engine :=
  let new : BitVec 8 := match e.doneAt with
    | some q => if q.1 = nt then 1#8 <<< q.2 else 0
    | none => 0
  { e with done := e.done &&& (~~~m ||| new) }

/-- A W1C write to MEM.STAT.DONE: own banks at once, banks 5 to 7 by agreement. -/
def State.memDoneWrite (s : State) (v : Vtx) (val : Word) : State :=
  let m := val.extractLsb' 0 8
  let t : State := { s with engines := s.engines.set v ((s.engines.get v).clearDone s.nt m) }
  t.voted v 0x08007000 val (fun t => { t with engN := t.engN.clearDone t.nt m, engM := t.engM.clearDone t.nt m })

/-- MEM_DONE_CLEAR. -/
def execMemDoneClear (v : Vtx) (val : Word) (s : State) : Host.Outcome State Fault Refusal := ok (s.memDoneWrite v val)

/-! ### Fuse repair (R386) -/

/-- Fuse entries of a bank (Table 12.1). -/
def fuseEntries (b : Nat) : Nat := if b = 7 then 8 else 16

/-- The repairs in force in the chip that holds bank `b` of vertex `v`. -/
def State.repairsOf (s : State) (v : Vtx) (b : Nat) : List Repair :=
  (if ownBank b then s.repairs.get v else s.repairsSh).filter (fun r => r.bank == b)

/-- The fuses of that bank. -/
def State.fusesOf (s : State) (v : Vtx) (b : Nat) : List Repair :=
  (if ownBank b then s.fuses.get v else s.fusesSh).filter (fun r => r.bank == b)

/-- Fuse entries left. -/
def State.fusesLeft (s : State) (v : Vtx) (b : Nat) : Nat := fuseEntries b - (s.fusesOf v b).length

/-- The march of step 2 is done: before it, RPRN.FREE and FUSECTL.LEFT show their reset value (R17). -/
def State.marched (s : State) : Bool := decide (2 ≤ s.start.step)

/-- What vertex `v` latches of the MEM block (R215, R389). -/
def State.memView (s : State) (v : Vtx) : MemBlk :=
  let e := s.engines.get v
  let busy := if e.run.isSome || e.bank.isSome then e else if s.engN.bank.isSome then s.engN else s.engM
  { s.blk.mem with
    done := e.done ||| s.engN.done ||| s.engM.done, fail := e.fail ||| s.engN.fail ||| s.engM.fail,
    req := e.req ||| e.newReq ||| s.engN.req ||| s.engM.req ||| s.sharedReq.get v,
    bank := busy.bank.getD 0, active := busy.bank.isSome, piece := busy.next,
    fuse := s.fuse.get v, fuseLeft := if s.marched then s.fusesLeft v (s.fuse.get v).bank else 0 }

/-- The soft repairs that a burn adds. -/
def State.toBurn (s : State) (v : Vtx) (b : Nat) : List Repair :=
  (s.repairsOf v b).filter (fun r => !r.fused)

/-- Burn the soft repairs of bank `b`: more than the entries left burn nothing and set ERR. -/
def State.burn (s : State) (v : Vtx) (b : Nat) (readOk : Bool) : State × Bool :=
  let l := s.toBurn v b
  if s.fusesLeft v b < l.length then (s, false)
  else
    let f := l.map (fun r => { r with fused := true })
    let mark := fun (q : List Repair) => q.map (fun r => if r.bank = b then { r with fused := true } else r)
    let t : State :=
      if ownBank b then
        { s with
          fuses := s.fuses.set v (s.fuses.get v ++ f), repairs := s.repairs.set v (mark (s.repairs.get v)) }
      else { s with fusesSh := s.fusesSh ++ f, repairsSh := mark s.repairsSh }
    let rec_ := fun (u : State) (r : Repair) =>
      let body := shortBody b (bit r.column) r.index
      if ownBank b then u.recOwn v .fuseRepair body else u.recBody .fuseRepair body
    (l.foldl rec_ t, readOk)

/-- Set DONE or ERR of vertex `v`. -/
def State.fuseResult (s : State) (v : Vtx) (done : Bool) : State :=
  { s with fuse := s.fuse.set v { s.fuse.get v with burn := false, done := done, err := !done } }

/-- A write of MEM.FUSECTL: RWC, so in COMMISSION only. For banks 5 to 7 the engine acts when the writes of two vertices
agree (R215); the result of its burn stands in every vertex in service, and the write of the third changes nothing more. -/
def State.fuseWrite (s : State) (v : Vtx) (val : Word) (readOk : Bool) : State :=
  if s.mode ≠ .commission then s.writeRefused v 0x08007018
  else
    let b := (val.extractLsb' 0 3).toNat
    let t : State := { s with fuse := s.fuse.set v { s.fuse.get v with bank := b, burn := val.getLsbD 3 } }
    if ownBank b then
      if val.getLsbD 3 then
        let r := t.burn v b readOk
        r.1.fuseResult v r.2
      else t
    else if val.getLsbD 3 then
      let u := t.voted v 0x08007018 val (fun u =>
        let r := u.burn v b readOk
        u.serving.foldl (fun w x => w.fuseResult x r.2) r.1)
      if 2 < (u.agreeing 0x08007018 val ((u.voters 0x08007018 val).count v)).length then { u with fuse := s.fuse } else u
    else t

/-- FUSECTL_BURN. -/
def execFusectlBurn (v : Vtx) (val : Word) (readOk : Bool) (s : State) : Host.Outcome State Fault Refusal :=
  ok (s.fuseWrite v val readOk)

/-! ### Analogue slices (R379 to R383) -/

/-- The block of a slice: 0 the safe I/O chip, 1 the network chip, 2 the K3M (Table 12.5). -/
def sliceBlock (n : Nat) : Nat := if n < 56 ∨ n = 57 then 0 else if n = 64 then 2 else 1

/-- Longest duration of a slice in ns (R379). -/
def sliceNs : Nat := 50000

/-- Slice `n`. -/
def Bst.slice (b : Bst) (n : Nat) : SliceSt := b.slices.getD n ⟨0, false, false, false, none, 0, false, 0, false, clearedResult⟩

/-- An instant of the grid of `period` ns with offset `ofs` comes within the next `ns` ns. -/
def State.comesWithin (s : State) (period ofs ns : Nat) : Bool :=
  decide ((ofs % period + period - s.time % period) % period < ns)

/-- No pulse window and no output test slot of the channel that slice `n` tests falls within the next 50 µs (R310, R326,
R380). -/
def State.channelClear (s : State) (n : Nat) : Bool :=
  let x := s.blk.sio
  let k := x.feed n
  if n < 32 then !(s.inPulse k || (decide (k < 4) && s.comesWithin 8000000 (2000000 * k + 250000) sliceNs))
  else if n < 48 then
    let m := n - 32
    !(x.tests.any (fun t => t.n == m) || s.comesWithin 1000000000 (31250000 * (2 * m)) sliceNs ||
      s.comesWithin 1000000000 (31250000 * (2 * m + 1)) sliceNs)
  else true

/-- Slice `n` may start: in its reserved slot, or at its turn once the reserved slices are done (R56), with its block free
(R379). -/
def State.sliceMayStart (s : State) (n : Nat) : Bool :=
  let b := s.blk.bst
  decide (n < 69) &&
    (((b.slice n).due s.fnum && s.channelClear n) || (!(b.slice n).due s.fnum && b.next == n && b.reservedDone s.fnum && s.ordinaryTurn)) &&
    !b.running.any (fun r => sliceBlock r.n == sliceBlock n)

/-- Slice `n` starts in furlong `f`: in the reserved slot, or in its turn. -/
def Bst.start (b : Bst) (n f nt : Nat) : Bst :=
  let resv := (b.slice n).due f
  { b with
    running := ⟨n, resv, nt⟩ :: b.running,
    next := if resv then b.next else (n + 1) % 69,
    resrun := if resv then satInc 16 b.resrun else b.resrun,
    slices := modNth b.slices n (fun x => { x with reserved := x.reserved && !resv, res := clearedResult }) }

/-- SLICE_START, in the slack of phase 3. -/
def execSliceStart (dt n : Nat) (s0 : State) : Host.Outcome State Fault Refusal :=
  let s := s0.elapse dt
  if s.fitsSlack sliceNs 0 && s.mirrorSent && s.sliceMayStart n then ok (s.modBst (fun b => b.start n s.fnum s.nt)) else ok s

/-- Table 12.5 names a service request that abandons slice `n`. -/
def sliceYields (n : Nat) : Bool := n < 48 || n == 57 || n == 64

/-- SLICE_ABANDON: a slice outside the reserved slot gives way to a service request. -/
def execSliceAbandon (dt n : Nat) (s0 : State) : Host.Outcome State Fault Refusal :=
  let s := s0.elapse dt
  if sliceYields n && s.blk.bst.running.any (fun r => r.n == n && !r.reserved) then
    ok (s.modBst (fun b => b.abandonSlice n s.fnum))
  else ok s

/-- A result passes (R383). -/
def slicePasses (n : Nat) (r : TestResult) : Bool :=
  r.sig == Config.sliceSig n && r.count == Config.sliceCount n && r.complete == completeWord

/-- Ten seconds, in NT clocks. -/
def tenSeconds : Nat := 1250000000

/-- The result of slice `n` that comes in the clock `nt` passes: a slice that has run for more than 50 µs has none that does
(R379, R383). -/
def Bst.passes (b : Bst) (n : Nat) (r : TestResult) (nt : Nat) : Bool :=
  slicePasses n r && b.running.any (fun q => q.n == n && decide (nt - q.at_ ≤ usClocks 50))

/-- The slice after a result; `two` says that two vertices in service judge it. -/
def SliceSt.finish (x : SliceSt) (r : TestResult) (pass two : Bool) (fnum nt : Nat) : SliceSt :=
  let complete := r.complete == completeWord
  let y := { x with
             res := r,
             cons := 0, pass := pass, retry := !pass && !x.retry, failed := x.failed || (!pass && x.retry && two),
             doneAt := if complete then some fnum else x.doneAt, doneNt := if complete then nt else x.doneNt,
             late := x.late && !complete }
  if !pass && !x.retry then y.mark fnum else y

/-- The block after the result of slice `n`. -/
def Bst.finish (b : Bst) (n : Nat) (r : TestResult) (two : Bool) (fnum nt : Nat) : Bst :=
  let pass := b.passes n r nt
  let second := !pass && (b.slice n).retry && two
  let l := modNth b.slices n (fun x => x.finish r pass two fnum nt)
  { b with
    running := b.running.filter (fun q => q.n != n), slices := l, fail := b.fail || second, rounds := b.roundsAfter n,
    overdue := b.overdue && l.any SliceSt.late,
    last := n, outcome := if pass then 0 else 1, rsig := r.sig, rcount := r.count % 65536, rcomplete := r.complete.toNat }

/-- The consequence of a failed slice (Table 12.6). -/
def State.sliceFails (s : State) (n : Nat) : State :=
  if n < 56 ∨ n = 57 ∨ n = 67 then s.sioFail
  else if n = 56 then s.halt .bistFail
  else if n = 58 then s.portFault .X1
  else if n = 59 then s.portFault .X2
  else if n = 60 then s.portFault .Y1
  else if n = 61 then s.portFault .Y2
  else if n = 62 then s.portFault .C1
  else if n = 63 then s.portFault .C2
  else if n = 65 then s.syncLost .X
  else if n = 66 then s.syncLost .Y
  else s.k3mFail

/-- Two vertices in service judge the results that are passed to all three (R382): each judges the same result alike. -/
def State.twoJudge (s : State) : Bool := decide (2 ≤ s.serving.length)

/-- SLICE_COMPLETE: a second consecutive failure, judged so by two vertices in service, has the consequence of Table 12.6. -/
def execSliceComplete (dt n : Nat) (r : TestResult) (s0 : State) : Host.Outcome State Fault Refusal :=
  let s := s0.elapse dt
  if s.blk.bst.running.any (fun q => q.n == n) then
    let second := !s.blk.bst.passes n r s.nt && (s.blk.bst.slice n).retry && s.twoJudge
    let t := s.modBst (fun b => b.finish n r s.twoJudge s.fnum s.nt)
    if second then ok ((t.record .selftestFail n r.sig.toNat r.count).sliceFails n) else ok t
  else ok s

/-- SELFTEST_OVERDUE: a slice has not completed for 10 s; that is recorded with its result (Table 13.4) once until it completes, and it runs in the
reserved slot of the next furlong. -/
def execSelftestOverdue (dt n : Nat) (s0 : State) : Host.Outcome State Fault Refusal :=
  let s := s0.elapse dt
  if n < 69 ∧ tenSeconds ≤ s.nt - (s.blk.bst.slice n).doneNt ∧ (s.blk.bst.slice n).late = false then
    ok ((s.record .selftestOverdue n (s.blk.bst.slice n).res.sig.toNat (s.blk.bst.slice n).res.count).modBst (fun b =>
      { b with overdue := true, slices := modNth b.slices n (fun x => { x.mark s.fnum with late := true }) }))
  else ok s

/-- BST.CTL.CLR: ABN, by agreement. -/
def State.bstCtl (s : State) (v : Vtx) : State :=
  s.voted v 0x08008014 1 (fun t => t.modBst (fun b => { b with abandon := 0, resrun := 0 }))

/-- BST_CTL_CLR. -/
def execBstCtlClr (v : Vtx) (s : State) : Host.Outcome State Fault Refusal := ok (s.bstCtl v)

/-- What the block shows at a boundary of the running slices. -/
def Bst.atBoundary (b : Bst) : Bst :=
  match b.running with
  | r :: _ => { b with cur := r.n, curResv := r.reserved }
  | [] => { b with cur := 127, curResv := false }

/-! ### Perturbation (R387, R388, R391) -/

/-- The fields after a write at an offset of the block. -/
def PtbVals.write (p : PtbVals) (off : Nat) (val : Word) : PtbVals :=
  match off with
  | 0x000 => { p with en := val.getLsbD 0 }
  | 0x004 => { p with strd := val &&& 0x00003F03#32 }
  | 0x008 => { p with slotd := val &&& 0x0000037F#32 }
  | 0x00C => { p with qbp := val &&& 0x00FFFFFF#32 }
  | 0x010 => { p with chdd := val &&& 0x0003FFFF#32 }
  | _ => p

/-- A PTB write: the mode is checked first, SW4 second; a refused write has no side effect. -/
def State.ptbSet (s : State) (v : Vtx) (off : BitVec 12) (val : Word) : State :=
  let addr := 0x0800B000 + off.toNat
  if s.mode ≠ .maintenance then s.writeRefused v addr
  else if !s.blk.cyc.sw4 then s.sealRefused v addr
  else s.modPtb (fun p => { p with own := p.own.set v ((p.own.get v).write off.toNat val) })

/-- PTB_WRITE. -/
def execPtbWrite (v : Vtx) (off : BitVec 12) (val : Word) (s : State) : Host.Outcome State Fault Refusal :=
  ok (s.ptbSet v off val)

/-- The value of a list on which two vertices agree, else `old`. -/
def agreedOf {α : Type} [DecidableEq α] (old : α) (l : List α) : α :=
  match l with
  | [a, b] => if a = b then a else old
  | [a, b, c] => if a = b ∨ a = c then a else if b = c then b else old
  | _ => old

/-- The values of each PTB register on which two vertices in service agree (R387). -/
def State.ptbAgreed (s : State) : PtbVals :=
  let p := s.blk.ptb.vals
  let l := s.serving.map s.blk.ptb.own.get
  { en := agreedOf p.en (l.map PtbVals.en), strd := agreedOf p.strd (l.map PtbVals.strd),
    slotd := agreedOf p.slotd (l.map PtbVals.slotd), qbp := agreedOf p.qbp (l.map PtbVals.qbp),
    chdd := agreedOf p.chdd (l.map PtbVals.chdd) }

/-- The perturbations at a furlong boundary: the agreed values come into force, and every change in force is recorded;
outside MAINTENANCE, or with SW4 off, every field is cleared (R387, R388). -/
def State.ptbBoundary (s : State) : State :=
  if s.mode ≠ .maintenance ∨ !s.blk.cyc.sw4 then s.ptbClear
  else
    let a := s.ptbAgreed
    let f := if a.en then a else PtbVals.reset
    let t := s.modPtb (fun p =>
      { p with vals := a, force := f, inforce := f.en, cnt := if f.en then satInc 16 p.cnt else p.cnt, live := true })
    if f = s.blk.ptb.force then t else t.record .ptbSet f.strd.toNat f.slotd.toNat f.qbp.toNat

/-- DELAY of CHDD in NT clocks on a chord. -/
def State.chordDelay (s : State) (l : Link) : Nat :=
  let f := s.blk.ptb.force
  if (match l with | .C1 => f.chdd.getLsbD 16 | .C2 => f.chdd.getLsbD 17) then (f.chdd.extractLsb' 0 16).toNat else 0

/-- Queue `n` accepts no frame: QBP MODE 1, within VALUE µs of the rod boundary. -/
def State.queueHeld (s : State) (n : Nat) : Bool :=
  let q := s.blk.ptb.force.qbp
  s.blk.ptb.inforce && q.extractLsb' 6 2 == 1 && (q.extractLsb' 0 6).toNat == n &&
    decide (s.inFurlong % rodNs s.profile < 1000 * (q.extractLsb' 8 16).toNat)

/-- Depth of queue `n` in units of 256 bytes under QBP MODE 2. -/
def State.queueDepth (s : State) (n depth : Nat) : Nat :=
  let q := s.blk.ptb.force.qbp
  if s.blk.ptb.inforce && q.extractLsb' 6 2 == 2 && (q.extractLsb' 0 6).toNat == n then
    min depth (q.extractLsb' 8 16).toNat
  else depth

end Sys2Proof.Machine
end

