-- ==== Sys2Proof/Machine/Recorder.lean ====
section
/-! DEFINITION. The event recorder: intake of the status mirror, folding, the NOR log, freezing and the sentinel
(R392 to R412, R158). -/

namespace Sys2Proof.Machine

/-- Change the recorder. -/
def State.modRec (s : State) (f : Recorder → Recorder) : State := { s with recorder := f s.recorder }

/-- The clock state makes WALL valid (R401). -/
def State.wallOk (s : State) : Bool :=
  match s.blk.ntm.state with
  | .locked => true
  | .slewing => true
  | .holdover => true
  | .master => true
  | _ => false

/-- WALL of a record formed now. -/
def State.wallNow (s : State) : Option Nat := if s.wallOk then some s.time else none

/-- A record that the K3M (source 16#40) or the recorder (16#41) forms at the instant it arises (R394). -/
def State.k3mRec (s : State) (source : Nat) (t : RecType) (body : List Byte) : State :=
  if s.k3m.failed then s
  else s.modRec (fun r => { r with formQ := r.formQ ++ [(⟨t, source, body⟩, false, s.wallNow)] })

/-- A record of the recorder with the short body. -/
def State.recRec (s : State) (t : RecType) (a1 a2 a3 : Nat) : State := s.k3mRec 0x41 t (shortBody a1 a2 a3)

/-- A record of the K3M with the short body. -/
def State.updRec (s : State) (code a1 a2 a3 : Nat) : State := s.k3mRec 0x40 (.update code) (shortBody a1 a2 a3)

/-! ### Intake of the status mirror (R158, R393, R394) -/

/-- The delivered parts of the vertices in service in the furlong of the delivery, in letter order. -/
def State.mirrors (s : State) : List (Vtx × Mirror) :=
  (Vtx.list.filter s.k3m.serving.get).map (fun v => (v, s.mirror.get v))

/-- The records of source 16#10 of a delivery. -/
def Mirror.common (m : Mirror) : List Rec := m.recs.filter (fun r => r.source == 0x10)

/-- Entry `i` of source 16#10: the one on which two vertices agree, else that of the lowest-lettered vertex that has
one, with DISAGREE. -/
def commonEntry (l : List (List Rec)) (i : Nat) : Option (Rec × Bool) :=
  let es := l.filterMap (fun q => q[i]?)
  match es.find? (fun e => 2 ≤ (es.filter (fun f => f == e)).length) with
  | some e => some (e, false)
  | none => es.head?.map (fun e => (e, true))

/-- The records of source 16#10 of a status mirror, in entry order. -/
def State.commonRecs (s : State) : List (Rec × Bool) :=
  let l := s.mirrors.map (fun q => q.2.common)
  (List.range ((l.map List.length).foldl max 0)).filterMap (commonEntry l)

/-- The records of the vertices about themselves. -/
def State.ownRecs (s : State) : List (Rec × Bool) :=
  Vtx.list.flatMap (fun v => ((s.mirror.get v).recs.filter (fun r => r.source == 0x11 + v.num)).map (fun r => (r, false)))

/-- The APP_EVENT payload (Table 5.2). -/
def appEventBody (e : Event) (agree : Nat) : List Byte :=
  leBytes 2 e.ev.toNat ++ leBytes 1 e.task ++ leBytes 1 agree ++ leBytes 4 e.pc.toNat ++ leBytes 4 e.a.toNat ++
    leBytes 4 e.b.toNat

/-- The APP_EVENT record of entry index `i` (R158). -/
def eventEntry (l : List (Vtx × List Event)) (i : Nat) : Option (Rec × Bool) :=
  let es := l.filterMap (fun q => (q.2[i]?).map (fun e => (q.1, e)))
  let mask := fun (e : Event) => ((es.filter (fun q => q.2 == e)).map (fun q => 2 ^ q.1.num)).foldl (· + ·) 0
  match es.find? (fun q => 2 ≤ (es.filter (fun p => p.2 == q.2)).length) with
  | some q => some (⟨.appEvent, q.2.task, appEventBody q.2 (mask q.2)⟩, false)
  | none => es.head?.map (fun q => (⟨.appEvent, q.2.task, appEventBody q.2 (mask q.2 + 128)⟩, false))

/-- The APP_EVENT and EVT_OVERFLOW records of a status mirror (R158). -/
def State.eventRecs (s : State) : List (Rec × Bool) :=
  let l := s.mirrors.map (fun q => (q.1, q.2.events))
  let evs := (List.range ((l.map (fun q => q.2.length)).foldl max 0)).filterMap (eventEntry l)
  let drop := fun k => (s.mirrors.map (fun q => q.2.evDrop.getD k 0)).foldl max 0
  evs ++ ((List.range 8).filter (fun k => 0 < drop k)).map (fun k =>
    (⟨.evtOverflow, k, leBytes 2 (drop k) ++ leBytes 2 0⟩, false))

/-- An edge entry as bytes (Table 9.4). -/
def edgeBytes (e : EdgeEntry) : List Byte :=
  leBytes 8 e.time ++ leBytes 1 e.input ++ leBytes 1 (e.newClass + 4 * e.oldClass) ++ leBytes 2 e.eseq ++
    leBytes 1 (bit e.ovf) ++ leBytes 3 0 ++ (List.range 56).flatMap (fun i => leBytes 2 (e.current.getD i 0))

/-- LOG_JUMP (Table 13.7). -/
def logJumpBody (cause lost prseq : Nat) : List Byte :=
  leBytes 1 cause ++ leBytes 3 0 ++ leBytes 4 lost ++ leBytes 6 prseq ++ leBytes 2 0

/-- LOG_JUMP stands directly after a TAKEOVER record with CAUSE 1 or 2 (R409). -/
def withLogJump (r : Rec × Bool) : List (Rec × Bool) :=
  match r.1.typ with
  | .takeover =>
    if r.1.body.head? = some 1 ∨ r.1.body.head? = some 2 then
      [r, (⟨.logJump, 0x41, logJumpBody 2 0 (ofLe ((r.1.body.drop 16).take 6))⟩, false)]
    else [r]
  | _ => [r]

/-- The records of a status mirror, in the order of R394. -/
def State.mirrorRecs (s : State) : List (Rec × Bool) :=
  s.commonRecs.flatMap withLogJump ++ s.k3m.edges.map (fun e => (⟨.inputEdge, 0x10, edgeBytes e⟩, false)) ++
    s.ownRecs ++ s.eventRecs

/-- The largest dropped count of the vertices (R394). -/
def State.mirrorDrops (s : State) : Nat := (Vtx.list.map (fun v => (s.mirror.get v).recDrop)).foldl max 0

/-- The K3M forms the records of a status mirror, dated with the boundary of its furlong (R401). -/
def State.takeRecords (s : State) : State :=
  let wall := if s.wallOk then some s.k3m.boundary else none
  let t := s.modRec (fun r => { r with formQ := r.formQ ++ s.mirrorRecs.map (fun q => (q.1, q.2, wall)) })
  if 0 < s.mirrorDrops then t.recRec .recOverflow s.mirrorDrops 0 0 else t

/-! ### Folding (R402, R403) -/

/-- The NOR header fields REPEAT and LAST of a fold. -/
def Fold.fixed (f : Fold) : Nat × Nat := (f.rept, f.last - f.first)

/-- Closing programs REPEAT and LAST into the record, committed, unless LOG_FAIL has come (R407), or still in the queue. -/
def Recorder.program (r : Recorder) (f : Fold) : Recorder :=
  { r with
    log := if r.logfail then r.log else
      r.log.map (fun l => if l.q.id = f.id then { l with rept := some f.fixed.1, last := some f.fixed.2 } else l),
    queue := r.queue.map (fun q => if q.id = f.id then { q with fix := some f.fixed } else q) }

/-- Nothing is programmed: in a FREEZE (R411), and from the loss of both supply inputs (R447). -/
def Recorder.still (r : Recorder) : Bool := r.frozen.isSome || r.norHold

/-- What waited for its programming is programmed, unless nothing may be. -/
def Recorder.settle (r : Recorder) : Recorder :=
  if r.still then r else { r.deferred.foldl Recorder.program r with deferred := [] }

/-- A fold closes; while nothing may be programmed the programming waits. -/
def Recorder.close (r : Recorder) (f : Fold) : Recorder :=
  let r1 := { r with folds := r.folds.filter (fun g => g.id != f.id) }
  if r.still then { r1 with deferred := r1.deferred ++ [f] } else r1.program f

/-- Several folds close. -/
def Recorder.closeAll (r : Recorder) (l : List Fold) : Recorder := l.foldl Recorder.close r

/-- The open fold into which a record folds (R402). -/
def Recorder.foldOf (r : Recorder) (x : Rec) : Option Fold :=
  r.folds.find? (fun f => f.typ == x.typ && f.source == x.source && f.pcycle == r.pcycle && f.body == x.body)

/-- A further occurrence of an open record. A fold that reaches 65 534 closes. -/
def Recorder.again (r : Recorder) (f : Fold) : Recorder :=
  let g := { f with rept := f.rept + 1, last := r.optime }
  let r1 := { r with folds := r.folds.filter (fun h => h.id != f.id) ++ [g] }
  if 65534 ≤ g.rept then r1.close g else r1

/-- Room for a new fold: the least recently used one gives way. -/
def Recorder.room (r : Recorder) : Recorder :=
  match r.folds with
  | f :: _ => if 64 ≤ r.folds.length then r.close f else r
  | [] => r

/-- A record enters the write queue and opens a fold; one that finds the queue full is dropped (R398). -/
def Recorder.enter (r0 : Recorder) (x : Rec) (disagree : Bool) (wall : Option Nat) : Recorder :=
  let r := r0.closeAll (r0.folds.filter (fun f => f.typ == x.typ && f.source == x.source))
  if 512 ≤ r.queue.length then { r with overflow := r.overflow + 1, ovf := satInc 16 r.ovf }
  else
    let r1 := r.room
    { r1 with
      ids := r1.ids + 1,
      queue := r1.queue ++ [⟨r1.ids, none, x, disagree, r1.frozen.isSome, r1.optime, r1.pcycle, wall⟩],
      heldCount := if r1.frozen.isSome then satInc 16 r1.heldCount else r1.heldCount,
      folds := r1.folds ++ [⟨x.typ, x.source, r1.ids, x.body, r1.optime, 0, r1.optime, r1.pcycle⟩] }

/-- A record is folded, or enters the queue (R402). -/
def Recorder.form (r : Recorder) (x : Rec) (disagree : Bool) (wall : Option Nat) : Recorder :=
  match r.foldOf x with
  | some f => r.again f
  | none => r.enter x disagree wall

/-- RECORD_FORM: the next record is folded, or enters the queue. -/
def execRecordForm (dt : Nat) (s0 : State) : Host.Outcome State Fault Refusal :=
  let s := s0.elapse dt
  match s.recorder.formQ with
  | [] => ok s
  | (x, d, w) :: rest =>
    if s.k3m.failed then ok s
    else
      ok (s.modRec (fun r => { r with formQ := rest }.form x d w))

/-- FOLD_TIMEOUT: 600 units of OPTIME without an occurrence. -/
def execFoldTimeout (dt : Nat) (s0 : State) : Host.Outcome State Fault Refusal :=
  let s := s0.elapse dt
  ok (s.modRec (fun r => r.closeAll (r.folds.filter (fun f => 600 ≤ r.optime - f.last))))

/-! ### The NOR log (R404 to R407) -/

/-- Sectors and their size. -/
def sectors : Nat := 1024
def sectorSize : Nat := 131072

/-- The body as stored: padded to 16 bytes at least and to a multiple of 8 (R395). -/
def padBody (b : List Byte) : List Byte :=
  let n := max 16 (ceilDiv b.length 8 * 8)
  b ++ List.replicate (n - b.length) 0

/-- LEN of a record. -/
def Rec.len (r : Rec) : Nat := 40 + (padBody r.body).length

/-- Header bytes with COMMIT, REPEAT, LAST and CRC as given (Table 13.2). -/
def QRec.header (q : QRec) (seq commit rept last crc : Nat) : List Byte :=
  leBytes 2 q.r.len ++ leBytes 2 (recCode q.r.typ) ++ leBytes 1 q.r.source ++
    leBytes 1 (bit q.disagree + 2 * bit q.wall.isSome + 4 * bit q.held) ++ leBytes 6 seq ++ leBytes 5 q.optime ++
    leBytes 1 commit ++ leBytes 2 rept ++ leBytes 4 q.pcycle ++ leBytes 4 last ++ leBytes 8 (q.wall.getD 0) ++
    leBytes 4 crc

/-- CRC of a record (Table 13.2). -/
def QRec.crc (q : QRec) (seq : Nat) : Nat :=
  (crc32c (q.header seq 0xFF 0xFFFF 0xFFFFFFFF 0xFFFFFFFF ++ padBody q.r.body)).toNat

/-- A record of the log is committed. -/
def LogRec.whole (l : LogRec) : Bool := l.commit == 0xA5

/-- The bytes of a record of the log. -/
def LogRec.bytes (l : LogRec) : List Byte :=
  l.q.header l.seq l.commit.toNat (l.rept.getD 0xFFFF) (l.last.getD 0xFFFFFFFF) (l.q.crc l.seq) ++ padBody l.q.r.body

/-- The next sector that is not retired. -/
def Recorder.nextFrom (r : Recorder) (k : Nat) : Nat → Nat
  | 0 => k
  | n + 1 => if r.retired.contains (k % sectors) then r.nextFrom (k + 1) n else k % sectors

/-- The sector after the present one. -/
def Recorder.nextSector (r : Recorder) : Nat := r.nextFrom (r.sector + 1) sectors

/-- The sector two places ahead. -/
def Recorder.aheadSector (r : Recorder) : Nat := r.nextFrom (r.nextSector + 1) sectors

/-- The erase of the sector two places ahead begins: its records are gone. -/
def Recorder.eraseAhead (r : Recorder) : Recorder :=
  { r with erasing := true, log := r.log.filter (fun l => l.sector != r.aheadSector) }

/-- Writing enters the next sector, or the first one: the sector two places ahead is erased. -/
def Recorder.openSector (r : Recorder) : Recorder :=
  Recorder.eraseAhead
    { r with sector := if r.pos = 0 then r.nextFrom r.sector sectors else r.nextSector, sseq := r.sseq + 1, pos := 16 }

/-- The sector that a record goes into is open: one that does not fit the rest of a sector opens the next, and the first record the
first (R404). -/
def Recorder.place (r : Recorder) (q : QRec) : Recorder :=
  if r.pos = 0 ∨ sectorSize < r.pos + q.r.len then r.openSector else r

/-- What is done with the NOR unless LOG_FAIL has come: then nothing more is written or erased there (R407). -/
def Recorder.unlessFailed (r : Recorder) (f : Recorder → Recorder) : Recorder := if r.logfail then r else f r

/-- The sector header of the present sector (R404): MAGIC, SSEQ, and the SEQ of its first record. -/
def Recorder.sectorHeader (r : Recorder) : List Byte :=
  let first := match r.log.find? (fun l => l.sseq == r.sseq) with
    | some l => l.seq
    | none => r.seq
  leBytes 4 0x4B335245 ++ leBytes 4 r.sseq ++ leBytes 6 first ++ leBytes 2 0

/-- A circle of `n` places after an entry: an empty place is taken, or that of the oldest entry, whose place is `k`. -/
def circlePut {α : Type} (n k : Nat) (l : List α) (x : α) : List α := if l.length < n then l ++ [x] else setNth l k x

/-- The place of the oldest entry after it. -/
def circleNext {α : Type} (n k : Nat) (l : List α) : Nat := if l.length < n then k else (k + 1) % n

/-- A failure entry: 64 in a circle (R406). -/
def Recorder.addSentinel (r : Recorder) (kind sector : Nat) : Recorder :=
  { r with
    sentinel := circlePut 64 r.sentAt r.sentinel ⟨kind, sector, r.seq, r.optime, r.pcycle⟩,
    sentAt := circleNext 64 r.sentAt r.sentinel }

/-- Two consecutive sectors are retired, or more than 8 (Table 13.6). -/
def Recorder.worn (r : Recorder) : Bool :=
  decide (8 < r.retired.length) || r.retired.any (fun k => r.retired.contains ((k + 1) % sectors))

/-- A sector is retired with a failure kind; KIND 4 follows when the log is worn. -/
def Recorder.retire (r : Recorder) (kind sector : Nat) : Recorder :=
  let r1 := { r with retired := sector :: r.retired }.addSentinel kind sector
  if r1.worn then { (r1.addSentinel 4 sector) with logfail := true, fallSeq := r1.seq } else r1

/-- A record stands in the open sector, with COMMIT as given (R405). -/
def Recorder.write (r : Recorder) (q : QRec) (commit : Byte) : Recorder :=
  { r with
    pos := r.pos + q.r.len,
    log := r.log ++ [⟨q, r.seq, q.fix.map Prod.fst, q.fix.map Prod.snd, r.sector, r.sseq, commit⟩] }

/-- A record is programmed and committed with the next SEQ (R399, R405). -/
def Recorder.commit (r : Recorder) (q : QRec) (rest : List QRec) : Recorder :=
  { (r.place q).write q 0xA5 with queue := rest, seq := r.seq + 1 }

/-- A record is programmed and not committed: it stands torn, takes no SEQ and stays in the queue (R405). -/
def Recorder.tear (r : Recorder) (q : QRec) : Recorder := (r.place q).write q 0xFF

/-- The first `n` bytes, with zeros after them up to `n`. What FRAM holds of an entry beyond its record is 0 (DESIGN CHOICE,
notes/assumptions/58.md). -/
def padTo (n : Nat) (b : List Byte) : List Byte := (b ++ List.replicate (n - b.length) 0).take n

/-- In LOG_FAIL the first 64 bytes of a record go into the fallback circle of 960 entries (R406, R407). -/
def Recorder.fall (r : Recorder) (q : QRec) (rest : List QRec) : Recorder :=
  let fix := q.fix.getD (0xFFFF, 0xFFFFFFFF)
  let b := q.header r.fallSeq 0xA5 fix.1 fix.2 (q.crc r.fallSeq) ++ padBody q.r.body
  { r with
    queue := rest, fallSeq := r.fallSeq + 1, fallback := circlePut 960 r.fallAt r.fallback (r.fallSeq, padTo 64 b),
    fallAt := circleNext 960 r.fallAt r.fallback }

/-- HOLD_OVERFLOW is written once the queue has room: it takes that room itself (R398). -/
def State.holdOverflow (s : State) : State :=
  if 0 < s.recorder.overflow ∧ s.recorder.queue.length < 512 ∧ s.k3m.failed = false then
    s.modRec (fun r =>
      { r.form ⟨.holdOverflow, 0x41, shortBody s.recorder.overflow 0 0⟩ false s.wallNow with overflow := 0 })
  else s

/-- The recorder's turn in the slack: the mirror set is sent, and no slice runs or waits for its reserved slot (R56). -/
def State.recorderTurn (s : State) : Bool := s.slackFree && s.blk.bst.running.isEmpty

/-- RECORD_COMMIT: the oldest record of the queue is programmed; recorder writes come last in the slack (R56). A FREEZE,
a failed K3M and the loss of both supply inputs stop it (R411, R447). `torn` is a write in which the K3M stops: the record has no
COMMIT. -/
def execRecordCommit (dt : Nat) (o : NorOutcome) (s0 : State) : Host.Outcome State Fault Refusal :=
  let s1 := s0.elapse dt
  match s1.recorder.queue with
  | [] => ok s1
  | q :: rest =>
    let s := s1.modRec (fun r => { r with wrote := if s1.boundaries then some s1.fnum else r.wrote })
    if s1.recorder.frozen.isSome || s1.k3m.failed || s1.supply.bothLost || (s1.boundaries && !s1.recorderTurn) then ok s1
    else if s.recorder.logfail then ok ((s.modRec (fun r => r.fall q rest)).holdOverflow)
    else
      match o with
      | .ok => ok ((s.modRec (fun r => r.commit q rest)).holdOverflow)
      | .mismatch =>
        let k := (s.recorder.place q).sector
        ok ((s.modRec (fun r => ((r.tear q).retire 1 k).unlessFailed Recorder.openSector)).recRec .sectorRetired k 1 0)
      | .torn => ok { s.modRec (fun r => r.tear q) with k3m := { s.k3m with failed := true } }
      | .noResponse =>
        ok (s.modRec (fun r => { (r.addSentinel 3 r.sector) with logfail := true, fallSeq := r.seq }))

/-- SECTOR_ERASE_END: a failed erase retires the sector, and the next one is erased instead, which waits while both supply inputs are
lost (R447). -/
def execSectorEraseEnd (dt : Nat) (okay : Bool) (s0 : State) : Host.Outcome State Fault Refusal :=
  let s := s0.elapse dt
  if !s.recorder.erasing || s.recorder.frozen.isSome || s.recorder.logfail then ok s
  else if okay then ok (s.modRec (fun r => { r with erasing := false }))
  else
    let k := s.recorder.aheadSector
    ok ((s.modRec (fun r =>
      (r.retire 2 k).unlessFailed (fun q => if q.norHold then q else q.eraseAhead))).recRec .sectorRetired k 2 0)

/-- COUNTER_SAVE: every 10 s OPTIME and CLEAN go to FRAM (R400, R430). -/
def execCounterSave (dt : Nat) (s0 : State) : Host.Outcome State Fault Refusal :=
  let s := s0.elapse dt
  if s.k3m.failed || decide (s.nt - s.recorder.saveNt < tenSeconds) then ok s
  else
    let t := s.modRec (fun r => { r with saved := r.optime, saveNt := s.nt })
    if s.upd.onProbation then ok (t.journal (fun j => { j with clean := s.upd.clean })) else ok t

/-! ### Freezing (R411, R412) -/

/-- A FREEZE by a session: queued records are HELD. -/
def Recorder.freeze (r : Recorder) (n : Sess) (nt : Nat) : Recorder :=
  { r with
    frozen := some n, frozenNt := nt, heldCount := min r.queue.length 65535,
    queue := r.queue.map (fun q => { q with held := true }) }

/-- The end of a FREEZE: the folds that closed in it are programmed; the queue is written by the commits that follow. -/
def Recorder.thaw (r : Recorder) : Recorder := { r with frozen := none, heldCount := 0 }.settle

/-- The end of a FREEZE. HOLD_OVERFLOW for records that were dropped follows once the queue has room (R398, R411). -/
def State.thaw (s : State) : State :=
  (s.modRec Recorder.thaw).holdOverflow

/-- FREEZE_TIMEOUT: 600 s after a FREEZE. -/
def execFreezeTimeout (dt : Nat) (s0 : State) : Host.Outcome State Fault Refusal :=
  let s := s0.elapse dt
  if s.recorder.frozen.isSome && decide (75000000000 ≤ s.nt - s.recorder.frozenNt) then
    ok (s.thaw.recRec .freezeTimeout s.recorder.heldCount 0 0)
  else ok s

/-! ### Registers -/

/-- EVR_CTL_CLR: DROP of vertex `v`. -/
def State.evrCtl (s : State) (v : Vtx) : State :=
  s.modV v (fun x => { x with loc := { x.loc with qdrop := 0, edrop := 0 } })

/-- EVR_CTL_CLR. -/
def execEvrCtlClr (v : Vtx) (s : State) : Host.Outcome State Fault Refusal := ok (s.evrCtl v)

/-- RECN_CTL_CLR: HOLD.OVF. -/
def execRecnCtlClr (s : State) : Host.Outcome State Fault Refusal := ok (s.modRec (fun r => { r with ovf := 0 }))

/-- RECN.CTL.SCLR clears the failure entries in COMMISSION; elsewhere the write is refused (Table 0.3). -/
def State.sentinelClear (s : State) : State :=
  if s.mode = .commission then s.modRec (fun r => { r with sentinel := [], sentAt := 0 })
  else s.k3mRec 0x40 .writeRefused (shortBody 0x40001024 1 0)

/-- SENTINEL_CLEAR. -/
def execSentinelClear (s : State) : Host.Outcome State Fault Refusal := ok s.sentinelClear

end Sys2Proof.Machine
end

