-- ==== Sys2Proof/Machine/Deliver.lean ====
section
/-! DEFINITION. The latch of the register blocks and the delivery of the status mirror at a furlong boundary (R157, R215,
R393, R474). -/

namespace Sys2Proof.Machine

/-- The blocks as vertex `v` latches them. -/
def State.latchOf (s : State) (v : Vtx) : Blocks := { s.blk with mem := s.memView v }

/-- A vertex that has not stopped latches its blocks for the furlong (R215). -/
def State.latch (s : State) : State :=
  { s with view := s.view.mapv (fun v b => if s.inService v || s.trial v then s.latchOf v else b) }

/-- The soft and fused repairs that vertex `v` shows: its own banks and the shared ones. -/
def State.repairsShown (s : State) (v : Vtx) : List Repair := s.repairs.get v ++ s.repairsSh

/-- Spare rows of a bank (Table 12.1). -/
def spareRows (b : Nat) : Nat := if b = 7 then 4 else 16

/-- RPRN.FREE: the fewest free spare rows of any bank. -/
def freeRows (l : List Repair) : Nat :=
  ((List.range 8).map (fun b => spareRows b - (l.filter (fun r => r.bank == b && !r.column)).length)).foldl min 16

/-- What the registers of vertex `v` show of that vertex alone. -/
def State.localRegs (s : State) (v : Vtx) : LocalRegs :=
  let x := s.v v
  { loc := x.loc, lat := x.lat, own := x.own,
    freeRows := if s.marched then freeRows (s.repairsShown v) else 0,
    repairs := s.repairsShown v, ptb := s.blk.ptb.own.get v, rod := if s.boundaries then s.rod else 0,
    phase := s.phase, linkf := s.blk.sio.linkf.get v }

/-- What vertex `v` delivers: its record and event buffers, and its blocks as latched for the furlong, unless it has stopped or no
furlong has run (R474). -/
def State.deliverOf (s : State) (v : Vtx) (m : Mirror) : Mirror :=
  let x := s.v v
  let live := s.boundaries && (s.inService v || s.trial v)
  { blk := if live then s.view.get v else m.blk, regs := if live then s.localRegs v else m.regs,
    recs := x.recs, recDrop := x.recDrop, events := x.events, evDrop := x.evDrop }

/-- The buffers of a furlong are emptied when they have been delivered. -/
def Vertex.emptyBuffers (x : Vertex) : Vertex :=
  { x with recs := [], recDrop := 0, events := [], evDrop := List.replicate 8 0 }

/-- What the K3M reads in the status mirror of the module in common: the part of the lowest-lettered vertex in service. -/
def State.mirrorBlk (s : State) : Blocks := (s.mirror.get ((Vtx.list.find? s.k3m.serving.get).getD .A)).blk

/-- The modes in which requests need a role (R436). -/
def State.strict (s : State) : Bool := s.mode == .commission || s.mode == .maintenance || s.mode == .halt

/-- HSTAT as the K3M writes it (Table 16.6). -/
def State.hstat (s : State) (ready taken : Bool) : Nat :=
  bit ready + 2 * bit (!s.strict) + 4 * bit taken + 2 ^ 8 * modeCode s.mode

/-- RSPRDY in the window. -/
def HostWin.ready (h : HostWin) : Bool := testB (Memory.load h.mem 0 2) 0

/-- The K3M writes HSTAT. -/
def State.writeHstat (s : State) (ready : Bool) : State :=
  { s with hwin := { s.hwin with mem := Memory.store s.hwin.mem 0 2 (s.hstat ready s.hwin.request.isSome) } }

/-- The K3M brings the mode in HSTAT up to date. -/
def State.showMode (s : State) : State := if s.k3m.failed then s else s.writeHstat s.hwin.ready

/-- While no boundaries are raised the status mirror shows the register blocks with every mailbox copy: the result of a command
that the firmware has taken appears in it (R80). -/
def State.mirrorPoll (s : State) : State :=
  if s.inReset then s
  else
    State.showMode { s with mirror := s.mirror.mapv (fun v m =>
        if s.inService v then { m with blk := s.latchOf v, regs := s.localRegs v } else m) }

/-- Before any intake LOST counts from the furlong before the first delivery (R408). -/
def Recorder.firstDelivery (r : Recorder) (f : Nat) : Recorder :=
  match r.intake with
  | some _ => r
  | none => { r with intake := some (f - 1) }

/-- The status mirror of furlong `f` is delivered. `start` is the network time of the boundary that opened it. -/
def State.deliver (s : State) (f start : Nat) : State :=
  let t := s.modAll (fun _ x => x.emptyBuffers)
  { t with
    mirror := s.mirror.mapv s.deliverOf, recorder := s.recorder.firstDelivery f,
    k3m := { s.k3m with
             waiting := some f, boundary := start, serving := s.blk.cen.excl.map not,
             edges := s.edge.fresh },
    edge := { s.edge with fresh := [] } }

end Sys2Proof.Machine
end

