-- ==== Sys2Proof/Machine/Matrix.lean ====
section
/-! DEFINITION. What the bus matrix fixes: slot times, directions, ranks, schedule of the guardians (R241, R246,
R249 to R251, R269, R271). Times are in ns. -/

namespace Sys2Proof.Machine

/-- Rods per repetition of a descriptor (Table 8.5). -/
def repOf : Nat → Nat
  | 0 => 1
  | 1 => 2
  | 2 => 4
  | 3 => 8
  | 4 => 20
  | _ => 40

/-- The descriptor assigns its slot in rod `r` of the 40 rods of a furlong (R251). -/
def slotInRod (d : SlotDesc) (r : Nat) : Bool := decide (r < 40) && r % repOf d.rep == d.base

/-- Duration of slot `k` in ns (R250). -/
def slotDur (m : Matrix) (k : Nat) : Nat :=
  match m.slots.find? (fun d => d.slot == k) with
  | some d => 500 * d.dur
  | none => 0

/-- OFS(s) in ns (R250). -/
def slotOfs (m : Matrix) (k : Nat) : Nat := ((List.range k).map (slotDur m)).foldl (· + ·) 0

/-- Number of slots of the exclusive window (R250). -/
def slotCount (m : Matrix) : Nat := (m.slots.map (fun d => d.slot + 1)).foldl max 0

/-- Length of the exclusive window in ns. -/
def exclNs (m : Matrix) : Nat := slotOfs m (slotCount m)

/-- The descriptor that assigns a slot in a rod. -/
def descAt (m : Matrix) (rod slot : Nat) : Option (Nat × SlotDesc) :=
  (m.slots.zipIdx.map (fun (d, i) => (i, d))).find? (fun p => p.2.slot == slot && slotInRod p.2 rod)

/-- The descriptor names the position, whatever its senior bit. -/
def ownedBy (d : SlotDesc) (p : Position) : Bool := d.owner.area == p.area && d.owner.pos == p.pos

/-- The direction of a descriptor for the module (R251): 0 neither, 1 receive, 2 transmit. -/
def descDir (p : Position) (d : SlotDesc) : Nat :=
  if ownedBy d p && d.pairspec then
    if d.status then (if d.owner.senior = p.senior then 2 else 1)
    else if d.owner.senior = p.senior then d.dir else 0
  else d.dir

/-- A position of the matrix owns a slot (R47). -/
def ownsSlot (m : Matrix) (p : Position) : Bool :=
  m.slots.any (fun d => ownedBy d p && (!d.pairspec || d.owner.senior == p.senior))

/-- A source is the owner of a descriptor. With PAIRSPEC 1 that is the module of the descriptor's senior bit alone, also for the own
descriptor of R264: a copy of the partner there fails step 3 and never sets FOREIGN (DEDUCED, notes/assumptions/69.md). -/
def srcOwns (d : SlotDesc) (src : BitVec 16) : Bool :=
  srcBase d.owner.src == srcBase src && (!d.pairspec || d.owner.senior == srcSenior src)

/-- Start of a slot, from the start of the furlong, in ns (R250). -/
def slotStart (m : Matrix) (p : Profile) (rod slot : Nat) : Nat := rod * rodNs p + slotOfs m slot

/-- TS of a slot: 250 ns after its start (R250). -/
def slotTs (m : Matrix) (p : Profile) (fnum rod slot : Nat) : Nat := fnum * furlongNs p + slotStart m p rod slot + 250

/-- Rod count of rod `r` of furlong `f` (R246). -/
def rodCount (f r : Nat) : Nat := (40 * f + r) % 2 ^ 32

/-- Bytes of a Swisko frame with its preamble; a byte takes one NT clock of 8 ns (R252). -/
def frameBytes (plen : Nat) : Nat := 58 + 4 * plen

/-- Rank of a position (R271). -/
def rankOf (p : Position) : Nat := 2 * p.pos + (if p.senior then 0 else 1)

/-- Listen timeout in rods (R271). -/
def listenRods (p : Position) : Nat := 80 + 3 * p.pos + (if p.senior then 0 else 1)

/-- The rank of a coldstart-capable source of a segment. -/
def coldRank (g : Segment) (src : BitVec 16) : Option Nat := (g.coldstart.find? (fun p => p.src == src)).map rankOf

/-- The segment of a network. -/
def segOf (m : Matrix) (n : Net) : Segment :=
  match n with
  | .X => m.segX
  | .Y => m.segY

/-- Start of the arbitrating window within a rod, in ns (R249). -/
def arbStart (m : Matrix) : Nat := exclNs m

/-- End of the arbitrating window: the start of the guard (R249). -/
def arbEnd (p : Profile) : Nat := rodNs p - 1000

/-- ARBRES as the verifier computes it, one value for both segments (R255; notes/assumptions/9.md). -/
def arbAllowance (m : Matrix) : Nat := max (Config.forwardAllowance m.segX) (Config.forwardAllowance m.segY)

/-! ### The module on its matrix -/

/-- The module is coldstart-capable (R271). -/
def State.coldCapable (s : State) : Bool :=
  match s.blk.ttb.matrix, s.blk.ttb.pos with
  | some m, some p => (coldRank m.segX p.src).isSome || (coldRank m.segY p.src).isSome
  | _, _ => false

/-- Own rank. -/
def State.rank (s : State) : Nat :=
  match s.blk.ttb.pos with
  | some p => rankOf p
  | none => 0

/-- Own listen timeout. -/
def State.lt (s : State) : Nat :=
  match s.blk.ttb.pos with
  | some p => listenRods p
  | none => 0

/-- The rod count of the present rod. -/
def State.rodCountNow (s : State) : Nat := s.time / rodNs s.profile % 2 ^ 32

/-- The network is silent for the module: its guardian has cut the transmitter (R39, R270). -/
def State.cutNet (s : State) (n : Net) : Bool :=
  s.blk.ttb.babble.get n || s.blk.ttb.syncLost.get n || (s.guard.get n).cut

/-- The guardian has a schedule and a reference (R45). -/
def State.guardReady (s : State) (n : Net) : Bool := (s.guard.get n).schedule.isSome && (s.guard.get n).reference

/-- The module sends from the first furlong boundary at or after the entry to INTEGRATED (R272): step 7 of the power-on
sequence is complete. -/
def State.sending (s : State) : Bool := s.blk.ttb.state == .integrated && decide (8 ≤ s.start.step)

/-- The module owns the slot, by position or by senior bit (R251, R269). -/
def ownsDesc (p : Position) (d : SlotDesc) : Bool := ownedBy d p && (!d.pairspec || d.owner.senior == p.senior)

/-- A transmission from `a` to `b` ns lies in a window that opens at `lo` and closes at `hi`, with 0.5 µs before. -/
def inWindow (a b lo hi : Nat) : Bool := decide (lo ≤ a + 500) && decide (b ≤ hi)

/-- The slots that a guardian permits: all that its schedule holds of the module's own, once integrated; in HALT only the
first STATUS slot of a furlong (R45, R260). -/
def State.slotPermitted (s : State) (m : Matrix) (p : Position) (l : List DescWords) (q a b : Nat) : Bool :=
  s.blk.ttb.state == .integrated && (l.map DescWords.fields).any (fun d =>
    ownsDesc p d && slotInRod d (q % 40) && (s.mode != .halt || (d.status && q % 40 == d.base)) &&
      inWindow a b (q * rodNs s.profile + slotOfs m d.slot) (q * rodNs s.profile + slotOfs m d.slot + 500 * d.dur + 500))

/-- The guardian of network `n` permits a transmission of the module from `a` to `b` ns of network time: an owned slot, the
arbitrating window, or a coldstart window (R269). The rods are those of the start of the transmission and the next. Once the
module has integrated, the coldstart windows are closed; under R478 everything is (pass-through aside). -/
def State.permits (s : State) (n : Net) (a b : Nat) : Bool :=
  match s.blk.ttb.matrix, s.blk.ttb.pos, (s.guard.get n).schedule with
  | some m, some p, some l =>
    let r := rodNs s.profile
    !s.r478 && (s.guard.get n).reference && [a / r, a / r + 1].any (fun q =>
      s.slotPermitted m p l q a b ||
        (s.mode != .halt && inWindow a b (q * r + arbStart m) (q * r + arbEnd s.profile + 500)) ||
        (s.mode != .halt && !s.sending && (s.blk.ttb.state == .coldstart || s.blk.ttb.state == .integrated) &&
          inWindow a b (q * r) (q * r + 1500)))
  | _, _, _ => false

/-- The module may send frames of its own on network `n`: guardian, integration, and not under R478. -/
def State.maySend (s : State) (n : Net) : Bool :=
  !s.cutNet n && s.guardReady n && s.sending && !s.r478

/-- A port is up. -/
def State.portUp (s : State) (p : Port) : Bool :=
  match p with
  | .X1 => s.blk.ttb.up.getD 0 false
  | .X2 => s.blk.ttb.up.getD 1 false
  | .Y1 => s.blk.ttb.up.getD 2 false
  | .Y2 => s.blk.ttb.up.getD 3 false
  | _ => false

/-- The guardian cuts a transmission outside its windows and latches BABBLE (R270). -/
def State.babbleOn (s : State) (n : Net) : State :=
  if s.cutNet n then s
  else
    let t := (s.record .babble (match n with | .X => 0 | .Y => 1) 0 0).modTtb
      (fun b => { b with babble := b.babble.set n true })
    { t with guard := t.guard.set n { t.guard.get n with cut := true } }

/-- A frame of the module leaves on network `n` (R245): HOP is the HOPS of the segment. -/
def State.sendOn (s : State) (n : Net) (f : Frame) : State :=
  match s.blk.ttb.matrix with
  | none => s
  | some m =>
    s.emit (.frame n
      { f with
        hop := (segOf m n).hops,
        verf := match n with | .X => f.verf | .Y => f.verf ||| 0x04#8 })

/-- A slot frame leaves on network `n`, `8 × delay` ns late (R387 SLOTD). One that the guardian does not permit to its end is
cut (R269, R270). -/
def State.sendSlot (s : State) (n : Net) (f : Frame) (delay : Nat) : State :=
  let a := s.time + 8 * delay
  if !s.maySend n then s
  else if !s.permits n a (a + 8 * frameBytes f.plen) then (s.sendOn n { f with fcsOk := false }).babbleOn n
  else s.sendOn n f

/-- A frame of the module, with VID and PCP of the matrix and both codes (R244, R247). -/
def State.mkFrame (s : State) (kind : BitVec 8) (rodslot : BitVec 16) (seq : Word) (ts : Nat) (held : Bool)
    (payload : List Word) : Frame :=
  let tag := match s.blk.ttb.matrix with
    | some m => (m.vid, m.pcp)
    | none => (0, 0)
  ({ fcsOk := true, etype := s.etype, vid := tag.1, pcp := tag.2, verf := if held then 0x18#8 else 0x10#8, kind := kind, src := s.ownSrc,
     rodslot := rodslot, hop := 0, plen := payload.length, seq := seq, ts := BitVec.ofNat 64 ts, payload := payload,
     code1 := 0, code2 := 0 } : Frame).coded s.blk.ttb.mid

/-- A frame from the output image, whose codes two image ports compute over their own copies (R248). -/
def State.mkImageFrame (s : State) (kind : BitVec 8) (rodslot : BitVec 16) (seq : Word) (ts : Nat) (held : Bool)
    (payload copy1 copy2 : List Word) : Frame :=
  (s.mkFrame kind rodslot seq ts held payload).codedBy s.blk.ttb.mid copy1 copy2

/-- The vertices whose ports compute CODE1 and CODE2: A and B, or C in the place of one that is out of service (R35, R248). -/
def State.coders (s : State) : Vtx × Vtx :=
  (if s.inService .A then .A else .C, if s.inService .B then .B else .C)

/-- RODSLOT of a rod and a slot or channel (Table 8.3). -/
def rodslotOf (rod slot : Nat) : BitVec 16 := BitVec.ofNat 16 (2 ^ 8 * (rod % 64) + slot % 256)

/-- The KIND codes (Table 8.3). -/
def kSlot : BitVec 8 := 0x11
def kStatus : BitVec 8 := 0x12
def kEvent : BitVec 8 := 0x21
def kColdstart : BitVec 8 := 0x31
def kMgmt : BitVec 8 := 0x41

end Sys2Proof.Machine
end

