-- ==== Sys2Proof/Machine/PtpForm.lean ====
section
/-! DEFINITION. IEEE 1588 messages of the module and the checks of its profile (R282 to R285, R288, Table 9.1). -/

namespace Sys2Proof.Machine

/-- The destination of Table 9.1. -/
def ptpDest : BitVec 48 := 0x011B19000000

/-- A header under Table 9.1. -/
def State.ptpHdr (s : State) (logInterval : Int) : PtpHdr :=
  let vid := match s.blk.ttb.matrix with
    | some m => m.vid
    | none => 0
  { dest := ptpDest, vid := vid, pcp := 7, domain := 0, sdo := 0, minor := 1, logInterval := logInterval,
    twoStep := false, unicast := false, port := 0, utcOffset := 0 }

/-- A header that follows Table 9.1, for a message with the given interval (R283). The requesting port and currentUtcOffset are
free. -/
def State.ptpOk (s : State) (h : PtpHdr) (logInterval : Int) : Bool :=
  { h with port := 0, utcOffset := 0 } == s.ptpHdr logInterval

/-- Count a message ignored under R283. -/
def State.ignoreProfile (s : State) : State := s.modNtm (fun n => { n with ignProfile := satInc 16 n.ignProfile })

/-- The clockIdentity of the module, given by its position code (R2). -/
def State.clockId (s : State) : Long := Config.clockIdentity s.ownSrc

/-- The port number of a network, and the network of a port number. -/
def netPort : Net → Nat
  | .X => 1
  | .Y => 2
def netOfPort (n : Nat) : Net := if n = 2 then .Y else .X

/-- Time-stamp of a frame that starts now: the first bit after the start frame delimiter, 64 ns after the start of the
preamble (R282). -/
def State.stamp (s : State) : Nat := s.time + 64

/-- DELAY of SLOTD in NT clocks on a network, 125 at most (Table 12.14). -/
def State.slotDelay (s : State) (n : Net) : Nat :=
  let f := s.blk.ptb.force
  if (match n with | .X => f.slotd.getLsbD 8 | .Y => f.slotd.getLsbD 9) then min 125 (f.slotd.extractLsb' 0 7).toNat else 0

/-- The time-stamp of a message that leaves now on network `n`, later by SLOTD (R387). -/
def State.stampOn (s : State) (n : Net) : Nat := s.stamp + 8 * s.slotDelay n

/-- The message of queue 60 or 61, with logMessageInterval 0 in a Delay_Req, for which Table 9.1 names none (DESIGN CHOICE,
notes/assumptions/69.md), as it leaves on network `net`, with its time-stamp written in flight (R285, R288). -/
def State.ptpForm (s : State) (net : Net) (m : TxPtp) : PtpMsg :=
  match m with
  | .sync => .sync (s.ptpHdr (-3)) s.clockId (s.stampOn net) 0
  | .announce =>
    .announce { s.ptpHdr (-2) with utcOffset := s.ptp.utcOffset.getD Config.utcOffset } s.clockId 128 248 0xFE 0xFFFF s.rank 0
  | .delayReq n => .delayReq { s.ptpHdr 0 with port := netPort net } s.clockId n 0
  | .delayResp p r n t c => .delayResp { s.ptpHdr 0 with port := p } s.clockId r n t c

/-! ### The bytes of a message (R10)

The layout is that of IEEE 1588-2019, which the spec names and does not write out (PRESUMED, notes/assumptions/70.md). -/

/-- `n` bytes of a signed number, most significant first. -/
def beInt (n : Nat) (x : Int) : List Byte := beBytes n (x % (2 ^ (8 * n) : Nat)).toNat

/-- A time in ns as seconds and nanoseconds. -/
def ptpTime (t : Nat) : List Byte := beBytes 6 (t / 1000000000) ++ beBytes 4 (t % 1000000000)

/-- The 34 bytes of the header: messageType, messageLength, sourcePortIdentity, sequenceId, controlField. -/
def ptpHdrBytes (h : PtpHdr) (typ len : Nat) (corr : Int) (clockId : Long) (port seq ctl : Nat) : List Byte :=
  beBytes 1 (16 * h.sdo + typ) ++ beBytes 1 (16 * h.minor + 2) ++ beBytes 2 len ++ beBytes 1 h.domain ++ [0] ++
    beBytes 2 (2 ^ 9 * bit h.twoStep + 2 ^ 10 * bit h.unicast) ++ beInt 8 corr ++ beBytes 4 0 ++ beBytes 8 clockId.toNat ++
    beBytes 2 port ++ beBytes 2 seq ++ beBytes 1 ctl ++ beInt 1 h.logInterval

/-- The bytes of a message that leaves on network `n`, most significant byte first. `seq` is the sequenceId of a Sync or an Announce. -/
def ptpBytes (m : PtpMsg) (n : Net) (seq : Nat) : List Byte :=
  match m with
  | .sync h c o k => ptpHdrBytes h 0 44 k c (netPort n) seq 0 ++ ptpTime o
  | .delayReq h c q k => ptpHdrBytes h 1 44 k c (netPort n) q 1 ++ ptpTime 0
  | .delayResp h c r q t k => ptpHdrBytes h 9 54 k c (netPort n) q 3 ++ ptpTime t ++ beBytes 8 r.toNat ++ beBytes 2 h.port
  | .announce h c p1 cls acc var p2 steps =>
    ptpHdrBytes h 11 64 0 c (netPort n) seq 5 ++ ptpTime 0 ++ beInt 2 h.utcOffset ++ [0] ++ beBytes 1 p1 ++ beBytes 1 cls ++
      beBytes 1 acc ++ beBytes 2 var ++ beBytes 1 p2 ++ beBytes 8 c.toNat ++ beBytes 2 steps ++ beBytes 1 0xA0
  | .other _ => []

/-- The bytes of a message on the wire: preamble, addresses, tag, EtherType and FCS are 30. -/
def ptpWireBytes (m : PtpMsg) : Nat := 30 + (ptpBytes m .X 0).length

/-- The queue of a message (R285). -/
def ptpQueue : TxPtp → Nat
  | .announce => 61
  | _ => 60

/-- The clock state in which a PTP message is sent: none before LOCKED or MASTER, and Announce and Sync of a MASTER only
once it has reached INTEGRATED (R285). -/
def State.ptpState (s : State) (m : TxPtp) : Bool :=
  match s.blk.ntm.state with
  | .wait => false
  | .locking => false
  | .master => (m != .sync && m != .announce) || s.blk.ttb.state == .integrated
  | _ => true

/-- A PTP message may leave on network `n`: the guardian permits the arbitrating window also before integration, but in HALT
only the status slot (R45), and nothing under R478. -/
def State.mayPtp (s : State) (n : Net) (m : TxPtp) : Bool :=
  !s.cutNet n && s.guardReady n && !s.r478 && s.mode != .halt && s.ptpState m

end Sys2Proof.Machine
end

