-- ==== Sys2Proof/Machine/BusSend.lean ====
section
/-! DEFINITION. Transmission on the bus: command slots, STATUS slots, the arbitrating window and its queues (R35, R246,
R254 to R260, R298). -/

namespace Sys2Proof.Machine

/-! ### Command slots (R35, R259) -/

/-- The key of the transmit bank's 8-byte word at `a` in the error lists. -/
def VMem.txKey (m : VMem) (a : Nat) : Nat := if m.work1 then a / 8 * 8 else a / 8 * 8 + 0x10000000

/-- A word of the transmit bank has an uncorrectable error. -/
def VMem.txBad (m : VMem) (a : Nat) : Bool := m.ecc.contains (m.txKey a)

/-- A word of the transmit bank. -/
def VMem.txWord (m : VMem) (a : Nat) : Word := w32 (Memory.load m.transmit a 4)

/-- The module may send command slots and event frames: ACTIVE, not fallen silent, not yielded (R259, R361). -/
def State.commandsRun (s : State) : Bool := decide (s.nic.noCommit < 2) && !s.pair.yielded

/-- Command slots may be sent from the next rod on: in ACTIVE, or at a takeover or handover that is due. -/
def State.soonActive (s : State) : Bool := s.mode == .active || s.pair.decided.isSome || s.pair.goGot

/-- The furlong of the most recent end of phase 2, when one more furlong is counted for a time before it. -/
def State.recentEnd (s : State) : Nat :=
  let f := s.time / furlongNs s.profile
  if s.inFurlong < 28 * rodNs s.profile then f - 1 else f

/-- A payload of furlong `f` is older than the most recent end of phase 2: HELD (R259). -/
def State.isHeld (s : State) (f : Nat) : Bool := decide (f < s.recentEnd)

/-- The network chip reads words of the transmit bank of vertex `v`: correctable errors are written back and counted
(R22). -/
def State.scrubTx (s : State) (v : Vtx) (l : List Nat) : State := s.modV v (fun x => x.scrub (l.map x.mem.txKey))

/-- The network chip reports an uncorrectable word to its vertex (R35). -/
def State.portEcc (s : State) (v : Vtx) (bad : Bool) : State :=
  if bad && s.inService v && s.appMode then s.selfFault v (.trap .ecc) else s

/-- The addresses of the payload of a binding. -/
def bindAddrs (b : Binding) (n : Nat) : List Nat := (List.range n).map (fun i => 0x02000000 + 4 * (b.pay + i))

/-- The network chip port of bank 2 of vertex `v` has received BUSY `n` times: counted, and the accesses repeated (R373). -/
def State.meetBusy (s : State) (v : Vtx) (n : Nat) : State :=
  s.modV v (fun x => { x with loc := { x.loc with p1busy := satAdd 16 x.loc.p1busy n } })

/-- The vertices from whose image a payload is read: the committing pair, and those whose ports compute the codes. -/
def State.readers (s : State) (u w : Vtx) : List Vtx :=
  Vtx.list.filter (fun v => v == u || v == w || v == s.coders.1 || v == s.coders.2)

/-- The network chip has read the words `l` of the transmit banks: single-bit errors are written back, and an uncorrectable
word is reported to its vertex (R22, R35). -/
def State.readTx (s : State) (vs : List Vtx) (l : List Nat) : State :=
  let bad := fun v => l.any (s.v v).mem.txBad
  let t := vs.foldl (fun t v => t.scrubTx v l) s
  vs.foldl (fun t v => t.portEcc v (bad v)) t

/-- A word that the chip reads from one of the vertices has an uncorrectable error. -/
def State.anyBad (s : State) (vs : List Vtx) (l : List Nat) : Bool := vs.any (fun v => l.any (s.v v).mem.txBad)

/-- The words at `l` in the transmit bank of vertex `v`. -/
def State.txWords (s : State) (v : Vtx) (l : List Nat) : List Word := l.map (s.v v).mem.txWord

/-- The instant `off` ns after the start of a slot (R250). -/
def State.atSlot (s : State) (m : Matrix) (rod slot : Nat) (off : Int) : Bool :=
  s.onGrid (furlongNs s.profile)
    (((slotStart m s.profile rod slot + furlongNs s.profile : Nat) : Int) + off).toNat

/-- The fetch of a slot's payload: the words of the committing pair are read and compared, and HELD is judged (R259 names no
instant; DESIGN CHOICE, notes/assumptions/69.md). -/
def State.fetchSlot (s : State) (u w : Vtx) (rod slot : Nat) (l : List Nat) (busy : Tri Nat) : State :=
  let vs := s.readers u w
  let same := s.txWords u l == s.txWords w l && !s.anyBad vs l
  let held := match s.nic.lastCommit with
    | some f => s.isHeld f
    | none => true
  let t := vs.foldl (fun t v => t.meetBusy v (busy.get v)) s
  (t.modNic (fun n =>
    { n with
      fetched := some ⟨rod, slot, if same then some (s.txWords u l) else none, s.txWords s.coders.1 l,
        s.txWords s.coders.2 l, held, s.mode == .active⟩ })).readTx vs l

/-- SLOT_FETCH: 1 µs before the slot, the payload is fetched (R259). -/
def execSlotFetch (dt rod slot : Nat) (busy : Tri Nat) (s0 : State) : Host.Outcome State Fault Refusal :=
  let s := s0.elapse dt
  match s.blk.ttb.matrix, s.blk.ttb.pos, s.nic.pair, s.loaded with
  | some m, some p, some (u, w), some c =>
    match descAt m rod slot with
    | some (_, d) =>
      match c.hdr.bindings[d.bind]? with
      | some b =>
        if s.atSlot m rod slot (-1000) ∧ descDir p d = 2 ∧ !d.status ∧ d.bind ≠ 0xFFF ∧ s.sending ∧ s.soonActive ∧
           s.commandsRun then
          ok (s.fetchSlot u w rod slot (bindAddrs b d.plen) busy)
        else ok s
      | none => ok s
    | none => ok s
  | _, _, _, _ => ok s

/-- OUT_MISMATCH: the frame is suppressed, counted and recorded (R35). -/
def State.outMismatch (s : State) (rod slot : Nat) : State :=
  (s.record .outMismatch rod slot 0).modTtb (fun b => { b with fOutmm := some s.nt, suppr := satInc 16 b.suppr })

/-- SLOT_TRANSMIT: an owned command slot is sent on X and Y at its instant (R35, R246, R259). A fetch that met a difference
or an uncorrectable word is an OUT_MISMATCH, also where that word has taken the module to HALT. -/
def execSlotTransmit (dt rod slot : Nat) (s0 : State) : Host.Outcome State Fault Refusal :=
  let s := s0.elapse dt
  match s.blk.ttb.matrix, s.nic.fetched with
  | some m, some f =>
    if f.rod = rod ∧ f.slot = slot ∧ s.atSlot m rod slot 250 then
      let t := s.modNic (fun n => { n with fetched := none })
      match f.payload with
      | none => ok (if f.due || s.mode == .active then t.outMismatch rod slot else t)
      | some pay =>
        if s.mode ≠ .active ∨ s.commandsRun = false then ok t
        else
          let fn := s.time / furlongNs s.profile
          let fr := s.mkImageFrame kSlot (rodslotOf rod slot) (w32 (rodCount fn rod)) (slotTs m s.profile fn rod slot) f.held
            pay f.copy1 f.copy2
          let x := t.sendSlot .X fr (s.slotDelay .X)
          ok (x.sendSlot .Y fr (s.slotDelay .Y))
    else ok s
  | _, _ => ok s

/-! ### STATUS slots (R260) -/

/-- A vertex in service with whose status word that of another vertex in service agrees. The status words of two vertices differ
only in EXCL, where each has the exclusion view of its own slice (R260; DEDUCED, notes/assumptions/34.md). -/
def State.statusAgreed (s : State) : Option Vtx :=
  s.serving.find? (fun v => s.serving.any (fun w => v != w && (s.v v).slice.excl == (s.v w).slice.excl))

/-- EXCL of the STATUS payload: that on which two vertices agree, or 2#111 when no two agree, as after the loss of a majority
(R260). -/
def State.statusExcl (s : State) : Nat :=
  if s.mode == .halt && s.blk.cyc.cause == .strengthLost then 7
  else
    match s.statusAgreed with
    | some v => (s.v v).slice.excl.mask
    | none => 7

/-- The STATUS frame on a network announces the BABBLE of the other one. Table 8.8 has no bit for it, so the announcement goes beside
the frame (R270; DESIGN CHOICE, notes/assumptions/36.md). -/
def State.babbleNote (s : State) (n : Net) : State :=
  let o : Net := match n with
    | .X => .Y
    | .Y => .X
  if s.maySend n && s.blk.ttb.babble.get o then s.emit (.babbleNote o) else s

/-- The STATUS payload (Table 8.8). -/
def State.statusPayload (s : State) : List Word :=
  let w0 := modeCode s.mode + 2 ^ 8 * s.blk.shownStrength + 2 ^ 16 * s.statusExcl + 2 ^ 24 * bit s.blk.cyc.senior +
    2 ^ 25 * bit (s.blk.cen.debugged.a || s.blk.cen.debugged.b || s.blk.cen.debugged.c) +
    2 ^ 26 * bit (testB (s.blk.mbx.ks.headD 0).toNat 0) + 2 ^ 27 * bit s.k3m.failed +
    2 ^ 28 * bit (s.blk.ntm.state == .holdover) + 2 ^ 29 * bit (field (s.blk.mbx.ks.getD 3 0).toNat 0 3 == 4)
  [w32 w0, w32 (s.nic.lastCommit.getD 0), s.build, s.blk.ttb.mid,
   w32 (mcauseCode s.blk.cyc.cause + 2 ^ 8 * min 255 s.nic.noCommit), 0, 0, 0]

/-- STATUS_TRANSMIT: in HALT only the first occurrence of a furlong is sent. Under a descriptor whose PLEN is not 8 the payload is
cut, or padded with 0, to that PLEN (DESIGN CHOICE, notes/assumptions/69.md). -/
def execStatusTransmit (dt rod slot : Nat) (s0 : State) : Host.Outcome State Fault Refusal :=
  let s := s0.elapse dt
  match s.blk.ttb.matrix, s.blk.ttb.pos with
  | some m, some p =>
    match descAt m rod slot with
    | some (_, d) =>
      if s.atSlot m rod slot 250 ∧ descDir p d = 2 ∧ d.status ∧ s.sending ∧ (s.mode ≠ .halt ∨ rod = d.base) then
        let fn := s.time / furlongNs s.profile
        let pay := (s.statusPayload ++ List.replicate d.plen 0).take d.plen
        let fr := s.mkFrame kStatus (rodslotOf rod slot) (w32 (rodCount fn rod)) (slotTs m s.profile fn rod slot) false pay
        let x := (s.sendSlot .X fr (s.slotDelay .X)).babbleNote .X
        ok ((x.sendSlot .Y fr (s.slotDelay .Y)).babbleNote .Y)
      else ok s
    | none => ok s
  | _, _ => ok s

/-! ### Queues (R246, R256) -/

/-- Configuration of queue `n`: its depth in units of 256 bytes. -/
def State.depthOf (s : State) (n : Nat) : Nat :=
  match s.blk.ttb.matrix with
  | some m => s.queueDepth n ((m.queues.getD n ⟨0, 0⟩).depth)
  | none => 0

/-- Units of 256 bytes that a frame takes in a queue (notes/assumptions/31.md). -/
def frameUnits (plen : Nat) : Nat := ceilDiv (50 + 4 * plen) 256

/-- Count a frame dropped on queue `n`. -/
def State.dropQueue (s : State) (n : Nat) : State :=
  s.modTtb (fun b => { b with qdrop := modNth b.qdrop n (satInc 16) })

/-- Units held in transmit event queue `n`. -/
def Nic.txUnits (c : Nic) (n : Nat) : Nat :=
  ((c.txEvents.filter (fun e => e.queue == n)).map (fun e => frameUnits e.payload.length)).foldl (· + ·) 0

/-- Units held in receive event queue `n`. -/
def Nic.rxUnits (c : Nic) (n : Nat) : Nat :=
  ((c.rxEvents.filter (fun e => e.queue == n)).map (fun e => frameUnits e.rx.frame.plen)).foldl (· + ·) 0

/-- EVENT and MGMT frames queued with TS in the rod of rod count `r`. -/
def Nic.inRod (c : Nic) (r : Nat) : Nat :=
  match c.srcCount.find? (fun p => p.1 == r) with
  | some p => p.2
  | none => 0

/-- One more frame with TS in that rod. -/
def Nic.countRod (c : Nic) (r : Nat) : Nic :=
  { c with srcCount := (r, c.inRod r + 1) :: c.srcCount.filter (fun p => p.1 != r) }

/-- A frame enters its transmit event queue; a full queue drops and counts it (R256, R387 QBP). -/
def State.enterQueue (s : State) (e : TxEvent) : State :=
  if s.queueHeld e.queue || decide (s.depthOf e.queue < s.nic.txUnits e.queue + frameUnits e.payload.length) then
    s.dropQueue e.queue
  else
    let r := e.ts / rodNs s.profile % 2 ^ 32
    s.modNic (fun c => { (c.countRod r) with txEvents := c.txEvents ++ [{ e with idx := c.inRod r }] })

/-- A frame is queued with TS `e.ts`; the seventeenth of a rod waits for the next rod boundary (R246). -/
def State.queueEvent (s : State) (e : TxEvent) : State :=
  let r := e.ts / rodNs s.profile % 2 ^ 32
  if s.nic.inRod r < 16 then s.enterQueue e else s.modNic (fun c => { c with txLater := c.txLater ++ [e] })

/-- A rod count lies before rod `r`, modulo 2³². -/
def rodBefore (a r : Nat) : Bool := let d := (r + 2 ^ 32 - a) % 2 ^ 32; decide (1 ≤ d) && decide (d < 2 ^ 31)

/-- At a rod boundary the frames that waited for one enter their queues with TS there, as long as the rod has fewer than 16. -/
def State.laterFrames (s : State) : State :=
  let ts := s.time / rodNs s.profile * rodNs s.profile
  let r := s.rodCountNow
  let due := s.nic.txLater.filter (fun e => decide (e.ts < ts))
  let room := 16 - s.nic.inRod r
  let t := s.modNic (fun c =>
    { c with
      txLater := due.drop room ++ c.txLater.filter (fun e => !decide (e.ts < ts)),
      srcCount := c.srcCount.filter (fun p => !rodBefore p.1 r) })
  (due.take room).foldl (fun u e => u.enterQueue { e with ts := ts, launch := none }) t

/-- Units held in queue `n` of 60 to 63: waiting messages and management frames, and received management frames, which queue
63 holds for the K3M (notes/assumptions/31.md). -/
def Nic.otherUnits (c : Nic) (n : Nat) : Nat :=
  if n < 62 then max (c.txPtp.x.filter (fun m => ptpQueue m == n)).length (c.txPtp.y.filter (fun m => ptpQueue m == n)).length
  else
    ((c.txMgmt.filter (fun e => e.queue == n)).map (fun e => frameUnits e.payload.length)).foldl (· + ·) 0 +
      (if n = 63 then (c.rxMgmt.map (fun f => frameUnits f.plen)).foldl (· + ·) 0 else 0)

/-- A frame of `units` units finds queue `n` of 60 to 63 full (R256). -/
def State.otherFull (s : State) (n units : Nat) : Bool :=
  s.queueHeld n || decide (s.depthOf n < s.nic.otherUnits n + units)

/-- An IEEE 1588 message enters its queue on both networks, or is dropped and counted. -/
def State.queuePtp (s : State) (m : TxPtp) : State :=
  if s.otherFull (ptpQueue m) 1 then s.dropQueue (ptpQueue m)
  else s.modNic (fun c => { c with txPtp := ⟨c.txPtp.x ++ [m], c.txPtp.y ++ [m]⟩ })

/-- A received MGMT frame enters queue 63, or is dropped and counted. -/
def State.acceptMgmt (s : State) (f : Frame) : State :=
  if s.otherFull 63 (frameUnits f.plen) then s.dropQueue 63 else s.modNic (fun c => { c with rxMgmt := c.rxMgmt ++ [f] })

/-! ### The arbitrating window (R254, R255, R298) -/

/-- The frame waits on network `n`. -/
def TxEvent.waits (e : TxEvent) (n : Net) : Bool :=
  match n with
  | .X => e.waitX
  | .Y => e.waitY

/-- The first frame of transmit event queue `q` on network `n`. -/
def State.queueHead (s : State) (n : Net) (q : Nat) : Option TxEvent :=
  s.nic.txEvents.find? (fun e => e.queue == q && e.waits n)

/-- That frame counts as waiting: event frames are sent only in ACTIVE, and a launch time must have been reached. -/
def State.eventWaits (s : State) (n : Net) (q : Nat) : Option TxEvent :=
  if s.mode == .active && s.commandsRun && s.maySend n then
    match s.queueHead n q with
    | some e => if e.launch.isNone then some e else none
    | none => none
  else none

/-- What waits on network `n`: a message of queue 60 or 61, or a frame of an event or management queue. -/
inductive Waiting where
  | ptp (m : TxPtp)
  | event (e : TxEvent)
  | mgmt (e : TxMgmt)
  deriving DecidableEq, Repr

/-- The management frame that waits; none leaves in HALT (R45). -/
def State.mgmtWaits (s : State) (n : Net) (q : Nat) : Option TxMgmt :=
  if s.maySend n && s.mode != .halt then
    s.nic.txMgmt.find? (fun e => e.queue == q && (match n with | .X => e.waitX | .Y => e.waitY))
  else none

/-- The frame that the module sends next on network `n`, in the order of R254. -/
def State.nextWaiting (s : State) (n : Net) : Option Waiting :=
  let ptp := fun q => (s.nic.txPtp.get n).find? (fun m => ptpQueue m == q && s.mayPtp n m)
  match ptp 60 with
  | some m => some (.ptp m)
  | none =>
    match ptp 61 with
    | some m => some (.ptp m)
    | none =>
      match ((List.range 12).map (fun j => s.eventWaits n (48 + j))).find? Option.isSome with
      | some (some e) => some (.event e)
      | _ =>
        match s.mgmtWaits n 62 with
        | some e => some (.mgmt e)
        | none => (s.mgmtWaits n 63).map Waiting.mgmt

/-- PRIO and ARBRES. -/
def State.prio (s : State) : Nat :=
  match s.blk.ttb.matrix, s.blk.ttb.pos with
  | some m, some p => m.prioOf p
  | _, _ => 0
def State.arbres (s : State) : Nat := (s.blk.ttb.matrix.map Matrix.arbres).getD 0

/-- Ns since the rod boundary. -/
def State.inRodNs (s : State) : Nat := s.time % rodNs s.profile

/-- The arbitrating window is open. -/
def State.inArb (s : State) : Bool :=
  match s.blk.ttb.matrix with
  | some m => s.boundaries && decide (arbStart m ≤ s.inRodNs) && decide (s.inRodNs < arbEnd s.profile)
  | none => false

/-- ARB_WINDOW_START: a module with a frame waiting loads its countdown with PRIO. -/
def execArbWindowStart (dt : Nat) (net : Net) (s0 : State) : Host.Outcome State Fault Refusal :=
  let s := s0.elapse dt
  if s.inArb then
    ok (s.modNic (fun c =>
      { c with countdown := c.countdown.set net (if (s.nextWaiting net).isSome then some s.prio else none) }))
  else ok s

/-- Time on the wire of a waiting frame in ns; `len` is the length of an IEEE 1588 message in bytes. -/
def Waiting.ns (w : Waiting) (len : Nat) : Nat :=
  match w with
  | .ptp _ => 8 * len
  | .event e => 8 * frameBytes e.payload.length
  | .mgmt e => 8 * frameBytes e.payload.length

/-- The copy of an event frame on network `n` has started. -/
def TxEvent.started (e : TxEvent) (n : Net) : TxEvent :=
  match n with
  | .X => { e with waitX := false }
  | .Y => { e with waitY := false }

/-- The copy of a management frame on network `n` waits, and has started. -/
def TxMgmt.waits (e : TxMgmt) (n : Net) : Bool :=
  match n with
  | .X => e.waitX
  | .Y => e.waitY
def TxMgmt.started (e : TxMgmt) (n : Net) : TxMgmt :=
  match n with
  | .X => { e with waitX := false }
  | .Y => { e with waitY := false }

/-- The frame of an event or management queue; its rod is the one that holds TS, so that the copies on X and Y are
equal (R245, R246). HELD is judged when the copy starts, so a copy that starts after an end of phase 2 can differ in it from the
one before it (DESIGN CHOICE, notes/assumptions/69.md). -/
def State.queueFrame (s : State) (kind : BitVec 8) (chan idx ts furl : Nat) (payload : List Word) : Frame :=
  let rc := ts / rodNs s.profile
  s.mkFrame kind (rodslotOf (rc % 40) chan) (w32 (16 * rc + idx)) ts (kind == kEvent && s.isHeld furl) payload

/-- Remove the first occurrence of an element. -/
def dropFirst {α : Type} [DecidableEq α] (l : List α) (x : α) : List α := l.erase x

/-- Mark the copy of event frame `e` on network `n` as started, and drop a frame with no copy left to send. -/
def Nic.startEvent (c : Nic) (n : Net) (e : TxEvent) : Nic :=
  { c with
    txEvents := (c.txEvents.map (fun q => if q = e then q.started n else q)).filter (fun q => q.waitX || q.waitY) }

/-- One waiting frame leaves on network `n`. -/
def State.sendWaiting (s : State) (n : Net) (w : Waiting) : State :=
  match w with
  | .ptp m =>
    let t := (s.modNic (fun c => { c with txPtp := c.txPtp.set n (dropFirst (c.txPtp.get n) m) })).emit (.ptp n (s.ptpForm n m))
    match m with
    | .delayReq q => { t with ptp := { t.ptp with reqSent := t.ptp.reqSent.set n (some (q, (s.stampOn n : Int))) } }
    | _ => t
  | .event e =>
    (s.modNic (fun c => c.startEvent n e)).sendOn n
      ((s.queueFrame kEvent e.chan e.idx e.ts e.furl e.payload).codedBy s.blk.ttb.mid e.copy1 e.copy2)
  | .mgmt e =>
    (s.modNic (fun c =>
      { c with
        txMgmt := (c.txMgmt.map (fun q => if q = e then q.started n else q)).filter (fun q => q.waitX || q.waitY) })).sendOn n
      (s.queueFrame kMgmt e.chan e.idx e.ts 0 e.payload)

/-- A waiting frame of `ns` ns on the wire leaves on network `n`, later by SLOTD (R387): one that the guardian then does not
permit to its end is cut (R269, R270). -/
def State.sendLate (s : State) (n : Net) (w : Waiting) (ns : Nat) : State :=
  let a := s.time + 8 * s.slotDelay n
  let t := s.sendWaiting n w
  if s.slotDelay n = 0 ∨ s.permits n a (a + ns) = true then t
  else
    (match t.out with
     | .frame m f :: l => { t with out := .frame m { f with fcsOk := false } :: l }
     | _ => { t with out := s.out }).babbleOn n

/-- ARB_SEND: after `idle` idle half-microseconds the countdown reaches 0, and one frame is sent when the rest of the
window is long enough (R255). -/
def execArbSend (dt : Nat) (net : Net) (idle len : Nat) (s0 : State) : Host.Outcome State Fault Refusal :=
  let s := s0.elapse dt
  match s.nic.countdown.get net with
  | none => ok s
  | some c =>
    let set := fun (t : State) (k : Option Nat) => t.modNic (fun n => { n with countdown := n.countdown.set net k })
    if idle < c then ok (set s (some (c - idle)))
    else if !s.inArb then ok (set s none)
    else
      match s.nextWaiting net with
      | none => ok (set s none)
      | some w =>
        if arbEnd s.profile < s.inRodNs + w.ns len + 8 * s.arbres then ok (set s none)
        else ok (set (s.sendLate net w (w.ns len)) (some s.prio))

/-- EVENT_COPY_EXPIRY: copies of queue 48 to 59, 62 or 63 that have not started within 2 × L of their TS are dropped on their
network and counted. An IEEE 1588 message of queue 60 or 61 has no TS before it starts (R288): none expires. -/
def execEventCopyExpiry (dt : Nat) (net : Net) (queue : Nat) (s0 : State) : Host.Outcome State Fault Refusal :=
  let s := s0.elapse dt
  let past := fun ts => decide (ts + 2 * furlongNs s.profile ≤ s.time)
  let old := fun (e : TxEvent) => e.queue == queue && e.waits net && past e.ts
  let oldM := fun (e : TxMgmt) => e.queue == queue && e.waits net && past e.ts
  let n := (s.nic.txEvents.filter old).length + (s.nic.txMgmt.filter oldM).length
  ok ((s.modNic (fun c =>
    { c with
      txEvents := (c.txEvents.map (fun e => if old e then e.started net else e)).filter (fun q => q.waitX || q.waitY),
      txMgmt := (c.txMgmt.map (fun e => if oldM e then e.started net else e)).filter (fun q => q.waitX || q.waitY) })).modTtb
    (fun b => { b with qdrop := modNth b.qdrop queue (fun k => satAdd 16 k n) }))

/-- LAUNCH_TIME_REACHED: the frame counts as waiting; inside an arbitrating window with no countdown running, the module
loads its countdown at once. -/
def execLaunchTimeReached (dt queue : Nat) (s0 : State) : Host.Outcome State Fault Refusal :=
  let s := s0.elapse dt
  let due := fun (e : TxEvent) => e.queue == queue && (match e.launch with
    | some l => decide (l ≤ s.time)
    | none => false)
  if s.nic.txEvents.any due then
    let t := s.modNic (fun c => { c with txEvents := c.txEvents.map (fun e => if due e then { e with launch := none } else e) })
    let load := fun (u : State) (n : Net) =>
      if u.inArb && (u.nic.countdown.get n).isNone && (u.nextWaiting n).isSome then
        u.modNic (fun c => { c with countdown := c.countdown.set n (some u.prio) })
      else u
    ok (load (load t .X) .Y)
  else ok s

end Sys2Proof.Machine
end

