-- ==== Sys2Proof/Machine/Evidence.lean ====
section
/-! DEFINITION. What the module takes from its partner: hearing it, evidence, and split brain (R343, R356, R361). -/

namespace Sys2Proof.Machine

/-- 300 µs, 2 s and 20 µs in NT clocks. -/
def us300 : Nat := 37500
def twoSeconds : Nat := 250000000
def us20 : Nat := 2500

/-- An instant lies within the last `n` NT clocks. -/
def State.within (s : State) (t : Option Nat) (n : Nat) : Bool :=
  match t with
  | some a => decide (s.nt - a ≤ n)
  | none => false

/-- The partner is heard (R73, CHD.STAT.PHEARD, CYC.MODE.PARTNER), with its mode, strength and senior bit. -/
def State.heardPartner (s : State) (mode strength : Nat) : State :=
  let t := (s.modChd (fun c =>
    { c with heard := true, pmode := mode % 8, pstr := strength % 4, psenior := !s.blk.cyc.senior })).modCyc
    (fun c => { c with partner := true })
  t.modPair (fun p => { p with heardAt := some s.nt })

/-- Evidence of an active or of a standing partner (R356). -/
def State.evidence (s : State) (mode : Nat) : State :=
  if mode = 4 then s.modPair (fun p => { p with evidActive := some s.nt, lastActive := true })
  else if mode = 3 ∨ mode = 2 then s.modPair (fun p => { p with evidStanding := some s.nt, lastActive := false })
  else s

/-- A valid copy of the partner's STATUS frame (R356). -/
def State.partnerStatus (s : State) (f : Frame) : State :=
  match s.blk.ttb.pos with
  | some p =>
    if f.kind = kStatus ∧ srcBase f.src = srcBase p.src ∧ srcSenior f.src ≠ p.senior then
      let w := (f.payload.headD 0).toNat
      (s.heardPartner (field w 0 8) (field w 8 8)).evidence (field w 0 8)
    else s
  | none => s

/-- Split brain (R361): recorded once in a furlong; a junior is to stop sending. -/
def State.splitBrain (s : State) : State :=
  if s.mode ≠ .active ∨ s.blk.chd.split then s
  else
    let b := if s.blk.cyc.senior then s.fnum else s.fnum + 1
    let t := (s.record .splitBrain (b % 2 ^ 32) 0 0).modChd (fun c => { c with split := true })
    if s.blk.cyc.senior ∨ s.pair.yieldAt.isSome then t
    else t.modPair (fun p => { p with yieldAt := some s.nt })

end Sys2Proof.Machine
end

