-- ==== Sys2Proof/Machine/BusReceive.lean ====
section
/-! DEFINITION. Forwarding and reception on the bus: pass-through, the checks on each copy, combination, occurrences and
coldstart (R240, R242, R243, R257, R261 to R265, R272, R273, R287). -/

namespace Sys2Proof.Machine

/-! ### Forwarding (R242, R243, R287) -/

/-- The other port of the same network. -/
def otherPort : Port → Port
  | .X1 => .X2
  | .X2 => .X1
  | .Y1 => .Y2
  | .Y2 => .Y1
  | p => p

/-- The network of a bus port. -/
def portNet : Port → Option Net
  | .X1 => some .X
  | .X2 => some .X
  | .Y1 => some .Y
  | .Y2 => some .Y
  | _ => none

/-- Residence time of `ns`, in units of 2⁻¹⁶ ns, scaled by the rate in force (R287). -/
def State.residence (s : State) (ns : Nat) : Int := (ns : Int) * 65536 * (2 ^ 40 + s.blk.ntm.rate) / 2 ^ 40

/-- The correction of an event message that stayed `ns` nanoseconds; other messages are unchanged. -/
def State.corrected (s : State) (ns : Nat) (m : PtpMsg) : PtpMsg :=
  match m with
  | .sync h c o k => .sync h c o (k + s.residence ns)
  | .delayReq h c q k => .delayReq h c q (k + s.residence ns)
  | x => x

/-- A forwarded frame leaves port `p` after `ns` nanoseconds in the module; one with a wrong FCS ends with an inverted FCS. -/
def State.forwardOut (s : State) (p : Port) (f : AnyFrame) (ns : Nat) : State :=
  match f with
  | .swisko g =>
    let h := { g with hop := g.hop - 1 }
    if g.fcsOk then s.emit (.fwd p (.swisko h)) else s.emit (.cutFrame p (.swisko h))
  | .ptp fcs m =>
    if fcs then s.emit (.fwd p (.ptp fcs (s.corrected ns m))) else s.emit (.cutFrame p (.ptp fcs (s.corrected ns m)))
  | .other _ => s

/-- The frame is one that the module forwards (R242). -/
def State.forwards (s : State) (f : AnyFrame) : Bool :=
  match f with
  | .swisko g => g.etype == s.etype && g.hop != 0 && !(s.blk.ttb.pos.isSome && g.src == s.ownSrc)
  | .ptp _ _ => true
  | .other e => e == s.etype

/-- The frame's EtherType is neither of the two. -/
def State.foreignType (s : State) (f : AnyFrame) : Bool :=
  match f with
  | .swisko g => g.etype != s.etype
  | .ptp _ _ => false
  | .other e => e != s.etype

/-- The pass-through buffer of an outgoing port is occupied. -/
def Nic.buffered (c : Nic) (p : Port) : Bool := c.pass.any (fun q => q.1 == p)

/-- A PTP message of a kind that the profile does not use (peer delay, management, signaling) is counted (R283). -/
def State.countUnused (s : State) (f : AnyFrame) : State :=
  match f with
  | .ptp true (.other _) => s.ignoreProfile
  | _ => s

/-- FRAME_FORWARD: a frame that arrives on a port leaves by the other port of its network, 320 ns later, or waits for a
frame of the module's own. -/
def execFrameForward (dt : Nat) (port : Port) (busy : Bool) (f : AnyFrame) (s0 : State) :
    Host.Outcome State Fault Refusal :=
  let s1 := s0.elapse dt
  match portNet port with
  | none => ok s1
  | some n =>
    let out := otherPort port
    let s := if s1.inReset || !s1.portUp port then s1 else s1.countUnused f
    if s.inReset || !s.portUp port then ok s
    else if s.foreignType f then
      ok (s.modNic (fun c => { c with fwdOther := c.fwdOther.set n (c.fwdOther.get n + 1) }))
    else if !s.forwards f || !s.portUp out || s.cutNet n then ok s
    else if s.nic.buffered out then ok (s.modTtb (fun b => { b with fFwddrop := some s.nt }))
    else if busy then ok (s.modNic (fun c => { c with pass := (out, f, s.nt) :: c.pass }))
    else ok (s.forwardOut out f 320)

/-- Time on the wire of a frame in ns, from its preamble. -/
def anyFrameNs (f : AnyFrame) : Nat :=
  match f with
  | .swisko g => 8 * frameBytes g.plen
  | .ptp _ m => 8 * ptpWireBytes m
  | .other _ => 0

/-- The guardian cuts a frame that is passed through: it ends with a false FCS (R270). -/
def State.cutForward (s : State) (p : Port) (n : Net) (f : AnyFrame) (ns : Nat) : State :=
  (match f with
   | .swisko g => s.emit (.cutFrame p (.swisko { g with hop := g.hop - 1 }))
   | .ptp fcs m => s.emit (.cutFrame p (.ptp fcs (s.corrected ns m)))
   | .other _ => s).babbleOn n

/-- The guardian lets the frame of the pass-through buffer out, `ns` ns after it came: as pass-through after 320 ns ± 80 ns, and
later only in a window of the module's own (R269). -/
def State.passes (s : State) (n : Net) (f : AnyFrame) (ns : Nat) : Bool :=
  (decide (240 ≤ ns) && decide (ns ≤ 400)) || s.permits n s.time (s.time + anyFrameNs f)

/-- PASS_THROUGH_RELEASE: the outgoing port is free again. -/
def execPassThroughRelease (dt : Nat) (port : Port) (s0 : State) : Host.Outcome State Fault Refusal :=
  let s := s0.elapse dt
  match s.nic.pass.find? (fun q => q.1 == port) with
  | none => ok s
  | some q =>
    let t := s.modNic (fun c => { c with pass := c.pass.filter (fun x => x.1 != port) })
    let ns := 8 * (s.nt - q.2.2)
    match portNet port with
    | none => ok t
    | some n =>
      if s.cutNet n || !s.portUp port then ok t
      else if s.passes n q.2.1 ns then ok (t.forwardOut port q.2.1 ns)
      else ok (t.cutForward port n q.2.1 ns)

/-! ### Coldstart and integration (Table 8.11, R272, R273, R292) -/

/-- Change the integration state; the count starts again. -/
def State.busEnter (s : State) (b : BusState) : State :=
  (s.modTtb (fun t => { t with state := b, count := 0 })).modNic (fun c => { c with csPend := none })

/-- INTEGRATED, with the rank of R273. -/
def State.integrated (s : State) (rank : Nat) : State := (s.record .busIntegrated rank 0 0).busEnter .integrated

/-- The time base ends: no boundaries, furlong number 0, and the clock as at power-on (R289, R292). The guardians wait
for a new reference (R39). -/
def State.loseTime (s : State) : State :=
  let t := (s.modCyc (fun c => { c with fnum := 0 })).modNtm (fun n =>
    { n with
      state := .wait, net := none, rate := 0, gmid := 0, gmClass := 0, gmPrio1 := 0, gmPrio2 := 0, gmSteps := 0, offs := 0,
      mpd := 0 })
  { t with
    view := t.view.map (fun b => { b with cyc := { b.cyc with fnum := 0 } }), boundaries := false, clock := Clock.ofUnits (t.k3m.storedTime * 2 ^ 40),
    ptp := { Ptp.reset with enteredAt := t.nt },
    guard := ⟨{ t.guard.x with reference := false, misses := 0 }, { t.guard.y with reference := false, misses := 0 }⟩,
    start := { t.start with acquired := false, step := 6, waitFrom := t.nt, waits := 0 } }

/-- YIELD to a lower rank (R273, R292). -/
def State.coldYield (s : State) (rank : Nat) : State :=
  (((s.record .coldstartYield rank 0 0).busEnter .yielding).modNic (fun c => { c with yieldRank := rank })).loseTime

/-- What a frame of the bus means for integration (Table 8.11). `rank` is that of a coldstart-capable sender, `cold` says
that it is a COLDSTART frame, `settles` that its KIND can settle integration. Once a LISTEN module has a change of state before it,
later frames no longer change it (DESIGN CHOICE, notes/assumptions/69.md). -/
def State.integrateFrame (s : State) (consistent cold settles : Bool) (rank : Option Nat) : State :=
  let s := if consistent then s else s.modTtb (fun b => { b with fTimeconf := some s.nt })
  match s.blk.ttb.state with
  | .listen =>
    if s.nic.integBy.isSome || s.nic.csPend.isSome then s
    else if consistent then
      if settles then s.modNic (fun c => { c with integBy := some (rank.getD 0xFFFFFFFF) }) else s
    else if !s.coldCapable then s
    else
      match cold, rank with
      | true, some r =>
        if r < s.rank then s.coldYield r else s.modNic (fun c => { c with csPend := some .coldstart })
      | _, _ => s.modTtb (fun b => { b with count := 0 })
  | .coldstart =>
    if !consistent && cold then s.modNic (fun c => { c with csPend := some .backoff }) else s
  | .backoff =>
    match consistent, rank with
    | false, some r => if r < s.rank then s.coldYield r else s
    | _, _ => s
  | _ => s

/-! ### The checks on a copy (Table 8.9) -/

/-- KIND is listed. -/
def kindListed (k : BitVec 8) : Bool := k == kSlot || k == kStatus || k == kEvent || k == kColdstart || k == kMgmt

/-- The frame belongs to a slot or a coldstart window. -/
def timed (k : BitVec 8) : Bool := k == kSlot || k == kStatus || k == kColdstart

/-- Rod and slot or channel of RODSLOT. -/
def frodOf (f : Frame) : Nat := field f.rodslot.toNat 8 6
def fslotOf (f : Frame) : Nat := field f.rodslot.toNat 0 8

/-- Step 1. -/
def stepOne (m : Matrix) (f : Frame) : Bool :=
  f.fcsOk && f.vid == m.vid && f.etype == m.etype && f.verf.extractLsb' 4 4 == 1 && f.verf.extractLsb' 0 2 == 0 &&
    kindListed f.kind && decide (1 ≤ f.plen) && decide (f.plen ≤ 240) && f.payload.length == f.plen

/-- The descriptor of the frame's rod and slot with its class, owner and PLEN, and its index. -/
def descOf (m : Matrix) (f : Frame) : Option (Nat × SlotDesc) :=
  match descAt m (frodOf f) (fslotOf f) with
  | some (i, d) =>
    if (d.status == (f.kind == kStatus)) && srcOwns d f.src && d.plen == f.plen then some (i, d) else none
  | none => none

/-- A received event channel (R257). -/
def rxChannel (m : Matrix) (f : Frame) : Option Channel :=
  m.channels.find? (fun c => !c.tx && srcBase c.src == srcBase f.src && c.chan == fslotOf f)

/-- What step 3 finds. -/
inductive FrameRole where
  | none
  | rx (i : Nat)
  | own
  | event (c : Channel)
  | cold
  | mgmt
  deriving DecidableEq, Repr

/-- Step 3: a slot that the module receives, a mapped channel, a coldstart-capable source; or the module's own transmit
descriptor with the other senior bit (R264). -/
def roleOf (m : Matrix) (p : Position) (n : Net) (f : Frame) : FrameRole :=
  if f.kind = kEvent then
    (match rxChannel m f with
     | some c => .event c
     | _ => .none)
  else if f.kind = kMgmt then .mgmt
  else if f.kind = kColdstart then (if (coldRank (segOf m n) f.src).isSome then .cold else .none)
  else
    match descOf m f with
    | some (i, d) =>
      if descDir p d = 1 then .rx i
      else if descDir p d = 2 ∧ !d.status ∧ srcBase f.src = srcBase p.src ∧ srcSenior f.src ≠ p.senior then .own
      else .none
    | _ => .none

/-- The furlong whose occurrence of the frame's rod and slot lies nearest to the start of the copy. -/
def nearFurlong (m : Matrix) (p : Profile) (f : Frame) (pre : Nat) : Nat :=
  let slot := if f.kind = kColdstart then 0 else fslotOf f
  (pre + furlongNs p / 2 - slotTs m p 0 (frodOf f) slot) / furlongNs p

/-- Step 4: SEQ and TS. A COLDSTART frame with a rod of 40 to 63 in RODSLOT is judged as that rod, past the furlong's start (DESIGN
CHOICE, notes/assumptions/69.md). -/
def stepFour (m : Matrix) (p : Profile) (f : Frame) (pre : Nat) : Bool :=
  if timed f.kind then
    let fn := nearFurlong m p f pre
    let slot := if f.kind = kColdstart then 0 else fslotOf f
    f.seq.toNat == rodCount fn (frodOf f) && f.ts.toNat == slotTs m p fn (frodOf f) slot % 2 ^ 64
  else f.seq.toNat / 16 == f.ts.toNat / rodNs p % 2 ^ 28

/-- Step 5: the preamble starts within the window on the local clock. -/
def stepFive (m : Matrix) (p : Profile) (n : Net) (f : Frame) (pre : Nat) : Bool :=
  let late : Int := 320 * (((segOf m n).hops : Int) - (f.hop : Int)) + 1000 +
    (if timed f.kind then 0 else 2 * (furlongNs p : Int))
  let d := (pre : Int) - (f.ts.toNat : Int)
  decide (-1000 ≤ d) && decide (d ≤ late)

/-- Step 3 as integration takes it: the matrix assigns the rod and slot to the source, with its PLEN (R272). -/
def assigned (m : Matrix) (n : Net) (f : Frame) : Bool :=
  if f.kind = kColdstart then (coldRank (segOf m n) f.src).isSome
  else if f.kind = kSlot ∨ f.kind = kStatus then (descOf m f).isSome
  else true

/-- Count a failed check. -/
def State.countErr (s : State) (n : Net) (f : ErrCnt → ErrCnt) : State :=
  s.modTtb (fun b => { b with err := b.err.set n (f (b.err.get n)) })

/-! ### Acceptance (R256, R257, R263) -/

/-- `a` is newer than `b`, modulo 2³² (R246). -/
def newer (a b : Word) : Bool := let d := (a - b).toNat; decide (1 ≤ d) && decide (d < 2 ^ 31)

/-- Rod count of a frame (R263). -/
def rodCountOf (p : Profile) (f : Frame) : Nat :=
  if timed f.kind then f.seq.toNat else f.ts.toNat / rodNs p % 2 ^ 32

/-- The newest accepted frame of a binding is kept, and beside it the newest of an earlier clock (R40). -/
def Nic.keepNewest (c : Nic) (bind : Nat) (r : RxFrame) : Nic :=
  match c.rxBind.find? (fun q => q.1 == bind) with
  | some q =>
    if newer r.frame.seq q.2.newest.frame.seq then
      { c with
        rxBind := (bind, ⟨r, if q.2.newest.at_ < r.at_ then some q.2.newest else q.2.before⟩) ::
          c.rxBind.filter (fun q => q.1 != bind) }
    else c
  | none => { c with rxBind := (bind, ⟨r, none⟩) :: c.rxBind }

/-- An accepted EVENT frame enters its queue when its SEQ is newer than the last one of its channel. -/
def State.acceptEvent (s : State) (ch : Channel) (r : RxFrame) : State :=
  let src := srcBase r.frame.src
  let last := s.nic.evSeq.find? (fun q => q.1 == src && q.2.1 == ch.chan)
  let fresh := match last with
    | some q => newer r.frame.seq q.2.2
    | none => true
  if !fresh then s
  else
    let t := s.modNic (fun c =>
      { c with
        evSeq := (src, ch.chan, r.frame.seq) :: c.evSeq.filter (fun q => !(q.1 == src && q.2.1 == ch.chan)) })
    if t.queueHeld ch.queue || decide (t.depthOf ch.queue < t.nic.rxUnits ch.queue + frameUnits r.frame.plen) then
      t.dropQueue ch.queue
    else t.modNic (fun c => { c with rxEvents := c.rxEvents ++ [⟨ch.queue, ch.bind, r⟩] })

/-- Units of 256 bytes that slot queue `n` holds: the newest accepted frame of each binding that a descriptor assigns to it
(R256). The buffer of the frame being received comes beside (notes/assumptions/31.md). -/
def Nic.slotUnits (c : Nic) (m : Matrix) (n : Nat) : Nat :=
  ((c.rxBind.filter (fun q => m.slots.any (fun d => d.queue == n && d.bind == q.1))).map (fun q =>
    frameUnits q.2.newest.frame.plen)).foldl (· + ·) 0

/-- A frame is accepted in the NT clock `at_`. -/
def State.acceptFrame (s : State) (role : FrameRole) (f : Frame) (fromX fromY : Bool) (at_ : Nat) : State :=
  let r : RxFrame := ⟨f, fromX, fromY, rodCountOf s.profile f, at_⟩
  match role, s.blk.ttb.matrix with
  | .rx i, some m =>
    let t := s.modNic (fun c => { c with seen := modNth c.seen i (fun o => { o with accepted := f.seq :: o.accepted }) })
    match m.slots[i]? with
    | some d =>
      if d.bind = 0xFFF then t
      else if t.queueHeld d.queue || decide (t.depthOf d.queue < t.nic.slotUnits m d.queue + frameUnits f.plen) then
        t.dropQueue d.queue
      else t.modNic (fun c => c.keepNewest d.bind r)
    | none => t
  | .event ch, _ => s.acceptEvent ch r
  | .mgmt, _ => s.acceptMgmt f
  | _, _ => s

/-- The same frame: equal SRC, RODSLOT and SEQ (R262). -/
def sameFrame (a b : Frame) : Bool := a.src == b.src && a.rodslot == b.rodslot && a.seq == b.seq

/-- Covered bytes and codes are equal. -/
def sameCopy (mid : Word) (a b : Frame) : Bool :=
  coveredBytes mid a == coveredBytes mid b && a.code1 == b.code1 && a.code2 == b.code2

/-- NET_DISAGREE. -/
def State.netDisagree (s : State) (f : Frame) : State := s.record .netDisagree f.src.toNat f.rodslot.toNat f.seq.toNat

/-- Length of the combination window in NT clocks (R262). -/
def windowClocks (p : Profile) (k : BitVec 8) : Nat := if timed k then 25000 else rodNs p / 8 + 25000

/-- Frames decided are kept for four furlongs. -/
def State.decideFrame (s : State) (f : Frame) (x y acc : Bool) : State :=
  s.modNic (fun c =>
    { c with
      rxNow := ⟨c.rxNow.x || (acc && x), c.rxNow.y || (acc && y)⟩,
      openCopies := c.openCopies.filter (fun o => !sameFrame o.frame f),
      decided := ⟨f, x, y, acc, s.nt⟩ :: c.decided.filter (fun d => decide (s.nt - d.at_ < furlongNs s.profile / 2)) })

/-- Count a frame accepted from one network alone. -/
def State.countSingle (s : State) (n : Net) : State :=
  s.modTtb (fun b => { b with sgl := b.sgl.set n (satInc 16 (b.sgl.get n)) })

/-- The role of a frame that is combined, found again from the matrix. -/
def State.roleNow (s : State) (n : Net) (f : Frame) : FrameRole :=
  match s.blk.ttb.matrix, s.blk.ttb.pos with
  | some m, some p => roleOf m p n f
  | _, _ => .none

/-- The window of an open copy ends: the copy is accepted alone. -/
def State.acceptSingle (s : State) (o : OpenCopy) : State :=
  let x := o.net == .X
  ((s.decideFrame o.frame x (!x) true).countSingle o.net).acceptFrame (s.roleNow o.net o.frame) o.frame x (!x) (min s.nt o.endAt)

/-- A valid copy of a frame (R261, R262). A further valid copy from the network of an open one is dropped, also one that differs
from it (DESIGN CHOICE, notes/assumptions/69.md). -/
def State.combine (s : State) (n : Net) (f : Frame) (role : FrameRole) : State :=
  let mid := s.blk.ttb.mid
  match s.nic.openCopies.find? (fun o => sameFrame o.frame f) with
  | some o =>
    if o.net = n then s
    else if sameCopy mid o.frame f then
      ((s.decideFrame f true true true).modTtb (fun b => { b with pairs := satInc 32 b.pairs })).acceptFrame role o.frame true true s.nt
    else
      let t := ((s.decideFrame f true true false).netDisagree f).modTtb
        (fun b => { b with fDisagree := some s.nt, dis := satInc 16 b.dis })
      match role with
      | .rx i =>
        t.modNic (fun c => { c with seen := modNth c.seen i (fun q => { q with disagree := f.seq :: q.disagree }) })
      | _ => t
  | none =>
    match s.nic.decided.find? (fun d => sameFrame d.frame f) with
    | some d =>
      if d.accepted && (match n with | .X => d.fromX | .Y => d.fromY) then s
      else
        let t := s.modTtb (fun b => { b with late := satInc 16 b.late })
        if d.accepted && !sameCopy mid d.frame f then t.netDisagree f else t
    | none =>
      s.modNic (fun c =>
        { c with openCopies := c.openCopies ++ [⟨f, n, s.nt + windowClocks s.profile f.kind, none⟩] })

/-- Windows that have ended before this instant are closed first. -/
def State.closeWindows (s : State) : State :=
  (s.nic.openCopies.filter (fun o => decide (o.endAt < s.nt))).foldl State.acceptSingle s

/-- FRAME_COPY_RECEIVE: a copy of a Swisko frame ends on network `net`; its preamble started at local time `pre`. -/
def execFrameCopyReceive (dt : Nat) (net : Net) (pre : Nat) (f : Frame) (s0 : State) :
    Host.Outcome State Fault Refusal :=
  let s := (s0.elapse dt).closeWindows
  match s.blk.ttb.matrix, s.blk.ttb.pos with
  | some m, some p =>
    if s.inReset || f.src == p.src then ok s
    else if !stepOne m f then ok (s.countErr net (fun e => { e with format := satInc 8 e.format }))
    else if !f.codesOk s.blk.ttb.mid then ok (s.countErr net (fun e => { e with code := satInc 8 e.code }))
    else
      let four := stepFour m s.profile f pre
      let five := stepFive m s.profile net f pre
      let joining := match s.blk.ttb.state with
        | .listen => true
        | .coldstart => true
        | .backoff => true
        | _ => false
      let t := if joining then
          s.integrateFrame (assigned m net f && four && five) (f.kind == kColdstart) (timed f.kind)
            (coldRank (segOf m net) f.src)
        else s
      let role := roleOf m p net f
      match role with
      | .none => ok (t.countErr net (fun e => { e with format := satInc 8 e.format }))
      | r =>
        if !four then ok (t.countErr net (fun e => { e with seqts := satInc 8 e.seqts }))
        else if !five then ok (t.countErr net (fun e => { e with window := satInc 8 e.window }))
        else if r = .own then ok ((t.modTtb (fun b => { b with fForeign := some t.nt })).splitBrain)
        else ok ((t.partnerStatus f).combine net f r)
  | _, _ => ok s

/-- COMBINE_WINDOW_EXPIRY: the window of the frame has ended without a second valid copy. -/
def execCombineWindowExpiry (dt : Nat) (src rodslot : BitVec 16) (seq : Word) (s0 : State) :
    Host.Outcome State Fault Refusal :=
  let s := s0.elapse dt
  match s.nic.openCopies.find? (fun o =>
      o.frame.src == src && o.frame.rodslot == rodslot && o.frame.seq == seq && decide (o.endAt ≤ s.nt)) with
  | some o => ok (s.acceptSingle o)
  | none => ok s

/-! ### Occurrences (R265) -/

/-- Instant at which the occurrence of a descriptor in rod `r` of furlong `f` falls due. -/
def dueNs (m : Matrix) (p : Profile) (d : SlotDesc) (f r : Nat) : Nat :=
  f * furlongNs p + slotStart m p r d.slot + slotDur m d.slot + 320 * max m.segX.hops m.segY.hops + 200000

/-- The rod count of the occurrence that last fell due. -/
def State.lastDue (s : State) (m : Matrix) (d : SlotDesc) : Option Word :=
  let fn := s.time / furlongNs s.profile
  let cand := (List.range 80).map (fun k => (if k < 40 then fn else fn - 1, 39 - k % 40))
  (cand.find? (fun q => slotInRod d q.2 && decide (dueNs m s.profile d q.1 q.2 ≤ s.time))).map
    (fun q => w32 (rodCount q.1 q.2))

/-- OCCURRENCE_DUE: the occurrence of receive descriptor `desc` falls due; without an accepted frame it marks STALE and
counts MISS. -/
def execOccurrenceDue (dt desc : Nat) (s0 : State) : Host.Outcome State Fault Refusal :=
  let s := (s0.elapse dt).closeWindows
  match s.blk.ttb.matrix, s.blk.ttb.pos, s.nic.occ[desc]?, s.nic.seen[desc]? with
  | some m, some p, some o, some q =>
    match m.slots[desc]? with
    | some d =>
      match s.lastDue m d with
      | some rc =>
        if descDir p d ≠ 1 ∨ o.due = some rc then ok s
        else
          let hit := q.accepted.contains rc
          let t := s.modNic (fun c =>
            { c with
              occ := setNth c.occ desc ⟨some rc, !hit, q.disagree.contains rc⟩,
              seen := setNth c.seen desc
                ⟨q.accepted.filter (fun a => newer a rc), q.disagree.filter (fun a => newer a rc)⟩ })
          if hit then ok t else ok (t.modTtb (fun b => { b with missed := satInc 32 b.missed }))
      | none => ok s
    | none => ok s
  | _, _, _, _ => ok s

/-! ### Links (R240, R344) -/

/-- LINK_CHANGE: a port links, drops, or links at a wrong speed or duplex and is held down. -/
def execLinkChange (dt : Nat) (port : Port) (e : LinkEvent) (s0 : State) : Host.Outcome State Fault Refusal :=
  let s := s0.elapse dt
  match e with
  | .wrongSpeed => ok (s.portFault port)
  | .down => ok (s.modTtb (fun b => { b with up := setNth b.up (portNum port) false }))
  | .up =>
    if s.nic.heldDown.contains port then ok s
    else ok (s.modTtb (fun b => { b with up := setNth b.up (portNum port) true }))

/-! ### Guardians and coldstart timers (R39, R269 to R272) -/

/-- A rod boundary pulse within ±1 µs of the guardian's prediction is adopted; the first after acquisition is the
reference. One outside the window is not adopted and is a miss; the third in a row latches SYNC_LOST (R38, R39). -/
def State.guardPulse (s : State) (n : Net) (off : Int) : State :=
  let g := s.guard.get n
  if !s.boundaries || g.cut then s
  else if !g.reference then { s with guard := s.guard.set n { g with reference := true, misses := 0 } }
  else if decide (-1000 ≤ off) && decide (off ≤ 1000) then { s with guard := s.guard.set n { g with misses := 0 } }
  else s

/-- A miss of the window. -/
def State.guardMiss (s : State) (n : Net) : State :=
  let g := s.guard.get n
  if !s.boundaries || g.cut || !g.reference then s
  else
    let t : State := { s with guard := s.guard.set n { g with misses := min 3 (g.misses + 1) } }
    if 3 ≤ g.misses + 1 then t.syncLost n else t

/-- GUARDIAN_BOUNDARY_PULSE: the guardian of `net` takes a rod boundary pulse, `off` ns from its prediction. -/
def execGuardianBoundaryPulse (dt : Nat) (net : Net) (off : Int) (s0 : State) : Host.Outcome State Fault Refusal :=
  ok ((s0.elapse dt).guardPulse net off)

/-- GUARDIAN_WINDOW_EXPIRY: the window around the prediction ends with no pulse. -/
def execGuardianWindowExpiry (dt : Nat) (net : Net) (s0 : State) : Host.Outcome State Fault Refusal :=
  ok ((s0.elapse dt).guardMiss net)

/-- BABBLE: the transmitter of the module starts on network `net` at this instant. Outside the windows that the guardian permits
it is cut and BABBLE latched (R269, R270). -/
def execBabble (dt : Nat) (net : Net) (s0 : State) : Host.Outcome State Fault Refusal :=
  let s := s0.elapse dt
  ok (if s.permits net s.time s.time then s else s.babbleOn net)

/-- A COLDSTART frame leaves on both networks, in the coldstart window that the guardians permit before integration
(R269, R273); none leaves in HALT (R45). -/
def State.sendCold (s : State) : State :=
  let fn := s.time / furlongNs s.profile
  let rod := s.rod
  let ts := fn * furlongNs s.profile + rod * rodNs s.profile + 250
  let f := s.mkFrame kColdstart (rodslotOf rod 0) (w32 (rodCount fn rod)) ts false [s.blk.ttb.mid, s.build, w32 s.rank, 0]
  let one := fun (t : State) (n : Net) =>
    if !t.cutNet n && t.guardReady n && !t.r478 && t.mode != .halt then t.sendOn n f else t
  (one (one s .X) .Y).modNic (fun c => { c with csSent := c.csSent + 1 })

/-- COLDSTART is entered at this rod boundary, and its first frame is sent (Table 8.11). -/
def State.enterColdstart (s : State) : State :=
  ((s.busEnter .coldstart).modNic (fun c => { c with csRod := 0, csSent := 0 })).sendCold

/-- COLDSTART_LT_EXPIRY: LT rods counted in LISTEN or BACKOFF. -/
def State.ltExpiry (s : State) : State :=
  if (s.blk.ttb.state = .listen ∧ s.nic.integBy.isNone ∨ s.blk.ttb.state = .backoff) ∧ s.coldCapable ∧
     s.lt ≤ s.blk.ttb.count then s.enterColdstart
  else s

/-- COLDSTART_LT_EXPIRY. -/
def execColdstartLtExpiry (dt : Nat) (s0 : State) : Host.Outcome State Fault Refusal := ok (s0.elapse dt).ltExpiry

/-- COLDSTART_END: rod c + 80 is reached. -/
def State.coldEnd (s : State) : State :=
  if s.blk.ttb.state = .coldstart ∧ 80 ≤ s.nic.csRod then s.integrated s.rank else s

/-- COLDSTART_END. -/
def execColdstartEnd (dt : Nat) (s0 : State) : Host.Outcome State Fault Refusal := ok (s0.elapse dt).coldEnd

end Sys2Proof.Machine
end

