-- ==== Sys2Proof/Machine/Areas.lean ====
section
/-! DEFINITION. The staging areas, and the discard of a staged set (R75, R76, R163, R165, R339). -/

namespace Sys2Proof.Machine

/-- A field of a set, least significant byte first (R162). -/
def leAt (b : List Byte) (o n : Nat) : Nat := ofLe ((b.drop o).take n)

/-- Staging area `n`. -/
def State.area (s : State) (n : Nat) : Stg :=
  match n with
  | 0 => s.blk.cyc.stg0
  | 1 => s.blk.cyc.stg1
  | _ => s.blk.cyc.stg2

/-- The bytes of staging area `n`. -/
def Staged.area (g : Staged) (n : Nat) : List Byte :=
  match n with
  | 0 => g.patch
  | 1 => g.io
  | _ => g.act

/-- Fill or empty staging area `n`. -/
def State.setArea (s : State) (n : Nat) (g : Stg) (b : List Byte) : State :=
  let t := s.modCyc (fun c =>
    match n with
    | 0 => { c with stg0 := g }
    | 1 => { c with stg1 := g }
    | _ => { c with stg2 := g })
  { t with
    staged :=
      match n with
      | 0 => { t.staged with patch := b }
      | 1 => { t.staged with io := b }
      | _ => { t.staged with act := b } }

/-- Staging area `n` is emptied. -/
def State.clearArea (s : State) (n : Nat) : State :=
  let t := s.setArea n ⟨0, 0⟩ []
  if n = 0 then t.modAll (fun _ x => { x with patch := [] }) else t

/-- PATCH_DISCARDED (Table 5.6). -/
def State.patchDiscarded (s : State) (b : List Byte) (why item : Nat) : State :=
  s.recBody .patchDiscarded (leBytes 4 (leAt b 0 4) ++ leBytes 1 why ++ [0] ++ leBytes 2 item)

/-- PARAM_DISCARDED. -/
def State.paramDiscarded (s : State) (b : List Byte) (why : Nat) : State := s.record .paramDiscarded (leAt b 0 4) why 0

/-- A staged set of kind `n` is discarded whole at its boundary or by CANCEL_STAGE, for a reason of R165; kind 1 has
numbers of its own (R339). -/
def State.discard (s : State) (n why : Nat) : State :=
  let b := s.staged.area n
  (match n with
   | 0 => s.patchDiscarded b why 0xFFFF
   | 1 => s.paramDiscarded b (why + 2)
   | _ => s.record .stageDiscarded 2 why 0).clearArea n

end Sys2Proof.Machine
end

