-- ==== Sys2Proof/Machine/Manifest.lean ====
section
/-! DEFINITION. The manifest of a load set: its signed regions and checks 1 to 6 of Table 14.3 (R415 to R420). -/

namespace Sys2Proof.Machine

/-- The signed region of the manifest, bytes 0 to 447 (Table 14.1). -/
def manifestRegion (m : Manifest) : List Byte :=
  leBytes 4 m.magic.toNat ++ leBytes 2 m.format ++ leBytes 2 m.ncomp ++ leBytes 4 m.build.toNat ++
    leBytes 4 m.mid.toNat ++ leBytes 4 m.schema ++ leBytes 4 m.svn ++ leBytes 4 (bit m.raise) ++ leBytes 4 m.length ++
    m.comp.flatMap (fun c => leBytes 4 c.1 ++ leBytes 4 c.2.1 ++ leBytes 4 c.2.2.1 ++ leBytes 4 0 ++
      beBytes 48 c.2.2.2.toNat) ++
    beBytes 97 m.opkE.toNat ++ beBytes 60 m.opkL.toNat ++ leBytes 3 0

/-- The signed region of the vendor block, bytes 0 to 223 (Table 14.2). -/
def vendorRegion (m : Manifest) : List Byte :=
  leBytes 4 m.vMagic.toNat ++ leBytes 4 m.fwver.toNat ++ leBytes 4 m.bodyLen ++ leBytes 4 0 ++
    beBytes 48 m.bodyDig.toNat ++ beBytes 97 m.vpkE.toNat ++ beBytes 60 m.vpkL.toNat ++ leBytes 3 0

/-- SHA-384 of the manifest signed region. -/
def manifestDigest (m : Manifest) : BitVec 384 := Config.sha384 (manifestRegion m)

/-- DIG16: its first 16 bytes. -/
def dig16 (m : Manifest) : BitVec 128 := (manifestDigest m).extractLsb' 256 128

/-- Its first 4 bytes, byte 0 in [7:0]. -/
def dig4 (m : Manifest) : Word := w32 (ofLe (beBytes 4 ((manifestDigest m).extractLsb' 352 32).toNat))

/-- Components lie in order, each on a 4 096-byte boundary, inside LENGTH. -/
def componentsIn : List (Nat × Nat × Nat × BitVec 384) → Nat → Nat → Bool
  | [], _, _ => true
  | c :: cs, least, length =>
    c.2.1 % 4096 == 0 && decide (least ≤ c.2.1) && decide (c.2.1 + c.2.2.1 ≤ length) &&
      componentsIn cs (c.2.1 + c.2.2.1) length

/-- Check 1: FORMAT. The firmware component is the vendor block and the body of BODYLEN bytes (R416). -/
def checkFormat (m : Manifest) : Bool :=
  m.magic == 0x4B334C53#32 && m.format == 1 && m.ncomp == 4 && m.comp.map Prod.fst == [1, 2, 3, 4] &&
    m.vMagic == 0x4B334657#32 && decide (m.length ≤ 64 * 1048576) && componentsIn m.comp 4096 m.length &&
    m.comp.head?.all (fun c => c.2.2.1 == 4096 + m.bodyLen)

/-- The operator roots in force: the vendor roots until the operator roots are programmed (R418). -/
def Otp.operatorRoots (o : Otp) : Option (BitVec 384 × BitVec 384) := if o.operator.isSome then o.operator else o.vendor

/-- Check 2: ROOT. -/
def checkRoots (o : Otp) (m : Manifest) : Bool :=
  o.operatorRoots == some (Config.sha384 (beBytes 97 m.opkE.toNat), Config.sha384 (beBytes 60 m.opkL.toNat)) &&
    o.vendor == some (Config.sha384 (beBytes 97 m.vpkE.toNat), Config.sha384 (beBytes 60 m.vpkL.toNat))

/-- Check 3: VENDOR_SIG. -/
def checkVendor (m : Manifest) : Bool :=
  Config.ecdsaOk m.vpkE (Config.sha384 (vendorRegion m)) m.vsigE && Config.lmsOk m.vpkL (vendorRegion m) m.vsigL

/-- Check 4: OPERATOR_SIG. -/
def checkOperator (m : Manifest) : Bool :=
  Config.ecdsaOk m.opkE (manifestDigest m) m.osigE && Config.lmsOk m.opkL (manifestRegion m) m.osigL

/-- The vendor block of 4 096 bytes (Table 14.2). -/
def vendorBytes (m : Manifest) : List Byte :=
  let b := vendorRegion m ++ beBytes 96 m.vsigE.toNat ++ m.vsigL.take 2832
  b ++ List.replicate (4096 - b.length) 0

/-- The components as stored; the firmware component is the vendor block and the body (R416). -/
def componentBytes (l : LoadSet) : List (List Byte) := (vendorBytes l.man ++ l.body) :: l.parts

/-- Check 5: DIGEST: every component digest, and BODYDIG over the firmware body, equal the content. -/
def checkDigest (l : LoadSet) : Bool :=
  l.man.comp.map (fun c => c.2.2.2) == (componentBytes l).map Config.sha384 && l.man.bodyDig == Config.sha384 l.body

/-- The reason of the first of checks 1 and 5 that fails, 0 when both hold (R423). -/
def downloadReason (l : LoadSet) : Nat := if !checkFormat l.man then 1 else if !checkDigest l then 5 else 0

/-- The reason of the first of checks 1 to 6 that fails, 0 when all hold. -/
def manifestReason (o : Otp) (l : LoadSet) : Nat :=
  if !checkFormat l.man then 1
  else if !checkRoots o l.man then 2
  else if !checkVendor l.man then 3
  else if !checkOperator l.man then 4
  else if !checkDigest l then 5
  else if l.man.svn < o.svn then 6
  else 0

/-- The manifest of 4 096 bytes (Table 14.1). -/
def manifestBytes (m : Manifest) : List Byte :=
  let b := manifestRegion m ++ beBytes 96 m.osigE.toNat ++ m.osigL.take 2832
  b ++ List.replicate (4096 - b.length) 0

end Sys2Proof.Machine
end

