-- ==== Sys2Proof/Machine/Reset.lean ====
section
/-! DEFINITION. Entering reset: what a restart and a power-down reset do at once (R45, R447, R426). The power-on
sequence follows with POWER_ON. -/

namespace Sys2Proof.Machine

/-- Every chip of the triangle is in reset: no vertex runs, every output is open, no guardian transmits, no boundary is
raised, and no one-shot action is released. The module waits for POWER_ON. -/
def State.enterReset (s : State) : State :=
  let t := (s.modAll (fun _ x => { x.stop with key := none })).modSio (fun x =>
    { x with
      qs := x.qs.map (fun q => { q with on := false, committed := false, resetAt := none }),
      qa := x.qa.map (fun q => { q with on := false, committed := false }), tests := none, repeats := [] })
  let u := t.modCyc (fun c => { c with mode := .start })
  { u with
    inReset := true, boundaries := false, p2 := false, p2End := false,
    guard := ⟨{ u.guard.x with schedule := none, reference := false }, { u.guard.y with schedule := none, reference := false }⟩,
    links := Tri.all (Tri.all []), change := none, faultChange := none,
    start := { u.start with step := 0, acquired := false } }

/-- The records of the triangle that wait when the module restarts without loss of power reach the K3M, which keeps
running (notes/assumptions/43.md). -/
def State.lastDelivery (s : State) : State :=
  if s.k3m.failed then s
  else
    let u := if s.k3m.waiting.isSome then s.takeRecords else s
    let t := (u.deliver s.fnum (s.fnum * furlongNs s.profile)).takeRecords
    { t with k3m := { t.k3m with waiting := none, edges := [] } }

/-- The SEQ of the tuning table, that of the first vertex in service. -/
def State.tuneSeq (s : State) : Word := (s.v (s.serving.headD .A)).tune.seq

/-- BUILD of a set, 0 when absent. -/
def buildOf (l : Option LoadSet) : Nat :=
  match l with
  | some x => x.man.build.toNat
  | none => 0

/-- TUNING_CLEARED: the tuning table is refilled from the new load set (R170). -/
def State.tuningCleared (s : State) : State :=
  s.recBody .tuningCleared (leBytes 4 s.tuneSeq.toNat ++ leBytes 4 (buildOf s.upd.staging))

/-- A patch list staged for the old BUILD fails with reason 16#02 BUILD (R170). The restart that the activation brings empties the
staging area, so the model judges the list before it (DESIGN CHOICE, notes/assumptions/66.md). -/
def State.staleList (s : State) : State := if (s.area 0).state = 0 then s else s.discard 0 0x02

/-- The start that follows activates the set that LOCAL_ACT has armed (R428): the tuning table goes with the old set. -/
def State.localCleared (s : State) : State :=
  if s.upd.slots.cur.state = .armed then s.tuningCleared.staleList else s

/-- Of the withdrawn vertices, those whose debug session the restart ends stay withdrawn (R233); the others return to service with
the reset value of their bits (R17). -/
def State.keepWithdrawn (s : State) : State :=
  s.modCen (fun c =>
    let w := c.debugged.mapv (fun v d => d || c.wdOld.get v)
    { c with withdrawn := w, wdOld := w })

/-- A restart of the module (R68): debug sessions end (R233); MODE_CHANGE with cause RESTART_CMD, and reset. -/
def State.restart (s : State) : State :=
  (((s.keepWithdrawn.endDebugs).localCleared).setMode .start .restartCmd).lastDelivery.enterReset

/-- The activation flag is latched in the AO domain and the module restarts (R426). -/
def State.activateReset (s : State) : State := (s.modUpd (fun u => { u with aoFlag := true })).restart

end Sys2Proof.Machine
end

