-- ==== Sys2Proof/Machine/Service.lean ====
section
/-! DEFINITION. Service sessions, roles and requests, the download into STAGING, attestation, the mailbox page and
the intake of the status mirror (R421 to R442, R470 to R472). -/

namespace Sys2Proof.Machine

/-! ### Results (Table 2.10, R435) -/

/-- Results of commands and requests. -/
inductive Res where
  | accepted
  | wrongMode
  | sealRefused
  | notReady
  | busyStaged
  | late
  | badParam
  | auth
  | lockedOut
  | overwritten
  | sessionLimit
  deriving DecidableEq, Repr

/-- Result codes. -/
def Res.code : Res → Nat
  | .accepted => 0x00
  | .wrongMode => 0x01
  | .sealRefused => 0x02
  | .notReady => 0x03
  | .busyStaged => 0x04
  | .late => 0x05
  | .badParam => 0x06
  | .auth => 0x10
  | .lockedOut => 0x11
  | .overwritten => 0x12
  | .sessionLimit => 0x13

/-- A response on the wire: LEN, CODE and TAG, most significant byte first, then RESULT and 3 bytes of 0, which LEN does not count, then the body (R435,
notes/assumptions/44.md). -/
def Response.bytes (r : Response) : List Byte :=
  beBytes 4 r.body.length ++ beBytes 2 r.code ++ beBytes 2 r.tag.toNat ++ leBytes 1 r.result ++ [0, 0, 0] ++ r.body

/-- A response goes out. -/
def State.respond (s : State) (c : Chan) (code : Nat) (tag : BitVec 16) (r : Res) (body : List Byte) : State :=
  s.emit (.response ⟨c, code + 0x8000, tag, r.code, body⟩)

/-! ### Sessions and roles (R435, R436) -/

/-- Session `n`. -/
def Update.sess (u : Update) (n : Sess) : Option Session :=
  match n with
  | .s0 => u.s0
  | .s1 => u.s1

/-- Replace session `n`. -/
def Update.setSess (u : Update) (n : Sess) (x : Option Session) : Update :=
  match n with
  | .s0 => { u with s0 := x }
  | .s1 => { u with s1 := x }

/-- The number of a session. -/
def sessNum : Sess → Nat
  | .s0 => 0
  | .s1 => 1

/-- Role numbers (R436). -/
def roleNum : Role → Nat
  | .reader => 1
  | .maintainer => 2
  | .commissioner => 3
  | .admin => 4

/-- The role of session `n`, 0 none. -/
def State.roleOf (s : State) (n : Sess) : Nat :=
  match s.upd.sess n with
  | some x => (match x.role with
    | some r => roleNum r
    | none => 0)
  | none => 0

/-- Session `n` holds role `r` where one is needed. -/
def State.hasRole (s : State) (n : Sess) (r : Role) (always : Bool) : Bool :=
  !(always || s.strict) || decide (roleNum r ≤ s.roleOf n)

/-- Session `n` is open and the K3M runs. -/
def State.open_ (s : State) (n : Sess) : Bool := (s.upd.sess n).isSome && !s.k3m.failed

/-- A request arrives on session `n`: its idle time starts anew. -/
def State.touchSess (s : State) (n : Sess) : State :=
  s.modUpd (fun u => u.setSess n ((u.sess n).map (fun x => { x with lastNt := s.nt })))

/-- CHANGE_LOG (Table 14.9). -/
def State.changeLog (s : State) (role chan code sess item : Nat) (r : Res) : State :=
  s.k3mRec 0x40 (.update 0x0A0C)
    (leBytes 1 role ++ leBytes 1 chan ++ leBytes 2 code ++ leBytes 1 r.code ++ leBytes 1 sess ++ leBytes 2 0 ++
      leBytes 8 item)

/-- Answer a request that would change something: CHANGE_LOG and the response. -/
def State.answer (s : State) (n : Sess) (code : Nat) (tag : BitVec 16) (item : Nat) (r : Res) : State :=
  (s.changeLog (s.roleOf n) 0 code (sessNum n) item r).respond .s1 code tag r []

/-- A request on S1: nothing where the session is not open; else its result `r` and, where accepted, its effect. -/
def State.request (s : State) (n : Sess) (code : Nat) (tag : BitVec 16) (item : Nat) (r : Res) (f : State → State) :
    State :=
  if !s.open_ n then s
  else
    let t := s.touchSess n
    if r = .accepted then (f t).answer n code tag item r else t.answer n code tag item r

/-- A request that changes nothing the log names: only the response. -/
def State.query (s : State) (n : Sess) (code : Nat) (tag : BitVec 16) (r : Res) (body : List Byte)
    (f : State → State) : State :=
  if !s.open_ n then s
  else
    let t := s.touchSess n
    (if r = .accepted then f t else t).respond .s1 code tag r (if r = .accepted then body else [])

/-- SESSION_OPEN: at most two sessions; a third is refused with SESSION_LIMIT. -/
def execSessionOpen (dt : Nat) (s0 : State) : Host.Outcome State Fault Refusal :=
  let s := s0.elapse dt
  if s.k3m.failed then ok s
  else
    match s.upd.s0, s.upd.s1 with
    | none, _ => ok (s.modUpd (fun u => { u with s0 := some ⟨none, s.nt⟩ }))
    | some _, none => ok (s.modUpd (fun u => { u with s1 := some ⟨none, s.nt⟩ }))
    | some _, some _ => ok (s.emit (.noSession Res.sessionLimit.code))

/-! ### The download (R423, R424) -/

/-- The download in progress is abandoned: STAGING is EMPTY (R424). -/
def State.dropDownload (s : State) (why : Nat) : State :=
  if s.upd.sstate = .loading then
    (s.updRec 0x0A03 why 0 0).modUpd (fun u =>
      { u with staging := none, sstate := .empty, dlMan := none, dlLen := 0, dlPos := 0, dlBytes := [], dlSess := none })
  else s

/-- Session `n` is closed: its download is abandoned and its FREEZE ends (R412, R424). -/
def State.closeSess (s : State) (n : Sess) : State :=
  let t := if s.upd.dlSess = some n then s.dropDownload 3 else s
  let u := if t.recorder.frozen = some n then t.thaw else t
  u.modUpd (fun x => x.setSess n none)

/-- SESSION_IDLE_TIMEOUT: 900 s. -/
def execSessionIdleTimeout (dt : Nat) (n : Sess) (s0 : State) : Host.Outcome State Fault Refusal :=
  let s := s0.elapse dt
  match s.upd.sess n with
  | some x => if 112500000000 ≤ s.nt - x.lastNt then ok (s.closeSess n) else ok s
  | none => ok s

/-- SESSION_END: closed by its peer, or lost. -/
def execSessionEnd (dt : Nat) (n : Sess) (s0 : State) : Host.Outcome State Fault Refusal :=
  let s := s0.elapse dt
  if (s.upd.sess n).isSome then ok (s.closeSess n) else ok s

/-- Staging area 2 is occupied. -/
def State.area2 (s : State) : Bool := s.blk.cyc.stg2.state != 0

/-- The result of DL_START. -/
def State.dlStartRes (s : State) (n : Sess) (length : Nat) (m : Manifest) : Res :=
  if !s.hasRole n .maintainer false then .auth
  else if !s.mirrorBlk.cyc.sw2 then .sealRefused
  else if s.area2 then .busyStaged
  else if 64 * 1048576 < length ∨ length < 4096 ∨ m.length ≠ length then .badParam
  else .accepted

/-- DL_START erases STAGING. The manifest it carries is the first 4 096 bytes of the set. -/
def execDlStart (dt : Nat) (n : Sess) (tag : BitVec 16) (length : Nat) (man : Manifest) (s0 : State) :
    Host.Outcome State Fault Refusal :=
  let s := s0.elapse dt
  ok (s.request n 0x20 tag man.build.toNat (s.dlStartRes n length man) (fun t =>
    (t.updRec 0x0A01 length 0 0).modUpd (fun u =>
      { u with
        staging := none, sstate := .loading, dlMan := some man, dlLen := length, dlPos := 4096, dlBytes := [],
        dlSess := some n })))

/-- The result of DL_DATA. -/
def State.dlDataRes (s : State) (n : Sess) (off len : Nat) : Res :=
  if !s.hasRole n .maintainer false then .auth
  else if !s.mirrorBlk.cyc.sw2 then .sealRefused
  else if s.upd.sstate ≠ .loading ∨ s.upd.dlSess ≠ some n then .notReady
  else if off ≠ s.upd.dlPos ∨ 61440 < len ∨ s.upd.dlLen < off + len then .badParam
  else .accepted

/-- The BUILD of the set under download, the item of its CHANGE_LOG (Table 14.9). -/
def State.dlBuild (s : State) : Nat :=
  match s.upd.dlMan with
  | some m => m.build.toNat
  | none => 0

/-- DL_DATA: up to 60 KiB at the next offset. -/
def execDlData (dt : Nat) (n : Sess) (tag : BitVec 16) (off : Nat) (data : List Byte) (s0 : State) :
    Host.Outcome State Fault Refusal :=
  let s := s0.elapse dt
  ok (s.request n 0x21 tag s.dlBuild (s.dlDataRes n off data.length) (fun t =>
    t.modUpd (fun u => { u with dlPos := u.dlPos + data.length, dlBytes := u.dlBytes ++ data })))

/-- The `len` bytes at offset `off` of the set, at or after its manifest, as STAGING holds them. -/
def Update.staged (u : Update) (off len : Nat) : List Byte := (u.dlBytes.drop (off - 4096)).take len

/-- The set in STAGING: the manifest of DL_START and the components that have arrived; `c` is what the bytes of application, matrix
and schema say (notes/assumptions/9.md). -/
def Update.received (u : Update) (m : Manifest) (c : Content) : LoadSet :=
  { man := m,
    body := match m.comp.head? with
      | some q => u.staged (q.2.1 + 4096) (q.2.2.1 - 4096)
      | none => [],
    parts := (m.comp.drop 1).map (fun q => u.staged q.2.1 q.2.2.1), content := c }

/-- The result of DL_END. -/
def State.dlEndRes (s : State) (n : Sess) : Res :=
  if !s.hasRole n .maintainer false then .auth
  else if s.upd.sstate ≠ .loading ∨ s.upd.dlSess ≠ some n ∨ s.upd.dlPos ≠ s.upd.dlLen then .notReady
  else .accepted

/-- DL_END: the set is LOADED. Its bytes are those that have arrived; `got` tells what they say. -/
def execDlEnd (dt : Nat) (n : Sess) (tag : BitVec 16) (got : LoadSet) (s0 : State) :
    Host.Outcome State Fault Refusal :=
  let s := s0.elapse dt
  ok (s.request n 0x22 tag s.dlBuild (s.dlEndRes n) (fun t =>
    t.modUpd (fun u =>
      { u with staging := some (u.received (u.dlMan.getD got.man) got.content), sstate := .loaded, dlSess := none })))

/-- DOWNLOAD_CHECK_END: checks 1 and 5 of the K3M. -/
def execDownloadCheckEnd (dt : Nat) (s0 : State) : Host.Outcome State Fault Refusal :=
  let s := s0.elapse dt
  match s.upd.staging with
  | some l =>
    if s.upd.sstate = .loaded ∧ !s.k3m.failed then
      let r := downloadReason l
      ok ((s.updRec 0x0A02 r l.man.build.toNat 0).modUpd (fun u =>
        { u with sstate := if r = 0 then .checked else .rejected, vreason := if r = 0 then u.vreason else r }))
    else ok s
  | none => ok s

/-- DL_ABORT. -/
def execDlAbort (dt : Nat) (n : Sess) (tag : BitVec 16) (s0 : State) : Host.Outcome State Fault Refusal :=
  let s := s0.elapse dt
  let r : Res := if !s.hasRole n .maintainer false then .auth else if s.upd.sstate ≠ .loading then .notReady else .accepted
  ok (s.request n 0x23 tag s.dlBuild r (fun t => t.dropDownload 2))

/-- UPDM_ABORT: UPDM.CTL.ABORT. -/
def execUpdmAbort (dt : Nat) (s0 : State) : Host.Outcome State Fault Refusal := ok ((s0.elapse dt).dropDownload 2)

/-! ### Passwords (R437) -/

/-- The hash of role `r`. -/
def Update.pw (u : Update) (r : Role) : Option PwHash := (u.pws.find? (fun q => q.1 == r)).map Prod.snd

/-- The lock of role `r`. -/
def Update.lock (u : Update) (r : Role) : Lock := u.locks.getD (roleNum r - 1) ⟨0, none⟩

/-- Replace the lock of role `r`. -/
def Update.setLock (u : Update) (r : Role) (l : Lock) : Update := { u with locks := setNth u.locks (roleNum r - 1) l }

/-- Lockout in s after a number of consecutive failures: 60 s at the fifth, doubled with each further one, at most
3 600 s. -/
def lockoutSec (fails : Nat) : Nat := if fails < 5 then 0 else min 3600 (60 * 2 ^ (fails - 5))

/-- The password is that of role `r`. -/
def Update.pwOk (u : Update) (r : Role) (pw : List Byte) : Bool :=
  match u.pw r with
  | some h => Config.argon2id pw h.salt == h.tag
  | none => false

/-- Role `r` is locked out. -/
def State.locked (s : State) (r : Role) : Bool :=
  match (s.upd.lock r).until_ with
  | some t => decide (s.nt < t)
  | none => false

/-- A failed LOGIN. -/
def State.loginFails (s : State) (r : Role) : State :=
  let n := (s.upd.lock r).fails + 1
  let sec := lockoutSec n
  (s.updRec 0x0A0D (roleNum r) n sec).modUpd (fun u =>
    u.setLock r ⟨n, if sec = 0 then none else some (s.nt + sec * 125000000)⟩)

/-- LOGIN. -/
def execLogin (dt : Nat) (n : Sess) (tag : BitVec 16) (r : Role) (pw : List Byte) (s0 : State) :
    Host.Outcome State Fault Refusal :=
  let s := s0.elapse dt
  if !s.open_ n then ok s
  else
    let t := s.touchSess n
    if s.locked r then ok (t.respond .s1 0x01 tag .lockedOut [])
    else if s.upd.pwOk r pw then
      ok ((t.modUpd (fun u =>
        (u.setLock r ⟨0, none⟩).setSess n (some ⟨some r, s.nt⟩))).respond .s1 0x01 tag .accepted [])
    else ok ((t.loginFails r).respond .s1 0x01 tag .auth [])

/-- LOCKOUT_EXPIRY. -/
def execLockoutExpiry (dt : Nat) (r : Role) (s0 : State) : Host.Outcome State Fault Refusal :=
  let s := s0.elapse dt
  match (s.upd.lock r).until_ with
  | some t => if t ≤ s.nt then ok (s.modUpd (fun u => u.setLock r { u.lock r with until_ := none })) else ok s
  | none => ok s

/-- LOGOUT: the session drops its role. -/
def execLogout (dt : Nat) (n : Sess) (tag : BitVec 16) (s0 : State) : Host.Outcome State Fault Refusal :=
  let s := s0.elapse dt
  ok (s.query n 0x02 tag .accepted [] (fun t => t.modUpd (fun u => u.setSess n (some ⟨none, s.nt⟩))))

/-- The request sets the first ADMIN password. -/
def State.firstAdmin (s : State) (r : Role) : Bool := r == .admin && (s.upd.pw .admin).isNone

/-- One byte of UTF-8 (RFC 3629): the state holds how many bytes of the character are still to come, and the range of the
next one. -/
def utf8Next (q : Option (Nat × Nat × Nat)) (b : Byte) : Option (Nat × Nat × Nat) :=
  let x := b.toNat
  match q with
  | none => none
  | some (0, _, _) =>
    if x < 0x80 then some (0, 0x80, 0xBF)
    else if x < 0xC2 then none
    else if x < 0xE0 then some (1, 0x80, 0xBF)
    else if x < 0xF0 then some (2, if x = 0xE0 then 0xA0 else 0x80, if x = 0xED then 0x9F else 0xBF)
    else if x < 0xF5 then some (3, if x = 0xF0 then 0x90 else 0x80, if x = 0xF4 then 0x8F else 0xBF)
    else none
  | some (n + 1, lo, hi) => if lo ≤ x ∧ x ≤ hi then some (n, 0x80, 0xBF) else none

/-- The bytes are UTF-8 (R437). -/
def utf8Ok (l : List Byte) : Bool :=
  match l.foldl utf8Next (some (0, 0x80, 0xBF)) with
  | some q => q.1 == 0
  | none => false

/-- The result of SETPW: mode, role, seal, length and UTF-8. -/
def State.setpwRes (s : State) (n : Sess) (r : Role) (pw : List Byte) : Res :=
  if s.mode ≠ .commission ∧ (s.mode ≠ .maintenance ∨ s.firstAdmin r) then .wrongMode
  else if !s.firstAdmin r ∧ s.roleOf n < 4 then .auth
  else if s.firstAdmin r ∧ !(s.blk.cyc.sw3 && s.blk.cyc.sw4) then .sealRefused
  else if pw.length < 12 ∨ 64 < pw.length ∨ utf8Ok pw = false then .badParam
  else .accepted

/-- SETPW. -/
def execSetpw (dt : Nat) (n : Sess) (tag : BitVec 16) (r : Role) (pw : List Byte) (salt : BitVec 128) (s0 : State) :
    Host.Outcome State Fault Refusal :=
  let s := s0.elapse dt
  ok (s.request n 0x03 tag (roleNum r) (s.setpwRes n r pw) (fun t =>
    t.modUpd (fun u =>
      { u with pws := (r, ⟨salt, Config.argon2id pw salt⟩) :: u.pws.filter (fun q => q.1 != r) })))

/-- CLEARPW: COMMISSION, with SW3 and SW4 on. -/
def execClearpw (dt : Nat) (n : Sess) (tag : BitVec 16) (s0 : State) : Host.Outcome State Fault Refusal :=
  let s := s0.elapse dt
  let r : Res :=
    if s.mode ≠ .commission then .wrongMode else if !(s.blk.cyc.sw3 && s.blk.cyc.sw4) then .sealRefused else .accepted
  ok (s.request n 0x04 tag 0 r (fun t => (t.updRec 0x0A11 0 0 0).modUpd (fun u => { u with pws := [] })))

/-! ### Reading the recorder (Table 13.8) -/

/-- RECN.STAT (Table 13.13). -/
def Recorder.stat (r : Recorder) : Nat :=
  bit r.logfail + 2 * bit r.frozen.isSome + 2 ^ 3 * r.queue.length + 2 ^ 13 * r.folds.length

/-- The newest committed SEQ, 0 before the first. -/
def Recorder.newest (r : Recorder) : Nat := r.seq - 1

/-- The oldest SEQ held. -/
def Recorder.oldest (r : Recorder) : Nat :=
  match r.log.find? LogRec.whole with
  | some l => l.seq
  | none => r.seq

/-- The body of an INFO response. -/
def Recorder.info (r : Recorder) : List Byte :=
  beBytes 4 r.stat ++ beBytes 6 r.oldest ++ beBytes 6 r.newest ++ beBytes 4 r.folds.length

/-- INFO. -/
def execInfo (dt : Nat) (n : Sess) (tag : BitVec 16) (s0 : State) : Host.Outcome State Fault Refusal :=
  let s := s0.elapse dt
  ok (s.query n 0x10 tag .accepted s.recorder.info id)

/-- FREEZE: NOT_READY while another session holds one. -/
def execFreeze (dt : Nat) (n : Sess) (tag : BitVec 16) (s0 : State) : Host.Outcome State Fault Refusal :=
  let s := s0.elapse dt
  let r : Res := match s.recorder.frozen with
    | some m => if m = n then .accepted else .notReady
    | none => .accepted
  ok (s.request n 0x11 tag 0 r (fun t => if t.recorder.frozen.isSome then t else t.modRec (fun x => x.freeze n t.nt)))

/-- A record as READ returns it: an open one carries REPEAT and LAST of its fold, one closed in a FREEZE its fixed
values. -/
def Recorder.readRec (r : Recorder) (l : LogRec) : List Byte :=
  match (r.folds ++ r.deferred).find? (fun f => f.id == l.q.id) with
  | some f => ({ l with rept := some f.fixed.1, last := some f.fixed.2 } : LogRec).bytes
  | none => l.bytes

/-- Whole records of at most `room` bytes. -/
def takeRecs : List (List Byte) → Nat → List Byte
  | [], _ => []
  | x :: xs, room => if x.length ≤ room then x ++ takeRecs xs (room - x.length) else []

/-- READ: the result, and the committed records from `fromSeq` on. -/
def Recorder.read (r : Recorder) (fromSeq max : Nat) : Res × List Byte :=
  if r.newest < fromSeq then (.badParam, [])
  else if fromSeq < r.oldest then (.overwritten, [])
  else (.accepted, takeRecs ((r.log.filter (fun l => l.whole && decide (fromSeq ≤ l.seq))).map r.readRec) (min max 65536))

/-- READ. -/
def execRead (dt : Nat) (n : Sess) (tag : BitVec 16) (fromSeq max : Nat) (s0 : State) :
    Host.Outcome State Fault Refusal :=
  let s := s0.elapse dt
  let q := s.recorder.read fromSeq max
  ok (s.query n 0x12 tag q.1 q.2 id)

/-- A failure entry as bytes (R406). -/
def SentEntry.bytes (e : SentEntry) : List Byte :=
  leBytes 1 e.kind ++ leBytes 3 0 ++ leBytes 4 e.sector ++ leBytes 8 e.seq ++ leBytes 8 e.optime ++ leBytes 4 e.pcycle ++
    leBytes 36 0

/-- The sentinel: 64 failure entries and 960 fallback entries of 64 bytes, by place; a place never written reads as 0 (R406). -/
def Recorder.sentinelBytes (r : Recorder) : List Byte :=
  padTo 4096 (r.sentinel.flatMap SentEntry.bytes) ++ padTo 61440 (r.fallback.flatMap Prod.snd)

/-- READSENT: the 64 KiB of the sentinel. -/
def execReadsent (dt : Nat) (n : Sess) (tag : BitVec 16) (s0 : State) : Host.Outcome State Fault Refusal :=
  let s := s0.elapse dt
  ok (s.query n 0x13 tag .accepted
    s.recorder.sentinelBytes id)

/-- THAW: NOT_READY when not frozen by this session. -/
def execThaw (dt : Nat) (n : Sess) (tag : BitVec 16) (s0 : State) : Host.Outcome State Fault Refusal :=
  let s := s0.elapse dt
  let r : Res := if s.recorder.frozen = some n then .accepted else .notReady
  ok (s.query n 0x14 tag r [] State.thaw)

/-! ### The mailbox (R470, R471) -/

/-- The seal switch that the command code of a CMD word needs (Table 2.9) is on. -/
def State.cmdSeal (s : State) (cmd : Word) : Bool :=
  let c := s.blk.cyc
  match (cmd.extractLsb' 0 8).toNat with
  | 0x01 => c.sw4 || !(s.mode == .resync || s.mode == .standby || s.mode == .active)
  | 0x02 => c.sw4
  | 0x03 => c.sw4
  | 0x04 => c.sw4
  | 0x05 => c.sw4
  | 0x08 => if cmd.extractLsb' 8 8 = 0 then c.sw1 else c.sw4
  | 0x09 => c.sw2
  | 0x0C => c.sw3
  | _ => true

/-- The mailbox may take a new item (R471): it is not posted, and CMDRES in the status mirror shows the TAG of the last item, or 16 furlongs
have passed. -/
def State.mboxFree (s : State) : Bool :=
  !s.mbox.post &&
    (match s.mbox.posted with
     | none => true
     | some f =>
       s.mbox.page.kind == 0 || s.mirrorBlk.cyc.resTag == s.mbox.page.cmd.extractLsb' 16 16 || decide (f + 16 ≤ s.fnum))

/-- The result of placing an item. -/
def State.itemRes (s : State) (roleOk : Bool) (kind : Nat) (cmd : Word) (body : List Byte) : Res :=
  let code := (cmd.extractLsb' 0 8).toNat
  if (s.mode = .halt ∧ !(kind = 1 ∧ code = 1)) ∨ (s.mode = .commission ∧ !(kind = 1 ∧ (code = 1 ∨ code = 12))) then
    .wrongMode
  else if !roleOk then .auth
  else if !s.cmdSeal cmd then .sealRefused
  else if kind = 0 ∨ 4 < kind ∨ 2032 < body.length then .badParam
  else if !s.mboxFree then .notReady
  else .accepted

/-- The item stands in the page. Its number is one above that of the last item posted (Table 16.4). -/
def State.placeItem (s : State) (chan role kind : Nat) (cmd : Word) (body : List Byte) : State :=
  { s with
    mbox := { s.mbox with
              placed := true,
              page := ⟨if s.mbox.placed then s.mbox.page.mseq else s.mbox.page.mseq + 1, kind, body.length, cmd, w32 (chan + 2 * role),
                       body ++ List.replicate (2032 - body.length) 0⟩ } }

/-- MAILBOX_ITEM. -/
def execMailboxItem (dt : Nat) (n : Sess) (tag : BitVec 16) (kind : Nat) (cmd : Word) (body : List Byte) (s0 : State) :
    Host.Outcome State Fault Refusal :=
  let s := s0.elapse dt
  let need : Role := if kind = 1 ∧ cmd.extractLsb' 0 8 = 12 then .commissioner else .maintainer
  ok (s.request n 0x30 tag cmd.toNat (s.itemRes (s.hasRole n need false) kind cmd body) (fun t =>
    t.placeItem 0 (s.roleOf n) kind cmd body))

/-- MBCTL.POST is set. -/
def State.postItem (s : State) : State :=
  { s with mbox := { s.mbox with post := true, posted := some s.fnum, placed := false } }

/-- MBCTL_POST. -/
def execMbctlPost (dt : Nat) (s0 : State) : Host.Outcome State Fault Refusal := ok (s0.elapse dt).postItem

/-! ### Attestation, activation, settings, roots -/

/-- SHA-384 of the manifest signed region of a bank as the report shows it; 0 when absent. -/
def reportDigest (l : Option LoadSet) : Nat :=
  match l with
  | some x => (manifestDigest x.man).toNat
  | none => 0

/-- The set in the ACTIVE role. -/
def Update.active (u : Update) : Option LoadSet := if u.slots.cur.act = 0 then u.bank0 else u.bank1

/-- The set in the RETAINED role. -/
def Update.retainedSet (u : Update) : Option LoadSet :=
  match u.slots.cur.ret with
  | some 0 => u.bank0
  | some 1 => u.bank1
  | _ => none

/-- STAGING when it is CHECKED. -/
def Update.checkedSet (u : Update) : Option LoadSet := if u.sstate = .checked then u.staging else none

/-- Bytes 0 to 223 of the attestation report (Table 14.10). -/
def State.report (s : State) (nonce : BitVec 256) : List Byte :=
  let u := s.upd
  leBytes 4 0x4B334154 ++ leBytes 1 u.otp.variant ++ leBytes 3 0 ++ leBytes 8 u.otp.serial.toNat ++
    beBytes 32 nonce.toNat ++ beBytes 48 (reportDigest u.active) ++ beBytes 48 (reportDigest u.retainedSet) ++
    beBytes 48 (reportDigest u.checkedSet) ++ leBytes 4 (buildOf u.active) ++ leBytes 4 u.otp.svn ++
    leBytes 8 s.recorder.optime ++ leBytes 4 s.recorder.pcycle ++ leBytes 4 u.hssidx ++ leBytes 8 s.recorder.newest

/-- ATTEST may be answered (R439). -/
def State.attestReady (s : State) : Bool :=
  decide (s.upd.hssidx < 2 ^ 30) &&
    (match s.upd.lastAttest with
     | some t => decide (tenSeconds ≤ s.nt - t)
     | none => true)

/-- ATTEST: the index is advanced before the signature is released. -/
def execAttest (dt : Nat) (n : Sess) (tag : BitVec 16) (nonce : BitVec 256) (s0 : State) :
    Host.Outcome State Fault Refusal :=
  let s := s0.elapse dt
  let b := s.report nonce
  let body := b ++ beBytes 96 (Config.ecdsaSign s.free (Config.sha384 b)).toNat ++ Config.hssSign s.upd.hssidx b
  ok (s.query n 0x40 tag (if s.attestReady then .accepted else .notReady) body (fun t =>
    ({ t with free := t.free + 1 }.updRec 0x0A0F t.upd.hssidx 0 0).modUpd (fun u =>
      { u with hssidx := u.hssidx + 1, lastAttest := some t.nt })))

/-- The result of LOCAL_ACT. While the mailbox cannot take its item (R470, R471) it is refused with NOT_READY (DESIGN CHOICE,
notes/assumptions/69.md). -/
def State.localActRes (s : State) (n : Sess) : Res :=
  if s.mode ≠ .commission ∧ s.mode ≠ .halt then .wrongMode
  else if !s.hasRole n .commissioner true then .auth
  else if !s.blk.cyc.sw2 then .sealRefused
  else if s.upd.sstate ≠ .checked then .notReady
  else if !s.mboxFree then .notReady
  else .accepted

/-- LOCAL_ACT: the K3M writes ARMED and posts a command item with RESTART (R428). -/
def execLocalAct (dt : Nat) (n : Sess) (tag : BitVec 16) (s0 : State) : Host.Outcome State Fault Refusal :=
  let s := s0.elapse dt
  ok (s.request n 0x41 tag (buildOf s.upd.staging) (s.localActRes n) (fun t =>
    let d := match t.upd.staging with
      | some l => dig16 l.man
      | none => 0
    let u := t.journal (fun j => { j with state := .armed, dig16 := d, group := 0 })
    (u.placeItem 0 (s.roleOf n) 1 (0x00000001#32 ||| (tag.zeroExtend 32 <<< 16)) []).postItem))

/-- SETTING: in COMMISSION. -/
def execSetting (dt : Nat) (n : Sess) (tag : BitVec 16) (id : Nat) (value : Word) (s0 : State) :
    Host.Outcome State Fault Refusal :=
  let s := s0.elapse dt
  let r : Res :=
    if s.mode ≠ .commission then .wrongMode else if !s.hasRole n .commissioner true then .auth else .accepted
  ok (s.request n 0x42 tag id r (fun t =>
    t.modUpd (fun u =>
      { u with
        settings := { u.settings with
                      vals := (id, value) :: u.settings.vals.filter (fun q => q.1 != id) } })))

/-- The result of OTP_OPERATOR. -/
def State.otpRes (s : State) (n : Sess) (h1 h2 : BitVec 384) : Res :=
  if s.mode ≠ .commission then .wrongMode
  else if !s.hasRole n .admin true then .auth
  else if !s.blk.cyc.sw3 then .sealRefused
  else if s.upd.otp.operator.isSome then .notReady
  else if s.upd.otp.vendor ≠ some (h1, h2) then .badParam
  else .accepted

/-- OTP_OPERATOR: the hashes of the four roots in the order of R418; those of the vendor roots have to be the ones
programmed, and the operator roots are programmed once. -/
def execOtpOperator (dt : Nat) (n : Sess) (tag : BitVec 16) (h1 h2 h3 h4 : BitVec 384) (s0 : State) :
    Host.Outcome State Fault Refusal :=
  let s := s0.elapse dt
  ok (s.request n 0x43 tag 0 (s.otpRes n h1 h2) (fun t =>
    (t.updRec 0x0A10 0 0 0).modUpd (fun u => { u with otp := { u.otp with operator := some (h3, h4) } })))

/-! ### Probation (R419, R430, R431) -/

/-- The end of a probation: IDLE, PROBATION_END, and the SVN counter rises to that of the set (R419). No revert can follow, so the
retained settings are of no more use (R432). -/
def State.endProbation (s : State) (cause : Nat) : State :=
  let t := ((s.journal (fun j => { j with state := .idle, clean := s.upd.clean })).modUpd (fun u =>
    { u with retained := none, commanded := none })).updRec 0x0A08 cause 0 0
  match s.upd.active with
  | some l =>
    if l.man.raise ∧ s.upd.otp.svn < l.man.svn then
      (t.updRec 0x0A0B s.upd.otp.svn l.man.svn 0).modUpd (fun u => { u with otp := { u.otp with svn := l.man.svn } })
    else t
  | none => t

/-- PROBATION_CLEAN_END. -/
def execProbationCleanEnd (dt : Nat) (s0 : State) : Host.Outcome State Fault Refusal :=
  let s := s0.elapse dt
  if s.upd.onProbation && decide (86400 ≤ s.upd.clean) && !s.k3m.failed then ok (s.endProbation 2) else ok s

/-- PROBATION_FAULT_RESTART: 1 s after the entry to HALT. -/
def execProbationFaultRestart (dt : Nat) (s0 : State) : Host.Outcome State Fault Refusal :=
  let s := s0.elapse dt
  match s.upd.haltNt with
  | some t =>
    if s.upd.onProbation && decide (125000000 ≤ s.nt - t) && !s.k3m.failed then
      ok (s.modUpd (fun u => { u with haltNt := none })).restart
    else ok s
  | none => ok s

/-! ### Intake (R393, R424, R426, R430, R472) -/

/-- STAGING state codes (R423). -/
def sstateCode : SState → Nat
  | .empty => 0
  | .loading => 1
  | .loaded => 2
  | .checked => 3
  | .rejected => 4
  | .activated => 5

/-- Journal state codes (Table 14.4). -/
def jstateCode : JState → Nat
  | .idle => 0
  | .armed => 1
  | .copying => 2
  | .copied => 3
  | .probation => 4

/-- The journal record as a slot holds it (Table 14.4). -/
def Journal.bytes (j : Journal) : List Byte :=
  let b := leBytes 4 j.jseq.toNat ++ leBytes 1 (jstateCode j.state) ++ leBytes 1 (j.act + 2 * j.ret.getD 3) ++ leBytes 2 j.block ++
    leBytes 1 (bit j.fault) ++ leBytes 3 0 ++ leBytes 4 j.clean ++ beBytes 16 j.dig16.toNat ++ leBytes 4 j.group.toNat ++
    leBytes 4 j.oldSchema ++ leBytes 20 0
  b ++ leBytes 4 (crc32c b).toNat

/-- The K3M status words (Table 16.8). -/
def State.statusWords (s : State) (f : Nat) : List Word :=
  let r := s.recorder
  let u := s.upd
  let j := u.slots.cur
  let staged := if u.sstate = .checked ∨ u.sstate = .activated then u.staging else none
  let d := fun (l : Option LoadSet) => match l with
    | some x => dig4 x.man
    | none => 0#32
  [w32 r.stat, w32 r.newest, w32 (r.newest / 2 ^ 32 % 2 ^ 16),
   w32 (jstateCode j.state + 2 ^ 3 * sstateCode u.sstate + 2 ^ 6 * bit j.fault + 2 ^ 7 * bit u.reverted +
     2 ^ 8 * bit u.setreset + 2 ^ 10 * bit u.actlost + 2 ^ 16 * u.vreason),
   d u.active, d staged, w32 (buildOf u.staging), w32 (buildOf u.retainedSet), w32 u.clean,
   w32 (u.otp.svn + 2 ^ 8 * u.svn), 0, 0, 0, 0, 0, w32 f]

/-- The activation that the status mirror shows staged, with DIG16 and GROUP of its request (R426). -/
def State.seenStaged (s : State) : Option (Nat × BitVec 128 × Word) :=
  let g := s.mirrorBlk.cyc.stg2
  if g.state = 2 ∨ g.state = 3 then
    if s.blk.cyc.stg2 = g then
      some (g.target, BitVec.ofNat 128 (ofLe ((s.staged.act.drop 8).take 16).reverse),
        w32 (ofLe ((s.staged.act.drop 24).take 4)))
    else s.upd.seen
  else none

/-- The status mirror of furlong `f` shows the acceptance of CONFIRM (R430). -/
def State.confirmSeen (s : State) (f : Nat) : Bool :=
  match s.upd.commanded with
  | some g => decide (g ≤ f)
  | none => false

/-- STATUS_MIRROR_INTAKE. -/
def execStatusMirrorIntake (dt : Nat) (s0 : State) : Host.Outcome State Fault Refusal :=
  let s := s0.elapse dt
  match s.k3m.waiting with
  | none => ok s
  | some f =>
    if s.k3m.failed then ok s
    else
      let t := (s.takeRecords).modRec (fun r => { r with intake := some f })
      let u : State := { t with k3m := { t.k3m with waiting := none, edges := [] } }
      let w := if u.mirrorBlk.cyc.sw2 then u else u.dropDownload 1
      let x := if w.confirmSeen f && w.upd.onProbation then w.endProbation 1 else w
      let y := x.modUpd (fun y => { y with seen := s.seenStaged })
      ok (({ y with mbox := { y.mbox with ks := y.statusWords f } } : State).writeHstat y.hwin.ready)

/-- K3M_WATCHDOG_RESTART: the K3M starts anew while the module runs. Its queue, its sessions and its page are lost; the
fold table and the counters are in FRAM. LOG_JUMP comes before any other record (R408). -/
def execK3mWatchdogRestart (dt : Nat) (s0 : State) : Host.Outcome State Fault Refusal :=
  let s := s0.elapse dt
  let lost := match s.recorder.intake with
    | some f => s.fnum - 1 - f
    | none => 0
  let keep := fun (r : Recorder) => r.folds.filter (fun f => r.log.any (fun l => l.q.id == f.id))
  let t := s.modRec (fun r =>
    let r1 := { r with frozen := none }.settle
    { r1 with formQ := [], queue := [], folds := keep r1, heldCount := 0, overflow := 0, ovf := 0 })
  let u : State := { t with
                     k3m := { t.k3m with failed := false, waiting := none, edges := [] }, mirror := Tri.all .reset,
                     mbox := ⟨⟨0, 0, 0, 0, 0, List.replicate 2032 0⟩, false, List.replicate 16 0, none, false⟩,
                     hwin := { t.hwin with mem := [], reqs := 0, k3mBusy := 0, hostBusy := 0, request := none, owed := none } }
  let w := (u.modUpd (fun y => { y with s0 := none, s1 := none })).k3mRec 0x41 .logJump
    (logJumpBody 1 lost 0)
  ok (w.dropDownload 3)

end Sys2Proof.Machine
end

