-- ==== Sys2Proof/Machine/NetTime.lean ====
section
/-! DEFINITION. Network time: the servo, acquisition, master selection, path delay and holdover (R286 to R296), the
store of the K3M, and input edges (R301). -/

namespace Sys2Proof.Machine

/-! ### Shared -/

/-- Change the ordinary clock. -/
def State.modPtp (s : State) (f : Ptp → Ptp) : State := { s with ptp := f s.ptp }

/-- A network as its index in a record: 0 X, 1 Y. -/
def otherNet : Net → Net
  | .X => .Y
  | .Y => .X

/-- The time-capable node of a clockIdentity (R284). -/
def State.timeNode (s : State) (c : Long) : Option TimeNode :=
  match s.blk.ttb.matrix with
  | some m => m.timeNodes.find? (fun n => n.clockId == c)
  | none => none

/-- PD0 of a node on a network (R289). -/
def pd0Of (t : TimeNode) : Net → Nat
  | .X => t.pd0X
  | .Y => t.pd0Y

/-- The selected master has this identity. -/
def Ptp.isSelected (p : Ptp) (c : Long) : Bool :=
  match p.selected with
  | some m => m.clockId == c
  | none => false

/-- Three Sync intervals, 375 ms, and 750 ms, in NT clocks. -/
def syncs3 : Nat := 46875000
def announce3 : Nat := 93750000

/-- The limit of RATE, ±100 ppm, and 2 ppm and 50 ppm of a clock (R281, R291). -/
def rateMax : Int := 109951163
def ppm2 : Int := 2199023

/-- RATE within the limit of R281. -/
def limitRate (r : Int) : Int := max (-rateMax) (min r rateMax)

/-- `rate` is the measured rate of the master: the clock runs at (1 + rate) × (1 ∓ 50 ppm) (R291). -/
def slewRate (rate : Int) (ahead : Bool) : Int :=
  (2 ^ 40 + rate) * (if ahead then 999950 else 1000050) / 1000000 - 2 ^ 40

/-- The clock state changes. -/
def State.clockState (s : State) (c : ClkState) : State :=
  (s.modNtm (fun n => { n with state := c })).modPtp (fun p => { p with enteredAt := s.nt })

/-- RATE in force from the next NT clock (R281). -/
def State.setRate (s : State) (r : Int) : State := s.modNtm (fun n => { n with rate := limitRate r })

/-- The network that Sync messages are taken from: X as long as it has delivered one within three intervals (R286). -/
def State.syncNet (s : State) (n : Net) : Bool :=
  n == .X || !(match s.ptp.lastSync.x with
    | some t => decide (s.nt - t ≤ syncs3)
    | none => false)

/-- Path delay in force on a network: the measured one, else PD0. -/
def State.pathDelay (s : State) (n : Net) : Nat :=
  match s.ptp.delay.get n, s.ptp.selected with
  | some d, _ => d
  | none, some m => ((s.timeNode m.clockId).map (fun t => pd0Of t n)).getD 0
  | none, none => 0

/-! ### Selection (R289, R293, R294) -/

/-- The registers that show the grandmaster. -/
def State.showMaster (s : State) (id : Long) (cls prio1 prio2 steps : Nat) : State :=
  s.modNtm (fun n =>
    { n with
      gmid := id, gmClass := cls % 256, gmPrio1 := prio1 % 256, gmPrio2 := prio2 % 256, gmSteps := steps % 256 })

/-- Nothing is kept of an earlier master's messages. -/
def Ptp.select (p : Ptp) (m : MasterInfo) (nt : Nat) : Ptp :=
  { p with
    selected := some m, candidate := false, lastSync := ⟨none, none⟩, offset := ⟨none, none⟩, delay := ⟨none, none⟩,
    msd := ⟨none, none⟩, reqSent := ⟨none, none⟩, firstDelay := ⟨false, false⟩, stepped := false, overRun := 0,
    diffRun := 0, syncPair := ⟨none, none⟩, jumped := false, enteredAt := nt }

/-- A master is selected: from WAIT the clock goes to LOCKING; while time is held it follows the master in LOCKED
(R294, R296). -/
def State.selectMaster (s : State) (m : MasterInfo) : State :=
  let t := (s.modPtp (fun p => p.select m s.nt)).showMaster m.clockId m.cls m.prio1 m.prio2 m.steps
  match s.blk.ntm.state with
  | .wait => t.modNtm (fun n => { n with state := .locking })
  | .holdover => t.modNtm (fun n => { n with state := .locked })
  | _ => t

/-- The module becomes grandmaster: it holds its clock as it stands (R289, R293). -/
def State.becomeMaster (s : State) : State :=
  let t := (s.clockState .master).modPtp (fun p =>
    { p with selected := none, candidate := false, timedOut := false, lastMSync := none, lastMAnn := none })
  (t.showMaster s.clockId 248 128 s.rank 0).modNtm (fun n => { n with net := none })

/-- Time is held: step 6 of Table 2.7 is complete (R52, R289). -/
def State.timeAcquired (s : State) : State :=
  if s.start.acquired then s
  else { s with start := { s.start with acquired := true, step := if s.start.step = 6 then 7 else s.start.step } }

/-- The order of clause 9.3: lower is better, attribute by attribute. -/
def lexLess : List Nat → List Nat → Bool
  | [], _ => false
  | _, [] => false
  | a :: as, b :: bs => if a < b then true else if b < a then false else lexLess as bs

/-- A data set as its attributes in the order of the comparison. -/
def MasterInfo.key (m : MasterInfo) : List Nat := [m.prio1, m.cls, m.acc, m.var, m.prio2, m.clockId.toNat]

/-- `a` is a better master than `b`. -/
def MasterInfo.better (a b : MasterInfo) : Bool := lexLess a.key b.key

/-- The module's own data set (Table 9.1). -/
def State.ownMaster (s : State) : MasterInfo :=
  { clockId := s.clockId, prio1 := 128, cls := 248, acc := 0xFE, var := 0xFFFF, prio2 := s.rank, steps := 0,
    at_ := s.nt }

/-- BETTER_MASTER: not adopted while the selected master announces (R293). -/
def State.betterMaster (s : State) (c : Long) : State :=
  (s.record .betterMaster (c.toNat % 2 ^ 32) (c.toNat / 2 ^ 32) 0).modNtm (fun n => { n with fBettergm := some s.nt })

/-- The clock may acquire and follow time: the power-on sequence has reached step 6, which a module in ISOLATED with
POSITION_MISMATCH does not (R478). -/
def State.timeRuns (s : State) : Bool := !s.inReset && decide (6 ≤ s.start.step)

/-- The Announce of the selected master gives currentUtcOffset (R280). -/
def State.keepUtc (s : State) (c : Long) (u : Int) : State :=
  if s.ptp.isSelected c then s.modPtp (fun p => { p with utcOffset := some u }) else s

/-- An Announce of a time-capable node that follows the profile. After the announceReceiptTimeout of the selected master, its
next Announce selects it again; a candidate selected since then stays one until its first Sync, so that a better one is still
taken (R293). -/
def State.announce (s : State) (m : MasterInfo) : State :=
  if s.ptp.isSelected m.clockId then
    if s.ptp.timedOut && !s.ptp.candidates.any (fun c => c.clockId == m.clockId) then (s.selectMaster m).modPtp (fun p => { p with timedOut := false })
    else (s.modPtp (fun p => { p with selected := some m })).showMaster m.clockId m.cls m.prio1 m.prio2 m.steps
  else
    match s.blk.ntm.state, s.ptp.selected with
    | .wait, _ => s.selectMaster m
    | .master, _ => if m.better s.ownMaster then s.betterMaster m.clockId else s
    | _, some q =>
      if s.ptp.timedOut then
        if s.ptp.candidate && !m.better s.ownMaster then s
        else if m.better q || !s.ptp.candidates.any (fun c => c.clockId == q.clockId) then
          (s.selectMaster m).modPtp (fun p => { p with candidates := [m] })
        else s
      else if m.better q then s.betterMaster m.clockId else s
    | _, none => s.selectMaster m

/-- ANNOUNCE_RECEIVE: priorities are those of the bus matrix, and the clock quality of a module is that of Table 9.1. -/
def execAnnounceReceive (dt : Nat) (_net : Net) (h : PtpHdr) (clockId : Long)
    (prio1 cls acc var prio2 steps : Nat) (s0 : State) : Host.Outcome State Fault Refusal :=
  let s := s0.elapse dt
  if !s.ptpOk h (-2) then ok s.ignoreProfile
  else if s.otherFull 61 1 then ok (s.dropQueue 61)
  else if clockId = s.clockId ∨ s.timeRuns = false then ok s
  else
    match s.timeNode clockId with
    | none => ok (s.modNtm (fun n => { n with ignBm := satInc 16 n.ignBm }))
    | some t =>
      if prio1 ≠ t.prio1 ∨ prio2 ≠ t.prio2 ∨ (t.module = true ∧ (cls ≠ 248 ∨ acc ≠ 0xFE ∨ var ≠ 0xFFFF)) then ok s.ignoreProfile
      else ok ((s.announce ⟨clockId, prio1, cls, acc, var, prio2, steps, s.nt⟩).keepUtc clockId h.utcOffset)

/-- The announceReceiptTimeout of the selected master begins a choice: a grandmaster-capable module that holds time is a
candidate from here (R293). -/
def State.beginChoice (s : State) (m : MasterInfo) : State :=
  s.modPtp (fun p =>
    { p with
      timedOut := true, candidate := s.blk.ntm.gmcap && s.wallOk, candidates := [],
      selected := some { m with at_ := s.nt } })

/-- ANNOUNCE_RECEIPT_TIMEOUT: 750 ms without an Announce from the selected master. A module that has been a candidate for
750 ms and heard no better Announce becomes master; where a candidate that was selected falls silent, the choice begins
again. -/
def execAnnounceReceiptTimeout (dt : Nat) (s0 : State) : Host.Outcome State Fault Refusal :=
  let s := s0.elapse dt
  match s.ptp.selected with
  | none => ok s
  | some m =>
    if s.nt - m.at_ < announce3 then ok s
    else if s.ptp.timedOut && s.ptp.candidate then ok s.becomeMaster.timeAcquired
    else ok (s.beginChoice m)

/-- WAIT_MASTER_TIMEOUT: 2 s in WAIT without an Announce of a time-capable node. -/
def execWaitMasterTimeout (dt : Nat) (s0 : State) : Host.Outcome State Fault Refusal :=
  let s := s0.elapse dt
  if s.blk.ntm.state = .wait ∧ s.blk.ntm.gmcap ∧ s.timeRuns = true ∧ twoSeconds ≤ s.nt - s.ptp.enteredAt then
    ok s.becomeMaster.timeAcquired
  else ok s

/-! ### Sync (R286, R289, R291, R294) -/

/-- One half and three halves of a Sync interval, in NT clocks. -/
def syncHalf : Nat := 7812500
def syncOneHalf : Nat := 23437500

/-- NET_TIME_DIFF: the offsets of X and Y differ by more than 500 ns for 8 consecutive Sync intervals (R286). The two are
compared when the second Sync of an interval arrives; an interval in which one network is silent breaks the run. -/
def State.netDiff (s : State) (n : Net) : State :=
  match s.ptp.offset.x, s.ptp.offset.y, s.ptp.lastSync.get (otherNet n) with
  | some a, some b, some t =>
    if s.nt - t ≤ syncHalf then
      let k := if 500 < (a - b).natAbs then s.ptp.diffRun + 1 else 0
      let u := s.modPtp (fun p => { p with diffRun := k })
      if k = 8 then
        (u.record .netTimeDiff (w32i (sat32i (a - b))).toNat 0 0).modNtm (fun n => { n with fNetdiff := some u.nt })
      else u
    else if s.nt - t ≤ syncOneHalf then s
    else s.modPtp (fun p => { p with diffRun := 0 })
  | _, _, _ => s.modPtp (fun p => { p with diffRun := 0 })

/-- The clock is stepped to the master's time with PD0 as path delay; sub-nanosecond bits of the correction are kept
(R289). -/
def State.stepClock (s : State) (n : Net) (origin : Nat) (corr : Int) : State :=
  { s with
    clock := Clock.ofUnits (((origin : Int) * 2 ^ 40 + corr * 2 ^ 24 + (s.pathDelay n : Int) * 2 ^ 40).toNat) }

/-- The servo of LOCKED: RATE changes by 2 ppm at most; the step within that is the implementation's (R291). -/
def State.servo (s : State) (base : Int) : State :=
  let r := limitRate (base + max (-ppm2) (min (Config.servoStep s.free) ppm2))
  let t : State := { s with free := s.free + 1 }
  (t.setRate r).modPtp (fun p => { p with rates := (r :: p.rates).take 16 })

/-- The jump threshold in ns. -/
def State.jumpNs (s : State) : Nat := s.blk.ntm.jumpth * 1000

/-- TIME_JUMP_REFUSED (R294): the offset exceeds the threshold for the first time in this excursion, or has moved by more than
the threshold since `prev`, that of the last Sync. -/
def State.timeJump (s : State) (prev : Option Int) (off : Int) : State :=
  let again := match prev with
    | some p => decide (s.jumpNs < (off - p).natAbs)
    | none => false
  if s.jumpNs < off.natAbs then
    if s.ptp.jumped && !again then s
    else
      let us := sat32i (Int.tdiv off 1000)
      let id := match s.ptp.selected with
        | some m => m.clockId.toNat
        | none => 0
      ((s.record .timeJumpRefused (w32i us).toNat (id % 2 ^ 32) (id / 2 ^ 32)).modNtm
        (fun n => { n with fTimejump := some s.nt, jumpofs := us })).modPtp (fun p => { p with jumped := true })
  else s.modPtp (fun p => { p with jumped := false })

/-- A Sync in use, with the offset that it gives and that of the Sync before on the same network. HOLDOVER is left only when a
master is selected (R296). -/
def State.syncUsed (s : State) (n : Net) (origin : Nat) (corr off : Int) (prev : Option Int) : State :=
  let big := decide (1000 < off.natAbs)
  match s.blk.ntm.state with
  | .locking =>
    if !s.ptp.stepped then (s.stepClock n origin corr).modPtp (fun p => { p with stepped := true, syncPair := ⟨none, none⟩ })
    else if big then s.stepClock n origin corr
    else (((s.clockState .locked).modPtp (fun p => { p with overRun := 0, lastReq := none })).servo s.blk.ntm.rate).timeAcquired
  | .locked =>
    let k := if big then s.ptp.overRun + 1 else 0
    let t := s.modPtp (fun p => { p with overRun := k })
    if 2 ≤ k then ((t.clockState .slewing).timeJump prev off).setRate (slewRate s.ptp.mrate (decide (0 < off)))
    else t.servo s.blk.ntm.rate
  | .slewing =>
    if off.natAbs < 500 then
      ((s.clockState .locked).modPtp (fun p => { p with overRun := 0, jumped := false })).servo s.ptp.mrate
    else (s.timeJump prev off).setRate (slewRate s.ptp.mrate (decide (0 < off)))
  | _ => s

/-- The rate of the master against the oscillator, in units of 2⁻⁴⁰, over the last Sync interval of network `n`: its time is
originTimestamp with correctionField, in units of 2⁻¹⁶ ns (R287, R291). -/
def State.measureRate (s : State) (n : Net) (origin : Nat) (corr : Int) : State :=
  let m := (origin : Int) * 65536 + corr
  let r := match s.ptp.syncPair.get n with
    | some (o, t) => if t < s.nt then limitRate ((m - o) * 2 ^ 24 / (8 * ((s.nt : Int) - t)) - 2 ^ 40) else s.ptp.mrate
    | none => s.ptp.mrate
  s.modPtp (fun p => { p with mrate := if s.syncNet n then r else p.mrate, syncPair := p.syncPair.set n (some (m, s.nt)) })

/-- The clock state in which a Sync is used: NTM.STAT.NET names no network in any other (R296, R304). -/
def State.usesSync (s : State) : Bool :=
  s.blk.ntm.state == .locking || s.blk.ntm.state == .locked || s.blk.ntm.state == .slewing

/-- A valid Sync of the selected master on network `n`. -/
def State.sync (s : State) (n : Net) (origin : Nat) (corr : Int) : State :=
  let msd := (s.time : Int) - origin - corr / 65536
  let off := msd - s.pathDelay n
  let use := s.syncNet n
  let t := (s.measureRate n origin corr).modPtp (fun p =>
    { p with
      lastSync := p.lastSync.set n (some s.nt), msd := p.msd.set n (some msd), offset := p.offset.set n (some off),
      timedOut := p.timedOut && !p.candidates.any (fun c => p.isSelected c.clockId) })
  let u := t.netDiff n
  if use then
    (u.syncUsed n origin corr off (s.ptp.offset.get n)).modNtm (fun x =>
      { x with net := if s.usesSync then some n else x.net, offs := sat32i off, mpd := s.pathDelay n % 2 ^ 24 })
  else u

/-- SYNC_RECEIVE. -/
def execSyncReceive (dt : Nat) (net : Net) (h : PtpHdr) (clockId : Long) (origin : Nat) (corr : Int) (s0 : State) :
    Host.Outcome State Fault Refusal :=
  let s := s0.elapse dt
  if !s.ptpOk h (-3) then ok s.ignoreProfile
  else if s.otherFull 60 1 then ok (s.dropQueue 60)
  else if s.ptp.isSelected clockId && s.timeRuns then ok (s.sync net origin corr)
  else ok s

/-- The instant of the last Sync of the selected master, or of its selection. -/
def Ptp.lastHeard (p : Ptp) : Nat := max p.enteredAt (max (p.lastSync.x.getD 0) (p.lastSync.y.getD 0))

/-- The mean of the rates of the last Sync intervals in LOCKED, the present one when there is none (R296). -/
def Ptp.meanRate (p : Ptp) (rate : Int) : Int :=
  match p.rates with
  | [] => rate
  | l => l.foldl (· + ·) 0 / l.length

/-- SYNC_TIMEOUT: no Sync from the selected master on either network for three Sync intervals. -/
def execSyncTimeout (dt : Nat) (s0 : State) : Host.Outcome State Fault Refusal :=
  let s := s0.elapse dt
  let late := decide (syncs3 ≤ s.nt - max (s.ptp.lastSync.x.getD 0) (s.ptp.lastSync.y.getD 0)) &&
    decide (syncs3 ≤ s.nt - s.ptp.lastHeard)
  match s.blk.ntm.state with
  | .locking =>
    if late then
      ok ((((s.clockState .wait).modPtp (fun p => { p with selected := none, stepped := false, timedOut := false })).modNtm
        (fun n => { n with net := none })).showMaster 0 0 0 0 0)
    else ok s
  | .locked =>
    if late then
      ok (((s.clockState .holdover).setRate (s.ptp.meanRate s.blk.ntm.rate)).modNtm (fun n => { n with net := none }))
    else ok s
  | .slewing =>
    if late then
      ok (((s.clockState .holdover).setRate (s.ptp.meanRate s.blk.ntm.rate)).modNtm (fun n => { n with net := none }))
    else ok s
  | _ => ok s

/-! ### Path delay (R286, R288 to R290) -/

/-- DELAY_REQ_SEND: in the first arbitrating window after LOCKED, and every 1 s from then on, for both networks. -/
def execDelayReqSend (dt : Nat) (s0 : State) : Host.Outcome State Fault Refusal :=
  let s := s0.elapse dt
  let due := match s.ptp.lastReq with
    | some t => decide (125000000 ≤ s.nt - t)
    | none => s.inArb
  if (s.blk.ntm.state = .locked ∨ s.blk.ntm.state = .slewing) ∧ due = true then
    let n := (s.ptp.reqId + 1) % 65536
    ok ((s.modPtp (fun p => { p with reqId := n, lastReq := some s.nt })).queuePtp (.delayReq n))
  else ok s

/-- DELAY_REQ_RECEIVE: the master answers with the ingress time-stamp on both networks (R285, R288); the response names the
requesting port and carries the correction of the request. -/
def execDelayReqReceive (dt : Nat) (_net : Net) (h : PtpHdr) (clockId : Long) (seqId : Nat) (corr : Int) (s0 : State) :
    Host.Outcome State Fault Refusal :=
  let s := s0.elapse dt
  if !s.ptpOk h 0 then ok s.ignoreProfile
  else if s.otherFull 60 1 then ok (s.dropQueue 60)
  else if s.blk.ntm.state = .master then ok (s.queuePtp (.delayResp h.port clockId seqId s.time corr))
  else ok s

/-- The first measured path delay of a network is compared with PD0 (R290). -/
def State.firstPath (s : State) (n : Net) (d pd0 : Nat) : State :=
  if s.ptp.firstDelay.get n then s
  else
    let t := s.modPtp (fun p => { p with firstDelay := p.firstDelay.set n true })
    let e := (d : Int) - pd0
    if 1000 < e.natAbs then
      (t.record .pathDelayMismatch (w32i (sat32i e)).toNat 0 0).modNtm (fun x => { x with fPdmism := some t.nt })
    else t

/-- DELAY_RESP_RECEIVE: the mean path delay of the network of the requesting port, as clause 11.3 computes it; a negative result is
taken as 0 (DESIGN CHOICE, notes/assumptions/69.md). The copy of the
response that comes second finds the request answered. -/
def execDelayRespReceive (dt : Nat) (_net : Net) (h : PtpHdr) (clockId reqId : Long) (seqId receive : Nat) (corr : Int)
    (s0 : State) : Host.Outcome State Fault Refusal :=
  let s := s0.elapse dt
  let net := netOfPort h.port
  if !s.ptpOk h 0 then ok s.ignoreProfile
  else if s.otherFull 60 1 then ok (s.dropQueue 60)
  else
    match s.ptp.reqSent.get net, s.ptp.msd.get net, s.timeNode clockId with
    | some (q, t3), some msd, some node =>
      if s.ptp.isSelected clockId ∧ reqId = s.clockId ∧ q = seqId then
        let d := ((msd + ((receive : Int) - t3 - corr / 65536)) / 2).toNat
        let t := (s.modPtp (fun p => { p with delay := p.delay.set net (some d), reqSent := p.reqSent.set net none })).firstPath
          net d (pd0Of node net)
        ok (if t.blk.ntm.net = some net then t.modNtm (fun x => { x with mpd := d % 2 ^ 24 }) else t)
      else ok s
    | _, _, _ => ok s

/-! ### The master's own messages (R285, R293) -/

/-- MASTER_SYNC_SEND: a master that has reached INTEGRATED, every 125 ms. -/
def execMasterSyncSend (dt : Nat) (s0 : State) : Host.Outcome State Fault Refusal :=
  let s := s0.elapse dt
  let due := match s.ptp.lastMSync with
    | some t => decide (15625000 ≤ s.nt - t)
    | none => true
  if s.blk.ntm.state = .master ∧ s.blk.ttb.state = .integrated ∧ due = true then
    ok ((s.modPtp (fun p => { p with lastMSync := some s.nt })).queuePtp .sync)
  else ok s

/-- MASTER_ANNOUNCE_SEND: a master that has reached INTEGRATED, or a candidate, every 250 ms. -/
def execMasterAnnounceSend (dt : Nat) (s0 : State) : Host.Outcome State Fault Refusal :=
  let s := s0.elapse dt
  let due := match s.ptp.lastMAnn with
    | some t => decide (31250000 ≤ s.nt - t)
    | none => true
  if (s.blk.ntm.state = .master ∧ s.blk.ttb.state = .integrated ∨ s.ptp.candidate) ∧ due = true then
    ok ((s.modPtp (fun p => { p with lastMAnn := some s.nt })).queuePtp .announce)
  else ok s

/-- TIME_STORE: while time is held, the K3M stores it in FRAM once per second. -/
def execTimeStore (dt : Nat) (s0 : State) : Host.Outcome State Fault Refusal :=
  let s := s0.elapse dt
  let due := match s.k3m.storedAt with
    | some t => decide (125000000 ≤ s.nt - t)
    | none => true
  if s.wallOk && !s.k3m.failed && due then
    ok { s with k3m := { s.k3m with storedTime := s.time, storedAt := some s.nt } }
  else ok s

/-! ### Input edges (R301) -/

/-- An entry enters the edge FIFO, or is dropped and counted. -/
def State.storeEdge (s : State) (e : EdgeEntry) : State :=
  if 4096 ≤ s.edge.entries.length then
    { s.modNtm (fun n => { n with edgDrop := satInc 16 n.edgDrop, fEdgeovf := some s.nt }) with
      edge := { s.edge with ovf := true, dropped := satInc 16 s.edge.dropped } }
  else
    let e := { e with ovf := s.edge.ovf }
    { s with edge := { s.edge with entries := s.edge.entries ++ [e], ovf := false, fresh := s.edge.fresh ++ [e] } }

/-- The copy on which two vertices in service agree. -/
def State.agreedEdge (s : State) (c : Tri EdgeEntry) : Option EdgeEntry :=
  let l := s.serving.map c.get
  l.find? (fun e => 2 ≤ (l.filter (fun f => f == e)).length)

/-- The copies of an entry that the vertices pass on: that of the safe I/O chip with its 56 samples, but where a copy has
been damaged on its way. -/
def edgeCopies (e : EdgeEntry) (c : EdgeCopies) : Tri EdgeEntry :=
  c.damaged.map (fun d => d.getD { e with current := (List.range 56).map (fun i => c.current.getD i 0) })

/-- The copies of an entry reach the network chip. -/
def State.takeEdge (s : State) (copies : Tri EdgeEntry) : State :=
  let l := s.serving.map copies.get
  let t := if l.all (fun e => some e == l.head?) then s
    else s.record .edgeDisagree ((l.headD copies.a).input) 0 0
  match s.agreedEdge copies with
  | some e => t.storeEdge e
  | none => t

/-- INPUT_EDGE_ENTRY: the oldest change that the safe I/O chip has dated is sent when its last sample, 39 µs after TIME,
has been taken (Table 9.4). -/
def execInputEdgeEntry (dt : Nat) (copies : EdgeCopies) (s0 : State) : Host.Outcome State Fault Refusal :=
  let s := s0.elapse dt
  match s.blk.sio.edges with
  | [] => ok s
  | e :: rest =>
    if s.time < e.time + 39000 then ok s
    else ok ((s.modSio (fun x => { x with edges := rest })).takeEdge (edgeCopies e copies))

end Sys2Proof.Machine
end

