-- ==== Sys2Proof/Machine/Staging.lean ====
section
/-! DEFINITION. Staged changes: patch lists, I/O parameter sets and activation requests, their checks, their discard and
their application (R74 to R77, R162 to R170, R338 to R340, R425 to R427). -/

namespace Sys2Proof.Machine

/-! ### Fields of a staged set -/

/-- TARGET of a patch list or of an I/O parameter set. -/
def setTarget (b : List Byte) : Nat := leAt b 8 6

/-- An item of a patch list. -/
structure PatchItem where
  item : Nat
  zero : Nat
  value : Nat
  deriving DecidableEq, Repr

/-- COUNT of a patch list. -/
def patchCount (b : List Byte) : Nat := leAt b 14 1

/-- The items of a patch list (Table 5.4). -/
def patchItems (b : List Byte) : List PatchItem :=
  (List.range (patchCount b)).map (fun j =>
    ⟨leAt b (16 + 8 * j) 2, leAt b (18 + 8 * j) 2, leAt b (20 + 8 * j) 4⟩)

/-- Size in bytes of a tunable type (Tables 3.4 and 5.3). -/
def tunableSize (typ : Nat) : Nat :=
  match typ with
  | 1 => 1
  | 2 => 1
  | 3 => 2
  | 5 => 2
  | 8 => 1
  | _ => 4

/-- A value is a valid coding of its type, with 0 in unused upper bits; INT is sign-extended. -/
def tunableCoded (typ : Nat) (val : Nat) : Bool :=
  match typ with
  | 1 => decide (val ≤ 1)
  | 2 => decide (val < 256)
  | 3 => decide (val < 65536)
  | 5 => decide (val < 32768) || (decide (0xFFFF8000 ≤ val) && decide (val < 2 ^ 32))
  | 8 => val == 1 || val == 2
  | _ => true

/-- INT, DINT and TIME are compared as signed values (R160). -/
def tunableSigned (typ : Nat) : Bool := typ == 5 || typ == 6 || typ == 7

/-- A value lies within MIN to MAX. -/
def tunableWithin (t : Tunable) (val : Word) : Bool :=
  if tunableSigned t.typ then decide (t.min.toInt ≤ val.toInt) && decide (val.toInt ≤ t.max.toInt)
  else decide (t.min.toNat ≤ val.toNat) && decide (val.toNat ≤ t.max.toNat)

/-- A failing check: its reason and the item, 16#FFFF none. -/
abbrev Fail := Option (Nat × Nat)

/-- The first failing one of several checks. -/
def firstFail : List (Bool × Nat × Nat) → Fail
  | [] => none
  | (good, why, item) :: rest => if good then firstFail rest else some (why, item)

/-- A check made on every item, in order. -/
def itemCheck (l : List PatchItem) (why : Nat) (good : PatchItem → Bool) : Bool × Nat × Nat :=
  match l.find? (fun i => !good i) with
  | some i => (false, why, i.item)
  | none => (true, why, 0xFFFF)

/-- The tunable entry of an item. -/
def tunableOf (h : AppHeader) (i : PatchItem) : Tunable := h.tunables.getD i.item ⟨0, 0, 0, 0, 0⟩

/-- No item stands earlier in the list. -/
def repeatedItem : List PatchItem → List Nat → Option Nat
  | [], _ => none
  | i :: l, seen => if seen.contains i.item then some i.item else repeatedItem l (i.item :: seen)

/-- Check 11 of Table 5.5. -/
def twiceCheck (l : List PatchItem) : Bool × Nat × Nat :=
  match repeatedItem l [] with
  | some k => (false, 0x06, k)
  | none => (true, 0x06, 0xFFFF)

/-- Steps 7 to 14 of Table 5.5. -/
def patchChecks (h : AppHeader) (seq : Word) (b : List Byte) : Fail :=
  let l := patchItems b
  firstFail
    [(leAt b 4 4 == h.build.toNat, 0x02, 0xFFFF),
     (decide (1 ≤ patchCount b) && decide (patchCount b ≤ 64) && leAt b 15 1 == 0 && l.all (fun i => i.zero == 0), 0x03,
       0xFFFF),
     (decide (seq.toNat < leAt b 0 4), 0x04, 0xFFFF),
     itemCheck l 0x05 (fun i => decide (i.item < h.tunables.length)),
     twiceCheck l,
     itemCheck l 0x07 (fun i => tunableCoded (tunableOf h i).typ i.value),
     itemCheck l 0x08 (fun i => tunableWithin (tunableOf h i) (w32 i.value)),
     itemCheck l 0x09 (fun i => decide (0x00400000 ≤ (tunableOf h i).addr))]

/-- The body of the item of a mailbox view, when it is of the kind. -/
def Mbx.bodyOf (m : Mbx) (kind : Nat) : List Byte := if m.item.kind = kind then m.item.body.take m.item.len else []

/-- The body of the item in view, when it is of the kind. -/
def State.viewBody (s : State) (kind : Nat) : List Byte := s.blk.mbx.bodyOf kind

/-- Step 6 of Table 5.5, then steps 7 to 14. -/
def patchAtStaging (h : AppHeader) (seq : Word) (b : List Byte) : Fail :=
  let n := 16 + 8 * patchCount b
  if b.length = 0 ∨ b.length ≠ n + 4 then some (0x0D, 0xFFFF)
  else if (crc32c (b.take n)).toNat ≠ leAt b n 4 then some (0x01, 0xFFFF)
  else patchChecks h seq b

/-! ### I/O parameter sets (R338, R339) -/

/-- PAIR[p] as SIO.PCFG lays it out. -/
def pairCfgOf (w : Nat) : PairCfg := ⟨field w 0 3, field w 4 2, field w 6 2, field w 8 10, field w 18 7⟩

/-- The parameters of a set. -/
def ioParamsOf (b : List Byte) : IoParams :=
  { seq := w32 (leAt b 0 4), pairs := (List.range 16).map (fun p => pairCfgOf (leAt b (16 + 4 * p) 4)),
    imin := (List.range 16).map (fun n => leAt b (80 + 2 * n) 1),
    qasafe := (List.range 8).map (fun j => field (leAt b 112 2) (2 * j) 2) }

/-- The fields of a set that are marked 0. -/
def ioZero (b : List Byte) : Bool :=
  leAt b 14 2 == 0 && leAt b 114 2 == 0 &&
    (List.range 16).all (fun p => field (leAt b (16 + 4 * p) 4) 3 1 == 0 && field (leAt b (16 + 4 * p) 4) 25 7 == 0) &&
    (List.range 16).all (fun n => leAt b (81 + 2 * n) 1 == 0)

/-- TWOHAND pairing: entries at p and p + 1, p even. -/
def twohandPaired (l : List PairCfg) : Bool :=
  (List.range 8).all (fun k =>
    ((l.getD (2 * k) ⟨0, 0, 0, 0, 0⟩).func == 3) == ((l.getD (2 * k + 1) ⟨0, 0, 0, 0, 0⟩).func == 3))

/-- The parameters alone: checks 6 to 11 of R339. -/
def ioParamChecks (x : IoParams) : List (Bool × Nat × Nat) :=
  [(x.pairs.all (fun c => decide (c.func ≤ 4)), 6, 0),
   (x.pairs.all (fun c => decide (10 ≤ c.dt) && decide (c.dt ≤ 1000)), 7, 0),
   (x.pairs.all (fun c => if c.func = 4 then decide (10 ≤ c.osd) && decide (c.osd ≤ 100) else c.osd == 0), 8, 0),
   (x.pairs.all (fun c => !(c.func == 1 || c.func == 2 || c.func == 3) || c.tpa != c.tpb), 9, 0),
   (twohandPaired x.pairs, 10, 0),
   (x.qasafe.all (fun q => decide (q ≤ 2)), 11, 0)]

/-- Checks 3 to 11 of R339. -/
def ioChecks (h : AppHeader) (seq : Word) (b : List Byte) : Fail :=
  firstFail
    ([(leAt b 4 4 == h.build.toNat, 3, 0), (ioZero b, 4, 0), (decide (seq.toNat < leAt b 0 4), 5, 0)] ++
      ioParamChecks (ioParamsOf b))

/-- Checks 1 to 11 of R339. -/
def ioAtStaging (h : AppHeader) (seq : Word) (b : List Byte) : Fail :=
  if b.length ≠ 120 then some (1, 0)
  else if (crc32c (b.take 116)).toNat ≠ leAt b 116 4 then some (2, 0)
  else ioChecks h seq b

/-! ### Areas -/

/-- The application header in force. -/
def State.hdr (s : State) : Option AppHeader := s.loaded.map Content.hdr

/-- A set that passed is staged: for its target, or for the boundary of F + 2 (R75). -/
def State.stage (s : State) (n target : Nat) (b : List Byte) : State :=
  s.setArea n (if target = 0 then ⟨2, s.fnum + 2⟩ else ⟨3, target⟩) b

/-- Each vertex is to copy the set of a kind of item, as its own mailbox view holds it, into its own staging area `n` in
phase 0 of the next furlong (R163, R210). -/
def State.copySet (s : State) (n kind : Nat) : State :=
  { s with stageCopy := s.stageCopy ++ [(n, s.view.map (fun b => b.mbx.bodyOf kind))] }

/-- The vertices that do the phase 0 work: those in service and one in its rejoin trial, unless stopped by a fault. -/
def State.appliers (s : State) : List Vtx := Vtx.list.filter (fun v => (s.inService v || s.trial v) && !(s.v v).stopped && s.appMode)

/-- Vertex `v` copies a set into its staging area `n` with ordinary stores. They are 64 bits wide, the last one padded with 0
(DESIGN CHOICE, notes/assumptions/66.md). -/
def State.copyOne (s : State) (n : Nat) (v : Vtx) (b : List Byte) : State :=
  ((List.range (ceilDiv b.length 8)).foldl (fun w i => w.phase0Store v 8 (Config.stageAddr n (8 * i)) (leAt b (8 * i) 8))
    s).modV v (fun x => if n = 0 then { x with patch := b } else x)

/-- The staging copies are made; their stores enter the streams of the vertices. -/
def State.makeCopies (s : State) : State :=
  { (s.stageCopy.foldl (fun u c => u.appliers.foldl (fun w v => w.copyOne c.1 v (c.2.get v)) u) s) with stageCopy := [] }

/-! ### Application at the boundary (R76) -/

/-- A set of kind `n` is due at this boundary. -/
def State.stageDue (s : State) (n : Nat) : Bool := (s.area n).state != 0 && decide ((s.area n).target ≤ s.fnum)

/-- The modes of Table 2.8. -/
def kindMode (n : Nat) (m : Mode) : Bool :=
  match n with
  | 1 => m == .standby || m == .maintenance
  | _ => m == .active || m == .standby

/-- The seal switch of Table 2.8. -/
def State.kindSeal (s : State) (n : Nat) : Bool :=
  match n with
  | 0 => s.blk.cyc.sw1
  | 1 => s.blk.cyc.sw4
  | _ => s.blk.cyc.sw2

/-- A change of vertex `v` that no longer comes once a fault has stopped it. -/
def State.modRunning (s : State) (v : Vtx) (f : Vertex → Vertex) : State := if (s.v v).stopped then s else s.modV v f

/-- A store of phase 0 work of vertex `v` into its instance memory and its stream. One of less than a word reads the word first:
a single-bit error there is corrected and counted, an uncorrectable one traps (R22, R106). -/
def State.setStore (s : State) (v : Vtx) (n a val : Nat) : State :=
  if (s.v v).stopped then s
  else if n != 8 && (s.v v).mem.bad .inst a then s.eccTrap v a
  else
    (s.modV v (fun x =>
      let y := if n = 8 then x else x.scrub [wordKey a]
      { y with mem := y.mem.store .inst a n val })).phase0Store v n a val

/-- Vertex `v` stores one value as an ordinary store of its size, and its tuning table takes it (R166). -/
def State.tuneStore (s : State) (v : Vtx) (k : Nat) (t : Tunable) (val : Nat) : State :=
  (s.setStore v (tunableSize t.typ) t.addr (val % 2 ^ (8 * tunableSize t.typ))).modRunning v (fun x =>
    { x with tune := { x.tune with vals := setNth x.tune.vals k (w32 val) } })

/-- Vertex `v` applies the list of its own staging area, and its tuning table takes the list's SEQ. -/
def State.tuneOne (s : State) (h : AppHeader) (v : Vtx) : State :=
  let b := (s.v v).patch
  ((patchItems b).foldl (fun u i => u.tuneStore v i.item (tunableOf h i) i.value) s).modRunning v (fun x =>
    { x with tune := { x.tune with seq := w32 (leAt b 0 4) } })

/-- PATCH_APPLIED (Table 5.6). The old value of an item is that of the tuning table, also where the program has written the
global since (DESIGN CHOICE, notes/assumptions/68.md). -/
def State.patchAppliedBody (s : State) (h : AppHeader) (b : List Byte) : List Byte :=
  let old := (s.v (s.serving.headD .A)).tune.vals
  leBytes 4 (leAt b 0 4) ++ leBytes 4 s.fnum ++ leBytes 1 (patchCount b) ++ [0, 0, 0] ++
    (patchItems b).flatMap (fun i =>
      leBytes 2 i.item ++ leBytes 2 (tunableOf h i).tag ++ leBytes 4 (old.getD i.item 0).toNat ++ leBytes 4 i.value)

/-- A patch list is applied, by each vertex from its own staging area (R166). -/
def State.applyPatch (s : State) (h : AppHeader) (b : List Byte) : State :=
  ((s.appliers.foldl (fun u v => u.tuneOne h v) s).recBody .patchApplied (s.patchAppliedBody h b)).clearArea 0

/-- The patch list due at this boundary (R165, R166). -/
def State.patchDue (s : State) : State :=
  if !s.stageDue 0 then s
  else if !kindMode 0 s.mode then s.discard 0 0x0A
  else if !s.kindSeal 0 then s.discard 0 0x0B
  else
    match s.hdr with
    | none => s
    | some h =>
      match patchChecks h s.tuneSeq s.staged.patch with
      | some (why, item) => (s.patchDiscarded s.staged.patch why item).clearArea 0
      | none => s.applyPatch h s.staged.patch

/-- A pair whose entry changed starts anew, a TWOHAND pair in BLOCK; a pair with the same entry keeps its state (R340), but
that the function of a TWOHAND pair is in BLOCK also when the entry of its second button, `next`, changed (R317). -/
def PairSt.renew (x : PairSt) (same next : Bool) (new : PairCfg) : PairSt :=
  if !same then ⟨0, false, if new.func = 3 then .block else .released, false⟩
  else if new.func = 3 && next then { x with hand := .block, out := false }
  else x

/-- The inputs of a pair whose entry changed lose their latches. -/
def InputSt.renew (y : InputSt) (same : Bool) : InputSt :=
  if same then y
  else
    { y with brk := ⟨false, 0, 0⟩, inter := ⟨false, 0, 0⟩, cross := ⟨false, 0, 0⟩, bad := 0,
             xfail := [false, false, false, false] }

/-- The entry of pair `k` is the same in the parameters in force and in `p`. -/
def Sio.samePair (x : Sio) (p : IoParams) (k : Nat) : Bool :=
  x.params.pairs.getD k ⟨0, 0, 0, 0, 0⟩ == p.pairs.getD k ⟨0, 0, 0, 0, 0⟩

/-- New parameters govern (R340). -/
def Sio.setParams (x : Sio) (p : IoParams) : Sio :=
  { x with
    params := p,
    pairs := x.pairs.zipIdx.map (fun (y, k) =>
      y.renew (x.samePair p k) (k % 2 == 0 && !x.samePair p (k + 1)) (p.pairs.getD k ⟨0, 0, 0, 0, 0⟩)),
    inputs := x.inputs.zipIdx.map (fun (y, i) => y.renew (x.samePair p (i / 2))) }

/-- The records of the latches that new parameters clear (R337, R340): DISCREPANCY of a changed pair, then the latches of its
two inputs. -/
def State.renewClears (s : State) (p : IoParams) : State :=
  let x := s.blk.sio
  let clear := fun (t : State) (set : Bool) (group kind chan : Nat) => if set then t.ioClear group kind chan 0 else t
  ((List.range 16).filter (fun k => !x.samePair p k)).foldl (fun t k =>
    [2 * k, 2 * k + 1].foldl (fun u i =>
      let y := x.input i
      clear (clear (clear u y.brk.set (i / 16) 0x02 i) y.inter.set (i / 16) 0x03 i) y.cross.set (i / 16) 0x04 i)
      (clear t (x.pair k).disc (k / 8) 0x01 k)) s

/-- The I/O parameter set due at this boundary (R339, R340). -/
def State.ioDue (s : State) : State :=
  if !s.stageDue 1 then s
  else if !kindMode 1 s.mode then s.discard 1 0x0A
  else if !s.kindSeal 1 then s.discard 1 0x0B
  else
    match s.hdr with
    | none => s
    | some h =>
      match ioChecks h s.blk.sio.params.seq s.staged.io with
      | some (why, _) => (s.paramDiscarded s.staged.io why).clearArea 1
      | none =>
        ((((s.renewClears (ioParamsOf s.staged.io)).modSio (fun x => x.setParams (ioParamsOf s.staged.io))).drive).record
          .paramApplied
          (leAt s.staged.io 0 4) 0 0).clearArea 1

/-- DIG16 of an activation request (Table 14.5). -/
def actDig (b : List Byte) : BitVec 128 := BitVec.ofNat 128 (ofLe ((b.drop 8).take 16).reverse)

/-- STAGING is CHECKED and holds the set with this digest. -/
def State.stagingHolds (s : State) (d : BitVec 128) : Bool :=
  match s.upd.staging with
  | some l => s.upd.sstate == .checked && dig16 l.man == d
  | none => false

end Sys2Proof.Machine
end

