-- ==== Sys2Proof/Machine/Commands.lean ====
section
/-! DEFINITION. The commands of Table 2.9: their checks, results and effects (R74, R75, R77 to R80, R83, R229 to R234,
R362, R386, R425). -/

namespace Sys2Proof.Machine

/-- The commands. -/
inductive Cmd where
  | restart
  | enterMaint
  | endMaint
  | withdraw
  | debug
  | rejoin
  | handover
  | stage
  | scheduleAct
  | confirm
  | cancelStage
  | fuseBurn
  deriving DecidableEq, Repr

/-- The codes of Table 2.9. -/
def cmdOf (code : Nat) : Option Cmd :=
  match code with
  | 0x01 => some .restart
  | 0x02 => some .enterMaint
  | 0x03 => some .endMaint
  | 0x04 => some .withdraw
  | 0x05 => some .debug
  | 0x06 => some .rejoin
  | 0x07 => some .handover
  | 0x08 => some .stage
  | 0x09 => some .scheduleAct
  | 0x0A => some .confirm
  | 0x0B => some .cancelStage
  | 0x0C => some .fuseBurn
  | _ => none

/-- CODE, ARG and TAG of a CMD word (Table 2.16). -/
def cmdCode (w : Word) : Nat := (w.extractLsb' 0 8).toNat
def cmdArg (w : Word) : Nat := (w.extractLsb' 8 8).toNat
def cmdTag (w : Word) : BitVec 16 := w.extractLsb' 16 16

/-- A CMD word. -/
def cmdWord (code : BitVec 8) (arg : BitVec 8) (tag : BitVec 16) : Word := tag ++ arg ++ code

/-- ARG lies in the range of Table 2.9. -/
def Cmd.argOk (c : Cmd) (arg : Nat) : Bool :=
  match c with
  | .withdraw => decide (arg ≤ 2)
  | .debug => decide (arg % 4 ≤ 2) && field arg 2 5 == 0
  | .rejoin => decide (arg ≤ 2)
  | .stage => decide (arg ≤ 1)
  | .cancelStage => decide (arg ≤ 2)
  | .fuseBurn => decide (arg ≤ 7)
  | _ => true

/-- The command is legal in the mode (Tables 2.8 and 2.9). -/
def Cmd.legal (c : Cmd) (arg : Nat) (m : Mode) : Bool :=
  match c with
  | .restart => true
  | .enterMaint => m == .standby || m == .isolated
  | .endMaint => m == .maintenance
  | .withdraw => m == .standby || m == .maintenance
  | .debug => m == .standby || m == .maintenance
  | .rejoin => m == .resync || m == .standby || m == .active || m == .maintenance
  | .handover => m == .active || m == .standby
  | .stage => kindMode arg m
  | .scheduleAct => m == .active || m == .standby
  | .confirm => m == .active || m == .standby
  | .cancelStage => kindMode arg m
  | .fuseBurn => m == .commission

/-- The commands that the vertex firmware takes where no application runs (R80). -/
def Cmd.firmware (c : Cmd) (m : Mode) : Bool :=
  match c with
  | .restart => true
  | .fuseBurn => m == .commission
  | _ => false

/-! ### Results with their effects -/

/-- The result of a command and the state it leaves. -/
abbrev Taken := Res × State

/-- Accepted when the condition holds, else the result given and no effect. -/
def takeIf (good : Bool) (r : Res) (s t : State) : Taken := if good then (.accepted, t) else (r, s)

/-- A commanded change of mode, due at the next furlong boundary (R67). -/
def State.requestMode (s : State) (m : Mode) (c : MCause) (w : Word) : State :=
  { s with change := some (m, c), changeCmd := w }

/-- WITHDRAW: pending until boundary F + 2 (R229). A second one while one is pending is refused NOT_READY (DESIGN CHOICE,
notes/assumptions/68.md). -/
def State.takeWithdraw (s : State) (v : Vtx) (w : Word) : Taken :=
  takeIf (s.strength == 3 && s.blk.cen.wpend.isNone) .notReady s
    { s.modCen (fun c => { c with wpend := some v }) with wWord := w, wAt := s.fnum }

/-- DEBUG: the channel of a vertex that is withdrawn, and was not before a restart, opens, and closes with ARG bit 7 (R231,
R233). The end bit for a withdrawn vertex without a session is accepted without effect (DESIGN CHOICE, notes/assumptions/68.md). -/
def State.takeDebug (s : State) (v : Vtx) (ends : Bool) : Taken :=
  takeIf (s.blk.cen.withdrawn.get v && !s.blk.cen.wdOld.get v) .notReady s
    (if ends then s.endDebug v
     else if s.blk.cen.debugged.get v then s
     else
       (s.modV v (fun x => { x with dbg := .reset })).modCen (fun c => { c with debugged := c.debugged.set v true }))

/-- REJOIN: the rejoin starts at the next boundary (R234, R238). A second one while a rejoin runs is refused NOT_READY (DESIGN
CHOICE, notes/assumptions/68.md). -/
def State.takeRejoin (s : State) (v : Vtx) (w : Word) : Taken :=
  takeIf (!s.inService v && !s.blk.cen.debugged.get v && s.blk.cen.rejVtx.isNone &&
      decide (s.blk.cen.rejFails.get v < 3)) .notReady s
    { s.modCen (fun c => { c with rejVtx := some v, rejStep := 0, rejFurl := 0 }) with rejoin := { s.rejoin with word := w } }

/-- The partner is heard in the opposite role at strength 3 (Table 2.9). -/
def State.partnerReady (s : State) : Bool :=
  let c := s.blk.chd
  s.within s.pair.heardAt us300 && c.pstr == 3 &&
    (if s.mode = .active then c.pmode == modeCode .standby else c.pmode == modeCode .active)

/-- HANDOVER with boundary F + 2 (R362): an earlier target that is already set holds. -/
def State.takeHandover (s : State) (w : Word) : Taken :=
  let b := s.fnum + 2
  let free := match s.pair.target with
    | some q => decide (b < q)
    | none => true
  takeIf (s.partnerReady && free) .notReady s
    ((s.modPair (fun p => { p with target := some b, req := some w, goSent := false, goGot := false, readyGot := false, judged := some b })).modChd
      (fun c => { c with host := .horeq }))

/-- A standby that applies its partner's sets: one applied in this furlong or the last (Table 5.5 step 3). -/
def State.served (s : State) : Bool :=
  s.mode == .standby && s.blk.chd.applied && decide ((s.fnum + 2 ^ 32 - s.blk.chd.mseq.toNat) % 2 ^ 32 ≤ 2)

/-- A target has passed (R75). -/
def State.latePast (s : State) (target : Nat) : Bool := target != 0 && decide (target < s.fnum + 2)

/-- STAGE with ARG 0 (Table 5.5). -/
def State.stagePatch (s : State) : Taken :=
  let b := s.viewBody 2
  if s.served then (.notReady, s)
  else if (s.area 0).state ≠ 0 then (.busyStaged, s)
  else if s.latePast (setTarget b) then (.late, s)
  else
    match s.hdr with
    | none => (.notReady, s)
    | some h =>
      let t := s.copySet 0 2
      match patchAtStaging h s.tuneSeq b with
      | some (why, item) => (.badParam, t.patchDiscarded b why item)
      | none => (.accepted, t.stage 0 (setTarget b) b)

/-- STAGE with ARG 1 (R338, R339). -/
def State.stageIo (s : State) : Taken :=
  let b := s.viewBody 3
  if (s.area 1).state ≠ 0 then (.busyStaged, s)
  else if s.latePast (setTarget b) then (.late, s)
  else
    match s.hdr with
    | none => (.notReady, s)
    | some h =>
      let t := s.copySet 1 3
      match ioAtStaging h s.blk.sio.params.seq b with
      | some (why, _) => (.badParam, t.paramDiscarded b why)
      | none => (.accepted, t.stage 1 (setTarget b) b)

/-- SCHEDULE_ACT, in the order of R425. -/
def State.takeSchedule (s : State) : Taken :=
  let b := s.viewBody 4
  let target := leAt b 0 6
  if s.served then (.notReady, s)
  else if b.length ≠ 32 then (.badParam, s)
  else if !s.stagingHolds (actDig b) then (.notReady, s)
  else if s.upd.onProbation then (.notReady, s)
  else if (s.area 2).state ≠ 0 then (.busyStaged, s)
  else if s.latePast target then (.late, s)
  else if (crc32c (b.take 28)).toNat ≠ leAt b 28 4 ∨ leAt b 6 2 ≠ 0 then (.badParam, s)
  else (.accepted, s.stage 2 target b)

/-- A soft repair of bank `b` is not fused yet, and a fuse entry is left for it. -/
def State.burnReady (s : State) (b : Nat) : Bool :=
  Vtx.list.any (fun v => !(s.toBurn v b).isEmpty && decide (0 < s.fusesLeft v b))

/-- The command's own conditions and its effect. -/
def State.runCmd (s : State) (c : Cmd) (arg : Nat) (w : Word) : Taken :=
  let v := (Vtx.ofNum (arg % 4)).getD .A
  match c with
  | .restart => (.accepted, s.requestMode .start .restartCmd w)
  | .enterMaint => takeIf (!s.r478) .notReady s (s.requestMode .maintenance .command w)
  | .endMaint =>
    takeIf (s.strength == 3 && s.blk.cen.debugged.members.isEmpty) .notReady s (s.requestMode .resync .command w)
  | .withdraw => s.takeWithdraw v w
  | .debug => s.takeDebug v (testB arg 7)
  | .rejoin => s.takeRejoin v w
  | .handover => s.takeHandover w
  | .stage => if arg = 0 then s.stagePatch else s.stageIo
  | .scheduleAct => s.takeSchedule
  | .confirm => takeIf s.upd.onProbation .notReady s (s.modUpd (fun u => { u with commanded := some s.fnum }))
  | .cancelStage => takeIf ((s.area arg).state != 0) .notReady s (s.discard arg 0x0C)
  | .fuseBurn => takeIf (s.burnReady arg) .notReady s s

/-- The checks of R78 in their order: code and ARG, mode, seal switch, the command's own conditions. -/
def State.checkCmd (s : State) (w : Word) : Taken :=
  match cmdOf (cmdCode w) with
  | none => (.badParam, s)
  | some c =>
    if !c.argOk (cmdArg w) then (.badParam, s)
    else if !c.legal (cmdArg w) s.mode then (.wrongMode, s)
    else if !s.cmdSeal w then (.sealRefused, s)
    else s.runCmd c (cmdArg w) w

/-- A COMMAND record. -/
def State.cmdRec (s : State) (w : Word) (r : Res) : State := s.record .command w.toNat r.code 0

/-- CMDRES takes the result and the TAG, and the command is recorded. A restart that no furlong boundary will carry out
takes place at once. -/
def State.finishCmd (q : Taken) (w : Word) : State :=
  let t := (q.2.cmdRec w q.1).modCyc (fun c => { c with resCode := q.1.code, resTag := cmdTag w })
  let u : State := { t with taken := true }
  if !u.boundaries && u.change == some (.start, .restartCmd) then u.restart else u

/-- The module takes a command word on which two vertices agree: one in a furlong, a second is refused with BAD_PARAM and
changes nothing else (R83). -/
def State.takeCommand (s : State) (w : Word) : State :=
  if s.inReset then s
  else if s.taken && s.boundaries then s.cmdRec w .badParam
  else State.finishCmd (s.checkCmd w) w

/-- A command word that the vertex firmware takes from the mailbox (R80). -/
def State.takeFirmware (s : State) (w : Word) : State :=
  let other := match cmdOf (cmdCode w) with
    | some c => c.argOk (cmdArg w) && !c.firmware s.mode
    | none => false
  if s.taken && s.boundaries then s.cmdRec w .badParam
  else if other then State.finishCmd (.wrongMode, s) w
  else State.finishCmd (s.checkCmd w) w

/-- The vertex firmware handles a newly posted item where no application runs (R80); elsewhere the item is the
application's. -/
def State.firmware (s : State) : State :=
  let i := s.blk.mbx.item
  if i.mseq.toNat == s.fwHash then s
  else
    let t : State := { s with fwHash := i.mseq.toNat }
    if !(s.mode == .halt || s.mode == .commission || s.r478) then t
    else if i.kind = 0 then t
    else if i.kind ≠ 1 then t.cmdRec i.cmd .badParam
    else if t.strength < 2 then t
    else t.takeFirmware i.cmd

/-! ### The rows -/

/-- RESTART. -/
def execRestart (arg : BitVec 8) (tag : BitVec 16) (s : State) : Host.Outcome State Fault Refusal :=
  ok (s.takeCommand (cmdWord 0x01 arg tag))

/-- ENTER_MAINT. -/
def execEnterMaint (arg : BitVec 8) (tag : BitVec 16) (s : State) : Host.Outcome State Fault Refusal :=
  ok (s.takeCommand (cmdWord 0x02 arg tag))

/-- END_MAINT. -/
def execEndMaint (arg : BitVec 8) (tag : BitVec 16) (s : State) : Host.Outcome State Fault Refusal :=
  ok (s.takeCommand (cmdWord 0x03 arg tag))

/-- WITHDRAW. -/
def execWithdraw (arg : BitVec 8) (tag : BitVec 16) (s : State) : Host.Outcome State Fault Refusal :=
  ok (s.takeCommand (cmdWord 0x04 arg tag))

/-- DEBUG: ARG bit 7 clear. -/
def execDebug (arg : BitVec 8) (tag : BitVec 16) (s : State) : Host.Outcome State Fault Refusal :=
  ok (s.takeCommand (cmdWord 0x05 (arg &&& 0x7F#8) tag))

/-- DEBUG_END: ARG bit 7 set. -/
def execDebugEnd (arg : BitVec 8) (tag : BitVec 16) (s : State) : Host.Outcome State Fault Refusal :=
  ok (s.takeCommand (cmdWord 0x05 (arg ||| 0x80#8) tag))

/-- REJOIN. -/
def execRejoin (arg : BitVec 8) (tag : BitVec 16) (s : State) : Host.Outcome State Fault Refusal :=
  ok (s.takeCommand (cmdWord 0x06 arg tag))

/-- HANDOVER. -/
def execHandover (arg : BitVec 8) (tag : BitVec 16) (s : State) : Host.Outcome State Fault Refusal :=
  ok (s.takeCommand (cmdWord 0x07 arg tag))

/-- STAGE with ARG 0, whatever `arg`. -/
def execStagePatch (_arg : BitVec 8) (tag : BitVec 16) (s : State) : Host.Outcome State Fault Refusal :=
  ok (s.takeCommand (cmdWord 0x08 0 tag))

/-- STAGE with ARG 1, whatever `arg`. -/
def execStageIoParam (_arg : BitVec 8) (tag : BitVec 16) (s : State) : Host.Outcome State Fault Refusal :=
  ok (s.takeCommand (cmdWord 0x08 1 tag))

/-- SCHEDULE_ACT. -/
def execScheduleAct (arg : BitVec 8) (tag : BitVec 16) (s : State) : Host.Outcome State Fault Refusal :=
  ok (s.takeCommand (cmdWord 0x09 arg tag))

/-- CONFIRM. -/
def execConfirm (arg : BitVec 8) (tag : BitVec 16) (s : State) : Host.Outcome State Fault Refusal :=
  ok (s.takeCommand (cmdWord 0x0A arg tag))

/-- CANCEL_STAGE. -/
def execCancelStage (arg : BitVec 8) (tag : BitVec 16) (s : State) : Host.Outcome State Fault Refusal :=
  ok (s.takeCommand (cmdWord 0x0B arg tag))

/-- FUSE_BURN. -/
def execFuseBurn (arg : BitVec 8) (tag : BitVec 16) (s : State) : Host.Outcome State Fault Refusal :=
  ok (s.takeCommand (cmdWord 0x0C arg tag))

end Sys2Proof.Machine
end

