-- ==== Sys2Proof/Machine/Branch.lean ====
section
/-! DEFINITION. Compare, branch, counted loops, CALLFB and RETFB (R101 to R103, R132 to R137). -/

namespace Sys2Proof.Machine

/-- CMP: no register write; Wd is 0. -/
def execCmp (v : Vtx) (f : FmtR) (s : State) : Host.Outcome State Fault Refusal :=
  ok (s.runFlags v (metaA (rbit f.a ||| rbit f.b) 0 0 fZNCV 1) (f.d != 0 || f.mod != 0)
    (fun x => cmpFlags x.core.fl (x.reg f.a) (x.reg f.b)))

/-- CMPI. -/
def execCmpi (v : Vtx) (f : FmtI) (s : State) : Host.Outcome State Fault Refusal :=
  ok (s.runFlags v (metaA (rbit f.a) 0 0 fZNCV 1) (f.d != 0)
    (fun x => cmpFlags x.core.fl (x.reg f.a) (immS f.imm)))

/-- CMPL: register pairs. -/
def execCmpl (v : Vtx) (f : FmtR) (s : State) : Host.Outcome State Fault Refusal :=
  ok (s.runFlags v (metaU 2) (f.d != 0 || f.mod != 0 || oddReg f.a || oddReg f.b)
    (fun x => cmpFlags64 x.core.fl (x.pair f.a) (x.pair f.b)))

/-- TST. -/
def execTst (v : Vtx) (f : FmtR) (s : State) : Host.Outcome State Fault Refusal :=
  ok (s.runFlags v (metaA (rbit f.a ||| rbit f.b) 0 0 fZN 1) (f.d != 0 || f.mod != 0)
    (fun x => znFlags x.core.fl (x.reg f.a &&& x.reg f.b)))

/-- The target of B: the address of the word + 4 + 4 × OFF20 (R134). -/
def branchTarget (pc : Word) (off : BitVec 20) : Word := pc + 4 + w32 (4 * off.toNat)

/-- B: 1 clock not taken, 3 taken; a taken target outside the code region traps with ACCESS. -/
def execB (v : Vtx) (f : FmtB) (s : State) : Host.Outcome State Fault Refusal :=
  ok (s.run v
    (fun x => { cls := .B, cyc := if condHolds f.cond x.core.fl then 3 else 1, fr := condFlags f.cond })
    false
    (fun x =>
      if condHolds f.cond x.core.fl then
        let t := branchTarget x.core.pc f.off
        if inCode t.toNat then .done x (some t) [] else .trap .access 0 t.toNat
      else .done x none []))

/-- LOOPN (R136). The entry holds Wi whatever IX is, so any Wi is well formed with IX = 0 (DESIGN CHOICE,
notes/assumptions/69.md). -/
def execLoopn (v : Vtx) (f : FmtL) (s : State) : Host.Outcome State Fault Refusal :=
  ok (s.run v (fun _ => metaU 2) (f.z != 0 || f.count == 0) (fun x =>
    if x.core.loops.length = 16 then .trap .loop 0 0
    else
      let e : LoopEntry := ⟨x.core.pc + 4, f.count.toNat, f.count.toNat, f.ix, f.i⟩
      let y := { x with core := { x.core with loops := e :: x.core.loops } }
      .done (if f.ix then y.setReg f.i 0 else y) none []))

/-- LEND (R136). -/
def execLend (v : Vtx) (f : FmtN) (s : State) : Host.Outcome State Fault Refusal :=
  ok (s.run v (fun _ => metaU 1) (f.z != 0 || f.code != 0) (fun x =>
    if x.core.loops.length = x.core.eloops then .trap .loop 0 0
    else
      match x.core.loops with
      | [] => .trap .loop 0 0
      | e :: rest =>
        let left := e.left - 1
        if 0 < left then
          let y := { x with core := { x.core with loops := { e with left := left } :: rest } }
          .done (if e.ix then y.setReg e.wi (w32 (e.total - left)) else y) (some e.start) []
        else .done { x with core := { x.core with loops := rest } } none []))

/-! ### Calls -/

/-- The frames region (Table 3.6). -/
def inFrames (a : Nat) : Bool := 0x01000000 ≤ a && a < 0x01600000

/-- The image region. -/
def inImage (a : Nat) : Bool := 0x02000000 ≤ a && a < 0x02040000

/-- The address of the return record of a task at a depth (R101). -/
def returnRecord (task depth : Nat) : Nat := 0x017F0000 + task * 0x2000 + depth * 16

/-- The words of block descriptor `d` (Table 3.7). -/
def VMem.descWord (m : VMem) (d i : Nat) : Nat := m.load .code (16 * d + 4 * i) 4

/-- FSIZE of a descriptor. -/
def VMem.fsize (m : VMem) (d : Nat) : Nat := m.descWord d 2 % 0x10000

/-- The constant base of a descriptor. -/
def VMem.kbase (m : VMem) (d : Nat) : Word := w32 (0x01700000 + m.descWord d 1)

/-- The entry of a descriptor. -/
def VMem.entry (m : VMem) (d : Nat) : Word := w32 (m.descWord d 0)

/-- The frame address that CALLFB names. -/
def callFrame (c : Core) (f : FmtC) : Word := c.ib + w32 (16 * f.f.toNat)

/-- The image base that CALLFB gives the callee: X is a signed 15-bit number of 16-byte units (R137). -/
def callImage (c : Core) (f : FmtC) : Word := c.xb + w32i (16 * f.x.toInt)

/-- The checks of R101; the lowest cause applies (R106). -/
def callCause (x : Vertex) (f : FmtC) : Option (TrapCause × Nat × Nat) :=
  let a := (callFrame x.core f).toNat
  let n := (callImage x.core f).toNat
  let d := f.d.toNat
  let r := returnRecord x.core.task x.core.depth
  let frameOk := a % 16 == 0 && inFrames a
  let ecc :=
    if x.mem.bad .code (16 * d) then some (TrapCause.ecc, 0, 16 * d)
    else if x.mem.bad .code (16 * d + 8) then some (.ecc, 0, 16 * d + 8)
    else if frameOk && x.mem.bad .inst a then some (.ecc, 0, a)
    else if x.mem.bad .inst r then some (.ecc, 0, r)
    else if x.mem.bad .inst (r + 8) then some (.ecc, 0, r + 8)
    else none
  lowerCause ecc
    (lowerCause (if n % 16 = 0 ∧ inImage n then none else some (.image, 0, n))
      (lowerCause
        (if frameOk && x.mem.load .inst a 4 == x.mem.fsize d * 0x10000 + d then none else some (.frame, 0, a))
        (if x.core.depth = 511 then some (.stack, 0, 0) else none)))

/-- The return record (Table 3.9). -/
def returnWords (c : Core) : List Nat :=
  [(c.pc + 8).toNat, c.ib.toNat, c.xb.toNat,
   (c.kb.toNat - 0x01700000) % 2 ^ 24 + 2 ^ 24 * bit c.fl.s + 2 ^ 25 * c.eloops]

/-- A store of an instruction to a region, with its record (R206). -/
def Vertex.storeRec (x : Vertex) (r : Region) (a n val : Nat) : Vertex :=
  let y := if n = 8 then x else x.touch r a
  { y with mem := y.mem.store r a n val }.feed (.store n a (BitVec.ofNat 64 (val % 2 ^ (8 * n))))

/-- Stores of consecutive DWORDs. -/
def Vertex.storeWords (x : Vertex) (r : Region) (a : Nat) : List Nat → Vertex
  | [] => x
  | w :: ws => (x.storeRec r a 4 w).storeWords r (a + 4) ws

/-- The callee's registers (R101). -/
def Core.enter (c : Core) (f : FmtC) (m : VMem) : Core :=
  { c with
    eloops := c.loops.length, ib := callFrame c f, xb := callImage c f, kb := m.kbase f.d.toNat,
    depth := c.depth + 1, fl := ⟨false, false, false, false, false⟩ }

/-- CALLFB (R101, R137). -/
def execCallfb (v : Vtx) (f : FmtC) (w : Nat) (s : State) : Host.Outcome State Fault Refusal :=
  ok (s.run v (fun _ => { cls := .U, cyc := 14 + min w 6, words := 2 })
    (f.z != 0 || f.z15 || f.d == 0)
    (fun x =>
      match callCause x f with
      | some c => .trap c.1 c.2.1 c.2.2
      | none =>
        let z := ((x.touch .code (16 * f.d.toNat)).touch .code (16 * f.d.toNat + 8)).touch .inst
          (callFrame x.core f).toNat
        let y := z.storeWords .inst (returnRecord x.core.task x.core.depth) (returnWords x.core)
        .done { y with core := y.core.enter f x.mem } (some (x.mem.entry f.d.toNat)) []))

/-- The end of a task (R103): the budget count stops and TUSE takes it. -/
def Vertex.endTask (x : Vertex) : Vertex :=
  { x with
    cur := none, last := none,
    loc := { x.loc with tuseMax := modNth x.loc.tuseMax x.core.task (fun m => max m x.core.count) } }

/-- The end of a task in a debug furlong halts the vertex (Table 7.10). -/
def Vertex.debugTaskEnd (x : Vertex) : Vertex :=
  { x with
    cur := none, last := none,
    dbg := { x.dbg with
             halted := true, why := if x.todo.isEmpty then 6 else 5, started := !x.todo.isEmpty } }

/-- The caller's registers, from a return record (R103). -/
def Core.leave (c : Core) (ib xb k : Nat) : Core :=
  { c with
    depth := c.depth - 1, ib := w32 ib, xb := w32 xb, kb := w32 (0x01700000 + k % 2 ^ 24),
    eloops := field k 25 5, fl := ⟨false, false, false, false, testB k 24 || c.fl.s⟩ }

/-- RETFB (R103). -/
def execRetfb (v : Vtx) (f : FmtN) (w : Nat) (s : State) : Host.Outcome State Fault Refusal :=
  let ends : Bool := (s.v v).core.depth == 0
  let dbg := s.debugging v
  ok (s.instr v (fun x => metaU (if x.core.depth = 0 then 4 else 10 + min w 4)) (f.z != 0 || f.code != 0)
    (fun x =>
      if x.core.eloops < x.core.loops.length then .trap .loop 0 0
      else if x.core.depth = 0 then .done x none []
      else
        let r := returnRecord x.core.task (x.core.depth - 1)
        if x.mem.bad .inst r then .trap .ecc 0 r
        else if x.mem.bad .inst (r + 8) then .trap .ecc 0 (r + 8)
        else
          let pc := x.mem.load .inst r 4
          let core := x.core.leave (x.mem.load .inst (r + 4) 4) (x.mem.load .inst (r + 8) 4)
            (x.mem.load .inst (r + 12) 4)
          .done { (x.touch .inst r).touch .inst (r + 8) with core := core } (some (w32 pc)) [])
    (fun t =>
      if ends then t.modV v (fun x => if dbg then x.debugTaskEnd else x.endTask) else t))

end Sys2Proof.Machine
end

