-- ==== Sys2Proof/Machine/Slots.lean ====
section
/-! DEFINITION. Slot access and age (R138 to R140). -/

namespace Sys2Proof.Machine

/-- Slot binding `n` of the loaded application header; 16#FFF names no entry (R138). -/
def State.binding (s : State) (n : Nat) : Option Binding :=
  if n = 0xFFF then none
  else match s.loaded with
    | some c => c.hdr.bindings[n]?
    | none => none

/-- The address of an image word in 4-byte units from the image base. -/
def imageWord (u : Nat) : Nat := 0x02000000 + 4 * u

/-- The binding that a slot instruction may use: used, of the running task, and long enough (R139). -/
def State.slotBinding (s : State) (x : Vertex) (f : FmtS) : Option Binding :=
  match s.binding f.bind.toNat with
  | some b => if b.len = 0 ∨ b.task ≠ x.core.task ∨ b.len ≤ f.wix.toNat then none else some b
  | none => none

/-- The vertex port of bank 2 has received BUSY: counted in MEM.COLL, and the access repeated (R120, R373). -/
def Vertex.meetBusy (x : Vertex) (busy : Bool) : Vertex :=
  if busy then { x with loc := { x.loc with p0busy := satInc 16 x.loc.p0busy } } else x

/-- RXSLOT (R139): C takes STALE, and STALE sets S. -/
def execRxslot (v : Vtx) (f : FmtS) (w : Nat) (busy : Bool) (s : State) : Host.Outcome State Fault Refusal :=
  ok (s.run v (fun _ => metaU (4 + min w 12)) false (fun x =>
    match s.slotBinding x f with
    | none => .trap .slot 0 0
    | some b =>
      if b.tx then .trap .slot 0 0
      else
        let a := imageWord (b.pay + f.wix.toNat)
        let st := imageWord b.stat
        if x.mem.bad .imgIn a then .trap .ecc 0 a
        else if x.mem.bad .imgIn st then .trap .ecc 0 st
        else
          let stale := testB (x.mem.load .imgIn st 4) 24
          .done (((((x.touch .imgIn a).touch .imgIn st).meetBusy busy).setReg f.d (w32 (x.mem.load .imgIn a 4))).setFlags
            { x.core.fl with c := stale, s := x.core.fl.s || stale }) none []))

/-- TXSLOT (R139): stores into the working bank. -/
def execTxslot (v : Vtx) (f : FmtS) (w : Nat) (s : State) : Host.Outcome State Fault Refusal :=
  ok (s.run v (fun _ => metaU (2 + min w 6)) false (fun x =>
    match s.slotBinding x f with
    | none => .trap .slot 0 0
    | some b =>
      if !b.tx then .trap .slot 0 0
      else
        let a := imageWord (b.pay + f.wix.toNat)
        if x.mem.bad .imgOut a then .trap .ecc 0 a
        else .done (x.storeRec .imgOut a 4 (x.reg f.d).toNat) none []))

/-- A malformed AGE limit (R140). -/
def badLimit (imm : BitVec 16) : Bool :=
  if imm.getLsbD 15 then imm.extractLsb' 12 3 != 0 || imm.extractLsb' 0 8 != 0 else imm.extractLsb' 8 7 != 0

/-- The limit of AGE. -/
def ageLimit (x : Vertex) (imm : BitVec 16) : Nat :=
  if imm.getLsbD 15 then (x.reg (imm.extractLsb' 8 4)).toNat else (imm.extractLsb' 0 8).toNat

/-- AGE (R140). -/
def execAge (v : Vtx) (f : FmtI) (s : State) : Host.Outcome State Fault Refusal :=
  ok (s.runAlu v
    (metaA (if f.imm.getLsbD 15 then rbit f.a ||| rbit (f.imm.extractLsb' 8 4) else rbit f.a) (rbit f.d) 0
      (fC ||| fS) 1)
    (badLimit f.imm) f.d
    (fun x =>
      let old := decide (ageLimit x f.imm < field (x.reg f.a).toNat 16 8)
      { val := (x.reg f.a) &&& 0xFFFF#32, fl := { x.core.fl with c := old, s := x.core.fl.s || old } }))

end Sys2Proof.Machine
end

