-- ==== Sys2Proof/Machine/Timers.lean ====
section
/-! DEFINITION. Timers and edges (R144 to R156). -/

namespace Sys2Proof.Machine

/-- A timer slot (Table 5.1). -/
structure TimerSlot where
  start : Nat
  et : Nat
  pt : Nat
  state : Nat
  kind : Nat
  inprev : Nat
  chk : Nat

/-- STATE codes of Table 5.1. -/
def tIdle : Nat := 0x3C
def tHeld : Nat := 0xC3
def tRunning : Nat := 0x5A
def tExpired : Nat := 0xA5

/-- The furlong number that the program sees: in a debug furlong that of DFUR (R232). -/
def State.furlongOf (s : State) (v : Vtx) : Nat :=
  if s.debugging v then (s.v v).dbg.dfur.toNat else s.fnum

/-- CHK (Table 5.1). -/
def timerChk (state kind inprev : Nat) : Nat :=
  (BitVec.ofNat 8 state ^^^ BitVec.ofNat 8 kind ^^^ BitVec.ofNat 8 inprev ^^^ 0xFF#8).toNat

/-- The slot of 16 bytes at `a`. -/
def VMem.timer (m : VMem) (a : Nat) : TimerSlot :=
  { start := m.load .inst a 4, et := m.load .inst (a + 4) 4, pt := m.load .inst (a + 8) 4,
    state := m.load .inst (a + 12) 1, kind := m.load .inst (a + 13) 1, inprev := m.load .inst (a + 14) 1,
    chk := m.load .inst (a + 15) 1 }

/-- The states permitted for a kind (R150). -/
def timerStateOk (kind state : Nat) : Bool :=
  state == tIdle || state == tRunning || (if kind == 2 then state == tHeld else state == tExpired)

/-- The checks of R150. -/
def timerOk (kind : Nat) (t : TimerSlot) : Bool :=
  t.chk == timerChk t.state t.kind t.inprev && decide (t.inprev < 2) && t.kind == kind && timerStateOk kind t.state

/-- Elapsed furlongs (R145). -/
def timerElapsed (fnum start : Nat) : Nat := (fnum + 2 ^ 32 - start % 2 ^ 32) % 2 ^ 32

/-- The timing is complete (R145). -/
def timerDone (fnum lus start pt : Nat) : Bool := decide (1000 * pt ≤ timerElapsed fnum start * lus)

/-- The elapsed time that ET shows while the timing runs (R149). -/
def timerEt (fnum lus start pt : Nat) : Nat := min (timerElapsed fnum start * lus / 1000) pt

/-- A RUNNING slot, carried to `ended` when its timing is complete. -/
def timerRun (fnum lus pt ended : Nat) (t : TimerSlot) : TimerSlot :=
  if timerDone fnum lus t.start pt then { t with state := ended, et := pt }
  else { t with et := timerEt fnum lus t.start pt }

/-- TON (R153). -/
def tonStep (fnum lus pt : Nat) (inp : Bool) (t : TimerSlot) : TimerSlot :=
  if !inp then (if t.state = tIdle then t else { t with state := tIdle, et := 0 })
  else
    let t1 := if t.state = tIdle then { t with start := fnum % 2 ^ 32, state := tRunning } else t
    if t1.state = tRunning then timerRun fnum lus pt tExpired t1 else t1

/-- TOF (R153). -/
def tofStep (fnum lus pt : Nat) (inp : Bool) (t : TimerSlot) : TimerSlot :=
  if inp then (if t.state = tHeld then t else { t with state := tHeld, et := 0 })
  else
    let t1 := if t.state = tHeld then { t with start := fnum % 2 ^ 32, state := tRunning } else t
    if t1.state = tRunning then timerRun fnum lus pt tIdle t1 else t1

/-- TP (R153). -/
def tpStep (fnum lus pt : Nat) (inp : Bool) (t : TimerSlot) : TimerSlot :=
  let t1 := if t.state = tIdle ∧ inp ∧ t.inprev = 0
            then { t with start := fnum % 2 ^ 32, state := tRunning } else t
  let t2 := if t1.state = tRunning then timerRun fnum lus pt tExpired t1 else t1
  if t2.state = tExpired ∧ !inp then { t2 with state := tIdle, et := 0 } else t2

/-- Q of a kind (R153). -/
def timerQ (kind state : Nat) : Bool :=
  match kind with
  | 1 => state == tExpired
  | 2 => state == tHeld || state == tRunning
  | _ => state == tRunning

/-- The preset: a negative one is treated as 0 (R148). -/
def presetOf (w : Word) : Nat := w.toInt.toNat

/-- The slot after an execution: INPREV, CHK and PT are written (R148, R153). -/
def timerAfter (pt : Nat) (inp : Bool) (t : TimerSlot) : TimerSlot :=
  { t with pt := pt, inprev := bit inp, chk := timerChk t.state t.kind (bit inp) }

/-- The two 64-bit stores of a slot (R147). -/
def Vertex.storeTimer (x : Vertex) (a : Nat) (t : TimerSlot) : Vertex :=
  (x.storeRec .inst a 8 (t.start + 2 ^ 32 * t.et)).storeRec .inst (a + 8) 8
    (t.pt + 2 ^ 32 * t.state + 2 ^ 40 * t.kind + 2 ^ 48 * t.inprev + 2 ^ 56 * t.chk)

/-- A frame access that a program may make: in the frames region, outside the mirror receive area (R350). -/
def State.frameAccess (s : State) (a : Nat) : Bool :=
  0x01000000 ≤ a && a < mirrorBase s.profile

/-- A timer instruction: `kind` as KIND codes it, `stp` its behaviour. -/
def State.timerInstr (s : State) (v : Vtx) (f : FmtI) (w kind : Nat)
    (stp : Nat → Nat → Nat → Bool → TimerSlot → TimerSlot) : State :=
  s.run v (fun _ => metaU (8 + min w 6)) false (fun x =>
    let a := (x.core.ib + w32 (16 * f.imm.toNat)).toNat
    if !s.frameAccess a then .trap .access 0 a
    else if x.mem.bad .inst a then .trap .ecc 0 a
    else if x.mem.bad .inst (a + 8) then .trap .ecc 0 (a + 8)
    else
      let t := x.mem.timer a
      if !timerOk kind t then .trap .timer 0 a
      else
        let pt := presetOf (x.reg f.a)
        let inp := (x.reg f.d).getLsbD 0
        let t1 := timerAfter pt inp (stp (s.furlongOf v) (furlongUs s.profile) pt inp t)
        let q := timerQ kind t1.state
        .done (((((x.touch .inst a).touch .inst (a + 8)).storeTimer a t1).setReg f.d (if q then 1 else 0)).setFlags (setZ x.core.fl (!q))) none [])

/-- TON. -/
def execTon (v : Vtx) (f : FmtI) (w : Nat) (s : State) : Host.Outcome State Fault Refusal :=
  ok (s.timerInstr v f w 1 tonStep)

/-- TOF. -/
def execTof (v : Vtx) (f : FmtI) (w : Nat) (s : State) : Host.Outcome State Fault Refusal :=
  ok (s.timerInstr v f w 2 tofStep)

/-- TP. -/
def execTp (v : Vtx) (f : FmtI) (w : Nat) (s : State) : Host.Outcome State Fault Refusal :=
  ok (s.timerInstr v f w 3 tpStep)

/-- An edge instruction (R156): `q` gives Q from IN and the previous input. -/
def State.edgeInstr (s : State) (v : Vtx) (f : FmtM) (w : Nat) (q : Bool → Bool → Bool) : State :=
  s.run v (fun _ => metaU (3 + min w 2)) false (fun x =>
    let a := (x.core.ib + w32 f.off.toNat).toNat
    if !s.frameAccess a then .trap .access 0 a
    else if x.mem.bad .inst a then .trap .ecc 0 a
    else
      let b := x.mem.load .inst a 1
      if b ≠ 1 ∧ b ≠ 2 then .trap .timer 0 a
      else
        let inp := (x.reg f.t).getLsbD 0
        let r := q inp (b == 2)
        .done (((x.storeRec .inst a 1 (if inp then 2 else 1)).setReg f.t (if r then 1 else 0)).setFlags
          (setZ x.core.fl (!r))) none [])

/-- RTRIG. -/
def execRtrig (v : Vtx) (f : FmtM) (w : Nat) (s : State) : Host.Outcome State Fault Refusal :=
  ok (s.edgeInstr v f w (fun inp prev => inp && !prev))

/-- FTRIG. -/
def execFtrig (v : Vtx) (f : FmtM) (w : Nat) (s : State) : Host.Outcome State Fault Refusal :=
  ok (s.edgeInstr v f w (fun inp prev => !inp && prev))

end Sys2Proof.Machine
end

