-- ==== Sys2Proof/Machine/Lattice.lean ====
section
/-! DEFINITION. The lattice: element and route words, predicates, the pass, and the lattice instructions
(R173 to R205). -/

namespace Sys2Proof

/-- A kind that carries an exclusive lock beside shared locks of the same state (R186). -/
def ElemKind.mixes : ElemKind → Bool
  | .point => true
  | .crossing => true
  | _ => false

/-- Terms that take an exclusive lock (R179). -/
def TermKind.exclusive : TermKind → Bool
  | .path => true
  | .consent => true
  | _ => false

/-- Terms that take a shared lock (R179). -/
def TermKind.shared : TermKind → Bool
  | .flank => true
  | .overlap => true
  | _ => false

/-- The locking terms (R179). -/
def TermKind.locking (k : TermKind) : Bool := k.exclusive || k.shared

/-- The entry signal of a route: the element of term 0 (R179). -/
def RouteDecl.entry (d : RouteDecl) : Nat := (d.terms.head?.map Term.elem).getD 0

end Sys2Proof

namespace Sys2Proof.Machine

/-! ### Words of the tables -/

/-- The detected part of an element (Table 6.2), word 0. -/
def Elem.word0 (e : Elem) : Long :=
  BitVec.ofNat 64 (kindCode e.decl.kind + 2 ^ 8 * e.dstate + 2 ^ 16 * e.dage + 2 ^ 24 * e.decl.agelim +
    2 ^ 32 * e.decl.img + 2 ^ 48 * (bit e.aged + 2 * bit e.invalid + 4 * bit e.stale))

/-- OWNER as the table codes it. -/
def Elem.ownerCode (e : Elem) : Nat := e.owner.getD 0xFFFF

/-- The lock part, word 1. -/
def Elem.word1 (e : Elem) : Long :=
  BitVec.ofNat 64 (e.cstate + 2 ^ 8 * e.share + 2 ^ 16 * e.ownerCode + 2 ^ 32 * e.alend.toNat)

/-- The lock part, word 2. -/
def Elem.word2 (e : Elem) : Long := if e.alst then 0x5A else 0

/-- Route STATE (Table 6.6). -/
def Route.state (r : Route) : Nat :=
  rstateCode r.rstate + 4 * bit r.engaged + 2 ^ 16 * r.sheld.toNat

/-- The route record as one 64-bit word (R180). -/
def Route.word (r : Route) : Long := BitVec.ofNat 64 (r.result.toNat + 2 ^ 32 * r.state)

/-- The address of word `i` of element `e` (R175). -/
def elemAddr (e i : Nat) : Nat := 0x04000000 + 32 * e + 8 * i

/-- The address of the record of route `r` (R180). -/
def routeAddr (r : Nat) : Nat := 0x04040000 + 8 * r

/-- The address of bitmap word `n`. -/
def bitmapAddr (n : Nat) : Nat := 0x04060000 + 4 * n

/-- The address of the directory entry of route `r` (R178). -/
def dirAddr (r : Nat) : Nat := 0x03000000 + 8 * r

/-- The words of the term SRAM that hold a list of `n` entries of 4 bytes at offset `off` (R178). -/
def listWords (off n : Nat) : List Nat := (List.range (ceilDiv n 2)).map (fun i => 0x03000000 + 8 * (off + i))

/-- The words of the term SRAM that hold route `r`. -/
def routeWords (d : RouteDecl) (r : Nat) : List Nat :=
  dirAddr r :: listWords d.toff d.terms.length ++ listWords d.coff d.conf.length

/-- The words of the element SRAM that hold element `e`. -/
def elemWords (e : Nat) : List Nat := [elemAddr e 0, elemAddr e 1, elemAddr e 2]

/-- The word of the element SRAM that holds the bitmap bit of route `r`. -/
def bitmapKey (r : Nat) : Nat := wordKey (bitmapAddr (r / 32))

/-- Word `n` of the settable bitmap. -/
def Lattice.sbm (l : Lattice) (n : Nat) : Word :=
  w32 (((List.range 32).map (fun b =>
    match l.routes[32 * n + b]? with
    | some r => if r.settable then 2 ^ b else 0
    | none => 0)).foldl (· + ·) 0)

/-- A route word (Table 6.9). -/
def routeWord (code : Nat) (proved engaged : Bool) (reason pos idx : Nat) : Word :=
  w32 (code + 16 * bit proved + 32 * bit engaged + 2 ^ 6 * reason + 2 ^ 10 * pos + 2 ^ 18 * idx)

/-- RESULT of a route that no pass has written (R188): BLOCKED with reason NOT_EVALUATED. -/
def notEvaluated : Word := 0x000001C1

/-! ### Predicates (R177, R186 to R190) -/

/-- Code FAULT of a kind; 0 where the kind has none (Table 6.3). -/
def faultCode : ElemKind → Nat
  | .point => 4
  | .signal => 3
  | .crossing => 3
  | _ => 0

/-- The largest state code of a kind (Table 6.3). -/
def lastCode : ElemKind → Nat
  | .point => 4
  | .signal => 3
  | .sect => 3
  | .crossing => 3
  | .boundary => 2

/-- V(e) (R177). -/
def Elem.valid (e : Elem) : Bool := e.dstate != 0 && !e.aged

/-- XOK(e, s) (R186). -/
def Elem.xok (e : Elem) (s : Nat) : Bool :=
  e.owner.isNone && (e.share == 0 || (e.decl.kind.mixes && e.cstate == s))

/-- SOK(e, s) (R186). -/
def Elem.sok (e : Elem) (s : Nat) : Bool :=
  (e.owner.isNone && e.share == 0) || (e.cstate == s && (e.owner.isNone || e.decl.kind.mixes))

/-- The state that the predicate requires to be detected, where it requires one (Table 6.8). -/
def needState (t : Term) (k : ElemKind) : Option Nat :=
  match t.kind, k with
  | .approach, _ => none
  | .clear, _ => some 1
  | .consent, _ => some 2
  | .overlap, .sect => some 1
  | _, .signal => some 1
  | _, _ => none

/-- The reason why a term fails, none when it holds (R187, R188, Table 6.8). -/
def termFailure (t : Term) (e : Elem) : Option Nat :=
  if t.kind = .approach then none
  else if e.dstate = 0 then some 1
  else if e.aged then some 2
  else
    let isFault := e.dstate == faultCode e.decl.kind
    let stateBad :=
      match needState t e.decl.kind with
      | some n => e.dstate != n
      | none => isFault
    if stateBad && isFault then some 3
    else if stateBad then some 4
    else if t.kind.exclusive && !e.xok t.req then some 5
    else if t.kind.shared && (!e.sok t.req || e.share == 255) then some 5
    else none

/-- The first failing term from index `i`: reason, index, element. -/
def Lattice.termFail (l : Lattice) : List Term → Nat → Option (Nat × Nat × Nat)
  | [], _ => none
  | t :: ts, i =>
    match l.elems[t.elem]? with
    | none => some (1, i, t.elem)
    | some e =>
      match termFailure t e with
      | some r => some (r, i, t.elem)
      | none => l.termFail ts (i + 1)

/-- The first failing conflict from index `k`. -/
def Lattice.confFail (l : Lattice) : List Nat → Nat → Option (Nat × Nat × Nat)
  | [], _ => none
  | q :: qs, k =>
    match l.routes[q]? with
    | some r => if r.rstate = .free then l.confFail qs (k + 1) else some (6, 64 + k, q)
    | none => some (6, 64 + k, q)

/-- The first failure of a route in list order (R183): reason, POS, IDX. -/
def Lattice.failure (l : Lattice) (d : RouteDecl) : Option (Nat × Nat × Nat) :=
  match l.termFail d.terms 0 with
  | some x => some x
  | none => l.confFail d.conf 0

/-- The number of shared terms before term `i`. -/
def sharedBefore (ts : List Term) (i : Nat) : Nat := ((ts.take i).filter (fun t => t.kind.shared)).length

/-- Route `r` holds the lock of its term `i`. -/
def Lattice.holds (l : Lattice) (r : Nat) (rt : Route) (i : Nat) (t : Term) : Bool :=
  if t.kind.exclusive then
    match l.elems[t.elem]? with
    | some e => e.owner == some r
    | none => false
  else if t.kind.shared then rt.sheld.getLsbD (sharedBefore rt.decl.terms i)
  else false

/-- A term satisfies PROVED (R190). -/
def provedTerm (t : Term) (e : Elem) : Bool :=
  match t.kind, e.decl.kind with
  | .approach, _ => true
  | .clear, _ => e.valid && e.dstate == 1
  | .consent, _ => e.valid && e.dstate == 2
  | .overlap, .sect => e.valid && e.dstate == 1
  | .flank, .signal => e.valid && e.dstate == 1
  | .path, .sect => e.valid
  | _, .point => e.valid && e.dstate == t.req
  | _, .crossing => e.valid && e.dstate == t.req
  | _, _ => true

/-- PROVED of a RESERVED route: every locking term it holds and every CLEAR term; term 0 is left out (R190). -/
def Lattice.proved (l : Lattice) (r : Nat) (rt : Route) : Bool :=
  (rt.decl.terms.zipIdx).all (fun (t, i) =>
    i == 0 ||
    (if t.kind.locking && !l.holds r rt i t then true
     else match l.elems[t.elem]? with
       | some e => provedTerm t e
       | none => false))

/-- ENGAGED after the pass (R191). -/
def Lattice.engagedNow (l : Lattice) (r : Nat) (rt : Route) : Bool :=
  match rt.rstate, l.elems[rt.decl.entry]? with
  | .free, _ => rt.engaged
  | _, some e => rt.engaged || (e.owner == some r && !(e.valid && e.dstate == 1))
  | _, none => rt.engaged

/-! ### The pass (R182 to R185) -/

/-- Nominal pass length in lattice clocks (R183). -/
def nominalPass (nelems : Nat) (routes : List RouteDecl) : Nat :=
  let sizes := routes.map (fun r => r.terms.length + r.conf.length)
  ceilDiv nelems 8 +
    ((List.range (ceilDiv routes.length 32)).map (fun g =>
      ((sizes.drop (32 * g)).take 32).foldl max 0 + 8)).foldl (· + ·) 0

/-- Import of one element from its status DWORD. -/
def Elem.importW (e : Elem) (w : Nat) : Elem :=
  let good := field w 8 8 == 0 && decide (1 ≤ field w 0 8) && decide (field w 0 8 ≤ lastCode e.decl.kind)
  { e with
    dage := field w 16 8, aged := decide (e.decl.agelim < field w 16 8), stale := testB w 24,
    dstate := if good then field w 0 8 else 0, invalid := !good }

/-- Evaluation of one route. -/
def Lattice.evalRoute (l : Lattice) (r : Nat) (rt : Route) : Route :=
  let eng := l.engagedNow r rt
  match rt.rstate with
  | .free =>
    match l.failure rt.decl with
    | none => { rt with result := routeWord 0 false false 0 0 0, settable := true }
    | some (reason, pos, idx) =>
      { rt with result := routeWord 1 false false reason pos idx, settable := false }
  | .reserved =>
    { rt with result := routeWord 2 (l.proved r rt) eng 0 0 0, engaged := eng, settable := false }
  | .partly => { rt with result := routeWord 3 false eng 0 0 0, engaged := eng, settable := false }

/-- The writes of a pass, in the order of R182. The bitmap words written are those that hold a route, not all 512 of
Table 6.1 (DESIGN CHOICE, notes/assumptions/59.md). -/
def Lattice.passRecs (l : Lattice) : List SigRec :=
  (l.elems.zipIdx.map (fun (e, i) => SigRec.store 8 (elemAddr i 0) e.word0)) ++
  (l.routes.zipIdx.map (fun (r, i) => SigRec.store 8 (routeAddr i) r.word)) ++
  ((List.range (ceilDiv l.routes.length 32)).map (fun n =>
    SigRec.store 4 (bitmapAddr n) ((l.sbm n).zeroExtend 64)))

/-- The pass on a lattice, with the status DWORD of each element. -/
def Lattice.pass (l : Lattice) (word : Nat → Nat) : Lattice :=
  let l1 := { l with elems := l.elems.map (fun (e : Elem) => e.importW (word e.decl.img)) }
  let l2 := { l1 with routes := l1.routes.zipIdx.map (fun (rt, r) => l1.evalRoute r rt) }
  { l2 with passDone := true, held := l2.passRecs }

/-- The image DWORD of an element (R182). -/
def Vertex.imgWord (x : Vertex) (img : Nat) : Nat := x.mem.load .imgIn (imageWord img) 4

/-- The pass of a vertex, `wait` clocks longer than nominal. -/
def Vertex.runPass (x : Vertex) (wait : Nat) : Vertex :=
  let l := x.lat.pass x.imgWord
  let n := min (x.lat.nominal + wait) (2 ^ 20 - 1)
  { x with lat := { l with plast := n, pmax := max x.lat.pmax n } }

/-- The words that a pass reads: for each element its status word and its entry, for each route its lists, its record
and its bitmap word (R182, R183). -/
def Lattice.passWords (l : Lattice) : List Nat :=
  l.elems.zipIdx.flatMap (fun q => wordKey (imageWord q.1.decl.img) :: elemWords q.2) ++
    l.routes.zipIdx.flatMap (fun q => routeWords q.1.decl q.2 ++ [routeAddr q.2, bitmapKey q.2])

/-- The first word of the pass with an uncorrectable error. -/
def Vertex.passEcc (x : Vertex) : Option Nat := x.mem.firstBad x.lat.passWords

/-- LATTICE_PASS: the pass of vertex `v` is complete `dt` clocks on, no later than E_max (R182 to R184). An
uncorrectable word is a fault of the vertex; correctable ones are written back and counted (R22). No task runs in the pass: PC,
TASK and TCW of that VERTEX_TRAP are what the registers hold (DESIGN CHOICE, notes/assumptions/69.md). -/
def execLatticePass (dt : Nat) (v : Vtx) (wait : Nat) (s : State) : Host.Outcome State Fault Refusal :=
  let t := s.elapse dt
  let x := t.v v
  if t.boundaries && t.runsApp v && !x.lat.passDone && decide (t.inFurlong ≤ emaxNs t.profile) then
    match x.passEcc with
    | some a => ok (t.raiseTrap v .ecc 0 a x.core.pc x.core.count)
    | none => ok (t.setV v ((x.scrub x.lat.passWords).runPass wait))
  else ok t

/-- LATTICE_OVERRUN: the pass of vertex `v` is not complete at E_max (R184). A second vertex in the same furlong
takes the module out of service. -/
def execLatticeOverrun (dt : Nat) (v : Vtx) (s : State) : Host.Outcome State Fault Refusal :=
  let t := s.elapse dt
  let x := t.v v
  if t.boundaries && t.runsApp v && !x.lat.passDone && decide (emaxNs t.profile ≤ t.inFurlong) then
    let t1 := (t.record .latticeOverrun v.num x.lat.plast 0).modV v
      (fun x => { x with lat := { x.lat with overrun := satInc 16 x.lat.overrun } })
    let t2 : State := { t1 with overran := t1.overran.set v true }
    if t.overran.members.isEmpty then
      ok (t2.selfFault v .latticeOverrun)
    else ok (t2.halt .strengthLost)
  else ok t

/-! ### Lattice instructions (R192 to R202) -/

/-- What a lattice instruction does: the lattice after it, its word, Z, whether it sets S, and its own writes. -/
structure LatRes where
  lat : Lattice
  word : Word
  z : Bool
  s : Bool
  recs : List SigRec

/-- The writes of an element from what it was to what it is: the 64-bit words that changed (R202). -/
def elemDiff (i : Nat) (a b : Elem) : List SigRec :=
  (if a.word1 = b.word1 then [] else [SigRec.store 8 (elemAddr i 1) b.word1]) ++
  (if a.word2 = b.word2 then [] else [SigRec.store 8 (elemAddr i 2) b.word2])

/-- The writes of the elements of terms, in term order (R202). -/
def Lattice.diff (old new : Lattice) (ts : List Term) : List SigRec :=
  ts.flatMap (fun t =>
    match old.elems[t.elem]?, new.elems[t.elem]? with
    | some a, some b => elemDiff t.elem a b
    | _, _ => [])

/-- The write of a route record. -/
def Lattice.routeRec (l : Lattice) (r : Nat) : List SigRec :=
  match l.routes[r]? with
  | some rt => [SigRec.store 8 (routeAddr r) rt.word]
  | none => []

/-- The write of the bitmap word of a route. -/
def Lattice.bitmapRec (l : Lattice) (r : Nat) : List SigRec :=
  [SigRec.store 4 (bitmapAddr (r / 32)) ((l.sbm (r / 32)).zeroExtend 64)]

/-- A result that changes nothing. -/
def Lattice.answer (l : Lattice) (w : Word) : LatRes := ⟨l, w, field w.toNat 0 4 == 0, false, []⟩

/-- Apply a function to an element. -/
def Lattice.modElem (l : Lattice) (e : Nat) (f : Elem → Elem) : Lattice := { l with elems := modNth l.elems e f }

/-- Apply a function to a route. -/
def Lattice.modRoute (l : Lattice) (r : Nat) (f : Route → Route) : Lattice := { l with routes := modNth l.routes r f }

/-- The approach-lock timer of an element has expired (R194). -/
def Elem.expired (e : Elem) (fnum : Nat) : Bool :=
  e.alst && (w32 fnum - e.alend).toNat < 2 ^ 31

/-- The LATTICE trap of LREQ (R200). -/
def Lattice.lreqBad (l : Lattice) (wa wb : Word) : Bool :=
  match field wb.toNat 0 4 with
  | 0 => wb.toNat / 16 != 0 || decide (l.routes.length ≤ wa.toNat)
  | 1 =>
    field wb.toNat 4 4 != 0 || wb.toNat / 2 ^ 16 != 0 ||
      (match l.elems[wa.toNat]? with
       | none => true
       | some e => e.decl.kind.mixes && field wb.toNat 8 8 != 1 && field wb.toNat 8 8 != 2)
  | 2 => field wb.toNat 4 4 != 0 || (l.elems[wa.toNat]?).isNone
  | 3 => wb.toNat / 16 != 0 || (l.elems[wa.toNat]?).isNone
  | _ => true

/-- A change of one element with result OK. -/
def Lattice.elemOk (l : Lattice) (e : Nat) (f : Elem → Elem) : LatRes :=
  let n := l.modElem e f
  ⟨n, 0, true, false, l.diff n [⟨e, 0, .path⟩]⟩

/-- COMMAND (Table 6.12). -/
def Lattice.commandOp (l : Lattice) (i : Nat) (e : Elem) (st : Nat) : LatRes :=
  if !e.decl.kind.mixes then l.answer 10
  else if e.owner.isSome || e.share != 0 then l.answer (if e.cstate = st then 0 else 9)
  else l.elemOk i (fun e => { e with cstate := st })

/-- AL_START (Table 6.12). -/
def Lattice.alStartOp (l : Lattice) (i : Nat) (e : Elem) (fnum lus ms : Nat) : LatRes :=
  if e.decl.kind ≠ .signal then l.answer 10
  else if e.alst then l.answer 0
  else l.elemOk i (fun e => { e with alend := w32 (fnum + ceilDiv (1000 * ms) lus), alst := true })

/-- AL_STOP (Table 6.12). -/
def Lattice.alStopOp (l : Lattice) (i : Nat) (e : Elem) : LatRes :=
  if e.decl.kind ≠ .signal then l.answer 10 else l.elemOk i (fun e => { e with alst := false })

/-- LREQ: the operation is that of Wb[3:0] (R194). -/
def Lattice.lreq (l : Lattice) (fnum lus : Nat) (wa wb : Word) : LatRes :=
  let i := wa.toNat
  if field wb.toNat 0 4 = 0 then
    match l.routes[i]? with
    | some r => l.answer r.result
    | none => l.answer 0
  else
    match l.elems[i]? with
    | none => l.answer 0
    | some e =>
      if field wb.toNat 0 4 = 1 then l.commandOp i e (field wb.toNat 8 8)
      else if field wb.toNat 0 4 = 2 then l.alStartOp i e fnum lus (wb.toNat / 256)
      else l.alStopOp i e

/-- The wait of LREQ (Table 6.14). -/
def lreqWait (wb : Word) : Nat := if field wb.toNat 0 4 = 0 then 4 else 8

/-- The lock of a term is taken (Table 6.8). -/
def takeLock (r : Nat) (t : Term) (e : Elem) : Elem :=
  if t.kind.exclusive then { e with owner := some r, cstate := t.req }
  else { e with share := e.share + 1, cstate := t.req }

/-- All locks of a route, in term order. -/
def Lattice.takeLocks (l : Lattice) (r : Nat) (ts : List Term) : Lattice :=
  ts.foldl (fun l t => if t.kind.locking then l.modElem t.elem (takeLock r t) else l) l

/-- SHELD with every shared term held. -/
def allShared (ts : List Term) : BitVec 16 :=
  BitVec.ofNat 16 (2 ^ (ts.filter (fun t => t.kind.shared)).length - 1)

/-- The tables after a successful LRESV (R195). -/
def Lattice.reserve (l : Lattice) (r : Nat) (d : RouteDecl) : Lattice :=
  ((l.takeLocks r d.terms).modElem d.entry (fun e => { e with alst := false })).modRoute r
    (fun rt => { rt with rstate := .reserved, engaged := false, sheld := allShared d.terms,
                         result := routeWord 2 false false 0 0 0, settable := false })

/-- LRESV (R195). The result ALREADY has CODE 5 and every other field of the route word 0, ENGAGED among them, whatever
the route: R195 gives only the result (DESIGN CHOICE, notes/assumptions/59.md). -/
def Lattice.lresv (l0 : Lattice) (wa : Word) : LatRes :=
  let l := { l0 with fResv := satInc 8 l0.fResv }
  let r := wa.toNat
  match l.routes[r]? with
  | none => l.answer 0
  | some rt =>
    if rt.rstate ≠ .free then l.answer (routeWord 5 false false 0 0 0)
    else
      match l.failure rt.decl with
      | some (reason, pos, idx) =>
        if rt.settable then
          { l with resvSame := satInc 16 l.resvSame }.answer (routeWord 4 false false reason pos idx)
        else l.answer (routeWord 1 false false reason pos idx)
      | none =>
        let n := { l.reserve r rt.decl with resvOk := satInc 16 l.resvOk }
        ⟨n, 0, true, false, l.diff n (rt.decl.terms.filter (fun t => t.kind.locking)) ++ n.routeRec r ++ n.bitmapRec r⟩

/-- The wait of LRESV (Table 6.14). -/
def Lattice.lresvWait (l : Lattice) (wa : Word) : Nat :=
  match l.routes[wa.toNat]? with
  | none => 0
  | some rt =>
    min 556 (20 + 4 * ceilDiv (rt.decl.terms.length + rt.decl.conf.length) 32 +
      8 * (rt.decl.terms.filter (fun t => t.kind.locking)).length)

/-- A route is approach clear (R198). -/
def Lattice.approachClear (l : Lattice) (d : RouteDecl) : Bool :=
  d.terms.all (fun t => t.kind != .approach ||
    (match l.elems[t.elem]? with
     | some e => e.valid && e.dstate == 1
     | none => false))

/-- The locks that route `r` holds, as terms with their indices. -/
def Lattice.heldTerms (l : Lattice) (r : Nat) (rt : Route) : List (Term × Nat) :=
  rt.decl.terms.zipIdx.filter (fun (t, i) => l.holds r rt i t)

/-- One lock is given up. -/
def Lattice.dropLock (l : Lattice) (r : Nat) (ts : List Term) (p : Term × Nat) : Lattice :=
  if p.1.kind.exclusive then l.modElem p.1.elem (fun e => { e with owner := none })
  else (l.modElem p.1.elem (fun e => { e with share := e.share - 1 })).modRoute r
    (fun rt => { rt with sheld := rt.sheld &&& ~~~(1#16 <<< sharedBefore ts p.2) })

/-- The tables after a release of the locks `go` of route `r` (R197). -/
def Lattice.release (l : Lattice) (r : Nat) (rt : Route) (go : List (Term × Nat)) (whole : Bool) : Lattice :=
  let l1 := go.foldl (fun l p => l.dropLock r rt.decl.terms p) l
  let l2 := if go.any (fun p => p.2 == 0) then l1.modElem rt.decl.entry (fun e => { e with alst := false }) else l1
  l2.modRoute r (fun q =>
    if whole then { q with rstate := .free, engaged := false, result := notEvaluated }
    else { q with rstate := .partly, result := (q.result &&& ~~~0x1F#32) ||| 3#32 })

/-- LREL (R197, R198): Wb = 16#FFFF_FFFF releases the whole route. -/
def Lattice.lrel (l0 : Lattice) (fnum : Nat) (wa wb : Word) : LatRes :=
  let l := { l0 with fRel := satInc 8 l0.fRel }
  let r := wa.toNat
  match l.routes[r]? with
  | none => l.answer 0
  | some rt =>
    let held := l.heldTerms r rt
    let go := if wb = 0xFFFFFFFF#32 then held else held.filter (fun p => p.1.elem == wb.toNat)
    if rt.rstate = .free ∨ go = [] then l.answer 6
    else
      let first := go.any (fun p => p.2 == 0)
      let sig := l.elems[rt.decl.entry]?
      let stop := match sig with
        | some e => e.valid && e.dstate == 1
        | none => false
      let exp := match sig with
        | some e => e.expired fnum
        | none => false
      if first && !stop then l.answer 8
      else if first && rt.engaged && !l.approachClear rt.decl && !exp then
        { l with relAppr := satInc 16 l.relAppr }.answer 7
      else
        let n := { l.release r rt go (go.length == held.length) with relOk := satInc 16 l.relOk }
        ⟨n, 0, true, false, l.diff n (go.map Prod.fst) ++ n.routeRec r⟩

/-- The wait of LREL (Table 6.14). -/
def Lattice.lrelWait (l : Lattice) (wa wb : Word) : Nat :=
  if wb = 0xFFFFFFFF#32 then
    match l.routes[wa.toNat]? with
    | none => 0
    | some rt =>
      20 + 4 * ceilDiv rt.decl.terms.length 32 + 8 * (rt.decl.terms.filter (fun t => t.kind.locking)).length
  else 28

/-- LSTAT word 0 (Table 6.13). -/
def Elem.statusWord (e : Elem) (fnum : Nat) : Word :=
  w32 (e.dstate + 2 ^ 8 * e.cstate + 2 ^ 16 * e.dage + 2 ^ 24 * bit e.aged + 2 ^ 25 * bit e.invalid +
    2 ^ 26 * bit e.stale + 2 ^ 27 * bit e.alst + 2 ^ 28 * bit (e.expired fnum) + 2 ^ 29 * kindCode e.decl.kind)

/-- LSTAT word 1 (Table 6.13). -/
def Elem.lockWord (e : Elem) : Word :=
  w32 ((match e.owner with
        | some r => r % 2 ^ 14
        | none => 2 ^ 15) + 2 ^ 16 * e.share)

/-- LSTAT (R199). -/
def Lattice.lstat (l : Lattice) (fnum : Nat) (wa wb : Word) : LatRes :=
  match l.elems[wa.toNat]? with
  | none => l.answer 0
  | some e => ⟨l, if wb = 0 then e.statusWord fnum else e.lockWord, e.valid, e.dstate == 0 || e.aged, []⟩

/-- The vertex after a lattice instruction: the pass writes enter first (R185), then its own writes, then its register
write; it writes Z, and S where LSTAT sets it (R193). -/
def Vertex.latDone (x : Vertex) (d : BitVec 4) (r : LatRes) : Vertex :=
  (({ x.placePass with lat := { r.lat with held := [] } }.feedAll r.recs).setReg d r.word).setFlags
    { x.core.fl with z := r.z, s := x.core.fl.s || r.s }

/-- The words that LREQ reads. -/
def Lattice.lreqWords (l : Lattice) (wa wb : Word) : List Nat :=
  if field wb.toNat 0 4 = 0 then (if wa.toNat < l.routes.length then [routeAddr wa.toNat] else [])
  else if wa.toNat < l.elems.length then elemWords wa.toNat else []

/-- The words that LRESV reads: the record of a route, and of a FREE one all that its evaluation reads. -/
def Lattice.lresvWords (l : Lattice) (wa : Word) : List Nat :=
  match l.routes[wa.toNat]? with
  | none => []
  | some rt =>
    routeAddr wa.toNat :: (if rt.rstate ≠ .free then [] else
      routeWords rt.decl wa.toNat ++ rt.decl.terms.flatMap (fun t => elemWords t.elem) ++ rt.decl.conf.map routeAddr ++
        [bitmapKey wa.toNat])

/-- The words that LREL reads: the record of a route, and of a reserved one its terms and their elements. -/
def Lattice.lrelWords (l : Lattice) (wa : Word) : List Nat :=
  match l.routes[wa.toNat]? with
  | none => []
  | some rt =>
    routeAddr wa.toNat :: (if rt.rstate = .free then [] else
      dirAddr wa.toNat :: listWords rt.decl.toff rt.decl.terms.length ++ rt.decl.terms.flatMap (fun t => elemWords t.elem))

/-- The words that LSTAT reads. -/
def Lattice.lstatWords (l : Lattice) (wa : Word) : List Nat := if wa.toNat < l.elems.length then elemWords wa.toNat else []

/-- A lattice instruction: it traps with LATTICE before it waits (R200), and waits for the pass of its furlong
(R192): until then nothing happens. It traps with ECC on an uncorrectable word among those that it reads (R22). -/
def State.latInstr (s : State) (v : Vtx) (f : FmtR) (bad : Bool) (wait : Vertex → Nat) (trap : Vertex → Bool)
    (words : Vertex → List Nat) (op : Vertex → LatRes) : State :=
  let m := fun x => metaU (4 + wait x)
  let body := fun (x : Vertex) =>
    if trap x then IRes.trap .lattice 0 0
    else
      match x.mem.firstBad (words x) with
      | some a => .trap .ecc 0 a
      | none => .done ((x.scrub (words x)).latDone f.d (op x)) none []
  let x := s.v v
  if s.executing v && !x.lat.passDone && (s.causeOf v (m x) bad (body x)).isNone then s
  else s.run v m bad body

/-- LREQ, for the four rows that name its operations: the operation executed is that of Wb[3:0]. -/
def State.lreqInstr (s : State) (v : Vtx) (f : FmtR) : State :=
  s.latInstr v f (f.mod != 0) (fun x => lreqWait (x.reg f.b)) (fun x => x.lat.lreqBad (x.reg f.a) (x.reg f.b))
    (fun x => x.lat.lreqWords (x.reg f.a) (x.reg f.b)) (fun x => x.lat.lreq (s.furlongOf v) (furlongUs s.profile) (x.reg f.a) (x.reg f.b))

/-- LREQ, OP 0. -/
def execQuery (v : Vtx) (f : FmtR) (s : State) : Host.Outcome State Fault Refusal := ok (s.lreqInstr v f)

/-- LREQ, OP 1. -/
def execCommand (v : Vtx) (f : FmtR) (s : State) : Host.Outcome State Fault Refusal := ok (s.lreqInstr v f)

/-- LREQ, OP 2. -/
def execAlStart (v : Vtx) (f : FmtR) (s : State) : Host.Outcome State Fault Refusal := ok (s.lreqInstr v f)

/-- LREQ, OP 3. -/
def execAlStop (v : Vtx) (f : FmtR) (s : State) : Host.Outcome State Fault Refusal := ok (s.lreqInstr v f)

/-- LRESV: Wb is field 0 and not read (Table 6.10). -/
def execLresv (v : Vtx) (f : FmtR) (s : State) : Host.Outcome State Fault Refusal :=
  ok (s.latInstr v f (f.mod != 0 || f.b != 0) (fun x => x.lat.lresvWait (x.reg f.a))
    (fun x => decide (x.lat.routes.length ≤ (x.reg f.a).toNat)) (fun x => x.lat.lresvWords (x.reg f.a))
    (fun x => x.lat.lresv (x.reg f.a)))

/-- LREL, for its two rows: Wb says which of the two is executed. -/
def State.lrelInstr (s : State) (v : Vtx) (f : FmtR) : State :=
  s.latInstr v f (f.mod != 0) (fun x => x.lat.lrelWait (x.reg f.a) (x.reg f.b))
    (fun x => decide (x.lat.routes.length ≤ (x.reg f.a).toNat) ||
      (x.reg f.b != 0xFFFFFFFF#32 && decide (x.lat.elems.length ≤ (x.reg f.b).toNat)))
    (fun x => x.lat.lrelWords (x.reg f.a)) (fun x => x.lat.lrel (s.furlongOf v) (x.reg f.a) (x.reg f.b))

/-- LREL of a whole route. -/
def execLrelRoute (v : Vtx) (f : FmtR) (s : State) : Host.Outcome State Fault Refusal := ok (s.lrelInstr v f)

/-- LREL of one element. -/
def execLrelElement (v : Vtx) (f : FmtR) (s : State) : Host.Outcome State Fault Refusal := ok (s.lrelInstr v f)

/-- LSTAT. -/
def execLstat (v : Vtx) (f : FmtR) (s : State) : Host.Outcome State Fault Refusal :=
  ok (s.latInstr v f (f.mod != 0) (fun _ => 4)
    (fun x => decide (x.lat.elems.length ≤ (x.reg f.a).toNat) || (x.reg f.b != 0 && x.reg f.b != 1))
    (fun x => x.lat.lstatWords (x.reg f.a)) (fun x => x.lat.lstat (s.furlongOf v) (x.reg f.a) (x.reg f.b)))

end Sys2Proof.Machine
end

