-- ==== Sys2Proof/Machine/Regs.lean ====
section
/-! DEFINITION. The register index (Table 16.3): what every register of the vertices and of the K3M reads as. A block is
shown as its latched content (R215) and the vertex's own part. An unlisted offset is none (R469); a WO field reads 0;
reserved bits read 0 (R15). -/

namespace Sys2Proof.Machine

/-- Fields at their bit positions. -/
def pack (l : List (Nat × Nat)) : Nat := (l.map (fun p => p.1 * 2 ^ p.2)).foldl (· + ·) 0

/-- The index of an array of `n` registers `step` bytes apart from `base`. -/
def arrayIx (off base n step : Nat) : Option Nat :=
  if base ≤ off ∧ off < base + step * n ∧ (off - base) % step = 0 then some ((off - base) / step) else none

/-! ### CYC (Tables 2.12 to 2.20) -/

/-- CYC.MODE. -/
def cycMode (b : Blocks) : Nat :=
  let x := match b.cyc.mode with
    | .resync => b.cen.excl.mask
    | .standby => b.cen.excl.mask
    | .active => b.cen.excl.mask
    | _ => 7
  pack [(modeCode b.cyc.mode, 0), (b.shownStrength, 4), (x, 6), (bit (b.cen.debugged.mask != 0), 9), (bit b.cyc.senior, 10),
    (bit b.cyc.partner, 11), (mcauseCode b.cyc.cause, 16)]

/-- The group FAULT bits of the record: all 1 in SIO_FAIL (R320), and until the first transfer (Table 10.12). -/
def sioFault (x : Sio) : Nat :=
  match x.shown with
  | some l => if x.fail then 15 else pack ((l.take 4).zipIdx.map (fun (f, i) => (bit f, i)))
  | none => 15

/-- CYC.STAT.IOFAULT: a group FAULT bit is set; 0 before the first transfer (Table 2.15). -/
def ioFaultBit (x : Sio) : Bool := x.shown.isSome && sioFault x != 0

/-- CYC.STAT. -/
def cycStat (b : Blocks) : Nat :=
  let staged := b.cyc.stg0.state != 0 || b.cyc.stg1.state != 0 || b.cyc.stg2.state != 0
  pack [(bit b.cyc.sw1, 0), (bit b.cyc.sw2, 1), (bit b.cyc.sw3, 2), (bit b.cyc.sw4, 3),
    (field (b.mbx.ks.getD 0 0).toNat 0 1, 4), (bit (field (b.mbx.ks.getD 3 0).toNat 0 3 == 4), 5),
    (bit (b.ntm.state == .holdover), 6), (bit (ioFaultBit b.sio), 7), (bit staged, 8)]

/-- An area register: TIN or TOUT. -/
def areaReg (base size : Nat) : Nat := pack [(base, 0), (size, 16)]

/-- The registers of a task. -/
def taskReg (b : Blocks) (k : Nat) (f : TaskDecl → Nat) : Option Nat := (b.cyc.tasks[k]?).map f

/-- CYC. -/
def cycReg (b : Blocks) (l : LocalRegs) (off : Nat) : Option Nat :=
  match off with
  | 0x000 => some (cycMode b)
  | 0x004 => some (b.cyc.fnum % 2 ^ 32)
  | 0x008 => some (b.cyc.fnum / 2 ^ 32 % 2 ^ 16)
  | 0x00C => some (pack [(l.rod, 0), (l.phase, 8)])
  | 0x010 => some (cycStat b)
  | 0x014 => some 0
  | 0x018 => some (pack [(b.cyc.resCode, 0), (b.cyc.resTag.toNat, 16)])
  | 0x01C => some (pack [(b.cyc.stg0.state, 0), (b.cyc.stg1.state, 2), (b.cyc.stg2.state, 4)])
  | 0x020 => some (b.cyc.stg0.target % 2 ^ 32)
  | 0x024 => some (b.cyc.stg1.target % 2 ^ 32)
  | 0x028 => some (b.cyc.stg2.target % 2 ^ 32)
  | 0x100 => some (match b.cyc.profile with
    | some p => pack [(profileCode p, 0), (rodNs p, 8)]
    | none => 0)
  | 0x104 => some (bit b.cyc.solo)
  | _ =>
    match arrayIx off 0x040 8 4, arrayIx off 0x060 8 4, arrayIx off 0x080 8 4, arrayIx off 0x0A0 8 4,
      arrayIx off 0x0C0 8 4 with
    | some k, _, _, _, _ => taskReg b k (fun t => pack [(t.period, 0), (t.offset, 4), (bit t.en, 31)])
    | _, some k, _, _, _ => taskReg b k TaskDecl.budget
    | _, _, some k, _, _ => some (pack [(l.loc.tuseMax.getD k 0, 0), (l.loc.tuseOvr.getD k 0, 24)])
    | _, _, _, some k, _ => taskReg b k (fun t => areaReg t.inBase t.inSize)
    | _, _, _, _, some k => taskReg b k (fun t => areaReg t.outBase t.outSize)
    | _, _, _, _, _ => none

/-! ### LAT (Table 6.16) -/

/-- LAT. -/
def latReg (b : Blocks) (l : LocalRegs) (off : Nat) : Option Nat :=
  let x := l.lat
  match off with
  | 0x000 => some (pack [(x.routes.length, 0), (x.elems.length, 16)])
  | 0x004 => some x.nominal
  | 0x008 => some ((b.cyc.profile.map emaxClocks).getD 0)
  | 0x00C => some x.plast
  | 0x010 => some x.pmax
  | 0x014 => some (pack [(x.resvOk, 0), (x.resvSame, 16)])
  | 0x018 => some (pack [(x.relOk, 0), (x.relAppr, 16)])
  | 0x01C => some (pack [(x.fResv, 0), (x.fRel, 8)])
  | 0x020 => some x.overrun
  | 0x024 => some 0
  | _ => (arrayIx off 0x800 512 4).map (fun n => (x.sbm n).toNat)

/-- The registers of LAT whose read waits for the pass (R205). -/
def latWaits (off : Nat) : Bool :=
  off == 0x00C || off == 0x010 || off == 0x014 || off == 0x018 || off == 0x01C || decide (0x800 ≤ off)

/-! ### CEN (Table 7.14) -/

/-- CEN.REJ. While no vertex rejoins, FAILS shows the count of the vertex that failed last (DESIGN CHOICE,
notes/assumptions/68.md). -/
def cenRej (c : Cen) : Nat :=
  let who := if c.rejVtx.isSome then c.rejVtx else c.rejLast
  pack [((c.rejVtx.map Vtx.num).getD 3, 0), (c.rejStep, 2), (c.rejFurl, 5), ((who.map c.rejFails.get).getD 0, 13),
    (c.rejReason, 16)]

/-- CEN. -/
def cenReg (b : Blocks) (l : LocalRegs) (off : Nat) : Option Nat :=
  let c := b.cen
  match off with
  | 0x000 => some (pack [(c.excl.mask, 0), (b.shownStrength, 4), (c.withdrawn.mask, 6), (c.debugged.mask, 9),
      ((c.rejVtx.map (fun v => 2 ^ v.num)).getD 0, 12), ((c.wpend.map (fun v => v.num + 1)).getD 0, 16)])
  | 0x01C => some (pack [(c.strides, 0), (c.rescnt, 16)])
  | 0x020 => some (pack [(l.loc.skewLast, 0), (l.loc.skewMax, 8)])
  | 0x024 => some (pack [(l.loc.scfail, 0), (c.exclN, 16)])
  | 0x028 => some (cenRej c)
  | 0x02C => some (pack [(c.imgWords, 0), (c.imgLimit, 16)])
  | 0x030 => some 0
  | _ =>
    match (arrayIx off 0x004 3 4).bind Vtx.ofNum, (arrayIx off 0x010 3 4).bind Vtx.ofNum with
    | some v, _ => some (pack [((c.x.get v).cause, 0), ((c.x.get v).furl, 8)])
    | _, some v => some (pack [((c.x.get v).seq, 0), ((c.x.get v).typ, 12)])
    | _, _ => none

/-! ### TTB (Table 8.14) -/

/-- TTB.POS. -/
def ttbPos (t : Ttb) : Nat :=
  match t.pos with
  | none => 0
  | some p =>
    let cs := match t.matrix with
      | some m => (coldRank m.segX p.src).isSome || (coldRank m.segY p.src).isSome
      | none => false
    pack [(p.area, 0), (p.pos, 8), (bit p.senior, 12), (bit cs, 13), (rankOf p, 16), (listenRods p, 24)]

/-- TTB.SEGX or TTB.SEGY: INDEX is the module's own place. -/
def ttbSeg (pos : Option Position) (g : Option Segment) : Nat :=
  match g with
  | some x => pack [(x.hops, 0), (bit x.ring, 6), (x.nodes, 8), ((pos.bind x.indexOf).getD 0, 16)]
  | none => 0

/-- TTB.ARB. -/
def ttbArb (t : Ttb) : Nat :=
  match t.matrix with
  | some m => pack [(t.pos.elim 0 m.prioOf, 0), (m.arbres, 8)]
  | none => 0

/-- TTB.BUS.STATE codes. -/
def busCode : BusState → Nat
  | .off => 0
  | .listen => 1
  | .coldstart => 2
  | .backoff => 3
  | .yielding => 4
  | .integrated => 5

/-- ERRX or ERRY. -/
def errReg (e : ErrCnt) : Nat := pack [(e.format, 0), (e.code, 8), (e.seqts, 16), (e.window, 24)]

/-- TTB.FLAG. -/
def ttbFlag (t : Ttb) : Nat :=
  pack [(bit t.fDisagree.isSome, 0), (bit t.fForeign.isSome, 1), (bit t.fTimeconf.isSome, 2), (bit t.fCheckfail.isSome, 3), (bit t.fOutmm.isSome, 4),
    (bit t.fFwddrop.isSome, 5)]

/-- TTB. -/
def ttbReg (b : Blocks) (off : Nat) : Option Nat :=
  let t := b.ttb
  match off with
  | 0x000 => some ((t.matrix.map (fun m => pack [(m.etype.toNat, 0), (m.vid, 16), (m.pcp, 28)])).getD 0)
  | 0x004 => some t.mid.toNat
  | 0x008 => some (ttbPos t)
  | 0x00C => some (ttbSeg t.pos (t.matrix.map Matrix.segX))
  | 0x010 => some (ttbSeg t.pos (t.matrix.map Matrix.segY))
  | 0x014 => some (ttbArb t)
  | 0x018 => some (pack [(busCode t.state, 0), (t.count, 8)])
  | 0x01C => some (pack ((t.up.zipIdx.map (fun (u, i) => (bit u, i))) ++
      [(bit t.babble.x, 4), (bit t.babble.y, 5), (bit t.syncLost.x, 6), (bit t.syncLost.y, 7)]))
  | 0x020 => some (ttbFlag t)
  | 0x024 => some (t.pairs % 2 ^ 32)
  | 0x028 => some (pack [(t.sgl.x, 0), (t.sgl.y, 16)])
  | 0x02C => some (pack [(t.dis, 0), (t.late, 16)])
  | 0x030 => some (errReg t.err.x)
  | 0x034 => some (errReg t.err.y)
  | 0x038 => some (t.missed % 2 ^ 32)
  | 0x03C => some (pack [(t.suppr, 0), (t.silent, 16)])
  | 0x040 => some 0
  | _ =>
    match arrayIx off 0x100 64 4, arrayIx off 0x200 64 4 with
    | some n, _ =>
      let q := (t.matrix.map (fun m => m.queues.getD n ⟨0, 0⟩)).getD ⟨0, 0⟩
      some (pack [(q.kind, 0), (q.depth, 4)])
    | _, some n => some (pack [(t.qfill.getD n 0, 0), (t.qdrop.getD n 0, 16)])
    | _, _ => none

/-! ### NTM (Table 9.6) -/

/-- Clock state codes (Table 9.2). -/
def clkCode : ClkState → Nat
  | .wait => 0
  | .locking => 1
  | .locked => 2
  | .slewing => 3
  | .holdover => 4
  | .master => 5

/-- NTM.STAT.NET. -/
def netCode : Option Net → Nat
  | none => 0
  | some .X => 1
  | some .Y => 2

/-- The module is in ACRE: the launch-time registers read 0 (R297). -/
def Blocks.noLaunch (b : Blocks) : Bool := b.cyc.profile == some .acre

/-- NTM.FLAG. -/
def ntmFlag (t : Ntm) : Nat :=
  pack [(bit t.fTimejump.isSome, 0), (bit t.fNetdiff.isSome, 1), (bit t.fPdmism.isSome, 2), (bit t.fBettergm.isSome, 3), (bit t.fLate.isSome, 4),
    (bit t.fEdgeovf.isSome, 5)]

/-- NTM. -/
def ntmReg (b : Blocks) (l : LocalRegs) (off : Nat) : Option Nat :=
  let t := b.ntm
  match off with
  | 0x000 => some (pack [(clkCode t.state, 0), (bit t.gmcap, 3), (netCode t.net, 4), (bit (t.state == .holdover), 6)])
  | 0x004 => some (ntmFlag t)
  | 0x008 => some (t.gmid.toNat % 2 ^ 32)
  | 0x00C => some (t.gmid.toNat / 2 ^ 32)
  | 0x010 => some (pack [(t.gmClass, 0), (t.gmPrio1, 8), (t.gmPrio2, 16), (t.gmSteps, 24)])
  | 0x014 => some (w32i (sat32i t.offs)).toNat
  | 0x018 => some (min t.mpd (2 ^ 24 - 1))
  | 0x01C => some (w32i t.rate).toNat
  | 0x020 => some t.jumpth
  | 0x024 => some (w32i (sat32i t.jumpofs)).toNat
  | 0x028 => some (pack [(t.ignProfile, 0), (t.ignBm, 16)])
  | 0x02C => some 0
  | 0x040 => some (if b.noLaunch then 0 else l.own.ltctl.toNat)
  | 0x044 => some (pack [(t.ltLate, 0), (t.ltFull, 16)])
  | 0x0E0 => some (pack [(t.edgBind, 0), (t.emax, 16)])
  | 0x0E4 => some (pack [(t.edgFill, 0), (t.edgDrop, 16)])
  | _ =>
    match arrayIx off 0x080 12 8, arrayIx off 0x084 12 8 with
    | some j, _ => some (if b.noLaunch then 0 else (l.own.ltlo.getD j 0).toNat)
    | _, some j => some (if b.noLaunch then 0 else (l.own.lthi.getD j 0).toNat)
    | _, _ => none

/-! ### SIO (Table 10.12) -/

/-- The nibble of pair `p` in IFLT0 or IFLT1. -/
def pairFaults (x : Sio) (p : Nat) : Nat :=
  let a := x.input (2 * p)
  let c := x.input (2 * p + 1)
  pack [(bit (x.pair p).disc, 0), (bit (a.brk.set || a.inter.set || c.brk.set || c.inter.set), 1),
    (bit (a.cross.set || c.cross.set), 2)]

/-- Eight nibbles from pair `p`. -/
def ifltReg (x : Sio) (p : Nat) : Nat := pack ((List.range 8).map (fun i => (pairFaults x (p + i), 4 * i)))

/-- SIO. -/
def sioReg (b : Blocks) (l : LocalRegs) (off : Nat) : Option Nat :=
  let x := b.sio
  match off with
  | 0x000 => some (pack [(sioFault x, 0), (bit x.warn, 4), (bit x.lost, 5), (bit x.wdt, 6), (bit x.fail, 7),
      (bit l.linkf, 8), (min 255 x.nocommit, 16)])
  | 0x004 => some (pack [(min x.volt 4095, 0), (min (x.voltMin.getD 0) 4095, 16)])
  | 0x008 => some l.own.lout.toNat
  | 0x00C => some x.readback.toNat
  | 0x010 => some (pack ((x.qs.zipIdx.map (fun (q, i) => (bit q.faults.any, i))) ++
      (x.qa.zipIdx.map (fun (q, i) => (bit q.latched, 16 + i))) ++
      (x.tps.zipIdx.map (fun (q, i) => (bit q.overload, 24 + i)))))
  | 0x014 => some (ifltReg x 0)
  | 0x018 => some (ifltReg x 8)
  | 0x01C => some (pack (x.params.qasafe.zipIdx.map (fun (q, i) => (q, 2 * i))))
  | 0x020 => some x.params.seq.toNat
  | 0x024 => some (pack [(x.abandoned, 0), (x.wdtrip, 16)])
  | 0x028 => some 0
  | _ =>
    match arrayIx off 0x040 16 4, arrayIx off 0x080 16 4 with
    | some p, _ =>
      let c := x.cfg p
      some (pack [(c.func, 0), (c.tpa, 4), (c.tpb, 6), (c.dt, 8), (c.osd, 18)])
    | _, some n => some (x.params.imin.getD n 0)
    | _, _ => none

/-! ### CHD (Table 11.11) -/

/-- CHD.STAT.HOST codes. -/
def hostCode : Host4 → Nat
  | .idle => 0
  | .horeq => 1
  | .ready => 2
  | .go => 3
  | .cancelled => 4

/-- CHD.MAGE: furlongs since the newest applied set (R355). -/
def chdAge (b : Blocks) : Nat :=
  if b.chd.applied then min 255 ((b.cyc.fnum + 2 ^ 32 - b.chd.mseq.toNat) % 2 ^ 32) else 255

/-- CHD. -/
def chdReg (b : Blocks) (off : Nat) : Option Nat :=
  let c := b.chd
  match off with
  | 0x000 => some (pack [(bit c.up.1, 0), (bit c.up.2, 1), (bit c.heard, 2), (bit c.evid, 3), (hostCode c.host, 4),
      (bit c.split, 7), (bit c.conflict, 8), (bit c.buildmm, 9)])
  | 0x004 => some (pack [(c.pmode, 0), (c.pstr, 4), (bit c.psenior, 6), (bit c.phome, 7)])
  | 0x008 => some (pack [(c.bytes, 0), (c.nchunk, 20)])
  | 0x00C => some c.mseq.toNat
  | 0x010 => some (chdAge b)
  | 0x014 => some (pack [(c.sent, 0), (c.abandon, 16), (c.cut, 24)])
  | 0x018 => some (pack [(c.err.1, 0), (c.err.2, 8), (c.down.1, 16), (c.down.2, 24)])
  | 0x01C => some (pack [(c.tkoCause, 0), (bit c.tkoStale, 2), (c.tkoLag, 8), (c.tkoFurl % 2 ^ 16, 16)])
  | 0x020 => some (pack [(bit c.home.en, 0), (bit c.home.home, 1), (c.home.win, 3), (c.home.wlen, 20)])
  | 0x024 => some c.secs
  | 0x028 => some (c.prseq % 2 ^ 32)
  | 0x02C => some (c.prseq / 2 ^ 32 % 2 ^ 16)
  | 0x030 => some 0
  | _ => none

/-! ### MEM, BST, PTB (Tables 12.10, 12.12, 12.14) -/

/-- RPR[n]. -/
def repairReg (r : Option Repair) : Nat :=
  match r with
  | some x => pack [(x.bank, 0), (bit x.column, 3), (bit x.fused, 4), (x.index, 5), (1, 31)]
  | none => 0

/-- MEM. -/
def memReg (b : Blocks) (l : LocalRegs) (off : Nat) : Option Nat :=
  let m := b.mem
  match off with
  | 0x000 => some (pack [(m.done.toNat, 0), (m.fail.toNat, 8)])
  | 0x004 => some m.req.toNat
  | 0x008 => some (pack [(m.bank, 0), (bit m.active, 3), (m.piece, 4)])
  | 0x00C => some (pack [(l.loc.eccOwn, 0), (m.shared, 16)])
  | 0x010 => some (pack [(l.loc.p0busy, 0), (l.loc.p1busy, 16)])
  | 0x014 => some (pack [(min 255 (l.repairs.filter (fun r => !r.fused)).length, 0),
      (min 255 (l.repairs.filter Repair.fused).length, 8), (l.freeRows, 16)])
  | 0x018 => some (pack [(m.fuse.bank, 0), (bit m.fuse.burn, 3), (bit m.fuse.done, 8), (bit m.fuse.err, 9),
      (m.fuseLeft, 16)])
  | 0x01C => some 0
  | _ => (arrayIx off 0x040 32 4).map (fun n => repairReg l.repairs[n]?)

/-- SLC[n].AGE. -/
def sliceAge (b : Blocks) (x : SliceSt) : Nat :=
  match x.doneAt with
  | some f => min (2 ^ 24 - 1) (b.cyc.fnum - f)
  | none => 2 ^ 24 - 1

/-- BST. -/
def bstReg (b : Blocks) (off : Nat) : Option Nat :=
  let t := b.bst
  match off with
  | 0x000 => some (pack [(t.cur, 0), (bit t.curResv, 7), (bit t.overdue, 8), (bit t.fail, 9), (t.rounds % 2 ^ 16, 16)])
  | 0x004 => some (pack [(t.last, 0), (t.outcome, 8)])
  | 0x008 => some t.rsig.toNat
  | 0x00C => some (pack [(t.rcount, 0), (t.rcomplete, 16)])
  | 0x010 => some (pack [(t.abandon, 0), (t.resrun, 16)])
  | 0x014 => some 0
  | _ => (arrayIx off 0x100 69 4).map (fun n =>
      let x := t.slice n
      pack [(x.cons, 0), (bit x.pass, 4), (bit x.retry, 5), (bit x.failed, 6), (sliceAge b x, 8)])

/-- PTB. -/
def ptbReg (b : Blocks) (l : LocalRegs) (off : Nat) : Option Nat :=
  match off with
  | 0x000 => some (pack [(bit l.ptb.en, 0), (bit b.ptb.inforce, 1)])
  | 0x004 => some l.ptb.strd.toNat
  | 0x008 => some l.ptb.slotd.toNat
  | 0x00C => some l.ptb.qbp.toNat
  | 0x010 => some l.ptb.chdd.toNat
  | 0x014 => some b.ptb.cnt
  | _ => none

/-! ### EVR, UPD, MBX (Tables 13.11, 14.13, 16.4, 16.8) -/

/-- K3M status word `i` as latched. -/
def Blocks.ks (b : Blocks) (i : Nat) : Nat := (b.mbx.ks.getD i 0).toNat

/-- EVR. -/
def evrReg (b : Blocks) (l : LocalRegs) (off : Nat) : Option Nat :=
  match off with
  | 0x000 => some (pack [(field (b.ks 0) 0 2, 0), (bit b.k3mUp, 2), (field (b.ks 0) 3 17, 3)])
  | 0x004 => some (b.ks 1)
  | 0x008 => some (b.ks 2 % 2 ^ 16)
  | 0x00C => some (pack [(l.loc.qdrop, 0), (l.loc.edrop, 16)])
  | 0x010 => some b.k3mLoss.toNat
  | 0x014 => some 0
  | _ => none

/-- UPD. -/
def updReg (b : Blocks) (off : Nat) : Option Nat :=
  match off with
  | 0x000 => some (pack [(field (b.ks 3) 0 9, 0), (bit b.seals.dis, 9), (field (b.ks 3) 10 1, 10), (field (b.ks 3) 16 8, 16)])
  | 0x004 => some (b.ks 4)
  | 0x008 => some (b.ks 5)
  | 0x00C => some (b.ks 6)
  | 0x010 => some (b.ks 7)
  | 0x014 => some (b.ks 8 % 2 ^ 17)
  | 0x018 => some (pack [(b.seals.reads.a.toNat, 0), (b.seals.reads.b.toNat, 4), (b.seals.reads.c.toNat, 8)])
  | 0x01C => some (b.ks 9 % 2 ^ 16)
  | _ => none

/-- Word `i` of the body of a mailbox item. -/
def Item.word (m : Item) (i : Nat) : Nat := ofLe ((m.body.drop (4 * i)).take 4)

/-- The header and body of a mailbox item (Table 16.4), at offset `off` from MSEQ. -/
def itemReg (m : Item) (off : Nat) : Option Nat :=
  match off with
  | 0x000 => some m.mseq.toNat
  | 0x004 => some (pack [(m.kind, 0), (m.len, 16)])
  | 0x008 => some m.cmd.toNat
  | 0x00C => some m.origin.toNat
  | _ => (arrayIx off 0x010 508 4).map m.word

/-- MBX. -/
def mbxReg (b : Blocks) (off : Nat) : Option Nat :=
  match arrayIx off 0x800 16 4 with
  | some i => some (b.ks i)
  | none => itemReg b.mbx.item off

/-! ### The vertex blocks (Table 16.2) -/

/-- What the register at an address of the register blocks shows; none where no register is listed (R469). -/
def blockReg (b : Blocks) (l : LocalRegs) (a : Nat) : Option Nat :=
  let off := a % 0x1000
  match a / 0x1000 with
  | 0x08000 => cycReg b l off
  | 0x08001 => latReg b l off
  | 0x08002 => cenReg b l off
  | 0x08003 => ttbReg b off
  | 0x08004 => ntmReg b l off
  | 0x08005 => sioReg b l off
  | 0x08006 => chdReg b off
  | 0x08007 => memReg b l off
  | 0x08008 => bstReg b off
  | 0x08009 => evrReg b l off
  | 0x0800A => updReg b off
  | 0x0800B => ptbReg b l off
  | 0x0800C => mbxReg b off
  | _ => none

/-- What vertex `v` reads at an address of the register blocks. -/
def State.readReg (s : State) (v : Vtx) (a : Nat) : Option Nat := blockReg (s.view.get v) (s.localRegs v) a

/-- The register holds a vertex-local field (R215). -/
def regLocal (a : Nat) : Bool :=
  let off := a % 0x1000
  match a / 0x1000 with
  | 0x08000 => off == 0x00C || (arrayIx off 0x080 8 4).isSome
  | 0x08001 => off == 0x00C || off == 0x010 || off == 0x020
  | 0x08002 => off == 0x020 || off == 0x024
  | 0x08005 => off == 0x000
  | 0x08007 => off == 0x00C || off == 0x010 || off == 0x014 || (arrayIx off 0x040 32 4).isSome
  | 0x08009 => off == 0x00C
  | _ => false

/-- The access waits for the pass of the furlong (R205). -/
def regWaits (a : Nat) (isWrite : Bool) : Bool :=
  a / 0x1000 == 0x08001 && (if isWrite then a % 0x1000 == 0x024 else latWaits (a % 0x1000))

/-! ### The K3M blocks (Tables 13.13, 14.15, 16.5, 16.7) -/

/-- RECN. -/
def recnReg (r : Recorder) (off : Nat) : Option Nat :=
  match off with
  | 0x000 => some r.stat
  | 0x004 => some (r.newest % 2 ^ 32)
  | 0x008 => some (r.newest / 2 ^ 32 % 2 ^ 16)
  | 0x00C => some ((if r.log.any LogRec.whole then r.oldest else 0) % 2 ^ 32)
  | 0x010 => some ((if r.log.any LogRec.whole then r.oldest else 0) / 2 ^ 32 % 2 ^ 16)
  | 0x014 => some ((r.sector * sectorSize + r.pos) % 2 ^ 27)
  | 0x018 => some (pack [(r.ovf, 0), (min (2 ^ 16 - 1) r.heldCount, 16)])
  | 0x01C => some r.retired.length
  | 0x020 => some r.sentinel.length
  | 0x024 => some (bit r.frozen.isSome)
  | _ => none

/-- UPDM. -/
def updmReg (s : State) (off : Nat) : Option Nat :=
  let u := s.upd
  let j := u.slots.cur
  match off with
  | 0x000 => some (pack [(sstateCode u.sstate, 0), (bit s.mirrorBlk.cyc.sw2, 3), (bit u.s0.isSome + bit u.s1.isSome, 4)])
  | 0x004 => some u.dlLen
  | 0x008 => some u.dlPos
  | 0x00C => some (pack [(jstateCode j.state, 0), (j.act, 3), (j.ret.getD 3, 4), (bit j.fault, 6), (j.block, 16)])
  | 0x010 => some (pack [(bit u.otp.vendor.isSome, 0), (bit u.otp.vendor.isSome, 1), (bit u.otp.operator.isSome, 2),
      (bit u.otp.operator.isSome, 3), (u.otp.svn, 8)])
  | 0x014 => some u.hssidx
  | 0x018 => some (pack ((u.locks.take 4).zipIdx.map (fun (k, i) => (min 15 k.fails, 4 * i))))
  | 0x01C => some 0
  | _ => none

/-- MBOX: MBCTL, the status words and the page. -/
def mboxReg (m : Mbox) (off : Nat) : Option Nat :=
  if off = 0 then some (bit m.post)
  else
    match arrayIx off 0x100 16 4 with
    | some i => some (m.ks.getD i 0).toNat
    | none => if 0x800 ≤ off then itemReg m.page (off - 0x800) else none

/-- HWIN. -/
def hwinReg (s : State) (off : Nat) : Option Nat :=
  let h := s.hwin
  match off with
  | 0x000 => some (pack [(bit h.pres, 0), (bit h.en, 1), (bit (testB (Memory.load h.mem 0 2) 1), 2), (h.reqs, 16)])
  | 0x004 => some (pack [(h.k3mBusy, 0), (h.hostBusy, 16)])
  | 0x008 => some 0
  | _ => none

/-- An area of the image: base and size in 16-byte units (Table 2.19). -/
def inArea (base size a : Nat) : Bool := decide (0x02000000 + 16 * base ≤ a) && decide (a < 0x02000000 + 16 * (base + size))

/-- The region that holds an image address: the output areas lie in the working bank (R34). -/
def imageRegion (tasks : List TaskDecl) (a : Nat) : Region :=
  if tasks.any (fun t => inArea t.outBase t.outSize a) then .imgOut else .imgIn

/-- The plain DWORD that DMD shows of code, instance, image, term and element memory; 0 elsewhere. -/
def Vertex.dword (x : Vertex) (tasks : List TaskDecl) (a : Nat) : Nat :=
  let half := fun (w : Long) => if a % 8 = 0 then w.toNat % 2 ^ 32 else w.toNat / 2 ^ 32
  if a < 0x00400000 then x.mem.load .code a 4
  else if 0x01000000 ≤ a ∧ a < 0x01800000 then x.mem.load .inst a 4
  else if 0x02000000 ≤ a ∧ a < 0x02040000 then x.mem.load (imageRegion tasks a) a 4
  else if 0x03000000 ≤ a ∧ a < 0x04000000 then x.mem.load .term a 4
  else if 0x04000000 ≤ a ∧ a < 0x04080000 ∧ x.lat.blank then 0
  else if 0x04000000 ≤ a ∧ a < 0x04040000 then
    match x.lat.elems[(a - 0x04000000) / 32]? with
    | some e =>
      match a % 32 / 8 with
      | 0 => half e.word0
      | 1 => half e.word1
      | 2 => half e.word2
      | _ => 0
    | none => 0
  else if 0x04040000 ≤ a ∧ a < 0x04060000 then
    match x.lat.routes[(a - 0x04040000) / 8]? with
    | some r => half r.word
    | none => 0
  else if 0x04060000 ≤ a ∧ a < 0x04060800 then (x.lat.sbm ((a - 0x04060000) / 4)).toNat
  else 0

/-- DBG (Table 7.10). -/
def dbgReg (tasks : List TaskDecl) (x : Vertex) (off : Nat) : Option Nat :=
  let d := x.dbg
  match off with
  | 0x00 => some (pack [(bit (d.started && !d.halted && !d.single), 0), (bit (d.started && !d.halted && d.single), 1),
      (bit d.halted, 2), (d.why, 3), (d.trapc, 8)])
  | 0x04 => some d.dfur.toNat
  | 0x08 => some x.core.pc.toNat
  | 0x0C => some x.core.tcw
  | 0x50 => some x.core.ib.toNat
  | 0x54 => some x.core.xb.toNat
  | 0x58 => some x.core.kb.toNat
  | 0x90 => some d.dma.toNat
  | 0x94 => some (x.dword tasks d.dma.toNat)
  | 0x98 => some (d.lastSig.toNat % 2 ^ 32)
  | 0x9C => some (d.lastSig.toNat / 2 ^ 32)
  | _ =>
    match arrayIx off 0x10 16 4, arrayIx off 0x60 8 4, arrayIx off 0x80 4 4 with
    | some i, _, _ => some (x.reg (BitVec.ofNat 4 i)).toNat
    | _, some n, _ => some (d.ibp.getD n 0).toNat
    | _, _, some n => some (d.dbp.getD n 0).toNat
    | _, _, _ => none

/-- Vertex `v` as its debug channel shows it: a closed channel reaches no vertex (R231), and its registers read their reset values
(DESIGN CHOICE, notes/assumptions/69.md). -/
def State.throughChannel (s : State) (v : Vtx) : Vertex := if s.blk.cen.debugged.get v then s.v v else .reset

/-- What the K3M reads at an aligned address of its map; none ends with a bus error (R473). -/
def State.k3mRead (s : State) (a : Nat) : Option Nat :=
  if 0x30000000 ≤ a ∧ a < 0x30030000 then
    if a % 0x10000 < 0xD000 then
      (Vtx.ofNum ((a - 0x30000000) / 0x10000)).bind
        (fun v => blockReg (s.mirror.get v).blk (s.mirror.get v).regs (0x08000000 + a % 0x10000))
    else none
  else if 0x41000000 ≤ a ∧ a < 0x41010000 then some (ofLe (s.windowBytes (a - 0x41000000) 4))
  else
    match a / 0x1000 with
    | 0x40000 => mboxReg s.mbox (a % 0x1000)
    | 0x40001 => recnReg s.recorder (a % 0x1000)
    | 0x40002 => updmReg s (a % 0x1000)
    | 0x40003 => hwinReg s (a % 0x1000)
    | 0x40004 => (Vtx.ofNum (a % 0x1000 / 0x100)).bind (fun v => dbgReg s.blk.cyc.tasks (s.throughChannel v) (a % 0x100))
    | _ => none

end Sys2Proof.Machine
end

