-- ==== Sys2Proof/Machine/RegWrite.lean ====
section
/-! DEFINITION. Register writes (R14 to R16, R205, R232, R297, R342, R470 to R473): what a write does at each address, for the
instruction STW.G and for the register rows alike. A write to a field of the module in common acts when two vertices in
service have written it (notes/assumptions/20.md). -/

namespace Sys2Proof.Machine

/-! ### Release of tasks (R57) -/

/-- The tasks released in furlong `f`, ascending. -/
def tasksFor (l : List TaskDecl) (f : Nat) : List Nat :=
  (l.zipIdx.filter (fun (t, _) => t.en && f % 2 ^ t.period == t.offset)).map Prod.snd

/-! ### Vertex registers -/

/-- TUSE[k].CLR. -/
def Vertex.clearUse (x : Vertex) (k : Nat) : Vertex :=
  { x with loc := { x.loc with tuseMax := setNth x.loc.tuseMax k 0, tuseOvr := setNth x.loc.tuseOvr k 0 } }

/-- LAT.CTL.CLR, once the pass is complete (R205). -/
def Vertex.clearLat (x : Vertex) : Vertex :=
  if x.lat.passDone then
    { x with lat := { x.lat with pmax := 0, resvOk := 0, resvSame := 0, relOk := 0, relAppr := 0 } }
  else x

/-- CEN.CTL.CLR. -/
def Vertex.clearSkew (x : Vertex) : Vertex := { x with loc := { x.loc with skewMax := 0, scfail := 0 } }

/-- The TTB counters after CLR. -/
def Ttb.clear (t : Ttb) : Ttb :=
  { t with
    pairs := 0, sgl := ⟨0, 0⟩, dis := 0, late := 0, err := ⟨⟨0, 0, 0, 0⟩, ⟨0, 0, 0, 0⟩⟩, missed := 0, suppr := 0,
    silent := 0, qdrop := List.replicate 64 0 }

/-- TTB.FLAG after a W1C write in the clock `nt`. -/
def Ttb.clearFlags (t : Ttb) (nt : Nat) (val : Word) : Ttb :=
  { t with
    fDisagree := t.fDisagree.cleared nt (val.getLsbD 0), fForeign := t.fForeign.cleared nt (val.getLsbD 1),
    fTimeconf := t.fTimeconf.cleared nt (val.getLsbD 2), fCheckfail := t.fCheckfail.cleared nt (val.getLsbD 3),
    fOutmm := t.fOutmm.cleared nt (val.getLsbD 4), fFwddrop := t.fFwddrop.cleared nt (val.getLsbD 5) }

/-- The NTM counters after CLR. -/
def Ntm.clear (t : Ntm) : Ntm := { t with ignProfile := 0, ignBm := 0, ltLate := 0, ltFull := 0, edgDrop := 0 }

/-- NTM.FLAG after a W1C write in the clock `nt`. -/
def Ntm.clearFlags (t : Ntm) (nt : Nat) (val : Word) : Ntm :=
  { t with
    fTimejump := t.fTimejump.cleared nt (val.getLsbD 0), fNetdiff := t.fNetdiff.cleared nt (val.getLsbD 1),
    fPdmism := t.fPdmism.cleared nt (val.getLsbD 2), fBettergm := t.fBettergm.cleared nt (val.getLsbD 3),
    fLate := t.fLate.cleared nt (val.getLsbD 4), fEdgeovf := t.fEdgeovf.cleared nt (val.getLsbD 5) }

/-- The SIO counters after CLR. -/
def Sio.clear (x : Sio) : Sio := { x with voltMin := none, abandoned := 0, wdtrip := 0 }

/-- The CHD counters after CLR. -/
def Chd.clear (c : Chd) : Chd := { c with sent := 0, abandon := 0, cut := 0, err := (0, 0), down := (0, 0) }

/-- A write of the launch-time set by vertex `v`: no effect in ACRE (R297). -/
def State.writeLaunch (s : State) (v : Vtx) (f : OwnWrites → OwnWrites) : State :=
  if s.profile = .acre then s else s.modV v (fun x => { x with own := f x.own })

/-- Vertex `v` writes its local output word (R36, R342): the reserved bits read 0. The last write before phase 2 becomes its
shadow when phase 2 begins. -/
def State.writeLout (s : State) (v : Vtx) (val : Word) : State :=
  s.modV v (fun x => { x with own := { x.own with lout := val &&& 0x0FFFFFFF#32 } })

/-- TTB_CTL_CLR of vertex `v`. -/
def State.ttbCtl (s : State) (v : Vtx) : State := s.voted v 0x08003040 1 (fun t => t.modTtb Ttb.clear)

/-- A W1C write of TTB.FLAG. -/
def State.ttbFlagWrite (s : State) (v : Vtx) (val : Word) : State :=
  s.voted v 0x08003020 val (fun t => t.modTtb (fun b => b.clearFlags t.nt val))

/-- NTM_CTL_CLR of vertex `v`. -/
def State.ntmCtl (s : State) (v : Vtx) : State := s.voted v 0x0800402C 1 (fun t => t.modNtm Ntm.clear)

/-- A W1C write of NTM.FLAG. -/
def State.ntmFlagWrite (s : State) (v : Vtx) (val : Word) : State :=
  s.voted v 0x08004004 val (fun t => t.modNtm (fun b => b.clearFlags t.nt val))

/-- SIO_CTL_CLR of vertex `v`. -/
def State.sioCtl (s : State) (v : Vtx) : State := s.voted v 0x08005028 1 (fun t => t.modSio Sio.clear)

/-- CHD_CTL_CLR of vertex `v`. -/
def State.chdCtl (s : State) (v : Vtx) : State := s.voted v 0x08006030 1 (fun t => t.modChd Chd.clear)

/-- Act when bit 0 of the written value is 1. -/
def ifClr (val : Word) (s t : State) : State := if val.getLsbD 0 then t else s

/-- A write of vertex `v` to a CYC register. -/
def State.writeCyc (s : State) (v : Vtx) (off : Nat) (val : Word) : State :=
  if off = 0x014 then s.voted v 0x08000014 val (fun t => t.takeCommand val)
  else
    match arrayIx off 0x080 8 4 with
    | some k => if val.msb then s.modV v (fun x => x.clearUse k) else s
    | none => s

/-- A write of vertex `v` to an NTM register. -/
def State.writeNtm (s : State) (v : Vtx) (off : Nat) (val : Word) : State :=
  match off with
  | 0x004 => s.ntmFlagWrite v val
  | 0x02C => ifClr val s (s.ntmCtl v)
  | 0x040 => s.writeLaunch v (fun o => { o with ltctl := val &&& 0x00000FFF#32 })
  | _ =>
    match arrayIx off 0x080 12 8, arrayIx off 0x084 12 8 with
    | some j, _ => s.writeLaunch v (fun o => { o with ltlo := setNth o.ltlo j val })
    | _, some j => s.writeLaunch v (fun o => { o with lthi := setNth o.lthi j val })
    | _, _ => s

/-- A write of vertex `v` to a MEM register. -/
def State.writeMem (s : State) (v : Vtx) (off : Nat) (val : Word) : State :=
  match off with
  | 0x000 => s.memDoneWrite v val
  | 0x004 => s.pmctlWrite v val
  | 0x018 => s.fuseWrite v val true
  | 0x01C => ifClr val s (s.memCtl v)
  | _ => s

/-- A write of vertex `v` to an address of the register blocks at which a register is listed. A write to an RO field has no
effect (R469). -/
def State.writeReg (s : State) (v : Vtx) (a : Nat) (val : Word) : State :=
  let off := a % 0x1000
  match a / 0x1000 with
  | 0x08000 => s.writeCyc v off val
  | 0x08001 => if off = 0x024 then ifClr val s (s.modV v Vertex.clearLat) else s
  | 0x08002 => if off = 0x030 then ifClr val s (s.modV v Vertex.clearSkew) else s
  | 0x08003 => if off = 0x020 then s.ttbFlagWrite v val else if off = 0x040 then ifClr val s (s.ttbCtl v) else s
  | 0x08004 => s.writeNtm v off val
  | 0x08005 => if off = 0x008 then s.writeLout v val else if off = 0x028 then ifClr val s (s.sioCtl v) else s
  | 0x08006 => if off = 0x030 then ifClr val s (s.chdCtl v) else s
  | 0x08007 => s.writeMem v off val
  | 0x08008 => if off = 0x014 then ifClr val s (s.bstCtl v) else s
  | 0x08009 => if off = 0x014 then ifClr val s (s.evrCtl v) else s
  | 0x0800B => if off < 0x014 then s.ptbSet v (BitVec.ofNat 12 off) val else s
  | _ => s

/-! ### The rows of the vertices -/

/-- LOUT_WRITE. -/
def execLoutWrite (v : Vtx) (val : Word) (s : State) : Host.Outcome State Fault Refusal := ok (s.writeLout v val)

/-- TUSE_CLR. -/
def execTuseClr (v : Vtx) (k : Fin 8) (s : State) : Host.Outcome State Fault Refusal :=
  ok (s.modV v (fun x => x.clearUse k.val))

/-- LAT_CTL_CLR. -/
def execLatCtlClr (v : Vtx) (s : State) : Host.Outcome State Fault Refusal := ok (s.modV v Vertex.clearLat)

/-- CEN_CTL_CLR. -/
def execCenCtlClr (v : Vtx) (s : State) : Host.Outcome State Fault Refusal := ok (s.modV v Vertex.clearSkew)

/-- TTB_CTL_CLR. -/
def execTtbCtlClr (v : Vtx) (s : State) : Host.Outcome State Fault Refusal := ok (s.ttbCtl v)

/-- TTB_FLAG_CLEAR. -/
def execTtbFlagClear (v : Vtx) (val : Word) (s : State) : Host.Outcome State Fault Refusal := ok (s.ttbFlagWrite v val)

/-- NTM_CTL_CLR. -/
def execNtmCtlClr (v : Vtx) (s : State) : Host.Outcome State Fault Refusal := ok (s.ntmCtl v)

/-- NTM_FLAG_CLEAR. -/
def execNtmFlagClear (v : Vtx) (val : Word) (s : State) : Host.Outcome State Fault Refusal := ok (s.ntmFlagWrite v val)

/-- SIO_CTL_CLR. -/
def execSioCtlClr (v : Vtx) (s : State) : Host.Outcome State Fault Refusal := ok (s.sioCtl v)

/-- CHD_CTL_CLR. -/
def execChdCtlClr (v : Vtx) (s : State) : Host.Outcome State Fault Refusal := ok (s.chdCtl v)

/-! ### The debug channel (R231, R232, Table 7.10) -/

/-- The registers and counters of a vertex at the start of a debug furlong, its pass done. -/
def Vertex.debugPass (x : Vertex) : Vertex :=
  let y := { x with
             core := { x.core with retired := 0, stream := [] }, strideNo := 0, strides := 0, stopped := false,
             cur := none, last := none, lat := { x.lat with fResv := 0, fRel := 0 } }
  y.runPass 0

/-- A debug furlong begins: a pass of the lattice, then the tasks released for DFUR. An uncorrectable image word traps, as
any trap of a debug furlong. -/
def State.debugStart (s : State) (v : Vtx) (one : Bool) : State :=
  let x := s.v v
  let l := tasksFor s.blk.cyc.tasks x.dbg.dfur.toNat
  match x.passEcc with
  | some _ =>
    s.modV v (fun x =>
      { x with dbg := { x.dbg with halted := true, why := 4, trapc := trapCode .ecc, started := false } })
  | none =>
    s.modV v (fun x =>
      let y := x.debugPass
      { y with
        todo := l, released := l,
        dbg := { y.dbg with
                 halted := l.isEmpty, why := if l.isEmpty then 6 else y.dbg.why, started := !l.isEmpty, single := one,
                 fresh := true } })

/-- DCTL.RUN or DCTL.STEP. -/
def State.debugGo (s : State) (v : Vtx) (one : Bool) : State :=
  let d := (s.v v).dbg
  if !s.blk.cen.debugged.get v then s
  else if d.started then
    s.modV v (fun x => { x with dbg := { x.dbg with halted := false, single := one, fresh := x.dbg.halted } })
  else s.debugStart v one

/-- DCTL_RUN: a vertex that is not halted runs on. -/
def execDctlRun (v : Vtx) (s : State) : Host.Outcome State Fault Refusal :=
  ok (if (s.v v).dbg.halted then s.debugGo v false else s)

/-- DCTL_STEP. -/
def execDctlStep (v : Vtx) (s : State) : Host.Outcome State Fault Refusal := ok (s.debugGo v true)

/-- A K3M write to a register of the debug channel of vertex `v`: W0 to W15 and TCW[4:0] are the only registers of the
program that it reaches. A closed channel is not reached. -/
def State.writeDbg (s : State) (v : Vtx) (off : Nat) (val : Word) : State :=
  let d := (s.v v).dbg
  let put := fun (q : Debug) => s.modV v (fun x => { x with dbg := q })
  if !s.blk.cen.debugged.get v then s
  else
    match off with
    | 0x00 =>
      let t := if val.getLsbD 0 && d.halted then s.debugGo v false else s
      if val.getLsbD 1 then t.debugGo v true else t
    | 0x04 => if d.halted then put { d with dfur := val } else s
    | 0x0C => s.modV v (fun x =>
        x.setFlags ⟨val.getLsbD 0, val.getLsbD 1, val.getLsbD 2, val.getLsbD 3, val.getLsbD 4⟩)
    | 0x90 => put { d with dma := val &&& 0xFFFFFFFC#32 }
    | _ =>
      match arrayIx off 0x10 16 4, arrayIx off 0x60 8 4, arrayIx off 0x80 4 4 with
      | some i, _, _ => s.modV v (fun x => { x with core := x.core.setReg (BitVec.ofNat 4 i) val })
      | _, some n, _ => put { d with ibp := setNth d.ibp n (val &&& 0xFFFFFFFD#32) }
      | _, _, some n => put { d with dbp := setNth d.dbp n (val &&& 0xFFFFFFF9#32) }
      | _, _, _ => s

/-! ### The K3M (R470 to R475) -/

/-- A word of the MBOX page is written. -/
def Item.write (m : Item) (off : Nat) (val : Word) : Item :=
  match off with
  | 0x000 => { m with mseq := val }
  | 0x004 => { m with kind := field val.toNat 0 8, len := field val.toNat 16 16 }
  | 0x008 => { m with cmd := val }
  | 0x00C => { m with origin := val &&& 0x0000000F#32 }
  | _ =>
    let b := m.body ++ List.replicate (2032 - m.body.length) 0
    { m with body := b.take (off - 16) ++ leBytes 4 val.toNat ++ b.drop (off - 12) }

/-- A K3M write to the MBOX block. While POST is 1 a write to the page is refused (R470). -/
def State.writeMbox (s : State) (off : Nat) (val : Word) : State :=
  if off = 0 then (if val.getLsbD 0 then s.postItem else s)
  else
    match arrayIx off 0x100 16 4 with
    | some i => { s with mbox := { s.mbox with ks := setNth s.mbox.ks i val } }
    | none =>
      if 0x800 ≤ off ∧ off % 4 = 0 ∧ !s.mbox.post then
        { s with mbox := { s.mbox with page := s.mbox.page.write (off - 0x800) val } }
      else s

/-- RECN.CTL: FREEZE, THAW, SCLR, CLR. -/
def State.writeRecn (s : State) (val : Word) : State :=
  let a := if val.getLsbD 0 && s.recorder.frozen.isNone then s.modRec (fun r => r.freeze .s0 s.nt) else s
  let b := if val.getLsbD 1 && a.recorder.frozen.isSome then a.thaw else a
  let c := if val.getLsbD 2 then b.sentinelClear else b
  if val.getLsbD 3 then c.modRec (fun r => { r with ovf := 0 }) else c

/-- HWIN.CTL.CLR. -/
def State.hwinClear (s : State) : State := { s with hwin := { s.hwin with reqs := 0, k3mBusy := 0, hostBusy := 0 } }

/-- HWIN_CTL_CLR. -/
def execHwinCtlClr (s : State) : Host.Outcome State Fault Refusal := ok s.hwinClear

/-- A K3M write in its own space. One to an unlisted address or to the status mirror ends with a bus error and has no effect
(R473). -/
def State.k3mWrite (s : State) (a : Nat) (val : Word) : State :=
  if a % 4 ≠ 0 then s
  else if 0x41000000 ≤ a ∧ a < 0x41010000 then
    s.windowStore (a - 0x41000000) 4 val.toNat
  else
    match a / 0x1000 with
    | 0x40000 => s.writeMbox (a % 0x1000) val
    | 0x40001 => if a % 0x1000 = 0x024 then s.writeRecn val else s
    | 0x40002 => if a % 0x1000 = 0x01C then ifClr val s (s.dropDownload 2) else s
    | 0x40003 => if a % 0x1000 = 0x008 then ifClr val s s.hwinClear else s
    | 0x40004 =>
      match Vtx.ofNum (a % 0x1000 / 0x100) with
      | some v => s.writeDbg v (a % 0x100) val
      | none => s
    | _ => s

/-- What a K3M read at an address leaves: a read of DMD of an open debug channel adds 4 to DMA (Table 7.10), one of the host window
corrects the single-bit error of its word (R368), and no other read has an effect. -/
def State.afterK3mRead (s : State) (a : Nat) : State :=
  if a / 0x1000 = 0x40004 ∧ a % 0x100 = 0x94 then
    match Vtx.ofNum (a % 0x1000 / 0x100) with
    | some v =>
      if s.blk.cen.debugged.get v then s.modV v (fun x => { x with dbg := { x.dbg with dma := x.dbg.dma + 4 } }) else s
    | none => s
  else if 0x41000000 ≤ a ∧ a < 0x41010000 then s.scrubShared (inWindowWords (a - 0x41000000) 4)
  else s

/-- A K3M write at an address ends with a bus error: an unlisted address, the status mirror (R473), or the page while POST is 1
(R470). -/
def State.k3mWriteFails (s : State) (a : Nat) : Bool :=
  a % 4 != 0 || (s.k3mRead a).isNone || decide (a < 0x40000000) || (decide (0x40000800 ≤ a) && decide (a < 0x40001000) && s.mbox.post)

/-- A K3M access ends with a bus error and has no effect. -/
def State.busError (s : State) (a : Nat) : State := s.emit (.busError a)

/-- A write of vertex `v` to an address at which no register is listed traps with ACCESS in the running task (R469). -/
def State.badRegister (s : State) (v : Vtx) (a : Nat) : State :=
  if s.inService v || s.trial v || s.debugging v then s.raiseTrap v .access 0 a (s.v v).core.pc (s.v v).core.count else s

/-- REGISTER_WRITE: a write of a vertex to a register, or an access of the K3M in its own space. -/
def execRegisterWrite (who : Writer) (addr val : Word) (s : State) : Host.Outcome State Fault Refusal :=
  let a := addr.toNat
  match who with
  | .vertex v => ok (if (s.readReg v a).isSome then s.writeReg v a val else s.badRegister v a)
  | .k3m => ok (if s.k3mWriteFails a then s.busError a else s.k3mWrite a val)
  | .k3mReads => ok (if a % 4 != 0 || (s.k3mRead a).isNone then s.busError a else s.afterK3mRead a)

end Sys2Proof.Machine
end

