-- ==== Sys2Proof/Machine/Freeze.lean ====
section
/-! DEFINITION. The freeze of the input areas at a furlong boundary: slot bindings, event bindings, the local input record
and the edge binding (R59, R258, R265 to R268, R302, R319, R320). -/

namespace Sys2Proof.Machine

/-- A DWORD written into the input side of the image SRAM by a port: no signature record is formed. -/
def VMem.putIn (m : VMem) (a : Nat) (w : Nat) : VMem := m.store .imgIn a 4 w

/-- DWORDs written one after another. -/
def VMem.putInAll (m : VMem) (a : Nat) : List Nat → VMem
  | [] => m
  | w :: ws => (m.putIn a w).putInAll (a + 4) ws

/-- An AGED word (Table 3.5). -/
def agedWord (val age : Nat) (stale : Bool) : Nat := val % 2 ^ 16 + 2 ^ 16 * age + 2 ^ 24 * bit stale

/-- Change the memory of every vertex. -/
def State.modMem (s : State) (f : VMem → VMem) : State := s.modAll (fun _ x => { x with mem := f x.mem })

/-- Rods from a rod count to the boundary that opens furlong `f` (R265). -/
def rodsSince (f rc : Nat) : Nat := (40 * f + 2 ^ 32 - rc % 2 ^ 32) % 2 ^ 32

/-! ### Slot bindings (R265 to R268) -/

/-- The receive descriptors of a binding, with their indices. -/
def bindDescs (m : Matrix) (p : Position) (n : Nat) : List (Nat × SlotDesc) :=
  (m.slots.zipIdx.map (fun (d, i) => (i, d))).filter (fun q => q.2.bind == n && descDir p q.2 == 1)

/-- The occurrence that last fell due among the descriptors of a binding. -/
def State.lastOcc (s : State) (l : List (Nat × SlotDesc)) : Option OccState :=
  (l.filterMap (fun q => s.nic.occ[q.1]?)).foldl (fun a o =>
    match o.due, a with
    | none, _ => a
    | some _, none => some o
    | some w, some b =>
      match b.due with
      | some u => if newer w u then some o else a
      | none => some o) none

/-- The descriptor of a binding to which a frame belongs. -/
def frameDesc (l : List (Nat × SlotDesc)) (f : Frame) : Option SlotDesc :=
  (l.map Prod.snd).find? (fun d => srcBase d.owner.src == srcBase f.src && d.slot == fslotOf f && slotInRod d (frodOf f) &&
    d.plen == f.plen)

/-- The check of an image port on a frame of a slot binding (R265). -/
def State.portCheck (s : State) (l : List (Nat × SlotDesc)) (f : Frame) (d : Nat) : Bool :=
  f.codesOk s.blk.ttb.mid && decide (d < 2 ^ 31) && (frameDesc l f).isSome

/-- The AGED words of a frame: those of its own descriptor (R266); those of any of the binding where it belongs to none. -/
def agedwOf (l : List (Nat × SlotDesc)) (f : Frame) : Nat :=
  ((frameDesc l f).map SlotDesc.agedw).getD ((l.map (fun q => q.2.agedw)).foldl max 0)

/-- The newest frame of a binding whose reception completed before the clock `nt` (R40). -/
def BindRx.asOf (b : BindRx) (nt : Nat) : Option RxFrame := if b.newest.at_ < nt then some b.newest else b.before

/-- The words of an accepted frame as a port writes them (R266). -/
def frameWords (f : Frame) (agedw len age : Nat) (stale : Bool) : List Nat :=
  (f.payload.take len).zipIdx.map (fun (w, i) => if i < agedw then agedWord w.toNat age stale else w.toNat)

/-- A failed check: AGE 255 and STALE 1 in the AGED words, every VALUE and payload word unchanged. -/
def VMem.ageOut (m : VMem) (pay agedw len : Nat) : VMem :=
  (List.range (min agedw len)).foldl (fun m i =>
    let a := imageWord (pay + i)
    m.putIn a (agedWord (m.load .imgIn a 4) 255 true)) m

/-- The freeze of slot binding `n`. -/
def State.freezeSlot (s : State) (n : Nat) (b : Binding) (l : List (Nat × SlotDesc)) : State :=
  let o := s.lastOcc l
  let stale := (o.map OccState.stale).getD false
  let dis := 16 * bit ((o.map OccState.disagree).getD false)
  match (s.nic.rxBind.find? (fun q => q.1 == n)).bind (fun q => q.2.asOf s.nt) with
  | none => s.modMem (fun m => m.putIn (imageWord b.stat) (agedWord (4 + dis) 255 true))
  | some r =>
    let agedw := agedwOf l r.frame
    let d := rodsSince s.fnum r.rodcount
    let nets := bit r.fromX + 2 * bit r.fromY
    if s.portCheck l r.frame d then
      let age := min 255 d
      s.modMem (fun m =>
        (m.putInAll (imageWord b.pay) (frameWords r.frame agedw b.len age stale)).putIn (imageWord b.stat)
          (agedWord (nets + dis) age stale))
    else
      (s.modMem (fun m =>
        (m.ageOut b.pay agedw b.len).putIn (imageWord b.stat) (agedWord (nets + 8 + dis) 255 true))).modTtb
        (fun t => { t with fCheckfail := some s.nt })

/-! ### Event bindings (R258) -/

/-- The frames that fit: delivered, left out for a failed check, and still queued. -/
def takeEvents (mid : Word) : List RxEvent → Nat → List RxEvent × Nat × List RxEvent
  | [], _ => ([], 0, [])
  | e :: es, room =>
    if e.rx.frame.payload.length + 1 ≤ room then
      if e.rx.frame.codesOk mid then
        let r := takeEvents mid es (room - (e.rx.frame.payload.length + 1))
        (e :: r.1, r.2.1, r.2.2)
      else
        let r := takeEvents mid es room
        (r.1, r.2.1 + 1, r.2.2)
    else ([], 0, e :: es)

/-- A delivered frame in the layout of Table 8.7. -/
def eventWords (f : Frame) : List Nat :=
  (f.src.toNat + 2 ^ 16 * f.plen + 2 ^ 24 * fslotOf f) :: f.payload.map BitVec.toNat

/-- The age of an event frame at the boundary that opens furlong `f`; one dated after the boundary is new. -/
def eventAge (f rc : Nat) : Nat := if rodsSince f rc < 2 ^ 31 then min 255 (rodsSince f rc) else 0

/-- The freeze of event binding `n`: the frames whose reception completed before the boundary (R40). -/
def State.freezeEvent (s : State) (n : Nat) (b : Binding) : State :=
  let l := s.nic.rxEvents.filter (fun e => e.bind == n && decide (e.rx.at_ < s.nt))
  let r := takeEvents s.blk.ttb.mid l (b.len - 1)
  let age := (r.1.map (fun e => eventAge s.fnum e.rx.rodcount)).foldl max 0
  let words := (r.1.length + 2 ^ 16 * min r.2.1 65535) :: r.1.flatMap (fun e => eventWords e.rx.frame)
  let gone := l.length - r.2.2.length
  let rest := dropOf n gone s.nic.rxEvents
  (s.modMem (fun m => (m.putInAll (imageWord b.pay) words).putIn (imageWord b.stat) (agedWord 0 age false))).modNic
    (fun c => { c with rxEvents := rest })
where
  /-- Take the first `k` frames of a binding out of the queue. -/
  dropOf (n : Nat) : Nat → List RxEvent → List RxEvent
    | _, [] => []
    | 0, l => l
    | k + 1, e :: es => if e.bind = n then dropOf n k es else e :: dropOf n (k + 1) es

/-! ### The local input record (R319, R320) -/

/-- An SBOOL of a Bool (R92): FALSE is 2#01, TRUE 2#10. -/
def sboolOf (b : Bool) : Nat := if b then 2 else 1

/-- Fields of two bits, the first in the lowest. -/
def packTwo (l : List Nat) : Nat := (l.zipIdx.map (fun (x, i) => x % 4 * 2 ^ (2 * i))).foldl (· + ·) 0

/-- Bits, the first in the lowest. -/
def packOne (l : List Bool) : Nat := (l.zipIdx.map (fun (x, i) => bit x * 2 ^ i)).foldl (· + ·) 0

/-- The record of Table 10.4. -/
def Sio.localRecord (x : Sio) : List Nat :=
  let second := fun p => p % 2 == 1 && (x.params.pairs.getD (p - 1) ⟨0, 0, 0, 0, 0⟩).func == 3
  [packTwo (x.snapOut.zipIdx.map (fun (o, p) => sboolOf (o && !second p))), packTwo (x.snap.take 16),
   packTwo (x.snap.drop 16),
   packOne x.sticky + 16 * bit x.warn + 32 * bit x.lost + 64 * bit x.wdt + 128 * bit x.fail, x.readback.toNat,
   x.volt % 4096]

/-- The restrictive record (R320). -/
def restrictiveRecord : List Nat := [0x55555555, 0x55555555, 0x55555555, 0x8F, 0, 0]

/-- The freeze of the local input binding. `good` says for each vertex that its link transfer passed its CRC-8. -/
def State.freezeLocal (s : State) (b : Binding) (good : Tri Bool) : State :=
  let x := s.blk.sio
  let t := s.modAll (fun v y =>
    let live := good.get v && !x.fail
    let r := if live then x.localRecord else restrictiveRecord
    { y with
      mem := (y.mem.putInAll (imageWord b.pay) (r.take b.len)).putIn (imageWord b.stat)
               (if live then 0 else agedWord 1 255 true) })
  t.modSio (fun y => { y with sticky := y.groups })

/-! ### The edge binding (R302) -/

/-- The first 16 bytes of an edge entry as four DWORDs. -/
def edgeWords (e : EdgeEntry) : List Nat := (List.range 4).map (fun i => leAt (edgeBytes e) (4 * i) 4)

/-- The freeze of the edge binding. -/
def State.freezeEdge (s : State) (b : Binding) : State :=
  let l := s.edge.entries.take s.blk.ntm.emax
  let words := (l.length + 2 ^ 16 * min s.edge.dropped 65535) :: l.flatMap edgeWords
  { s.modMem (fun m => (m.putInAll (imageWord b.pay) words).putIn (imageWord b.stat) 0) with
    edge := { s.edge with entries := s.edge.entries.drop l.length, dropped := 0 } }

/-! ### The freeze -/

/-- Binding `n` is that of a received event channel. -/
def eventBinding (m : Matrix) (n : Nat) : Bool := m.channels.any (fun c => !c.tx && c.bind == n)

/-- One receive binding of a released task is refreshed. -/
def State.freezeBinding (s : State) (h : AppHeader) (good : Tri Bool) (n : Nat) (b : Binding) : State :=
  if n = h.localBind then s.freezeLocal b good
  else if n = h.edgeBind then s.freezeEdge b
  else
    match s.blk.ttb.matrix, s.blk.ttb.pos with
    | some m, some p =>
      if eventBinding m n then s.freezeEvent n b
      else
        match bindDescs m p n with
        | [] => s
        | l => s.freezeSlot n b l
    | _, _ => s

/-- The bindings of the tasks released at this boundary are refreshed as the receive area and the local input states stand
(R59). -/
def State.freezeInputs (s : State) (tasks : List Nat) (good : Tri Bool) : State :=
  match s.hdr with
  | none => s
  | some h =>
    (h.bindings.zipIdx.filter (fun (b, _) => !b.tx && b.len != 0 && tasks.contains b.task)).foldl (fun u (b, n) =>
      u.freezeBinding h good n b) s

end Sys2Proof.Machine
end

