-- ==== Sys2Proof/Machine/Mirror.lean ====
section
/-! DEFINITION. The mirror set (R169, R204, R348 to R355): the image, its sending at a commit, and its application. -/

namespace Sys2Proof.Machine

/-- The staging image of 1 024 bytes: a head of 64, with 16 bytes for state, length and target of each of the three areas,
then their bytes from 64, 640 and 768 (notes/assumptions/32.md). -/
def State.stagingImage (s : State) : List Byte :=
  let g := fun n => (s.area n)
  let b := fun n => (s.staged.area n)
  let head := [0, 1, 2].flatMap (fun n =>
    leBytes 4 (g n).state ++ leBytes 2 (b n).length ++ [0, 0] ++ leBytes 8 (g n).target)
  padTo 64 head ++ padTo 576 (b 0) ++ padTo 128 (b 1) ++ padTo 256 (b 2)

/-- The tuning table in its 8 + 4 n bytes: the values stand after a head that holds SEQ and a DWORD of 0 (R168; the layout of
the head is a DESIGN CHOICE, notes/assumptions/32.md). -/
def Tuning.bytes (t : Tuning) : List Byte :=
  leBytes 4 t.seq.toNat ++ leBytes 4 0 ++ t.vals.flatMap (fun w => leBytes 4 w.toNat)

/-- Bytes padded with 0 to a multiple of 8. -/
def padEight (b : List Byte) : List Byte := padTo (8 * ceilDiv b.length 8) b

/-- The lattice parts of the mirror image. -/
def Lattice.mirrorBytes (l : Lattice) : List Byte :=
  l.elems.flatMap (fun e => leBytes 8 e.word1.toNat ++ leBytes 8 e.word2.toNat) ++
    padEight (l.routes.flatMap (fun r => leBytes 4 r.state))

/-- The application regions of the mirror declaration. -/
def State.mirrorRegions (s : State) : List (Nat × Nat) :=
  match s.loaded with
  | some c => c.hdr.mirror
  | none => []

/-- The mirror image of vertex `v` (Table 11.4). -/
def State.mirrorImage (s : State) (v : Vtx) : List Byte :=
  let x := s.v v
  x.tune.bytes ++ s.stagingImage ++ x.lat.mirrorBytes ++
    s.mirrorRegions.flatMap (fun (a, n) => Memory.bytes x.mem.inst a n)

/-- The words of the memories of vertex `v` that its mirror image holds: application regions, elements, route records. -/
def State.mirrorWords (s : State) (v : Vtx) : List Nat :=
  s.mirrorRegions.flatMap (fun (a, n) => (List.range (n / 8)).map (fun i => a + 8 * i)) ++
    (List.range (s.v v).lat.elems.length).flatMap (fun e => [elemAddr e 1, elemAddr e 2]) ++
    (List.range (s.v v).lat.routes.length).map routeAddr

/-- A word of the mirror image has an uncorrectable error in vertex `v`. -/
def State.mirrorBad (s : State) (v : Vtx) : Bool := ((s.v v).mem.firstBad (s.mirrorWords v)).isSome

/-! ### Sending (R351, R352) -/

/-- Clocks of a chord frame on the wire: preamble, gap, header, codes and FCS (Table 11.1). -/
def chordClocks (len : Nat) : Nat := len + 66

/-- Chunk `i` of an image. -/
def chunkOf (img : List Byte) (i : Nat) : List Byte := padEight ((img.drop (1024 * i)).take 1024)

/-- A frame of a mirror set. -/
def State.setFrame (s : State) (kind : BitVec 8) (idx ts : Nat) (payload : List Byte) : ChordFrame :=
  ({ fcsOk := true, etype := s.etype, verf := 0x10, kind := kind, src := s.ownSrc, seq := w32 s.fnum,
     idx := BitVec.ofNat 16 idx, len := BitVec.ofNat 16 payload.length, ts := BitVec.ofNat 64 ts, payload := payload,
     code1 := 0, code2 := 0 } : ChordFrame).coded s.blk.ttb.mid

/-- The MCOMMIT payload (Table 11.5). -/
def State.mcommitPayload (s : State) : List Byte :=
  beBytes 4 s.blk.chd.bytes ++ beBytes 2 s.blk.chd.nchunk ++ [0, 0] ++ beBytes 4 s.build.toNat ++
    beBytes 4 s.blk.ttb.mid.toNat

/-- NT clocks that `n` clocks of set frames take with the HEARTBEATs between them. -/
def withHeartbeats (n : Nat) : Nat := n + 98 * (n / 3027 + 1)

/-- What leaves the module `n` NT clocks from now has left by the cut-off 20 µs before the boundary (R352, R353). -/
def State.beforeCutoff (s : State) (n : Nat) : Bool :=
  decide (s.time + 8 * n + 20000 ≤ (s.fnum + 1) * furlongNs s.profile)

/-- Chunks 0 to `n` − 1 leave one after another, each at its TS, as long as the cut-off allows (`State.cutSet` takes back what has
not left when the module falls silent); `img1` and `img2` are the copies
over which the image ports form the codes. -/
def State.sendChunks (s : State) (img img1 img2 : List Byte) (n : Nat) : State :=
  ((List.range n).filter (fun i => s.beforeCutoff (withHeartbeats (1090 * (i + 1))))).foldl (fun u i =>
    u.sendChord ((s.setFrame kMdata i (s.time + 8 * withHeartbeats (1090 * i)) (chunkOf img i)).codedBy s.blk.ttb.mid
      (chunkOf img1 i) (chunkOf img2 i))) s

/-- The first chunk in which two images differ. -/
def firstDiff (a b : List Byte) (n : Nat) : Option Nat := (List.range n).find? (fun i => chunkOf a i != chunkOf b i)

/-- The vertices whose mirror image is read: the committing pair, and those whose ports form the codes (R345, R351). -/
def State.mirrorReaders (s : State) (u w : Vtx) : List Vtx :=
  Vtx.list.filter (fun v => v == u || v == w || v == s.coders.1 || v == s.coders.2)

/-- The mirror image of each of `l` is read: single-bit errors are written back (R22). -/
def State.readMirror (s : State) (l : List Vtx) : State :=
  l.foldl (fun t v => t.modV v (fun x => x.scrub (s.mirrorWords v))) s

/-- A vertex of `l` whose image cannot be read traps with ECC, and the set is abandoned (R22, R108, R352). -/
def State.abandonBad (s : State) (l : List Vtx) : State :=
  (l.foldl (fun t v =>
    match (s.v v).mem.firstBad (s.mirrorWords v) with
    | some a => t.eccTrap v a
    | none => t) s).modChd (fun c =>
    { c with abandon := satInc 8 c.abandon })

/-- The two images are compared as they are sent: at a difference the set is abandoned, else MCOMMIT follows the last chunk
(R351, R352). -/
def State.sendImages (s : State) (u w : Vtx) : State :=
  let c := s.blk.chd
  let a := s.mirrorImage u
  let send := s.sendChunks a (s.mirrorImage s.coders.1) (s.mirrorImage s.coders.2)
  match firstDiff a (s.mirrorImage w) c.nchunk with
  | some i =>
    ((send i).record .mirrorMismatch (s.fnum % 2 ^ 32) i 0).modChd (fun c => { c with abandon := satInc 8 c.abandon })
  | none =>
    let len := ((List.range c.nchunk).map (fun i => chordClocks (chunkOf a i).length)).foldl (· + ·) (chordClocks 16)
    let clocks := withHeartbeats len
    let t := send c.nchunk
    let x := if s.beforeCutoff clocks then
        t.sendChord (s.setFrame kMcommit c.nchunk (s.time + 8 * withHeartbeats (1090 * c.nchunk)) s.mcommitPayload)
      else t
    x.modPair (fun p => { p with tx := some ⟨w32 s.fnum, s.nt + clocks⟩ })

/-- A set of the committing pair (R351, R352). -/
def State.sendSet (s0 : State) (u w : Vtx) : State :=
  let l := s0.mirrorReaders u w
  let s := (s0.modPair (fun p => { p with formed := w32 s0.fnum })).readMirror l
  if l.any s.mirrorBad then s.abandonBad l else s.sendImages u w

/-- The module sends a set in this furlong: ACTIVE, with a partner in RESYNC or STANDBY of its own BUILD and MID heard in
the furlong. -/
def State.mirrorDue (s : State) : Bool := s.mode == .active && s.pair.standFor == some s.fnum

/-! ### Applying (R354) -/

/-- The mirror receive area of a vertex. -/
def State.received (s : State) (v : Vtx) : List Byte := Memory.bytes (s.v v).mem.inst (mirrorBase s.profile) s.blk.chd.bytes

/-- The set received is complete. -/
def State.setComplete (s : State) (r : RxSet) : Bool := r.commit && r.chunks.length == s.blk.chd.nchunk

/-- A set number is newer than the newest applied one. -/
def State.setNewer (s : State) (q : Word) : Bool :=
  !s.blk.chd.applied || (q != s.blk.chd.mseq && decide ((q - s.blk.chd.mseq).toNat < 2 ^ 31))

/-- The tuned values that differ from the table of vertex `v` are stored, and the table takes them and SEQ (R169). -/
def State.applyTuning (s : State) (v : Vtx) (b : List Byte) (l : List Tunable) : State :=
  let t := (l.zipIdx).foldl (fun u (d, k) =>
    let val := leAt b (8 + 4 * k) 4
    if (u.v v).tune.vals.getD k 0 = w32 val then u
    else
      let n := tunableSize d.typ
      (u.setStore v n d.addr (val % 2 ^ (8 * n))).modRunning v (fun x =>
        { x with tune := { x.tune with vals := setNth x.tune.vals k (w32 val) } })) s
  t.modRunning v (fun x => { x with tune := { x.tune with seq := w32 (leAt b 0 4) } })

/-- The staging words of areas 0 and 2 and of their heads enter the stream of vertex `v`; nothing of area 1 is written (R354,
notes/assumptions/32.md). -/
def State.streamStaging (s : State) (v : Vtx) (g : List Byte) : State :=
  let put := fun (u : State) (area base at_ n : Nat) =>
    (List.range (n / 8)).foldl (fun w i =>
      w.phase0Store v 8 (Config.stageAddr area (at_ - base + 8 * i)) (leAt g (at_ + 8 * i) 8)) u
  put (put (put (put s 3 0 0 16) 3 0 32 32) 0 64 64 576) 2 768 768 256

/-- The element after its two lock words are written. -/
def Elem.setLock (e : Elem) (w1 w2 : Nat) : Elem :=
  { e with
    cstate := field w1 0 8, share := field w1 8 8,
    owner := if field w1 16 16 = 0xFFFF then none else some (field w1 16 16), alend := w32 (field w1 32 32),
    alst := w2 == 0x5A }

/-- The route after its STATE is written. -/
def Route.setState (r : Route) (w : Nat) : Route :=
  { r with
    rstate := match w % 4 with
      | 1 => .reserved
      | 2 => .partly
      | _ => .free,
    engaged := testB w 2, sheld := BitVec.ofNat 16 (w / 2 ^ 16) }

/-- The lock parts and route states of a set in vertex `v`, at whose route records no uncorrectable error stands; a whole word
written replaces its check bits, and the words of the route records are corrected (R22). -/
def State.writeLattice (s : State) (v : Vtx) (b : List Byte) : State :=
  let x := s.v v
  let at_ := fun e => 16 * e
  let ro := 16 * x.lat.elems.length
  let locks := (List.range x.lat.elems.length).flatMap (fun e => [elemAddr e 1, elemAddr e 2])
  let t := s.modV v (fun x =>
    { x with
      lat := { x.lat with
               elems := x.lat.elems.zipIdx.map (fun (e, i) => e.setLock (leAt b (at_ i) 8) (leAt b (at_ i + 8) 8)),
               routes := x.lat.routes.zipIdx.map (fun (r, i) => r.setState (leAt b (ro + 4 * i) 4)) },
      mem := { x.mem with ecc := x.mem.ecc.filter (fun k => !locks.contains k),
                          ecc1 := x.mem.ecc1.filter (fun k => !locks.contains k) } })
  let u := (List.range x.lat.elems.length).foldl (fun u i =>
    (u.phase0Store v 8 (elemAddr i 1) (leAt b (at_ i) 8)).phase0Store v 8 (elemAddr i 2) (leAt b (at_ i + 8) 8)) t
  (List.range x.lat.routes.length).foldl (fun u i => u.phase0Store v 4 (routeAddr i + 4) (leAt b (ro + 4 * i) 4)) u

/-- The lattice part of a set in vertex `v`. The 4-byte store of a route STATE traps with ECC at a word with an uncorrectable
error (R106). -/
def State.applyLattice (s : State) (v : Vtx) (b : List Byte) : State :=
  let x := s.v v
  let recs := (List.range x.lat.routes.length).map routeAddr
  if x.stopped then s
  else
    match x.mem.firstBad recs with
    | some a => s.eccTrap v (a + 4)
    | none => (s.modV v (fun x => x.scrub recs)).writeLattice v b

/-- The application regions of a set in vertex `v`. -/
def State.applyRegions (s : State) (v : Vtx) : List (Nat × Nat) → List Byte → State
  | [], _ => s
  | (a, n) :: rest, b =>
    ((List.range (n / 8)).foldl (fun u i => u.setStore v 8 (a + 8 * i) (leAt b (8 * i) 8)) s).applyRegions v rest (b.drop n)

/-- Bytes of the lattice parts. -/
def Lattice.mirrorLen (l : Lattice) : Nat := 16 * l.elems.length + 8 * ceilDiv (4 * l.routes.length) 8

/-- The patch list of a staging image. -/
def stagedPatch (b : List Byte) : List Byte := (b.drop 64).take (leAt b 4 2)

/-- Vertex `v` writes every word of the set from its receive area, in the order of Table 11.4. -/
def State.applySet (s : State) (v : Vtx) : State :=
  let b := s.received v
  let l := (s.hdr.map AppHeader.tunables).getD []
  let b1 := b.drop (8 + 4 * (s.v v).tune.vals.length)
  let b2 := b1.drop 1024
  let b3 := b2.drop (s.v v).lat.mirrorLen
  ((((s.applyTuning v b l).streamStaging v (b1.take 1024)).modRunning v (fun x => { x with patch := stagedPatch b1 })).applyLattice
    v b2).applyRegions v s.mirrorRegions b3

/-- Staging areas 0 and 2 are replaced by the partner's; a copy of an own set into one of them that is still to be made is not
made any more (R354). -/
def State.takeStaging (s0 : State) (b : List Byte) : State :=
  let s : State := { s0 with stageCopy := s0.stageCopy.filter (fun c => c.1 == 1) }
  let one := fun (u : State) (n at_ : Nat) =>
    u.setArea n ⟨leAt b (16 * n) 4, leAt b (16 * n + 8) 8⟩ ((b.drop at_).take (leAt b (16 * n + 4) 2))
  one (one s 0 64) 2 768

/-- The module may apply the set of furlong `f` (R354): in RESYNC or STANDBY, or after a takeover in that furlong. -/
def State.mayApply (s : State) (f : Nat) : Bool :=
  s.mode == .resync || s.mode == .standby || s.pair.tookOver == some f

/-- The words of the mirror receive area that a set of the module fills. -/
def State.receiveWords (s : State) : List Nat :=
  (List.range (ceilDiv s.blk.chd.bytes 8)).map (fun i => mirrorBase s.profile + 8 * i)

/-- Every vertex applies the set; one whose receive area cannot be read traps with ECC (R22, R108). -/
def State.applyAll (s : State) (r : RxSet) : State :=
  let t := s.appliers.foldl (fun u v =>
    match (u.v v).mem.firstBad u.receiveWords with
    | some a => u.eccTrap v a
    | none => u) s
  let one := t.appliers.headD .A
  let img := t.received one
  let u := t.appliers.foldl State.applySet (t.modAll (fun v x => if t.appliers.contains v then x.scrub t.receiveWords else x))
  (u.takeStaging ((img.drop (8 + 4 * (t.v one).tune.vals.length)).take 1024)).modChd
    (fun c => { c with mseq := r.seq, applied := true })

/-- The set received in furlong `f` at the boundary that ends it: applied, or discarded whole. The Bool says that it was
applied. -/
def State.setAtBoundary (s : State) (f : Nat) : State × Bool :=
  match s.pair.rx with
  | none => (s, false)
  | some r =>
    let t := s.modPair (fun p => { p with rx := none })
    if t.setComplete r then
      if t.mayApply f && r.seq == w32 f && t.setNewer r.seq then (t.applyAll r, true) else (t, false)
    else if r.chunks.isEmpty then (t, false)
    else
      ((t.record .mirrorCut r.seq.toNat r.chunks.length 0).modChd (fun c => { c with cut := satInc 8 c.cut }), false)

end Sys2Proof.Machine
end

