-- ==== Sys2Proof/Machine/Pair.lean ====
section
/-! DEFINITION. The chords: heartbeats and their checks, the receipt of mirror sets, takeover, yield and the return to
the preferred home (R343 to R347, R353, R356 to R365). -/

namespace Sys2Proof.Machine

/-- A link of the pair engine. -/
def PairSt2.link (p : PairSt2) (l : Link) : ChordRx :=
  match l with
  | .C1 => p.c1
  | .C2 => p.c2

/-- Replace a link of the pair engine. -/
def PairSt2.setLink (p : PairSt2) (l : Link) (c : ChordRx) : PairSt2 :=
  match l with
  | .C1 => { p with c1 := c }
  | .C2 => { p with c2 := c }

/-- Replace one of a pair. -/
def setLinkOf {α : Type} (p : α × α) (l : Link) (x : α) : α × α :=
  match l with
  | .C1 => (x, p.2)
  | .C2 => (p.1, x)

/-- One of a pair. -/
def linkOf {α : Type} (p : α × α) (l : Link) : α :=
  match l with
  | .C1 => p.1
  | .C2 => p.2

/-- Link numbers of records. -/
def linkNum : Link → Nat
  | .C1 => 0
  | .C2 => 1

/-- A chord frame that fails a check of Table 11.3 is counted for its link. -/
def State.chordErr (s : State) (l : Link) : State :=
  s.modChd (fun c => { c with err := setLinkOf c.err l (satInc 8 (linkOf c.err l)) })

/-- The instant, in ns of network time, at which furlong `b` begins. -/
def State.furlongStart (s : State) (b : Nat) : Nat := b * furlongNs s.profile

/-! ### Sending -/

/-- HEARTBEAT_SEND: at a whole multiple of 25 µs of network time, in every mode from RESYNC to ACTIVE. -/
def execHeartbeatSend (dt : Nat) (s0 : State) : Host.Outcome State Fault Refusal :=
  let s := s0.elapse dt
  if (s.mode = .resync ∨ s.mode = .standby ∨ s.mode = .active) ∧ s.pair.silent = false ∧ s.boundaries = true ∧
      s.inReset = false ∧ s.onGrid 25000 0 = true then
    ok (s.sendChord (s.heartbeat (s.time / 25000 * 25000) false))
  else ok s

/-! ### The checks (Table 11.3) -/

/-- Step 1. -/
def State.chordForm (s : State) (kind : BitVec 8) (f : ChordFrame) : Bool :=
  f.fcsOk && f.etype == s.etype && f.verf == 0x10 && f.kind == kind && f.payload.length == f.len.toNat &&
    (if kind = kHeartbeat then f.len == 32
     else if kind = kMcommit then f.len == 16
     else decide (8 ≤ f.len.toNat) && decide (f.len.toNat ≤ 1024) && f.len.toNat % 8 == 0)

/-- Area code and position of SRC are those of the module. -/
def State.samePlace (s : State) (f : ChordFrame) : Bool :=
  match s.blk.ttb.pos with
  | some p => srcBase f.src == srcBase p.src
  | none => false

/-- The senior bit of SRC is that of the module. -/
def State.sameSenior (s : State) (f : ChordFrame) : Bool := srcSenior f.src == s.blk.cyc.senior

/-- Step 4 for a HEARTBEAT whose preamble started at `pre` ns on the local clock. -/
def ChordRx.stepFour (c : ChordRx) (pre : Nat) (f : ChordFrame) : Bool :=
  f.seq == w32 (f.ts.toNat / 25000) &&
    (match c.lastSeq with
     | some q => f.seq != q && decide ((f.seq - q).toNat < 2 ^ 31)
     | none => true) &&
    decide (f.ts.toNat ≤ pre + 1000) && decide (pre ≤ f.ts.toNat + 5000)

/-- What the perturbation CHDD adds to the arrival of a chord frame on link `l`, in ns (R387). -/
def State.chordLate (s : State) (l : Link) : Nat := 8 * s.chordDelay l

/-- Step 4 for MDATA and MCOMMIT on link `l`: the SEQ of this furlong, received by the cut-off 20 µs before its end, or in its
NT clock (R353), later by CHDD. -/
def State.inTime (s : State) (l : Link) (f : ChordFrame) : Bool :=
  f.seq == w32 s.fnum &&
    (decide (s.time + s.chordLate l + 20000 ≤ s.furlongStart (s.fnum + 1)) ||
      (s.chordLate l == 0 && s.onGrid (furlongNs s.profile) (furlongNs s.profile - 20000)))

/-- The module listens on link `l`, from power-on (R347), unless the port is held down (R344). -/
def State.chordOn (s : State) (l : Link) : Bool := !s.inReset && !(s.pair.link l).down

/-- A partner with the module's own senior bit (R343): it goes no further, and is recorded in RESYNC. -/
def State.seniorConflict (s : State) (build mid : Nat) : State :=
  let t := if s.mode = .resync ∧ s.blk.chd.conflict = false then s.record .seniorConflict build mid 0 else s
  t.modChd (fun c => { c with conflict := true })

/-- What is done with a chord frame that fails steps 1 to 3, or none where it passes them. -/
def State.chordReject (s : State) (l : Link) (kind : BitVec 8) (mid : Word) (f : ChordFrame) : Option State :=
  if !s.chordForm kind f || !s.samePlace f then some (s.chordErr l)
  else if s.sameSenior f then
    let b := if kind = kHeartbeat then (ofLe ((f.payload.drop 24).take 4).reverse, ofLe ((f.payload.drop 28).take 4).reverse)
      else (0, 0)
    some (s.seniorConflict b.1 b.2)
  else if !f.codesOk mid then some (s.chordErr l)
  else none

/-! ### Heartbeats -/

/-- The HEARTBEAT payload (Table 11.2). -/
structure Beat where
  mode : Nat
  strength : Nat
  flags : Nat
  furlong : Nat
  target : Nat
  mseq : Nat
  rseq : Nat
  build : Word
  mid : Word
  deriving DecidableEq, Repr

/-- A field of a payload, most significant byte first. -/
def payloadField (b : List Byte) (at_ n : Nat) : Nat := ofLe ((b.drop at_).take n).reverse

/-- Read a HEARTBEAT payload. -/
def beatOf (b : List Byte) : Beat :=
  { mode := payloadField b 0 1, strength := payloadField b 1 1, flags := payloadField b 2 1,
    furlong := payloadField b 4 4, target := payloadField b 8 4, mseq := payloadField b 12 4,
    rseq := payloadField b 16 6, build := w32 (payloadField b 24 4), mid := w32 (payloadField b 28 4) }

/-- The partner's BUILD and MID are the module's own (R343). -/
def State.sameSet (s : State) (b : Beat) : Bool := b.build == s.build && b.mid == s.blk.ttb.mid

/-- A partner with another BUILD or MID: heard, recorded in RESYNC, and no evidence. -/
def State.buildMismatch (s : State) (b : Beat) : State :=
  let t := if s.mode = .resync ∧ s.blk.chd.buildmm = false then s.record .partnerBuild b.build.toNat b.mid.toNat 0 else s
  t.modChd (fun c => { c with buildmm := true })

/-- The furlong nearest to `f` with the number bits [31:0] of `t`. -/
def nearBoundary (f t : Nat) : Nat :=
  let d := (t + 2 ^ 32 - f % 2 ^ 32) % 2 ^ 32
  if d < 2 ^ 31 then f + d else f + d - 2 ^ 32

/-- A handover request of the partner is joined (R362 step 1): an earlier target holds, and the other request is dropped
with NOT_READY. -/
def State.joinHandover (s : State) (b : Nat) : State :=
  let later := match s.pair.target with
    | some q => decide (b < q)
    | none => true
  if later then
    let t := match s.pair.target, s.pair.req with
      | some _, some w => s.cmdRec w .notReady
      | _, _ => s
    (t.modPair (fun p => { p.dropHandover with target := some b })).modChd (fun c => { c with host := .horeq })
  else s

/-- The standby sends READY from the moment it holds set B − 1 complete (R362 step 2). -/
def State.nowReady (s : State) : State :=
  match s.pair.rx, s.pair.target with
  | some r, some b =>
    if s.mode = .standby ∧ s.setComplete r = true ∧ r.seq = w32 (b - 1) ∧ s.blk.chd.host = .horeq then
      s.modChd (fun c => { c with host := .ready })
    else s
  | _, _ => s

/-- A handover at `b` can no longer be carried out: the last step that R362 asks of the module is past, GO of an active module 50 µs
before `b`, the acceptance of GO in a standby 20 µs before it. -/
def State.handoverLate (s : State) (b : Nat) : Bool :=
  decide (b ≤ s.fnum) || decide (s.furlongStart b < s.time + (if s.mode = .active then 50000 else 20000))

/-- The partner's request with target `b` is judged once, when it is first heard (R303): one that comes too late is refused with
LATE and recorded, else the request is joined, by a standby that holds set `b` − 1 with READY at once. -/
def State.judgeHandover (s : State) (b : Nat) : State :=
  if s.pair.judged = some b then s
  else
    let t := s.modPair (fun p => { p with judged := some b })
    if s.handoverLate b then t.cmdRec (cmdWord 0x07 0 0) .late
    else if s.strength = 3 then (t.joinHandover b).nowReady
    else s

/-- The handover bits of an accepted HEARTBEAT (R362). -/
def State.handoverBits (s : State) (b : Beat) : State :=
  let target := nearBoundary s.fnum b.target
  let opposite := (s.mode == .active && b.mode == modeCode .standby) || (s.mode == .standby && b.mode == modeCode .active)
  if testB b.flags 2 = false ∨ opposite = false then s
  else
    let t := s.judgeHandover target
    if t.pair.target ≠ some target then t
    else
      let u := if t.mode = .active ∧ testB b.flags 3 = true ∧ t.time + 50000 ≤ t.furlongStart target then
          t.modPair (fun p => { p with readyGot := true }) else t
      let w := if u.mode = .active ∧ u.pair.readyGot = true ∧ u.strength = 3 ∧ b.strength = 3 ∧
            u.time + 50000 ≤ u.furlongStart target then
          (u.modPair (fun p => { p with goSent := true })).modChd (fun c => { c with host := .go }) else u
      if w.mode = .standby ∧ testB b.flags 4 = true ∧ w.time + 20000 ≤ w.furlongStart target then
        (w.modPair (fun p => { p with goGot := true })).modChd (fun c => { c with host := .go })
      else w

/-- ABDICATE from a partner whose last evidence showed ACTIVE (R357). -/
def State.abdicated (s : State) : State :=
  if s.mode = .standby ∧ s.pair.lastActive = true ∧ s.pair.decided.isNone = true ∧ s.pair.noTakeover = false then
    s.modPair (fun p => { p with decided := some (s.nt, 2) })
  else s

/-- An accepted HEARTBEAT (R343, R356, R357, R361, R362). -/
def State.acceptBeat (s : State) (b : Beat) : State :=
  let h := (s.heardPartner b.mode b.strength).modChd (fun c =>
    { c with phome := testB b.flags 5, prseq := b.rseq })
  let t := if b.mode = modeCode .active then h.splitBrain else h
  if !s.sameSet b then t.buildMismatch b
  else
    let u := t.modPair (fun p =>
      { p with
        pbuild := b.build, pmid := b.mid, pmseq := w32 b.mseq, pstrength := b.strength,
        standFor := if b.mode = modeCode .resync ∨ b.mode = modeCode .standby then some s.fnum else p.standFor })
    if testB b.flags 1 then u.abdicated else (u.evidence b.mode).handoverBits b

/-- What `f` does to the state `d` NT clocks later, with the clocks as they were: a chord frame that CHDD delays reaches its checks and
acts then (R387). -/
def State.later (s : State) (d : Nat) (f : State → State) : State :=
  { f { s with nt := s.nt + d, clock := s.clock.advance s.blk.ntm.rate d } with nt := s.nt, clock := s.clock }

/-- HEARTBEAT_RECEIVE. `pre` is the local time in ns at which the preamble started. -/
def execHeartbeatReceive (dt : Nat) (l : Link) (pre : Nat) (f : ChordFrame) (s0 : State) :
    Host.Outcome State Fault Refusal :=
  let s := s0.elapse dt
  if !s.chordOn l then ok s
  else
    match s.chordReject l kHeartbeat 0 f with
    | some t => ok t
    | none =>
      if !(s.pair.link l).stepFour (pre + s.chordLate l) f then ok (s.chordErr l)
      else
        let t := (s.modPair (fun p =>
          p.setLink l { p.link l with lastAt := some (s.nt + s.chordDelay l), lastSeq := some f.seq })).modChd (fun c =>
            { c with up := setLinkOf c.up l true })
        ok (t.later (s.chordDelay l) (fun t => t.acceptBeat (beatOf f.payload)))

/-- CHORD_DOWN: 300 µs without an accepted HEARTBEAT on a link that is UP, or the port is held down. -/
def execChordDown (dt : Nat) (l : Link) (s0 : State) : Host.Outcome State Fault Refusal :=
  let s := s0.elapse dt
  let lost := (s.pair.link l).down || !s.within (s.pair.link l).lastAt us300
  if linkOf s.blk.chd.up l && lost && !s.inReset then
    ok (((s.record .chordDown (linkNum l) 0 0).modChd (fun c =>
      { c with up := setLinkOf c.up l false, down := setLinkOf c.down l (satInc 8 (linkOf c.down l)) })).modPair
        (fun p => { p with cleanFail := true }))
  else ok s

/-! ### Receiving a set (R353) -/

/-- The set being received in this furlong. -/
def State.rxSet (s : State) (q : Word) : RxSet :=
  match s.pair.rx with
  | some r => if r.seq = q then r else ⟨q, [], false⟩
  | none => ⟨q, [], false⟩

/-- The image port of a vertex writes a chunk into the mirror receive area; no record is formed. -/
def VMem.putChunk (m : VMem) (a : Nat) (b : List Byte) : VMem :=
  (List.range (b.length / 8)).foldl (fun m i => m.store .inst (a + 8 * i) 8 (ofLe ((b.drop (8 * i)).take 8))) m

/-- MDATA_RECEIVE: the first copy of a chunk that passes is kept. A chunk beyond NCHUNK belongs to no set and has no
effect. -/
def execMdataReceive (dt : Nat) (l : Link) (f : ChordFrame) (s0 : State) : Host.Outcome State Fault Refusal :=
  let s := s0.elapse dt
  if !s.chordOn l then ok s
  else
    match s.chordReject l kMdata s.blk.ttb.mid f with
    | some t => ok t
    | none =>
      if !s.inTime l f then ok (s.chordErr l)
      else
        let r := s.rxSet f.seq
        let i := f.idx.toNat
        if r.chunks.contains i ∨ s.blk.chd.nchunk ≤ i then ok s
        else
          let t := s.modAll (fun _ x =>
            { x with mem := x.mem.putChunk (mirrorBase s.profile + 1024 * i) f.payload })
          ok (t.modPair (fun p => { p with rx := some { r with chunks := i :: r.chunks } })).nowReady

/-- The MCOMMIT payload equals the module's own values (R353). -/
def State.mcommitOk (s : State) (b : List Byte) : Bool :=
  payloadField b 0 4 == s.blk.chd.bytes && payloadField b 4 2 == s.blk.chd.nchunk &&
    w32 (payloadField b 8 4) == s.build && w32 (payloadField b 12 4) == s.blk.ttb.mid

/-- MCOMMIT_RECEIVE. -/
def execMcommitReceive (dt : Nat) (l : Link) (f : ChordFrame) (s0 : State) : Host.Outcome State Fault Refusal :=
  let s := s0.elapse dt
  if !s.chordOn l then ok s
  else
    match s.chordReject l kMcommit s.blk.ttb.mid f with
    | some t => ok t
    | none =>
      if !s.inTime l f then ok (s.chordErr l)
      else if s.mcommitOk f.payload then
        ok (s.modPair (fun p => { p with rx := some { s.rxSet f.seq with commit := true } })).nowReady
      else ok s

/-- MIRROR_CUTOFF: 20 µs before the boundary. A set not fully sent is abandoned (R352). -/
def execMirrorCutoff (dt : Nat) (s0 : State) : Host.Outcome State Fault Refusal :=
  let s := s0.elapse dt
  match s.pair.tx with
  | none => ok s
  | some x =>
    if s.time + 20000 < s.furlongStart (s.fnum + 1) then ok s
    else
      let t := s.modPair (fun p => { p with tx := none })
      if x.doneAt ≤ s.nt then ok (t.modChd (fun c => { c with sent := satInc 16 c.sent }))
      else ok (t.modChd (fun c => { c with abandon := satInc 8 c.abandon }))

/-! ### Takeover (R357 to R360) -/

/-- The last evidence of an active partner; where none has been received, the entry to STANDBY. -/
def State.lastEvidence (s : State) : Nat := s.pair.evidActive.getD s.pair.standAt

/-- The module decides on silence now (R357). -/
def State.silence (s : State) : Bool :=
  s.mode == .standby && s.pair.decided.isNone && !s.pair.noTakeover && decide (us300 ≤ s.nt - s.lastEvidence) &&
    (s.blk.cyc.senior || !s.within s.pair.evidStanding us300)

/-- TAKEOVER_DECISION: 300 µs after the last evidence of an active partner. -/
def execTakeoverDecision (dt : Nat) (s0 : State) : Host.Outcome State Fault Refusal :=
  let s := s0.elapse dt
  if s.silence then ok (s.modPair (fun p => { p with decided := some (s.nt, 1) })) else ok s

/-- The newest set applied or held complete. -/
def State.newestSet (s : State) : Word :=
  match s.pair.rx with
  | some r => if s.setComplete r && s.setNewer r.seq then r.seq else s.blk.chd.mseq
  | none => s.blk.chd.mseq

/-- LAG: how much newer the partner's announcement is than the newest set held; 0 when it is not newer (R360). -/
def State.tkoLag (s : State) : Nat :=
  let d := (s.pair.pmseq - s.newestSet).toNat
  if d < 2 ^ 31 then min d 255 else 0

/-- The TAKEOVER payload (Table 11.7). -/
def State.takeoverBody (s : State) (cause : Nat) : List Byte :=
  leBytes 1 cause ++ leBytes 1 (bit (decide (0 < s.tkoLag))) ++ leBytes 1 s.tkoLag ++ leBytes 1 s.rod ++
    leBytes 4 s.fnum ++ leBytes 4 s.newestSet.toNat ++ leBytes 4 s.pair.pmseq.toNat ++ leBytes 6 s.blk.chd.prseq ++
    leBytes 2 0

/-- The standby becomes ACTIVE: mode, TKO register and record; debug sessions end (R233), a handover is dropped. -/
def State.becomeActive (s : State) (m : MCause) (cause : Nat) : State :=
  let body := s.takeoverBody cause
  let lag := s.tkoLag
  let t := ((s.endDebugs.setMode .active m).recBody .takeover body).modChd (fun c =>
    { c with
      tkoCause := cause, tkoStale := decide (0 < lag), tkoLag := lag, tkoFurl := s.fnum % 2 ^ 16, host := .idle })
  t.modPair (fun p => { p.dropHandover with tookOver := some s.fnum, decided := none })

/-- An NT clock edge at which a rod boundary is raised (R50). -/
def State.atRod (s : State) : Bool := s.boundaries && !s.inReset && s.onGrid (rodNs s.profile) 0

/-- The takeover has been decided at least 20 µs ago (R358). -/
def State.takeoverRipe (s : State) : Bool :=
  s.mode == .standby && !s.pair.noTakeover && (match s.pair.decided with
    | some (a, _) => decide (us20 ≤ s.nt - a)
    | none => false)

/-- A takeover decided at least 20 µs ago takes effect. -/
def State.takeoverDue (s : State) : State :=
  match s.pair.decided with
  | none => s
  | some (_, cause) => if s.takeoverRipe then s.becomeActive .takeover cause else s

/-- TAKEOVER: at the first rod boundary at least 20 µs after the decision (R358). -/
def execTakeover (dt : Nat) (s0 : State) : Host.Outcome State Fault Refusal :=
  let s := s0.elapse dt
  if s.atRod then ok s.takeoverDue else ok s

/-- YIELD_STOP: a junior that detected split brain stops sending at the first rod boundary at least 20 µs later (R361). -/
def execYieldStop (dt : Nat) (s0 : State) : Host.Outcome State Fault Refusal :=
  let s := s0.elapse dt
  match s.pair.yieldAt with
  | none => ok s
  | some at_ =>
    if s.atRod = true ∧ s.mode = .active ∧ us20 ≤ s.nt - at_ then ok (s.modPair (fun p => { p with yielded := true })) else ok s

/-! ### The preferred home (R365) -/

/-- The boundary of the present furlong lies within the window. -/
def State.inWindow (s : State) : Bool :=
  let h := s.blk.chd.home
  decide ((s.furlongStart s.fnum / 1000000000 % 86400 + 86400 - h.win) % 86400 < 60 * h.wlen)

/-- The module is the home module and sends HOME_ELIGIBLE. -/
def State.homeEligible (s : State) : Bool :=
  let c := s.blk.chd
  c.home.en && c.home.home == s.blk.cyc.senior && s.mode == .standby && decide (86400 ≤ c.secs) &&
    c.pmode == modeCode .active && c.pstr == 3

/-- An eligible home module in its window acts as if HANDOVER had been accepted in this furlong, and records HOME_RETURN
with its boundary; at most 16 tries in one window. -/
def State.homeReturn (s : State) : State :=
  if !s.inWindow then s.modPair (fun p => { p with tries := 0 })
  else if s.homeEligible && s.pair.target.isNone && decide (s.pair.tries < 16) && s.strength == 3 then
    ((s.record .homeReturn (s.fnum % 2 ^ 32) 0 0).modPair (fun p =>
      { p.dropHandover with target := some (s.fnum + 2), judged := some (s.fnum + 2), tries := p.tries + 1 })).modChd (fun c => { c with host := .horeq })
  else s

/-- HOME_ELIGIBLE: HCLEAN has reached 86 400; the HEARTBEATs carry HOME_ELIGIBLE, and the return is judged for the present
furlong. -/
def execHomeEligible (dt : Nat) (s0 : State) : Host.Outcome State Fault Refusal :=
  let s := s0.elapse dt
  if s.homeEligible && s.boundaries then ok s.homeReturn else ok s

end Sys2Proof.Machine
end

