-- ==== Sys2Proof/Machine/Readings.lean ====
section
/-! DEFINITION. The readings of the position plug and of the seal switches, and the mailbox copy (R47, R48, R80, R434, R456,
R457, R470, R472). -/

namespace Sys2Proof.Machine

/-! ### Position (R47, R457) -/

/-- The number of ones. -/
def oneCount (w : BitVec 14) : Nat := ((List.range 14).filter (fun i => w.getLsbD i)).length

/-- Why a reading is invalid: 2 a cross-short, 1 parity; none when it is valid. -/
def j6Fault (x : J6Sample) : Option Nat :=
  if x.other1 ≠ 0 ∨ x.other2 ≠ 0 then some 2 else if oneCount x.own % 2 = 0 then some 1 else none

/-- The reading of a sample: the 13 code bits, none when it is invalid. -/
def j6Reading (x : J6Sample) : Option (BitVec 13) :=
  match j6Fault x with
  | some _ => none
  | none => some (x.own.extractLsb' 0 13)

/-- The position of a code (R456). -/
def positionOf (w : BitVec 13) : Position :=
  ⟨(w.extractLsb' 0 8).toNat, (w.extractLsb' 8 4).toNat, w.getLsbD 12⟩

/-- The value on which two of the readings of the vertices in service agree. -/
def State.agreed {α : Type} [DecidableEq α] (s : State) (r : Tri α) : Option α :=
  let l := s.serving.map r.get
  l.find? (fun x => 2 ≤ (l.filter (fun y => y = x)).length)

/-- The agreed position of the last readings. -/
def State.agreedPosition (s : State) : Option Position :=
  match s.agreed s.pos.reads with
  | some (some w) => some (positionOf w)
  | _ => none

/-- The vertices read J6; an invalid reading writes POSITION_READ (R448). -/
def State.readPosition (s : State) (j : Tri J6Sample) : State :=
  Vtx.list.foldl (fun t v =>
    match j6Fault (j.get v) with
    | some k => t.record (.update 0x0B03) v.num (j.get v).own.toNat k
    | none => t) { s with pos := ⟨j.map j6Reading⟩ }

/-! ### Seal switches (R434) -/

/-- The voted state of switch `k`, 0 to 3. -/
def Cyc.sw (c : Cyc) (k : Nat) : Bool :=
  match k with
  | 0 => c.sw1
  | 1 => c.sw2
  | 2 => c.sw3
  | _ => c.sw4

/-- Set the voted state of switch `k`. -/
def Cyc.setSw (c : Cyc) (k : Nat) (b : Bool) : Cyc :=
  match k with
  | 0 => { c with sw1 := b }
  | 1 => { c with sw2 := b }
  | 2 => { c with sw3 := b }
  | _ => { c with sw4 := b }

/-- Change the seals. -/
def State.modSeals (s : State) (f : Seals → Seals) : State := { s with blk := { s.blk with seals := f s.blk.seals } }

/-- The readings of switch `k` of the vertices in service. -/
def State.sealReads (s : State) (k : Nat) : List (Vtx × Bool) :=
  s.serving.map (fun v => (v, (s.blk.seals.reads.get v).getLsbD k))

/-- The majority of readings. -/
def majority (l : List (Vtx × Bool)) : Option Bool :=
  let n := (l.filter Prod.snd).length
  if 2 ≤ n then some true else if 2 ≤ l.length - n then some false else none

/-- The vertex that differs from two others. -/
def oddOne (l : List (Vtx × Bool)) : Option Vtx :=
  match l with
  | [a, b, c] =>
    if a.2 = b.2 ∧ b.2 ≠ c.2 then some c.1 else if a.2 = c.2 ∧ a.2 ≠ b.2 then some b.1
    else if b.2 = c.2 ∧ a.2 ≠ b.2 then some a.1 else none
  | _ => none

/-- All readings of switch `k` agree. -/
def State.sealsAgree (s : State) (k : Nat) : Bool :=
  let l := (s.sealReads k).map Prod.snd
  l.all id || !l.any id

/-- The counts of switch `k` after a reading. A disagreement is over, and one that follows is recorded anew, once all readings
agree. -/
def State.countSeal (s : State) (k : Nat) : State :=
  let l := s.sealReads k
  let differs := match majority l with
    | some b => b != s.blk.cyc.sw k
    | none => false
  let o := oddOne l
  s.modSeals (fun x =>
    let again := o.isSome && x.odd.getD k none == o
    { x with
      run := setNth x.run k (if differs then x.run.getD k 0 + 1 else 0), odd := setNth x.odd k o,
      oddRun := setNth x.oddRun k (if o.isNone then 0 else if again then min 100 (x.oddRun.getD k 0 + 1) else 1),
      done := setNth x.done k (x.done.getD k false && !s.sealsAgree k) })

/-- A new majority held at 4 consecutive readings changes the voted state. -/
def State.sealChange (s : State) (k : Nat) : State :=
  match majority (s.sealReads k) with
  | some b =>
    if 4 ≤ s.blk.seals.run.getD k 0 then (s.modCyc (fun c => c.setSw k b)).modSeals (fun x => { x with run := setNth x.run k 0 })
    else s
  | none => s

/-- UPD.SEAL as ARG1 of SEAL_DISAGREE. -/
def Seals.word (x : Seals) : Nat := x.reads.a.toNat + 2 ^ 4 * x.reads.b.toNat + 2 ^ 8 * x.reads.c.toNat

/-- A reading that has differed at 100 consecutive readings sets SEALDIS and is recorded once. -/
def State.sealDisagree (s : State) (k : Nat) : State :=
  if 100 ≤ s.blk.seals.oddRun.getD k 0 ∧ s.blk.seals.done.getD k false = false then
    (s.record (.update 0x0A0E) s.blk.seals.word 0 0).modSeals (fun x => { x with dis := true, done := setNth x.done k true })
  else s

/-- The vertices read their contact sets. SEALDIS clears at the first reading at which all agree. -/
def State.readSeals (s : State) (r : Tri (BitVec 4)) : State :=
  let t := (List.range 4).foldl State.countSeal (s.modSeals (fun x => { x with reads := r }))
  let u := if (List.range 4).all (fun k => t.sealsAgree k) then t.modSeals (fun x => { x with dis := false })
    else t
  (List.range 4).foldl (fun w k => (w.sealChange k).sealDisagree k) u

/-- The voted state of each switch is set directly from a reading (step 5, and the entry to COMMISSION). -/
def State.setSeals (s : State) (r : Tri (BitVec 4)) : State :=
  let t := s.modSeals (fun x => { x with reads := r, run := [0, 0, 0, 0] })
  (List.range 4).foldl (fun w k =>
    match majority (w.sealReads k) with
    | some b => w.modCyc (fun c => c.setSw k b)
    | none => w) t

/-- SEAL_STATE_CHANGE. -/
def execSealStateChange (dt : Nat) (sw : Fin 4) (s0 : State) : Host.Outcome State Fault Refusal :=
  ok ((s0.elapse dt).sealChange sw.val)

/-- SEAL_DISAGREE. -/
def execSealDisagree (dt : Nat) (sw : Fin 4) (s0 : State) : Host.Outcome State Fault Refusal :=
  ok ((s0.elapse dt).sealDisagree sw.val)

/-! ### The mailbox copy (R470, R472) -/

/-- A posted item and the K3M status words are copied into the MBX view of every vertex. -/
def State.mailboxCopy (s : State) : State :=
  let item := if s.mbox.post then s.mbox.page else s.blk.mbx.item
  { s with
    blk := { s.blk with mbx := ⟨item, s.mbox.ks⟩ },
    mbox := { s.mbox with post := false } }

/-- K3MUP and K3MLOSS at the boundary that opens furlong `g` (R472). -/
def State.k3mLive (s : State) (g : Nat) : State :=
  let d := w32 g - 2 - s.blk.mbx.ks.getD 15 0
  { s with blk := { s.blk with k3mUp := d == 0, k3mLoss := d } }

/-- Ten milliseconds of a vertex's own clock have passed since the last mailbox copy, the clock within ±100 ppm (R379). -/
def State.pollDue (s : State) : Bool :=
  match s.start.polled with
  | some a => decide (1249875 ≤ s.nt - a)
  | none => true

/-- The K3M sees SW2 off in the status mirror and abandons a download (R424). -/
def State.sealWatch (s : State) : State := if s.mirrorBlk.cyc.sw2 || s.k3m.failed || s.inReset then s else s.dropDownload 1

/-- MAILBOX_POLL: while no boundaries are raised, the mailbox copy, the seal readings and the firmware's commands every
10 ms. -/
def execMailboxPoll (dt : Nat) (r : Tri (BitVec 4)) (s0 : State) : Host.Outcome State Fault Refusal :=
  let s := s0.elapse dt
  if s.boundaries || s.inReset || !s.pollDue then ok s
  else
    let t : State := { s with taken := false, start := { s.start with polled := some s.nt } }
    ok ((t.mailboxCopy.readSeals r).firmware.mirrorPoll).sealWatch

end Sys2Proof.Machine
end

