-- ==== Sys2Proof/Machine/Pairing.lean ====
section
/-! DEFINITION. A pair cut short: a BUDGET or DEADLINE trap that falls between the two instructions of a pair falls inside the
pair (R110, R118). What the second one is stands in the code memory at PC. -/

namespace Sys2Proof.Machine

/-- A register form: what it reads and writes. -/
def pairR (rr rw : BitVec 16) : IMeta := metaA rr rw 0 0 1

/-- A load or store of class M. -/
def pairM (rr rw : BitVec 16) : IMeta := { cls := .M, cyc := 1, rr := rr, rw := rw }

/-- The registers of a transfer of one register, or of a pair for 64 bits. -/
def xferRegs (wide : Bool) (t : BitVec 4) : BitVec 16 := if wide then rpair t else rbit t

/-- The issue data of a load as the second of a pair. -/
def pairLoad (wide : Bool) : LoadForm → IMeta
  | .inst m => pairM 0 (xferRegs wide m.t)
  | .const m => pairM 0 (xferRegs wide m.t)
  | _ => metaU 1

/-- The issue data of a store as the second of a pair. -/
def pairStore (wide : Bool) : StoreForm → IMeta
  | .inst m => pairM (xferRegs wide m.t) 0
  | _ => metaU 1

/-- The issue data by which an instruction pairs as the second (Table 4.3): class, registers and flags read, registers
written. -/
def pairMeta : Instr → IMeta
  | .mov _ f | .negs _ f | .abss _ f | .not _ f | .snot _ f | .sfromb _ f | .stob _ f | .sall _ f => pairR (rbit f.a) (rbit f.d)
  | .adds _ f | .addu _ f | .subs _ f | .subu _ f | .and _ f | .or _ f | .xor _ f | .sand _ f | .sor _ f | .sxor _ f
  | .sandp _ f | .sorp _ f => pairR (rbit f.a ||| rbit f.b) (rbit f.d)
  | .shl _ f | .shr _ f | .sar _ f | .ror _ f =>
    pairR (if f.mod.getLsbD 11 then rbit f.a else rbit f.a ||| rbit f.b) (rbit f.d)
  | .sel _ f => metaA (rbit f.a ||| rbit f.b) (rbit f.d) (condFlags (f.mod.extractLsb' 8 4)) 0 1
  | .movi _ f | .movis _ f => pairR 0 (rbit f.d)
  | .movhi _ f => pairR (rbit f.d) (rbit f.d)
  | .addsi _ f | .andi _ f | .ori _ f | .xori _ f | .bset _ f | .bclr _ f | .bext _ f | .sget _ f => pairR (rbit f.a) (rbit f.d)
  | .bins _ f | .sput _ f => pairR (rbit f.a ||| rbit f.d) (rbit f.d)
  | .age _ f => pairR (if f.imm.getLsbD 15 then rbit f.a ||| rbit (f.imm.extractLsb' 8 4) else rbit f.a) (rbit f.d)
  | .cmp _ f | .tst _ f => pairR (rbit f.a ||| rbit f.b) 0
  | .cmpi _ f | .btst _ f => pairR (rbit f.a) 0
  | .stst _ f => pairR (rbit f.a) 0
  | .ldb _ f _ _ | .ldbs _ f _ _ | .ldh _ f _ _ | .ldhs _ f _ _ | .ldw _ f _ _ => pairLoad false f
  | .ldd _ f _ _ => pairLoad true f
  | .stb _ f _ | .sth _ f _ | .stw _ f _ => pairStore false f
  | .std _ f _ => pairStore true f
  | .b _ f => { cls := .B, cyc := 1, fr := condFlags f.cond }
  | _ => metaU 1

/-- The first of the pair whose second stands at PC and has not retired, if the vertex is inside a pair. -/
def Vertex.midPair (x : Vertex) : Option LastIssue :=
  match relkuOf .A (w32 (x.mem.load .code x.core.pc.toNat 4)) 0 with
  | some i => x.pairsWith (pairMeta i)
  | none => none

/-- A trap that the clock brings in the running task: inside a pair it is that of the first, and neither retires (R110). -/
def State.clockTrap (s : State) (v : Vtx) (c : TrapCause) (count : Nat) : State :=
  let x := s.v v
  match x.midPair with
  | some l => (s.setV v (x.undoFirst l)).raiseTrap v c 0 0 l.addr count
  | none => s.raiseTrap v c 0 0 x.core.pc count

end Sys2Proof.Machine
end

