-- ==== Sys2Proof/Machine/Centroid.lean ====
section
/-! DEFINITION. The centroid: end-of-cycle entries, slices, votes, verdict and key word (R211, R212, R216 to R228,
R31), and the start of tasks and strides. -/

namespace Sys2Proof.Machine

/-! ### Tasks and strides -/

/-- A vertex's task registers at the start of task `k` (R100). -/
def Core.startTask (c : Core) (k : Nat) (t : TaskDecl) (m : VMem) : Core :=
  { c with
    w := Vector.replicate 16 0, ib := w32 t.frame, xb := 0x02000000#32, kb := m.kbase t.root,
    fl := ⟨false, false, false, false, false⟩, task := k, depth := 0, loops := [], eloops := 0,
    pc := m.entry t.root, count := 0 }

/-- STRD holds vertex `v` before its first instruction until the leading vertex in service has closed DELAY strides
(R387). -/
def State.heldBack (s : State) (v : Vtx) : Bool :=
  let p := s.blk.ptb
  let lead := ((s.serving.filter (fun u => u != v)).map (fun u => (s.v u).strides)).foldl max 0
  p.inforce && (p.force.strd.extractLsb' 0 2).toNat == v.num && decide (lead < (p.force.strd.extractLsb' 8 6).toNat)

/-- Vertex `v` can start its next task: the application runs, phase 0 work is done, no task runs. -/
def State.canStart (s : State) (v : Vtx) : Bool :=
  ((s.runsApp v && s.boundaries && !s.p2 && !s.heldBack v) || s.debugging v) && (s.v v).cur.isNone

/-- The words of descriptor `d` (Table 3.7). -/
def descWords (d : Nat) : List Nat := [16 * d, 16 * d + 8]

/-- TASK_START: the next released task of vertex `v` starts (R58, R100, R103). A root descriptor that cannot be read is a
fault of the vertex (R22, R106). -/
def execTaskStart (v : Vtx) (s0 : State) : Host.Outcome State Fault Refusal :=
  let s := if s0.canStart v then s0.closeFull v else s0
  let x := s.v v
  match x.todo with
  | [] => ok s
  | k :: rest =>
    match s.blk.cyc.tasks[k]? with
    | none => ok s
    | some t =>
      if s.canStart v then
        match x.mem.firstBad (descWords t.root) with
        | some a =>
          ok ((s.setV v { x with core := { x.core with task := k, depth := 0 } }).raiseTrap v .ecc 0 a x.core.pc 0)
        | none => ok (s.setV v { x.scrub (descWords t.root) with core := x.core.startTask k t x.mem, cur := some k, todo := rest, last := none })
      else ok s

/-- BUDGET_TRAP: `stall` clocks of waiting count for the running task, and the trap is raised in the first clock in
which the count exceeds the budget (R61, R110). -/
def execBudgetTrap (v : Vtx) (stall : Nat) (s : State) : Host.Outcome State Fault Refusal :=
  let x := s.v v
  if s.executing v then
    let n := x.core.count + stall
    if s.budget x < n ∧ s.debugging v = false then ok (s.clockTrap v .budget (s.budget x + 1))
    else ok (s.setV v { x with core := { x.core with count := n } })
  else ok s

/-- STRIDE_CLOSE: an ordinary stride closes once its 256th instruction has retired (R211). -/
def execStrideClose (v : Vtx) (s : State) : Host.Outcome State Fault Refusal :=
  if s.runsApp v || s.blk.cen.debugged.get v then ok (s.closeFull v) else ok s

/-! ### The end-of-cycle entries (R211, R212, R218) -/

/-- The output areas of tasks: base address and size in bytes. -/
def State.outAreas (s : State) (tasks : List Nat) : List (Nat × Nat) :=
  tasks.filterMap (fun k => (s.blk.cyc.tasks[k]?).map (fun t => (0x02000000 + 16 * t.outBase, 16 * t.outSize)))

/-- Insert an area by ascending address. -/
def insertArea (a : Nat × Nat) : List (Nat × Nat) → List (Nat × Nat)
  | [] => [a]
  | b :: bs => if a.1 ≤ b.1 then a :: b :: bs else b :: insertArea a bs

/-- The addresses of the 64-bit words of the output areas of the released tasks, ascending. -/
def State.imgAddrs (s : State) (tasks : List Nat) : List Nat :=
  ((s.outAreas tasks).foldr insertArea []).flatMap
    (fun (a, n) => (List.range (n / 8)).map (fun i => a + 8 * i))

/-- The IMG entries and IEND of a vertex: the image words, then the local output word (R218). -/
def Vertex.imgEntries (x : Vertex) (addrs : List Nat) : List Entry :=
  let words := addrs.map (fun a => BitVec.ofNat 64 (x.mem.load .imgOut a 8)) ++ [x.own.lout.zeroExtend 64]
  (words.zipIdx.map (fun (w, i) => ⟨.img, i % 4096, w⟩)) ++ [⟨.iend, 0, BitVec.ofNat 64 words.length⟩]

/-- The residual stride closes and the end-of-cycle entries are sent (R211, R218). -/
def State.endOfCycle (s0 : State) (v : Vtx) : State :=
  let s := (s0.closeFull v).modV v Vertex.placePass
  let x := s.v v
  let sig := x.closeSig s.fnum 1
  let addrs := s.imgAddrs x.released
  let entries := [⟨.res, x.strideNo % 4096, sig⟩, ⟨.tst0, 0, testSig s.fnum 2⟩, ⟨.tst1, 0, testSig s.fnum 3⟩] ++
    x.imgEntries addrs
  let y := { x.nextStride sig with rescnt := x.core.retired, closed := true, imgWords := addrs.length + 1 }
  entries.foldl (fun t e => t.sendEntry v e) (s.setV v y)

/-- The start of phase 2 in vertex `v`: DEADLINE for one that has not finished its tasks (R55), ECC for one whose
image words cannot be read (R22), else the end of its cycle. No task runs when the image is read: PC, TASK and TCW of that
VERTEX_TRAP are what the registers hold (DESIGN CHOICE, notes/assumptions/69.md). -/
def State.phase2Vertex (s : State) (v : Vtx) : State :=
  if !s.runsApp v then s
  else
    let x := s.v v
    if x.cur.isSome || !x.todo.isEmpty then s.clockTrap v .deadline x.core.count
    else
      match (s.imgAddrs x.released).find? (fun a => x.mem.bad .imgOut a) with
      | some a => s.raiseTrap v .ecc 0 a x.core.pc x.core.count
      | none => (s.modV v (fun x => x.scrub ((s.imgAddrs x.released).map (x.mem.eccKey .imgOut)))).endOfCycle v

/-- The last local output word of each vertex before phase 2 becomes its shadow in the safe I/O chip (R36, R342). -/
def State.latchShadows (s : State) : State := s.modAll (fun _ x => { x with own := { x.own with shadow := x.own.lout } })

/-- PHASE2_START (R55, R211). -/
def execPhase2Start (dt : Nat) (s : State) : Host.Outcome State Fault Refusal :=
  let t := s.elapse dt
  if t.boundaries && t.phase == 2 && !t.p2 then
    ok (Vtx.list.foldl (fun u v => u.phase2Vertex v) { t.latchShadows with p2 := true })
  else ok t

/-! ### Entries as received -/

/-- An entry as 80 bits (Table 7.4). -/
def Entry.bits (e : Entry) : BitVec 80 :=
  (BitVec.ofNat 4 (etypeCode e.typ)) ++ (BitVec.ofNat 12 e.seq) ++ e.data

/-- The entry of 80 bits. -/
def Entry.ofBits (b : BitVec 80) : Entry :=
  ⟨etypeOf (b.extractLsb' 76 4).toNat, (b.extractLsb' 64 12).toNat, b.extractLsb' 0 64⟩

/-- The exclusion cause of a WD code (Table 7.8). -/
def xcauseOf (n : Nat) : XCause :=
  if n = 1 then .stride else if n = 2 then .image else if n = 3 then .selfcheck else if n = 4 then .verdict
  else if n = 5 then .skew else if n = 6 then .lateEnd else if n = 7 then .seq else if n = 8 then .clock
  else if n = 9 then .latticeOverrun else if n = 10 then .withdrawn else .other n

/-- The alignment register after an entry, none when its TYPE or SEQ is not the one expected (R217). WD may stand
anywhere. Every stride of Table 7.2 counts toward the skew (R222). -/
def Feed.align (f : Feed) (e : Entry) : Option Feed :=
  match f.stage, e.typ with
  | _, .wd => if e.seq = 0 then some f else none
  | 0, .sig => if e.seq = f.next % 4096 then some { f with next := f.next + 1, strides := f.strides + 1 } else none
  | 0, .res => if e.seq = f.next % 4096 then some { f with next := 0, stage := 1, strides := f.strides + 1 } else none
  | 1, .tst0 => if e.seq = 0 then some { f with stage := 2, strides := f.strides + 1 } else none
  | 2, .tst1 => if e.seq = 0 then some { f with stage := 3, strides := f.strides + 1 } else none
  | 3, .img => if e.seq = f.next % 4096 then some { f with next := f.next + 1 } else none
  | 3, .iend => if e.seq = 0 then some { f with stage := 4 } else none
  | 4, .vrd => if e.seq = 0 then some { f with stage := 5 } else none
  | _, _ => none

/-- The entry closes a stride of Table 7.2. -/
def EType.stride : EType → Bool
  | .sig => true
  | .res => true
  | .tst0 => true
  | .tst1 => true
  | _ => false

/-! ### Exclusion and loss of majority, as a slice sees them -/

/-- The vertices in service that slice `y` still counts. -/
def State.members (s : State) (y : Vtx) : List Vtx :=
  s.serving.filter (fun v => !(s.v y).slice.excl.get v)

/-- Change slice `y`. -/
def State.modSlice (s : State) (y : Vtx) (f : Slice → Slice) : State :=
  s.modV y (fun x => { x with slice := f x.slice })

/-- Slice `y` has no majority: it withholds its key, and the module goes to HALT at once (R223). -/
def State.sliceNoMaj (s : State) (y : Vtx) (typ seq : Nat) : State :=
  (s.modSlice y (fun l => { l with noMaj := true })).noMajority typ seq

/-- Vertex `v` is out in the view of slice `y`. It is excluded from the module when every other vertex in service has
excluded it; it stops as soon as its own slice has (R226). -/
def State.sliceDrop (s : State) (y v : Vtx) (c : XCause) (typ seq : Nat) : State :=
  let t := s.modSlice y (fun l => { l with excl := l.excl.set v true })
  let u := if y = v then t.modV v Vertex.stop else t
  let voters := u.serving.filter (fun w => w != v)
  if voters.all (fun w => (u.v w).slice.excl.get v) then u.exclude v c typ seq (s.others v) else u

/-- Slice `y` excludes vertex `v`. At slice strength 2 the event is no majority. -/
def State.sliceExclude (s : State) (y v : Vtx) (c : XCause) (typ seq : Nat) : State :=
  if s.mode = .start ∨ s.mode = .isolated then s.halt .startDisagree
  else if (s.members y).length < 3 then s.sliceNoMaj y typ seq
  else s.sliceDrop y v c typ seq

/-! ### The vote (R221) -/

/-- The cause of an entry that stands alone (R217, Table 7.6). -/
def entryCause (e m : Entry) : XCause :=
  if e.typ ≠ m.typ ∨ e.seq ≠ m.seq then .seq
  else match m.typ with
    | .sig => .stride
    | .res => .stride
    | .tst0 => .selfcheck
    | .tst1 => .selfcheck
    | .vrd => .verdict
    | _ => .image

/-- The target of the injected mismatch of slice `y` (R227). -/
def injectTarget (ms : List Vtx) (y : Vtx) (fnum : Nat) : Vtx :=
  let others := ms.filter (fun v => v != y)
  let next := match y with
    | .A => Vtx.B
    | .B => .C
    | .C => .A
  let prev := match y with
    | .A => Vtx.C
    | .B => .A
    | .C => .B
  if ms.length = 3 then (if fnum % 2 = 0 then next else prev) else others.headD y

/-- The comparator finds exactly the target in the minority, or a mismatch at strength 2 (R227). -/
def checkPasses (vals : List (Vtx × Long)) (t : Vtx) (bitNo : Nat) : Bool :=
  let inj := vals.map (fun (v, d) => (v, if v = t then d ^^^ (1#64 <<< bitNo) else d))
  match inj with
  | [(_, a), (_, b)] => a != b
  | [(u, a), (v, b), (w, c)] =>
    if a = b ∧ b ≠ c then w == t else if b = c ∧ a ≠ b then u == t else if a = c ∧ a ≠ b then v == t else false
  | _ => false

/-- VRD of slice `y`: its exclusion view and no majority (Table 7.4). -/
def State.vrdEntry (s : State) (y : Vtx) : Entry :=
  let l := (s.v y).slice
  let mask := (Vtx.list.map (fun v => if l.excl.get v || !s.inService v then 2 ^ v.num else 0)).foldl (· + ·) 0
  ⟨.vrd, 0, BitVec.ofNat 64 (mask + 8 * bit l.noMaj)⟩

/-- Slice `y` sends its VRD (R224). -/
def State.sendVrd (s : State) (y : Vtx) : State :=
  if (s.v y).slice.vrdSent then s
  else (s.sendEntry y (s.vrdEntry y)).modSlice y (fun l => { l with vrdSent := true })

/-- The mask of the released tasks. -/
def tasksMask (l : List Nat) : Nat := (l.map (fun k => 2 ^ k)).foldl (· + ·) 0

/-- A key word (Table 1.4). EXCL stands with A in the lowest bit. -/
def keyWordOf (y : Vtx) (excl fnum tasks : Nat) (crc : BitVec 16) : BitVec 48 :=
  BitVec.ofNat 48 (0xD5 * 2 ^ 40 + (y.num + 1) * 2 ^ 38 + excl * 2 ^ 35 + fnum % 256 * 2 ^ 24 + tasks * 2 ^ 16 +
    crc.toNat)

/-- Ns since the start of phase 2. -/
def State.inPhase2 (s : State) : Nat := s.inFurlong - 26 * rodNs s.profile

/-- The last instant at which a slice starts its key word (Table 7.5). -/
def lastKeyNs (p : Profile) : Nat := furlongNs p * 45 / 1000

/-- The exclusions that the key words of this furlong carry: what slice `y` excludes, a withdrawal that takes effect,
and not a vertex that completes its trial (R224, R229, R237). -/
def State.keyExcl (s : State) (y : Vtx) (verdict : Nat) : Nat :=
  (Vtx.list.map (fun v =>
    let out := testB verdict v.num || (s.v y).slice.excl.get v || !s.inService v
    let wd := s.blk.cen.wpend == some v && s.wdEffect
    let back := s.blk.cen.rejVtx == some v && s.blk.cen.rejStep == 7
    if (out || wd) && !back then 2 ^ v.num else 0)).foldl (· + ·) 0

/-- Slice `y` sends its key word once the verdict is complete (R224). The key of a vertex in trial is withheld in its
first two furlongs (R237). In ISOLATED and RESYNC key words are sent and commits form, as R66 and R68 require, although R45 keeps
the key lines idle until the first STANDBY or ACTIVE (DESIGN CHOICE, notes/assumptions/68.md). -/
def State.sendKey (s : State) (y : Vtx) (verdict : Nat) : State :=
  let x := s.v y
  if x.slice.keySent || x.slice.checkFail || x.slice.noMaj || testB verdict 3 || !s.runsApp y ||
     (s.trial y && s.blk.cen.rejStep != 7) || decide (lastKeyNs s.profile < s.inPhase2) then s
  else
    let w := keyWordOf y (s.keyExcl y verdict) s.fnum (tasksMask x.released) x.slice.imgcrc
    s.modV y (fun x => { x with key := some w, slice := { x.slice with keySent := true } })

/-- The image CRC takes the previous IMG word once another follows it: the last one is the local output word (R220). -/
def Slice.image (l : Slice) (d : Long) : Slice :=
  { l with
    imgPrev := some d,
    imgcrc := match l.imgPrev with
      | some p => crc16 l.imgcrc (leBytes 8 p.toNat)
      | none => l.imgcrc }

/-- The trial comparison of slice `y` is complete up to the verdict, or is not called for: in the third trial furlong the
key words wait for it (R237). -/
def State.trialClean (s : State) (y : Vtx) : Bool :=
  match s.blk.cen.rejVtx with
  | some r =>
    s.blk.cen.rejStep != 7 || y == r ||
      (((s.v y).slice.feed.get r).stage == 5 && ((s.v y).slice.feed.get r).queue.isEmpty && (s.v y).slice.ref.isEmpty)
  | none => true

/-- Slice `y` sends its key word when its verdict is complete and a trial is clean up to it. -/
def State.keyDue (s : State) (y : Vtx) : State :=
  match (s.v y).slice.verdict with
  | some n => if s.trialClean y then s.sendKey y n else s
  | none => s

/-- What follows a complete position in slice `y`. `blind`: the comparator of the slice does not see the mismatch that its
self-check injects (R228). -/
def State.acceptEntry (s : State) (y : Vtx) (blind : Bool) (ms : List Vtx) (e : Entry) : State :=
  match e.typ with
  | .tst1 =>
    let vals := ms.map (fun v => (v, e.data))
    if !blind && checkPasses vals (injectTarget ms y s.fnum) (s.fnum % 64) then s
    else
      ((s.modSlice y (fun l => { l with checkFail := true })).modV y (fun x =>
        { x with loc := { x.loc with scfail := satInc 16 x.loc.scfail } })).selfFault y .selfcheck
  | .img => s.modSlice y (fun l => l.image e.data)
  | .iend => (s.modSlice y (fun l => { l with iendDone := true })).sendVrd y
  | .vrd => (s.modSlice y (fun l => { l with verdict := some e.data.toNat })).keyDue y
  | _ => s

/-- The heads of the members' queues, none when one is missing. -/
def State.heads (s : State) (y : Vtx) : List Vtx → Option (List (Vtx × Entry))
  | [] => some []
  | v :: vs =>
    match ((s.v y).slice.feed.get v).queue, s.heads y vs with
    | e :: _, some l => some ((v, e) :: l)
    | _, _ => none

/-- The heads of the members are taken off, and kept for the comparison with a vertex in trial (R237). -/
def Slice.pop (l : Slice) (ms : List Vtx) (e : Entry) (keep : Bool) : Slice :=
  { l with
    feed := l.feed.mapv (fun v f => if ms.contains v then { f with queue := f.queue.drop 1 } else f),
    ref := if keep then l.ref ++ [e] else l.ref }

/-- The vertex in service that slice `y` alone has excluded: the module still counts it, and its VRD with it (R224). -/
def State.alone (s : State) (y : Vtx) : Option Vtx := s.serving.find? (fun v => (s.v y).slice.excl.get v)

/-- The verdict `d` of two vertices in service outvotes that of `v` in slice `y`, one of the two being vertex `x`, which the
slice alone had excluded: `v` is excluded with VERDICT, and `x` stays in service (R224). -/
def State.outvoted (s : State) (y v x : Vtx) (d : Long) (seq : Nat) : State :=
  if s.mode = .start ∨ s.mode = .isolated then s.halt .startDisagree
  else
    let t := s.modSlice y (fun l => { l with excl := l.excl.set x false, verdict := some d.toNat })
    (t.sliceDrop y v .verdict (etypeCode .vrd) seq).keyDue y

/-- The two VRD that slice `y` still counts differ: where it alone has excluded a vertex in service, that vertex's VRD decides,
and until it has come the slice waits (R224); otherwise no two vertices hold one verdict. -/
def State.splitVerdict (s : State) (y u v : Vtx) (a b : Entry) : Option State :=
  match s.alone y with
  | none => some (s.sliceNoMaj y (etypeCode .vrd) 0)
  | some x =>
    match ((s.v y).slice.feed.get x).vrd with
    | none => none
    | some d =>
      if d = a.data then some (s.outvoted y v x d 0)
      else if d = b.data then some (s.outvoted y u x d 0)
      else some (s.sliceNoMaj y (etypeCode .vrd) 0)

/-- One position of slice `y` is complete, or one vertex stands alone in it, or it has no majority. -/
def State.decideOne (s : State) (y : Vtx) (blind : Bool) : Option State :=
  let ms := s.members y
  if (s.v y).slice.noMaj || (s.v y).slice.verdict.isSome || s.mode == .halt then none
  else
    let done := fun (e : Entry) =>
      (s.modSlice y (fun l => l.pop ms e s.blk.cen.rejVtx.isSome)).acceptEntry y blind ms e
    match s.heads y ms with
    | some [(u, a), (v, b)] =>
      if a = b then some (done a)
      else if a.typ = .vrd ∧ b.typ = .vrd then s.splitVerdict y u v a b
      else some (s.sliceNoMaj y (etypeCode a.typ) a.seq)
    | some [(u, a), (v, b), (w, c)] =>
      if a = b ∧ b = c then some (done a)
      else if a = b then some (s.sliceExclude y w (entryCause c a) (etypeCode c.typ) c.seq)
      else if b = c then some (s.sliceExclude y u (entryCause a b) (etypeCode a.typ) a.seq)
      else if a = c then some (s.sliceExclude y v (entryCause b a) (etypeCode b.typ) b.seq)
      else some (s.sliceNoMaj y (etypeCode a.typ) a.seq)
    | _ => none

/-- Decide as many positions as the queues allow. -/
def State.decideAll (s : State) (y : Vtx) (blind : Bool) : Nat → State
  | 0 => s
  | n + 1 =>
    match s.decideOne y blind with
    | some t => t.decideAll y blind n
    | none => s

/-- The most positions that the queues of slice `y` can hold, with room for exclusions. -/
def State.pendingOf (s : State) (y : Vtx) : Nat :=
  (Vtx.list.map (fun v => ((s.v y).slice.feed.get v).queue.length)).foldl (· + ·) 4

/-- Slice `y` decides what it can. -/
def State.decideSlice (s : State) (y : Vtx) (blind : Bool) : State := s.decideAll y blind (s.pendingOf y)

/-- Compare the entries of a vertex in trial with those accepted: a difference ends the rejoin (R237). -/
def State.compareTrial (s : State) (y r : Vtx) : State :=
  let l := (s.v y).slice
  let q := (l.feed.get r).queue
  let n := min l.ref.length q.length
  if l.ref.take n = q.take n then
    s.modSlice y (fun l => { l with
                             ref := l.ref.drop n,
                             feed := l.feed.set r { l.feed.get r with queue := q.drop n } })
  else s.rejoinFail 4

/-- The trial comparison of slice `y`, when a rejoin is in its trial; the key word may wait for it. -/
def State.trialCheck (s : State) (y : Vtx) : State :=
  match s.blk.cen.rejVtx with
  | some r => if s.trial r && s.inService y then (s.compareTrial y r).keyDue y else s
  | none => s

/-- The largest skew of a member, and the member that exceeds 48 (R222). -/
def State.skewOf (s : State) (y v : Vtx) : Nat :=
  let n := fun u => ((s.v y).slice.feed.get u).strides
  ((s.members y).map n).foldl max 0 - n v

/-- Skew supervision of slice `y`. -/
def State.skewCheck (s : State) (y : Vtx) : State :=
  let t := s.modV y (fun x =>
    let m := ((s.members y).map (s.skewOf y)).foldl max x.slice.skewNow
    { x with slice := { x.slice with skewNow := m } })
  match (s.members y).find? (fun v => decide (48 < s.skewOf y v)) with
  | some v => t.sliceExclude y v .skew 0 0
  | none => t

/-- Slice `y` takes an entry of a vertex it counts (R217, R221, R222, R226). The check of TYPE and SEQ comes first; what
an exclusion leaves is decided at the reduced strength. -/
def State.takeEntry (s : State) (y x : Vtx) (blind : Bool) (e : Entry) : State :=
  let f := (s.v y).slice.feed.get x
  let t : State := match f.align e with
    | none => s.sliceExclude y x .seq (etypeCode e.typ) e.seq
    | some g =>
      if e.typ = .wd then s.sliceExclude y x (xcauseOf (e.data.toNat % 256)) (etypeCode EType.wd) 0
      else
        let u := s.modSlice y (fun l => { l with feed := l.feed.set x { g with queue := f.queue ++ [e] } })
        if e.typ.stride then u.skewCheck y else u
  (t.decideSlice y blind).trialCheck y

/-- An entry of a vertex in trial: a wrong TYPE or SEQ, or a WD, ends the rejoin. -/
def State.takeTrial (s : State) (y x : Vtx) (e : Entry) : State :=
  let f := (s.v y).slice.feed.get x
  if e.typ = .wd then s.rejoinFail 4
  else
    match f.align e with
    | none => s.rejoinFail 4
    | some g =>
      (s.modSlice y (fun l => { l with feed := l.feed.set x { g with queue := f.queue ++ [e] } })).trialCheck y

/-- Slice `y` takes the VRD of a vertex in service that it alone has excluded: of its later entries this one still counts
(R224). -/
def State.takeVrd (s : State) (y x : Vtx) (blind : Bool) (e : Entry) : State :=
  (s.modSlice y (fun l => { l with feed := l.feed.set x { l.feed.get x with stage := 5, vrd := some e.data } })).decideSlice y
    blind

/-- The depth of the FIFO in which the entries of a sender wait for a slice: 64 entries of its own stride FIFO, 8 entries of the
receive FIFO of another vertex (Table 1.2, Table 1.6). -/
def fifoDepth (sender slice : Vtx) : Nat := if sender = slice then 64 else 8

/-- The FIFO from which slice `slice` takes the entries of `sender`: the oldest that it has not taken, to the depth of the FIFO.
What follows them on the link has not entered it (notes/assumptions/25.md). -/
def State.fifo (s : State) (sender slice : Vtx) : List Entry :=
  ((s.links.get sender).get slice).take (fifoDepth sender slice)

/-- CENTROID_ENTRY: slice `slice` receives the next entry that `sender` has sent it, with the bits of `err.flip` flipped on
the path. -/
def execCentroidEntry (dt : Nat) (slice sender : Vtx) (err : LinkErr) (s0 : State) :
    Host.Outcome State Fault Refusal :=
  let s := s0.elapse dt
  match s.fifo sender slice with
  | [] => ok s
  | e :: _ =>
    let t : State := { s with
      links := s.links.set sender ((s.links.get sender).set slice (((s.links.get sender).get slice).drop 1)) }
    let r := Entry.ofBits (e.bits ^^^ err.flip)
    if !(t.inService slice || t.trial slice) || t.mode = .halt then ok t
    else if t.trial sender then ok (t.takeTrial slice sender r)
    else if (t.members slice).contains sender then ok (t.takeEntry slice sender err.blind r)
    else if t.inService sender && r.typ == .vrd && r.seq == 0 then ok (t.takeVrd slice sender err.blind r)
    else ok t

/-- At the end of the furlong, a WD that no slice has yet received takes effect: a link takes 20 ns (Table 1.6), so that none
outlasts the furlong in which it was sent (DESIGN CHOICE, notes/assumptions/25.md). -/
def State.flushWd (s : State) : State :=
  Vtx.list.foldl (fun t v =>
    match t.wdOnLink v with
    | some n => if t.mode = .halt then t else t.exclude v (xcauseOf n) (etypeCode .wd) 0 (t.others v)
    | none => t) s

/-! ### W_end and the VRD limit (R222, R224) -/

/-- The members of slice `y` from which it has not received everything up to stage `n`. -/
def State.lateMembers (s : State) (y : Vtx) (n : Nat) : List Vtx :=
  (s.members y).filter (fun v => decide (((s.v y).slice.feed.get v).stage < n))

/-- Slice `y` excludes the vertices that are late. -/
def State.excludeLate (s : State) (y : Vtx) (n : Nat) : State :=
  (s.lateMembers y n).foldl (fun t v =>
    if (t.v y).slice.noMaj || t.mode == .halt then t else t.sliceExclude y v .lateEnd 0 0) s

/-- A vertex in trial from which not everything up to stage `n` has come ends its rejoin. -/
def State.trialLate (s : State) (n : Nat) : State :=
  match s.blk.cen.rejVtx with
  | some r =>
    if s.trial r && s.serving.any (fun y => decide (((s.v y).slice.feed.get r).stage < n)) then s.rejoinFail 4 else s
  | none => s

/-- W_END: every vertex whose entries up to IEND are not complete is excluded, and every slice sends its VRD. -/
def execWEnd (dt : Nat) (s0 : State) : Host.Outcome State Fault Refusal :=
  let s := s0.elapse dt
  if s.boundaries && s.p2 && s.phase == 2 && s.appMode && decide (wEndNs s.profile ≤ s.inPhase2) then
    ok (s.serving.foldl (fun t y =>
      let u := t.excludeLate y 4
      if u.mode == .halt || !u.inService y then u else (u.decideSlice y false).sendVrd y) (s.trialLate 4))
  else ok s

/-- The VRD that slice `y` counts differ, and the one that could decide has not come by the limit. -/
def State.verdictOpen (s : State) (y : Vtx) : Bool :=
  (s.v y).slice.verdict.isNone && (match s.heads y (s.members y) with
    | some [(_, a), (_, b)] => a.typ == .vrd && b.typ == .vrd && a != b
    | _ => false)

/-- Slice `y` at the VRD limit. -/
def State.verdictLimit (s : State) (y : Vtx) : State :=
  if s.verdictOpen y then s.sliceNoMaj y (etypeCode .vrd) 0 else s.keyDue y

/-- VRD_LIMIT: every vertex whose VRD has not been received is excluded, and the verdict is complete; a vertex in trial whose
VRD has not been received ends its rejoin. -/
def execVrdLimit (dt : Nat) (s0 : State) : Host.Outcome State Fault Refusal :=
  let s := s0.elapse dt
  if s.boundaries && s.p2 && s.phase == 2 && s.appMode && decide (vrdNs s.profile ≤ s.inPhase2) then
    ok (s.serving.foldl (fun t y =>
      let u := t.excludeLate y 5
      if u.mode == .halt || !u.inService y then u else (u.decideSlice y false).verdictLimit y) (s.trialLate 5))
  else ok s

end Sys2Proof.Machine
end

