-- ==== Sys2Proof/Machine/Load.lean ====
section
/-! DEFINITION. The all-restrictive initial state, loaded at step 4 and at an entry to ACTIVE from the initial state (R72,
R168, R170). -/

namespace Sys2Proof.Machine

/-! ### The lattice tables of a load set (R173, R175, R178, R179) -/

/-- The directory entry of route `r`: TOFF, NTERM, COFF and NCONF (Table 6.4). -/
def dirTOff (m : List Host.Cell) (r : Nat) : Nat := field (Memory.load m (dirAddr r) 4) 0 24
def dirNTerm (m : List Host.Cell) (r : Nat) : Nat := field (Memory.load m (dirAddr r) 4) 24 7
def dirCOff (m : List Host.Cell) (r : Nat) : Nat := field (Memory.load m (dirAddr r + 4) 4) 0 24
def dirNConf (m : List Host.Cell) (r : Nat) : Nat := field (Memory.load m (dirAddr r + 4) 4) 24 8

/-- The DWORDs of a list of the term SRAM. -/
def termList (m : List Host.Cell) (off n : Nat) : List Nat :=
  (List.range n).map (fun i => Memory.load m (0x03000000 + 8 * off + 4 * i) 4)

/-- A term (Table 6.5). A kind that the table does not list is refused by load-set verification (R181). -/
def termOf (w : Nat) : Term := ⟨field w 0 14, field w 16 8, (termKindOf (field w 24 4)).getD .path⟩

/-- Route `r` of the tables. -/
def routeOf (m : List Host.Cell) (r : Nat) : RouteDecl :=
  { terms := (termList m (dirTOff m r) (dirNTerm m r)).map termOf,
    conf := (termList m (dirCOff m r) (dirNConf m r)).map (fun w => field w 0 14),
    toff := dirTOff m r, coff := dirCOff m r }

/-- The static part of element `e` (Table 6.2). A kind that the table does not list is refused by load-set verification. -/
def elemOf (m : List Host.Cell) (e : Nat) : ElemDecl :=
  let w := Memory.load m (elemAddr e 0) 8
  ⟨(kindOfCode (field w 0 8)).getD .point, field w 24 8, field w 32 16⟩

end Sys2Proof.Machine

namespace Sys2Proof

/-- The elements and routes of a load set. -/
def Content.elems (c : Content) : List ElemDecl :=
  (List.range c.nelems).map (Machine.elemOf (Machine.Memory.ofCells c.elem))
def Content.routes (c : Content) : List RouteDecl :=
  (List.range c.nroutes).map (Machine.routeOf (Machine.Memory.ofCells c.term))

end Sys2Proof

namespace Sys2Proof.Machine

/-! ### The initial state -/

/-- An element of the initial state: detected state unknown, no lock owner. -/
def ElemDecl.initial (d : ElemDecl) : Elem :=
  { decl := d, dstate := 0, dage := 0, aged := false, invalid := false, stale := false, cstate := 0, share := 0,
    owner := none, alend := 0, alst := false }

/-- A route of the initial state: not reserved, and NOT_EVALUATED until the first pass (R203). -/
def RouteDecl.initial (d : RouteDecl) : Route :=
  { decl := d, result := notEvaluated, rstate := .free, engaged := false, sheld := 0, settable := false }

/-- The lattice tables of a load set. -/
def Lattice.load (l : Lattice) (c : Content) : Lattice :=
  { l with
    elems := c.elems.map ElemDecl.initial, routes := c.routes.map RouteDecl.initial,
    nominal := nominalPass c.elems.length c.routes, passDone := false, held := [] }

/-- The value of a tunable item in 4 bytes: INT is sign-extended. -/
def tunableValue (m : List Host.Cell) (t : Tunable) : Word :=
  let n := Memory.load m t.addr (tunableSize t.typ)
  if t.typ = 5 then (BitVec.ofNat 16 n).signExtend 32 else w32 n

/-- The tuning table filled from the load set, with SEQ 0 (R168). -/
def tuningOf (c : Content) : Tuning := ⟨c.hdr.tunables.map (tunableValue c.inst), 0⟩

/-- Data memory, lattice and tuning table of the initial state. The two output banks hold the restrictive output image. -/
def Vertex.loadInitial (x : Vertex) (c : Content) : Vertex :=
  { x with
    mem := { x.mem with
             inst := Memory.ofCells c.inst, imgIn := Memory.ofCells c.imgIn, out0 := Memory.ofCells c.imgOut,
             out1 := Memory.ofCells c.imgOut, ecc := x.mem.ecc.filter staticKey, ecc1 := x.mem.ecc1.filter staticKey },
    lat := x.lat.load c, tune := tuningOf c }

/-- The initial state in every vertex, and empty staging areas. -/
def State.loadInitial (s : State) : State :=
  match s.loaded with
  | none => s
  | some c =>
    let t := s.modAll (fun _ x => x.loadInitial c)
    { ((t.clearArea 0).clearArea 1).clearArea 2 with stageCopy := [] }

/-- The entry to ACTIVE from the initial state (R73). -/
def State.soloStart (s : State) : State := ((s.endDebugs).setMode .active .soloStart).loadInitial

end Sys2Proof.Machine
end

