-- ==== Sys2Proof/Machine/Rejoin.lean ====
section
/-! DEFINITION. The rejoin of a vertex: self-test, bulk copy, rounds, final copy, trial and readmission (R234 to R238). -/

namespace Sys2Proof.Machine

/-- Change the rejoin. -/
def State.modRejoin (s : State) (f : Rejoin → Rejoin) : State := { s with rejoin := f s.rejoin }

/-- The copy budget of a furlong in bytes (R235). -/
def copyBudget : Profile → Nat
  | .perch => 262144
  | .rood => 524288
  | .acre => 1048576

/-- Size of the instance region. -/
def instanceBytes : Nat := 0x00800000

/-- Step `k` of Table 7.11 begins. -/
def State.rejoinStep (s : State) (k : Nat) : State :=
  (s.modCen (fun c => { c with rejStep := k, rejFurl := 0 })).modRejoin (fun r => { r with stepDue := 0 })

/-- The step after the present one begins at the next furlong boundary. -/
def State.rejoinNext (s : State) (k : Nat) : State := s.modRejoin (fun r => { r with stepDue := k })

/-! ### The copy (R235, R236) -/

/-- The key of an error list lies in the 8-byte words of a range. -/
def keyIn (a n k : Nat) : Bool := decide (a ≤ k) && decide (k < a + n)

/-- A range of the instance region is copied from the source; whole words are written, so their check bits are good. -/
def VMem.copyInst (m src : VMem) (a n : Nat) : VMem :=
  { m with
    inst := Memory.copyRange src.inst m.inst a n, ecc := m.ecc.filter (fun k => !keyIn a n k),
    ecc1 := m.ecc1.filter (fun k => !keyIn a n k) }

/-- A range of the working bank is copied from the source. -/
def VMem.copyWork (m src : VMem) (a n : Nat) : VMem :=
  let good := fun (l : List Nat) => l.filter (fun k => !keyIn (m.eccKey .imgOut a) n k)
  let c := m.setCells .imgOut (Memory.copyRange (src.cells .imgOut) (m.cells .imgOut) a n)
  { c with ecc := good m.ecc, ecc1 := good m.ecc1 }

/-- A 4 KiB page is copied. -/
def VMem.copyPage (m src : VMem) (p : Nat) : VMem :=
  if p < 0x02000000 then m.copyInst src p 4096 else m.copyWork src p 4096

/-- The word `k` of the error lists lies in a page. -/
def VMem.pageKey (m : VMem) (p k : Nat) : Bool := keyIn (if p < 0x02000000 then p else m.eccKey .imgOut p) 4096 k

/-- A page has a word that the source cannot read. -/
def VMem.pageBad (m : VMem) (p : Nat) : Bool := m.ecc.any (m.pageKey p)

/-- The words of the final copy beside the marked pages: output areas of both banks and element SRAM. -/
def fixedKey (k : Nat) : Bool :=
  keyIn 0x02000000 0x00040000 k || keyIn 0x12000000 0x00040000 k || keyIn 0x04000000 0x00080000 k

/-- The output areas of both banks are those of the source: the working bank is filled from the transmit bank (R34). The
words of the fixed part are written whole, so their check bits are good. -/
def VMem.copyOutputs (m src : VMem) : VMem :=
  let good := fun (l : List Nat) => l.filter (fun k => !fixedKey k)
  { m with out0 := src.out0, out1 := src.out1, work1 := src.work1, ecc := good m.ecc, ecc1 := good m.ecc1 }

/-- The fixed part in bytes: element table and route records in use, output areas, tuning table and staging areas
(R236). -/
def State.fixedBytes (s : State) (src : Vertex) : Nat :=
  32 * src.lat.elems.length + 8 * src.lat.routes.length +
    ((s.outAreas (List.range 8)).map Prod.snd).foldl (· + ·) 0 + src.tune.bytes.length + 1024

/-- The pages of the source are copied to vertex `v`, and their marks are cleared. Correctable errors that the copy reads
are written back and counted in the source (R22). -/
def State.copyPages (s : State) (u v : Vtx) (l : List Nat) : State :=
  let m := (s.v u).mem
  ((s.modV v (fun x => { x with mem := l.foldl (fun q p => q.copyPage m p) x.mem })).modV u (fun x =>
    { x.scrubIf (fun k => l.any (fun p => m.pageKey p k)) with dirty := x.dirty.filter (fun p => !l.contains p) }))

/-- The bulk copy of step 2: the next share of the instance region. -/
def State.copyBulk (s : State) (u v : Vtx) : State :=
  let m := (s.v u).mem
  let n := min (copyBudget s.profile) (instanceBytes - s.rejoin.copied)
  let a := 0x01000000 + s.rejoin.copied
  if m.ecc.any (keyIn a n) then s.rejoinFail 5
  else
    let t := (s.modV v (fun x => { x with mem := x.mem.copyInst m a n })).modV u (fun x =>
      { x.scrubIf (keyIn a n) with dirty := x.dirty.filter (fun p => !keyIn a n p) })
    let w := t.modRejoin (fun r => { r with copied := r.copied + n, done := true })
    if instanceBytes ≤ w.rejoin.copied then w.rejoinNext 3 else w

/-- The marked pages in ascending order. -/
def Vertex.marked (x : Vertex) : List Nat := x.dirty.foldr (fun p l => l.takeWhile (· < p) ++ p :: l.dropWhile (· < p)) []

/-- The words of the source that the final copy reads beside the marked pages: output areas, elements, route records. -/
def State.fixedWords (s : State) (x : Vertex) : List Nat :=
  (s.imgAddrs (List.range 8)).flatMap (fun a => [a, a + 0x10000000]) ++ (List.range x.lat.elems.length).flatMap elemWords ++
    (List.range x.lat.routes.length).map routeAddr

/-- The final copy of step 4. -/
def State.copyFinal (s : State) (u v : Vtx) (pages : List Nat) : State :=
  let x := s.v u
  if pages.any x.mem.pageBad ∨ (x.mem.firstBad (s.fixedWords x)).isSome then s.rejoinFail 5
  else
    let t := ((s.copyPages u v pages).modV u (fun y => y.scrub (s.fixedWords x))).modV v (fun y =>
      { y with
        mem := y.mem.copyOutputs x.mem, lat := { y.lat with elems := x.lat.elems, routes := x.lat.routes, blank := false },
        tune := x.tune, patch := x.patch })
    (t.rejoinStep 4).modRejoin (fun r => { r with stepDue := 5, done := true })

/-- A round of step 3: furlong G when the fixed part and all marked pages fit the budget, else as many pages as fit. -/
def State.copyRound (s : State) (u v : Vtx) : State :=
  let pages := (s.v u).marked
  let budget := copyBudget s.profile
  if s.fixedBytes (s.v u) + 4096 * pages.length ≤ budget then s.copyFinal u v pages
  else
    let l := pages.take (budget / 4096)
    if l.any (s.v u).mem.pageBad then s.rejoinFail 5
    else (s.copyPages u v l).modRejoin (fun r => { r with done := true })

/-- The share of a furlong is copied from source `u` to vertex `v`. -/
def State.copyShare (s : State) (u v : Vtx) : State :=
  if !s.inService u then s.rejoinFail 5
  else if s.blk.cen.rejStep = 2 ∧ s.rejoin.copied < instanceBytes then s.copyBulk u v
  else if s.blk.cen.rejStep = 3 then s.copyRound u v
  else s

/-- REJOIN_COPY_SLACK: the copy share of this furlong, once in its phase 3, after the mirror set and the reserved slices. -/
def execRejoinCopySlack (dt : Nat) (s0 : State) : Host.Outcome State Fault Refusal :=
  let s := s0.elapse dt
  match s.blk.cen.rejVtx, s.rejoin.source with
  | some v, some u => if s.slackFree && !s.rejoin.done then ok (s.copyShare u v) else ok s
  | _, _ => ok s

/-! ### The self-test -/

/-- A word that a destructive march of the self-test has cleared: instance or element SRAM. -/
def marchedKey (k : Nat) : Bool := keyIn 0x01000000 instanceBytes k || keyIn 0x04000000 0x00080000 k

/-- What the destructive marches leave: the instance region is cleared, the element SRAM reads as zero data until the final copy of
step 4 (R375), and the preserving marches
have corrected the code and term SRAM. -/
def Vertex.afterMarch (x : Vertex) : Vertex :=
  { x with
    mem := { x.mem with inst := [], ecc := x.mem.ecc.filter (fun k => !marchedKey k),
                        ecc1 := x.mem.ecc1.filter (fun k => !marchedKey k && !staticKey k) },
    lat := { x.lat with elems := x.lat.elems.map (fun e => ElemDecl.initial e.decl),
                        routes := x.lat.routes.map (fun r => RouteDecl.initial r.decl), blank := true } }

/-- REJOIN_SELF_TEST_END. `testOk` says that marches and analogue checks pass, `checkOk` that code and term SRAM have the
check values of the load set. -/
def execRejoinSelfTestEnd (dt : Nat) (testOk checkOk : Bool) (s0 : State) : Host.Outcome State Fault Refusal :=
  let s := s0.elapse dt
  match s.blk.cen.rejVtx with
  | none => ok s
  | some v =>
    if s.blk.cen.rejStep ≠ 1 ∨ s.rejoin.stepDue ≠ 0 then ok s
    else if !testOk || (s.v v).mem.ecc.any staticKey then ok (s.rejoinFail 1)
    else if !checkOk then ok (s.rejoinFail 2)
    else ok ((s.modV v Vertex.afterMarch).rejoinNext 2)

/-! ### At the furlong boundary -/

/-- A rejoin that has ended leaves nothing behind. -/
def State.rejoinClear (s : State) : State :=
  if s.blk.cen.rejVtx.isSome then s
  else { s.modAll (fun _ x => { x with marking := false, dirty := [] }) with rejoin := ⟨none, 0, 0, false, 0⟩ }

/-- An accepted REJOIN at its boundary, once the mode of the furlong stands: dropped with WRONG_MODE where the mode does not
know it (R79), else step 1 starts, from the lowest-lettered vertex in service. -/
def State.rejoinStart (s : State) : State :=
  if s.blk.cen.rejVtx.isNone || s.blk.cen.rejStep != 0 then s
  else if Cmd.rejoin.legal 0 s.mode then (s.rejoinStep 1).modRejoin (fun r => ⟨s.serving.head?, 0, 0, false, r.word⟩)
  else ((s.cmdRec s.rejoin.word .wrongMode).modCen (fun c => { c with rejVtx := none })).rejoinClear

/-- From the start of step 2 the signature unit of the source marks pages (R236). -/
def State.rejoinMark (s : State) : State :=
  match s.rejoin.source with
  | some u => s.modV u (fun x => { x with marking := true, dirty := [] })
  | none => s

/-- Step `k` begins at this boundary. -/
def State.rejoinEnter (s : State) (k : Nat) : State :=
  let t := s.rejoinStep k
  if k = 2 then t.rejoinMark else t

/-- The receivers have readmitted the key of the rejoining vertex: it counts for strength (R237). -/
def State.readmit (s : State) (v : Vtx) : State :=
  ((s.modCen (fun c =>
    { c with
      excl := c.excl.set v false, withdrawn := c.withdrawn.set v false, wdOld := c.wdOld.set v false, rejVtx := none, rejStep := 0, rejFurl := 0 })).modAll
      (fun _ x => { x with slice := { x.slice with excl := x.slice.excl.set v false } })).record .vertexRejoined v.num 0 0

/-- The commit of the furlong that ends has readmitted vertex `v`. -/
def State.keyBack (s : State) (v : Vtx) : Bool := s.keyNt.pair.isSome && !s.keyNt.mask.get v

/-- One more furlong in the present step. -/
def State.rejoinCount (s : State) : State := s.modCen (fun c => { c with rejFurl := min 255 (c.rejFurl + 1) })

/-- A step that runs into its limit fails: 200 ms for step 1, 64 furlongs for step 3. -/
def State.rejoinLimit (s : State) : State :=
  let n := s.blk.cen.rejFurl + 1
  if s.blk.cen.rejStep = 1 ∧ 200000000 ≤ n * furlongNs s.profile then s.rejoinFail 1
  else if s.blk.cen.rejStep = 3 ∧ 64 ≤ n then s.rejoinFail 3
  else s.rejoinCount

/-- The rejoin at a furlong boundary. -/
def State.rejoinBoundary (s0 : State) : State :=
  let s := s0.modRejoin (fun r => { r with done := false })
  match s.blk.cen.rejVtx with
  | none => s.rejoinClear
  | some v =>
    let gone := match s.rejoin.source with
      | some u => !s.inService u
      | none => false
    if s.blk.cen.rejStep = 0 then s
    else if gone then (s.rejoinFail 5).rejoinClear
    else if s.rejoin.stepDue ≠ 0 then s.rejoinEnter s.rejoin.stepDue
    else if s.blk.cen.rejStep = 5 then s.rejoinStep 6
    else if s.blk.cen.rejStep = 6 then s.rejoinStep 7
    else if s.blk.cen.rejStep = 7 then (if s.keyBack v then (s.readmit v).rejoinClear else s.rejoinCount)
    else s.rejoinLimit.rejoinClear

end Sys2Proof.Machine
end

