-- ==== Sys2Proof/Machine/Boundary.lean ====
section
/-! DEFINITION. The furlong boundary and the rod boundary (R39, R48 to R59, R67, R68, R73, R76, R229, R272, R358, R361 to
R365, R426). -/

namespace Sys2Proof.Machine

/-! ### When a boundary is raised (R49 to R52) -/

/-- The NT clock edge is the first that has reached a whole multiple of the furlong length, and the boundary there has not
been raised (R50). -/
def State.boundaryDue (s : State) : Bool :=
  s.start.acquired && !s.inReset && s.onGrid (furlongNs s.profile) 0 &&
    (!s.boundaries || decide (s.fnum + 1 ≤ s.time / furlongNs s.profile))

/-- The number of the furlong that opens: one more, and that of R49 at the first boundary. -/
def State.nextFurlong (s : State) : Nat :=
  if s.boundaries then s.fnum + 1 else s.time / furlongNs s.profile % 2 ^ 48

/-! ### The rod boundary (R272, R273, R358, R361) -/

/-- The rods of coldstart: counted, and the states that begin at a rod boundary. -/
def State.coldRods (s : State) : State :=
  let t := (s.modTtb (fun b => { b with count := min 255 (b.count + 1) })).modNic (fun c => { c with csRod := min 255 (c.csRod + 1) })
  match t.nic.csPend with
  | some .coldstart => if t.blk.ttb.state = .listen ∧ t.nic.integBy.isNone then t.enterColdstart else t
  | some .backoff => if t.blk.ttb.state = .coldstart then t.busEnter .backoff else t
  | _ =>
    let u := if t.blk.ttb.state = .coldstart ∧ t.nic.csRod = 40 then t.sendCold else t
    u.coldEnd.ltExpiry

/-- Split brain was detected at least 20 µs ago. -/
def State.yieldRipe (s : State) : Bool :=
  s.pair.yielded || (match s.pair.yieldAt with
    | some a => decide (us20 ≤ s.nt - a)
    | none => false)

/-- A junior stops sending. -/
def State.yieldDue (s : State) : State :=
  if s.mode = .active ∧ s.yieldRipe = true ∧ s.pair.yieldAt.isSome = true then s.modPair (fun p => { p with yielded := true })
  else s

/-- What every rod boundary brings. -/
def State.rodWork (s : State) : State := (s.modNic (fun c => { c with rodAt := some s.nt })).coldRods.laterFrames

/-- ROD_BOUNDARY: rods 1 to 39, each boundary once. The rod boundary of rod 0 is the furlong boundary and belongs to that
command. -/
def execRodBoundary (dt : Nat) (s0 : State) : Host.Outcome State Fault Refusal :=
  let s := s0.elapse dt
  if s.atRod && decide (s.rod ≠ 0) && decide (s.nic.rodAt ≠ some s.nt) then ok s.rodWork.takeoverDue.yieldDue else ok s

/-! ### The furlong that ends -/

/-- The furlong that ends was clean: strength 3, and both receivers committed (R68). -/
def State.furlongClean (s : State) : Bool :=
  decide (s.strength = 3) && s.appMode && s.keyNt.pair.isSome && s.keySi.pair.isSome

/-- Clean furlongs in ISOLATED entered by completing bus integration. -/
def State.countClean (s : State) : State :=
  if s.mode = .isolated ∧ s.r478 = false then { s with clean := if s.furlongClean then min 16 (s.clean + 1) else 0 } else s

/-- Fields of the last furlong (Table 7.14), from the lowest-lettered vertex in service. -/
def State.lastFields (s : State) : State :=
  let x := s.v (s.serving.headD .A)
  s.modCen (fun c =>
    { c with strides := min x.strides 65535, rescnt := min x.rescnt 255, imgWords := min x.imgWords 65535 })

/-- A vertex at the start of a furlong. -/
def Vertex.newFurlong (x : Vertex) (runs : Bool) (excl : Tri Bool) : Vertex :=
  { x with
    core := { x.core with retired := 0, stream := [] }, last := none, cur := none, todo := [], released := [],
    stopped := !runs, closed := false, strideNo := 0, strides := 0, rescnt := 0, imgWords := 0,
    lat := { x.lat with passDone := false, held := [], fResv := 0, fRel := 0 }, slice := .fresh excl, key := none,
    loc := { x.loc with skewLast := x.slice.skewNow, skewMax := max x.loc.skewMax x.slice.skewNow } }

/-- Every vertex opens the furlong, but one in a debug session. -/
def State.openVertices (s : State) : State :=
  s.modAll (fun v x =>
    if s.blk.cen.debugged.get v then x
    else x.newFurlong ((s.inService v || s.trial v) && s.mode != .halt) s.blk.cen.excl)

/-- A key receiver at the start of a furlong. -/
def KeyRx.newFurlong (k : KeyRx) : KeyRx := { k with held := [], pair := none, maskAtStart := k.mask }

/-- The furlong opens. -/
def State.openFurlong (s : State) : State :=
  { s.openVertices with
    keyNt := s.keyNt.newFurlong, keySi := s.keySi.newFurlong, links := Tri.all (Tri.all []), traps := [],
    overran := Tri.all false, votes := [], taken := false, p2 := false, p2End := false, boundaries := true }

/-! ### Clock supervision (R39) -/

/-- The deviation of a count. -/
def clockDev (p : Profile) (n : Nat) : Int := (n : Int) - (nominalClocks p : Int)

/-- A deviation of more than 500 ppm. -/
def clockBad (p : Profile) (n : Nat) : Bool := decide (nominalClocks p < 2000 * (clockDev p n).natAbs)

/-- Two vertices report the same deviation: within 500 ppm of each other. -/
def sameDev (p : Profile) (a b : Nat) : Bool := decide (2000 * (clockDev p a - clockDev p b).natAbs ≤ nominalClocks p)

/-- The vertices compare their counts with the nominal value: the same deviation twice is the NT clock's. -/
def State.superviseClocks (s : State) (n : Tri Nat) : State :=
  let p := s.profile
  let bad := s.serving.filter (fun v => clockBad p (n.get v))
  if bad.any (fun v => bad.any (fun w => v != w && sameDev p (n.get v) (n.get w))) then s.halt .ntClock
  else bad.foldl (fun t v => if t.mode = .halt then t else t.selfFault v .clock) s

/-! ### Mode changes (R67, R68) -/

/-- The last reading agrees with the position in force (R47, R48). -/
def State.positionHolds (s : State) : Bool := s.agreedPosition.isSome && s.agreedPosition == s.blk.ttb.pos

/-- The modes in which a changed position isolates the module (R48). -/
def State.posMode (s : State) : Bool :=
  match s.mode with
  | .resync => true
  | .standby => true
  | .active => true
  | .maintenance => true
  | .isolated => !s.r478
  | _ => false

/-- ISOLATED with POSITION_CHANGED. -/
def State.positionIsolate (s : State) : State := (s.rejoinFail 6).setMode .isolated .positionChanged

/-- A commanded change of mode dropped at its boundary (R67, R79). -/
def State.dropChange (s : State) : State :=
  match s.change with
  | some _ => { s.cmdRec s.changeCmd .wrongMode with change := none }
  | none => s

/-- The commanded change of mode is checked again and made. -/
def State.commandedChange (s : State) : State :=
  match s.change with
  | none => s
  | some (m, c) =>
    let legal := match cmdOf (cmdCode s.changeCmd) with
      | some k => k.legal (cmdArg s.changeCmd) s.mode && !(m == .maintenance && s.r478)
      | none => false
    if !legal then s.dropChange
    else
      let t : State := { s with change := none }
      if m = .start then t.restart else t.setMode m c

/-- Bus integration at a furlong boundary: LISTEN is entered, an integration takes effect, and the power-on sequence goes
on to step 8 in ISOLATED (Table 2.6, Table 8.11). -/
def State.busBoundary (s : State) : State :=
  let t := match s.blk.ttb.state with
    | .off => s.busEnter .listen
    | .yielding => s.busEnter .listen
    | .listen =>
      match s.nic.integBy with
      | some r => (s.integrated r).modNic (fun c => { c with integBy := none })
      | none => s
    | _ => s
  if t.blk.ttb.state = .integrated ∧ t.start.step = 7 then
    { ({ t with start := { t.start with step := 8 } } : State).setMode .isolated .sequence with clean := 0 }
  else t

/-- 16 clean furlongs take the module from ISOLATED to RESYNC. -/
def State.isolatedDone (s : State) : State :=
  if s.mode = .isolated ∧ s.r478 = false ∧ (s.cleanDue = true ∨ 16 ≤ s.clean) ∧ s.strength = 3 ∧ s.positionHolds = true then
    { s.setMode .resync .sequence with start := { s.start with step := 9 }, clean := 0 }
  else s

/-- The 2 s of R73 have passed since the entry to RESYNC. -/
def State.resyncWaited (s : State) : Bool := decide (s.furlongStart s.resyncF + 2000000000 ≤ s.time)

/-- A partner that holds the module in RESYNC (R343). -/
def State.partnerHolds (s : State) : Bool := s.blk.chd.conflict || s.blk.chd.buildmm

/-- A partner has been heard in the last 2 s. -/
def State.partnerHeard (s : State) : Bool := s.within s.pair.heardAt twoSeconds

/-- The rule of R73 applies: the wait of 2 s is over, and no ACTIVE partner is heard. -/
def State.ruleApplies (s : State) : Bool :=
  s.mode == .resync && s.resyncWaited && !s.partnerHolds &&
    !(s.partnerHeard && s.blk.chd.pmode == modeCode .active)

/-- The cases of R73 in which the module may start from the initial state: no partner heard, or a senior. -/
def State.mayStart (s : State) : Bool := s.ruleApplies && (!s.partnerHeard || s.blk.cyc.senior)

/-- The rule of R73, judged at every furlong boundary, that of RESYNC_WAIT_EXPIRY included: the start from the initial state
when the application header permits it, else NO_PARTNER, in a senior and in a junior. -/
def State.startRule (s : State) : State :=
  let solo := s.startDue.getD s.blk.cyc.solo
  if s.mayStart && solo then s.soloStart
  else if s.ruleApplies && !solo then s.record .noPartner 0 0 0
  else s

/-- RESYNC: to STANDBY with the first set of an ACTIVE partner (R355), else the rule of R73. -/
def State.resyncBoundary (s : State) (applied : Bool) : State :=
  if applied ∧ s.blk.chd.pmode = modeCode .active ∧ s.partnerHolds = false then s.setMode .standby .sequence
  else s.startRule

/-- A handover whose target boundary has come without GO (Table 11.9). -/
def State.cancelHandover (s : State) : State :=
  ((s.record .handoverCancelled (s.fnum % 2 ^ 32) 0 0).modPair PairSt2.dropHandover).modChd (fun c => { c with host := .cancelled })

/-- The handover target has come. -/
def State.targetDue (s : State) : Bool :=
  match s.pair.target with
  | some b => decide (b ≤ s.fnum)
  | none => false

/-- The active module goes to STANDBY. -/
def State.toStandby (s : State) (c : MCause) : State :=
  ((s.setMode .standby c).modPair PairSt2.dropHandover).modChd (fun c => { c with host := .idle })

/-- An accepted HANDOVER whose boundary has come in a mode that does not know it is dropped with WRONG_MODE (R79). -/
def State.wrongHandover (s : State) : State :=
  match s.pair.req with
  | some w =>
    if s.targetDue && !(s.mode == .standby || s.mode == .active) then
      (s.cmdRec w .wrongMode).modPair PairSt2.dropHandover
    else s
  | none => s

/-- The yield of a junior at its furlong boundary (R361): a fault-caused change, beside which a commanded change and the module's
own HANDOVER that fall due there are dropped with WRONG_MODE (R67). -/
def State.yieldBoundary (s : State) : State :=
  let t := match s.pair.req with
    | some w => if s.targetDue then s.cmdRec w .wrongMode else s
    | none => s
  (t.toStandby .yielded).dropChange

/-- Handover and yield at a boundary. -/
def State.pairBoundary (s : State) : State :=
  if s.mode = .active then
    (if s.yieldRipe then s.yieldBoundary
     else if s.targetDue then (if s.pair.goSent then s.toStandby .handover else s.cancelHandover) else s)
  else if s.mode = .standby ∧ s.targetDue = true then
    (if s.pair.goGot then s.becomeActive .handover 3 else s.cancelHandover)
  else s

/-- The changes of mode that fall due of themselves. -/
def State.ownChange (s : State) (applied : Bool) : State :=
  match s.mode with
  | .start => s.busBoundary
  | .isolated => s.isolatedDone
  | .resync => s.resyncBoundary applied
  | .standby => s.pairBoundary
  | .active => s.pairBoundary
  | _ => s

/-- The mode changes of a furlong boundary: a fault-caused change first, and a commanded one beside it is dropped. A takeover
that falls on the boundary is such a change, and follows the phase 0 work (R358); a HALT at this boundary is one (`halted`). -/
def State.boundaryModes (s : State) (applied halted : Bool) : State :=
  let t := match s.faultChange with
    | some (.isolated, _) =>
      if s.posMode then s.positionIsolate.dropChange
      else s.commandedChange
    | _ => if s.takeoverRipe || halted then s.dropChange else (s.ownChange applied).commandedChange
  { t with faultChange := none, cleanDue := false, startDue := none }

/-- A reading that does not agree with the position in force isolates the module at the next boundary (R48). -/
def State.judgePosition (s : State) : State :=
  if s.posMode && !s.positionHolds then
    { s with faultChange := some (.isolated, .positionChanged) }
  else s

/-! ### Withdrawal (R229) -/

/-- The result of the second check of WITHDRAW, none when it passes. -/
def State.withdrawRes (s : State) : Option Res :=
  if !(s.mode == .standby || s.mode == .maintenance) then some .wrongMode
  else if !s.blk.cyc.sw4 then some .sealRefused
  else if s.strength ≠ 3 then some .notReady
  else none

/-- A withdrawal at a boundary: checked again at F + 1, carried out at F + 2. -/
def State.withdrawBoundary (s : State) : State :=
  match s.blk.cen.wpend with
  | none => { s with wdEffect := false }
  | some v =>
    if s.wdEffect then
      let t := (s.takeOut v .withdrawn 0 0 (s.others v)).modCen (fun c =>
        { c with withdrawn := c.withdrawn.set v true, wpend := none })
      { t with wdEffect := false }
    else if s.fnum < s.wAt + 1 then s
    else
      match s.withdrawRes with
      | some r => (s.cmdRec s.wWord r).modCen (fun c => { c with wpend := none })
      | none => { s with wdEffect := true }

/-! ### Staged sets (R76, R426) -/

/-- The patch list due at this boundary; at a boundary at which a standby applies a set, a list due in the area that the
set replaced is not applied (R354), also where the standby becomes active at that boundary. -/
def State.patchBoundary (s : State) (applied : Bool) (before : Mode) : State :=
  if applied && (before == .standby || s.mode == .standby) && s.stageDue 0 then s.clearArea 0 else s.patchDue

/-- The activation due at this boundary. -/
def State.activationDue (s : State) : State :=
  if !s.stageDue 2 then s
  else if !kindMode 2 s.mode then s.discard 2 0x0A
  else if !s.kindSeal 2 then s.discard 2 0x0B
  else if !s.stagingHolds (actDig s.staged.act) then s.discard 2 0x0E
  else
    let t := if s.mode = .active then s.abdicate else s
    (((t.tuningCleared).staleList.clearArea 2).modPair (fun p => { p with noTakeover := true })).activateReset

/-- The staged sets in their order. -/
def State.stagedBoundary (s : State) (applied : Bool) (before : Mode) : State :=
  ((s.makeCopies.ioDue).patchBoundary applied before).activationDue

/-! ### The preferred home (R365) -/

/-- The conditions of HCLEAN at this boundary. -/
def State.homeClean (s : State) (formed applied : Bool) : Bool :=
  s.mode == .standby && decide (s.strength = 3) && formed && applied && s.blk.chd.up.1 && s.blk.chd.up.2

/-- HCLEAN: at the first boundary of a second the second before it is judged. -/
def State.homeSeconds (s : State) (formed applied : Bool) : State :=
  if s.blk.chd.home.home != s.blk.cyc.senior then s
  else
    let fails := s.pair.cleanFail || !s.homeClean formed applied
    let sec := s.time / 1000000000
    if sec = s.pair.secAt then
      (s.modPair (fun p => { p with cleanFail := fails })).modChd (fun c => { c with secs := if fails then 0 else c.secs })
    else
      (s.modPair (fun p => { p with cleanFail := false, secAt := sec })).modChd (fun c =>
        { c with secs := if fails then 0 else min 86400 (c.secs + 1) })

/-! ### Fields as they stand at the boundary -/

/-- Frames held in a queue (TTB.QSTAT.FILL). -/
def State.queueFill (s : State) (m : Matrix) (n : Nat) : Nat :=
  let c := s.nic
  if n < 48 then
    (c.rxBind.filter (fun q => m.slots.any (fun d => d.queue == n && d.bind == q.1))).length
  else if n < 60 then
    (c.txEvents.filter (fun e => e.queue == n)).length + (c.rxEvents.filter (fun e => e.queue == n)).length
  else if n < 62 then
    ((c.txPtp.x ++ c.txPtp.y).filter (fun p => (p == .announce) == (n == 61))).length
  else (c.txMgmt.filter (fun e => e.queue == n)).length + (if n = 63 then c.rxMgmt.length else 0)

/-- The fields that a boundary takes of the queues, of the edge FIFO, of the evidence and of the networks. -/
def State.boundaryFields (s : State) : State :=
  let t := match s.blk.ttb.matrix with
    | some m => s.modTtb (fun b => { b with qfill := (List.range 64).map (s.queueFill m) })
    | none => s
  ((t.modNtm (fun n => { n with edgFill := s.edge.entries.length })).modChd (fun c =>
    { c with evid := s.within s.pair.evidActive us300 })).modNic (fun c => { c with rxLast := c.rxNow, rxNow := ⟨false, false⟩ })

/-- The transfer of the safe I/O chip at the boundary (R320, R329, R342): the links that passed, the group FAULT bits as they
stand, and the mode that the chip takes where it has missed it. -/
def State.boundaryLinks (s : State) (good : Tri Bool) : State :=
  let t := s.modSio (fun x =>
    { x with linkf := good.map not, shown := if good.a || good.b || good.c then some x.sticky else x.shown })
  if t.blk.sio.mode = t.mode then t else t.outputsMode

/-- The field supply and the read-back at the boundary: a sample as any other (R318, R331). -/
def State.boundarySupply (s : State) (b : BoundaryIn) : State :=
  let t := s.boundaryLinks b.siOk
  let u := if b.volt < 1920 then (t.supplyWarnRec b.volt).serviceRequest (fun n => n == 57) else t
  u.modSio (fun x => { x.sample s.nt b.volt with readback := b.readback })

/-- The flags that tell of one furlong start again once they are latched. -/
def State.clearHeard (s : State) : State :=
  (s.modChd (fun c => { c with heard := false, conflict := false, buildmm := false, split := false })).modCyc
    (fun c => { c with partner := false })

/-! ### The release (R57, R59) -/

/-- The tasks of the furlong are released, and their input areas frozen. -/
def State.release (s : State) (good : Tri Bool) : State :=
  if !s.appMode then s
  else
    let l := tasksFor s.blk.cyc.tasks s.fnum
    (s.modAll (fun v x => if s.inService v || s.trial v then { x with todo := l, released := l } else x)).freezeInputs l good

/-! ### The boundary -/

/-- Phase 0 after the staged sets. -/
def State.phaseZeroEnd (s : State) (b : BoundaryIn) : State :=
  let t := s.homeReturn.mailboxCopy.k3mLive s.fnum
  let u := ((t.firmware).ptbBoundary).marchRequests.modBst Bst.atBoundary
  ((((u.boundarySupply b).release b.siOk).boundaryFields).latch).clearHeard

/-- Phase 0 of furlong `f`. -/
def State.phaseZero (s : State) (b : BoundaryIn) (formed : Bool) (before : Mode) : State :=
  let t := (s.readPosition b.j6).readSeals b.seals
  let q := t.setAtBoundary (s.fnum - 1)
  let halted := q.1.mode == .halt && before != .halt
  let u := ((q.1.boundaryModes q.2 halted).wrongHandover).rejoinStart
  if u.inReset then u
  else
    let w := (u.judgePosition.withdrawBoundary).stagedBoundary q.2 before
    if w.inReset then w else (w.homeSeconds formed q.2).phaseZeroEnd b

/-- The furlong boundary. -/
def State.furlongBoundary (s : State) (b : BoundaryIn) : State :=
  let f := s.nextFurlong
  let before := s.boundaries
  let formed := s.keyNt.pair.isSome
  let t := (s.closeWindows.countClean.flushWd).deliver (f - 1) ((f - 1) * furlongNs s.profile)
  let u := (((t.modCyc (fun c => { c with fnum := f })).rodWork.lastFields).rejoinBoundary).openFurlong
  let w := if before then u.superviseClocks b.clocks else u
  let z := w.phaseZero b formed s.mode
  if z.inReset then z else z.takeoverDue.yieldDue

/-- FURLONG_BOUNDARY. -/
def execFurlongBoundary (dt : Nat) (b : BoundaryIn) (s0 : State) : Host.Outcome State Fault Refusal :=
  let s := s0.elapse dt
  if s.boundaryDue then ok (s.furlongBoundary b) else ok s

/-! ### Rows that judge for the coming boundary -/

/-- ISOLATED_CLEAN_COUNT: with the furlong that ends, 16 consecutive clean furlongs have run; RESYNC follows at the
boundary (R67). -/
def execIsolatedCleanCount (dt : Nat) (s0 : State) : Host.Outcome State Fault Refusal :=
  let s := s0.elapse dt
  if s.mode = .isolated ∧ s.r478 = false ∧ s.furlongClean = true ∧ 15 ≤ s.clean then ok { s with cleanDue := true } else ok s

/-- RESYNC_WAIT_EXPIRY: the rule of R73 is applied for the boundary that falls at this instant. The start from the initial
state, or without SOLO_OK the record NO_PARTNER, follows at that boundary (R67). -/
def execResyncWaitExpiry (dt : Nat) (s0 : State) : Host.Outcome State Fault Refusal :=
  let s := s0.elapse dt
  if s.ruleApplies then ok { s with startDue := some s.blk.cyc.solo } else ok s

/-- 60 s in NT clocks. -/
def sixtySeconds : Nat := 7500000000

/-- TIME_WAIT: step 6 has waited another 60 s. -/
def execTimeWait (dt : Nat) (s0 : State) : Host.Outcome State Fault Refusal :=
  let s := s0.elapse dt
  if s.start.step = 6 ∧ s.inReset = false ∧ sixtySeconds * (s.start.waits + 1) ≤ s.nt - s.start.waitFrom then
    ok { s.record .timeWait 0 0 0 with start := { s.start with waits := s.start.waits + 1 } }
  else ok s

end Sys2Proof.Machine
end

