-- ==== Sys2Proof/Machine/HostWin.lean ====
section
/-! DEFINITION. The J7 host window: accesses of the host with their collisions (R372, R459, R460, R475), and the
requests that the K3M takes and answers through it (R476). -/

namespace Sys2Proof.Machine

/-- The number of bytes, most significant first (R435). -/
def ofBe (l : List Byte) : Nat := ofLe l.reverse

/-- The J7 port answers: it is enabled and the K3M is neither in reset nor failed (R461). -/
def State.j7Up (s : State) : Bool := s.hwin.en && !s.k3m.failed && !s.inReset

/-- Change the host window. -/
def State.modHwin (s : State) (f : HostWin → HostWin) : State := { s with hwin := f s.hwin }

/-- HOST_ACCESS: the host reads or writes the word at byte address 2 × HA. `c` is what a K3M access to the same 64-bit word
does whose bank cycle overlaps (R371). A read or write that receives BUSY has no effect and brings no valid data, and its repeat
completes at its first attempt (R373); the port drives HBUSY# low continuously while the K3M is in reset or has failed. -/
def execHostAccess (dt : Nat) (wr : Bool) (ha : BitVec 15) (data : BitVec 16) (c : Collide) (s0 : State) :
    Host.Outcome State Fault Refusal :=
  let s := s0.elapse dt
  let a := 2 * ha.toNat
  if !s.hwin.en then ok s
  else if !s.j7Up then ok (s.modHwin (fun h => { h with busy := true, data := none }))
  else if c = .write ∧ s.hwin.owed ≠ some (a / 8) then
    ok (s.modHwin (fun h =>
      { h with busy := true, data := none, hostBusy := satInc 16 h.hostBusy, owed := some (a / 8) }))
  else if wr then
    ok ((s.windowStore a 2 data.toNat).modHwin (fun h =>
      { h with
        busy := false, data := none, owed := none,
        k3mBusy := if c = .read then satInc 16 h.k3mBusy else h.k3mBusy }))
  else
    ok ((s.scrubShared (inWindowWords a 2)).modHwin (fun h =>
      { h with busy := false, data := some (BitVec.ofNat 16 (ofLe (s.windowBytes a 2))), owed := none }))

/-- HBUSY# between accesses: high, but low continuously while the K3M is in reset or has failed (R460, R461). -/
def State.hbusyLow (s : State) : Bool := s.hwin.en && !s.j7Up

/-- HOST_GO: the K3M sets TAKEN, clears GO and takes the request from the window. -/
def execHostGo (dt : Nat) (s0 : State) : Host.Outcome State Fault Refusal :=
  let s := s0.elapse dt
  if s.j7Up && !s.hwin.ready && s.hwin.request.isNone then
    let len := min (ofBe (s.windowBytes 0x10 4)) 32744
    let t := (s.scrubShared (inWindowWords 0x10 (8 + len))).modHwin (fun h => { h with request := some (s.windowBytes 0x10 (8 + len)) })
    ok ((t.modHwin (fun h =>
      { h with mem := Memory.store h.mem 8 2 ((BitVec.ofNat 16 (Memory.load h.mem 8 2)) &&& 0xFFFE).toNat })).writeHstat false)
  else ok s

/-- The requests that would change something (R438). -/
def changing (code : Nat) : Bool :=
  [0x03, 0x04, 0x11, 0x20, 0x21, 0x22, 0x23, 0x30, 0x41, 0x42, 0x43].contains code

/-- The parts of a message (R435): the length it names, CODE, TAG, and the body. -/
structure Message where
  len : Nat
  code : Nat
  tag : BitVec 16
  body : List Byte
  deriving DecidableEq, Repr

/-- Read a message. -/
def messageOf (l : List Byte) : Message :=
  { len := ofBe (l.take 4), code := ofBe ((l.drop 4).take 2), tag := BitVec.ofNat 16 (ofBe ((l.drop 6).take 2)),
    body := l.drop 8 }

/-- What the K3M does with a request of the window: the state, the result and the body of the response. The body of READ
is FROM (6 bytes) and MAX (4), that of MAILBOX is KIND (4), CMD (4) and the item's bytes, each most significant byte
first (notes/assumptions/44.md). -/
def State.j7Serve (s : State) (m : Message) : State × Res × List Byte :=
  let item := if m.code = 0x30 then ofBe ((m.body.drop 4).take 4) else 0
  if s.strict then
    (if changing m.code then s.changeLog 0 1 m.code 0 item .wrongMode else s, .wrongMode, [])
  else if m.len ≠ m.body.length then
    (if changing m.code then s.changeLog 0 1 m.code 0 item .badParam else s, .badParam, [])
  else if m.code = 0x10 then (s, .accepted, s.recorder.info)
  else if m.code = 0x12 then
    if m.body.length ≠ 10 then (s, .badParam, [])
    else
      let q := s.recorder.read (ofBe (m.body.take 6)) (min 32752 (ofBe (m.body.drop 6)))
      (s, q.1, q.2)
  else if m.code = 0x30 then
    let kind := ofBe (m.body.take 4)
    let cmd := w32 (ofBe ((m.body.drop 4).take 4))
    let body := m.body.drop 8
    let r := if m.body.length < 8 then .badParam else s.itemRes true kind cmd body
    let t := if r = .accepted then s.placeItem 1 0 kind cmd body else s
    (t.changeLog 0 1 m.code 0 cmd.toNat r, r, [])
  else (if changing m.code then s.changeLog 0 1 m.code 0 0 .badParam else s, .badParam, [])

/-- HOST_RESPONSE: the K3M writes the response at 16#8000, sets RSPRDY and clears TAKEN. HIRQ# is low while RSPRDY
stands (R461). -/
def execHostResponse (dt : Nat) (s0 : State) : Host.Outcome State Fault Refusal :=
  let s := s0.elapse dt
  match s.hwin.request with
  | none => ok s
  | some l =>
    if !s.j7Up then ok s
    else
      let m := messageOf l
      let (t, r, body) := s.j7Serve m
      let bytes := Response.bytes ⟨.j7, m.code + 0x8000, m.tag, r.code, body⟩
      let u := t.modHwin (fun h =>
        { h with mem := Memory.put h.mem 0x8000 bytes, request := none, reqs := satInc 16 h.reqs })
      ok ((u.writeHstat true).respond .j7 m.code m.tag r body)

/-- HIRQ# is low (R461). -/
def State.hirqLow (s : State) : Bool := s.j7Up && s.hwin.ready

/-- HOST_ACK: the K3M clears RSPRDY and ACK. -/
def execHostAck (dt : Nat) (s0 : State) : Host.Outcome State Fault Refusal :=
  let s := s0.elapse dt
  if s.j7Up && s.hwin.ready then
    ok ((s.modHwin (fun h =>
      { h with mem := Memory.store h.mem 8 2 ((BitVec.ofNat 16 (Memory.load h.mem 8 2)) &&& 0xFFFD).toNat })).writeHstat false)
  else ok s

end Sys2Proof.Machine
end

