-- ==== Sys2Proof/Machine/Key.lean ====
section
/-! DEFINITION. Key receivers, the commit, the copy-back of the image banks, and the end of phase 2 (R32 to R36, R258, R259,
R297 to R299, R351). -/

namespace Sys2Proof.Machine

/-- A key receiver. -/
def State.keyRx (s : State) (r : Receiver) : KeyRx :=
  match r with
  | .nt => s.keyNt
  | .si => s.keySi

/-- Change a key receiver. -/
def State.modKey (s : State) (r : Receiver) (f : KeyRx → KeyRx) : State :=
  match r with
  | .nt => { s with keyNt := f s.keyNt }
  | .si => { s with keySi := f s.keySi }

/-- SRC of a key word (Table 1.4). -/
def keySrc (w : BitVec 48) : Option Vtx :=
  match (w.extractLsb' 38 2).toNat with
  | 1 => some .A
  | 2 => some .B
  | 3 => some .C
  | _ => none

/-- SYNC, SRC and the reserved bits are right. -/
def keyForm (w : BitVec 48) : Bool := w.extractLsb' 40 8 == 0xD5 && (keySrc w).isSome && w.extractLsb' 32 3 == 0

/-- Bits [37:0], on which key words agree. -/
def keyBits (w : BitVec 48) : BitVec 38 := w.extractLsb' 0 38

/-- EXCL of a key word. -/
def keyMask (w : BitVec 48) : Tri Bool := ⟨w.getLsbD 35, w.getLsbD 36, w.getLsbD 37⟩

/-- The receiver ignores a word of source `v`: bad form, or a masked source. -/
def KeyRx.ignores (k : KeyRx) (good : Bool) (w : BitVec 48) : Bool :=
  !good || !keyForm w || (match keySrc w with
    | some v => k.mask.get v
    | none => true)

/-- The sources whose held words agree with `w`, each within 100 µs of `now`, in letter order. -/
def KeyRx.agreeing (k : KeyRx) (w : BitVec 48) (now : Nat) : List Vtx :=
  Vtx.list.filter (fun v => k.held.any (fun h => h.src == v && keyBits h.word == keyBits w && decide (now - h.endAt ≤ 12500)))

/-- Two of three vertices in letter order, the two lowest. -/
def lowestTwo : List Vtx → Option (Vtx × Vtx)
  | a :: b :: _ => some (a, b)
  | _ => none

/-! ### Event frames of a commit (R246, R258, R297 to R299) -/

/-- The frames of a transmit event binding, with the number of frames that do not fit LEN. -/
def eventFrames : Nat → List Word → List (List Word) × Nat
  | 0, _ => ([], 0)
  | n + 1, ws =>
    match ws with
    | [] => ([], n + 1)
    | h :: rest =>
      let k := field h.toNat 16 8
      if k = 0 ∨ 240 < k ∨ rest.length < k then ([], n + 1)
      else
        let r := eventFrames n (rest.drop k)
        (rest.take k :: r.1, r.2)

/-- The launch time of queue 48 + `j` as a vertex has written it, none when the queue is not armed. -/
def OwnWrites.launch (o : OwnWrites) (j : Nat) : Option Nat :=
  if o.ltctl.getLsbD j then some ((o.ltlo.getD j 0).toNat + 2 ^ 32 * (o.lthi.getD j 0).toNat) else none

/-- What becomes of the frames of a queue at a commit. -/
inductive Launch where
  | now
  | at_ (t : Nat)
  | late (t : Nat)
  | range (t : Nat)
  | differ

/-- The launch times of the committing pair for queue `q`: not in ACRE (R297). -/
def State.launchOf (s : State) (u w : Vtx) (q : Nat) : Launch :=
  let a := (s.v u).own.launch (q - 48)
  let b := (s.v w).own.launch (q - 48)
  if s.profile = .acre then .now
  else if a ≠ b then .differ
  else
    match a with
    | none => .now
    | some t => if t < s.time + 50000 then .late t else if s.time + 1000000000 < t then .range t else .at_ t

/-- Launch entries in the time-event memory. -/
def Nic.launches (c : Nic) : Nat := (c.txEvents.filter (fun e => e.launch.isSome)).length

/-- Frames of a channel are queued for sending: each with its payload and the copies over which the ports compute the
codes. -/
def State.queueFrames (s : State) (c : Channel) (l : List (List Word × List Word × List Word)) (launch : Option Nat) : State :=
  l.foldl (fun t q =>
    if launch.isSome && decide (32768 ≤ t.nic.launches) then t.modNtm (fun b => { b with ltFull := satInc 16 b.ltFull })
    else
      t.queueEvent { queue := c.queue, chan := c.chan, payload := q.1, ts := launch.getD s.time, idx := 0, launch := launch,
                     waitX := true, waitY := true, furl := s.fnum, copy1 := q.2.1, copy2 := q.2.2 }) s

/-- Frames suppressed as under R35. -/
def State.suppressFrames (s : State) (n : Nat) : State :=
  if n = 0 then s else s.modTtb (fun b => { b with fOutmm := some s.nt, suppr := satAdd 16 b.suppr n })

/-- The frames that vertex `v` holds in a transmit binding, with the number of frames that do not fit LEN. -/
def State.heldFrames (s : State) (v : Vtx) (b : Binding) : List (List Word) × Nat :=
  let ws := s.txWords v (bindAddrs b b.len)
  eventFrames (field (ws.headD 0).toNat 0 16) (ws.drop 1)

/-- The frames of vertex `u` in a transmit binding, each with the copies of the vertices whose ports compute the codes. -/
def State.imageFrames (s : State) (u : Vtx) (b : Binding) : List (List Word × List Word × List Word) :=
  let p := (s.heldFrames s.coders.1 b).1
  let q := (s.heldFrames s.coders.2 b).1
  (s.heldFrames u b).1.zipIdx.map (fun (x, i) => (x, p.getD i [], q.getD i []))

/-- The words of a transmit binding can be read and are equal in the committing pair. -/
def State.wordsAgree (s : State) (u w : Vtx) (b : Binding) : Bool :=
  let l := bindAddrs b b.len
  s.txWords u l == s.txWords w l && !s.anyBad (s.readers u w) l

/-- The frames of one channel at a commit. `told` says that the refused launch time of its queue has been counted and
recorded. -/
def State.commitChannel (s : State) (u w : Vtx) (c : Channel) (b : Binding) (told : Bool) : State :=
  let t := s.readTx (s.readers u w) (bindAddrs b b.len)
  if !s.wordsAgree u w b then t.outMismatch s.rod c.chan
  else
    let l := s.imageFrames u b
    let cut := (s.heldFrames u b).2
    let s2 := if 0 < cut then t.modTtb (fun t => { t with qdrop := modNth t.qdrop c.queue (fun k => satAdd 16 k cut) }) else t
    match s.launchOf u w c.queue with
    | .now => s2.queueFrames c l none
    | .at_ t => s2.queueFrames c l (some t)
    | .late t =>
      if l.isEmpty || told then s2
      else
        (s2.record .launchLate c.queue (t % 2 ^ 32) (t / 2 ^ 32)).modNtm (fun b =>
          { b with fLate := some s.nt, ltLate := satInc 16 b.ltLate })
    | .range t => if l.isEmpty || told then s2 else s2.record .launchRange c.queue (t % 2 ^ 32) (t / 2 ^ 32)
    | .differ => s2.suppressFrames l.length

/-- The commit refuses the launch time of the frames of a channel (R299). -/
def State.refusesLaunch (s : State) (u w : Vtx) (c : Channel) (b : Binding) : Bool :=
  s.wordsAgree u w b && !(s.imageFrames u b).isEmpty &&
    (match s.launchOf u w c.queue with
     | .late _ => true
     | .range _ => true
     | _ => false)

/-- The channels of a commit one after another; a refused launch time of a queue is counted once (R299). -/
def State.commitChannels (s : State) (u w : Vtx) (told : List Nat) : List (Channel × Binding) → State
  | [] => s
  | p :: l =>
    (s.commitChannel u w p.1 p.2 (told.contains p.1.queue)).commitChannels u w
      (if s.refusesLaunch u w p.1 p.2 then p.1.queue :: told else told) l

/-- The transmit channels of the matrix with their bindings. -/
def State.sendChannels (s : State) : List (Channel × Binding) :=
  match s.blk.ttb.matrix, s.loaded with
  | some m, some c =>
    (m.channels.filter Channel.tx).filterMap (fun ch => (c.hdr.bindings[ch.bind]?).map (fun b => (ch, b)))
  | _, _ => []

/-- The transmit bindings of the tasks that the commit carries are queued, in ACTIVE alone (R258, R259), and the ARM bits
are cleared. -/
def State.commitEvents (s : State) (u w : Vtx) (tasks : Nat) : State :=
  let t := if s.mode = .active ∧ s.pair.yielded = false then
      s.commitChannels u w [] (s.sendChannels.filter (fun p => testB tasks p.2.task))
    else s
  t.modAll (fun _ x => { x with own := { x.own with ltctl := 0 } })

/-! ### The commit -/

/-- The image banks switch in every image SRAM (R34). -/
def VMem.switch (m : VMem) : VMem := { m with work1 := !m.work1 }

/-- The commit at the network chip. -/
def State.commitNt (s : State) (u w : Vtx) (word : BitVec 48) : State :=
  let tasks := (word.extractLsb' 16 8).toNat
  let t := (s.modAll (fun _ x => { x with mem := x.mem.switch })).modNic (fun c =>
    { c with
      pair := some (u, w), lastCommit := some s.fnum, noCommit := 0, tasksMask := tasks, copied := false })
  let e := t.commitEvents u w tasks
  if e.mirrorDue then e.sendSet u w else e

/-- A receiver commits with the words of `u` and `w`. -/
def State.commit (s : State) (r : Receiver) (u w : Vtx) (word : BitVec 48) : State :=
  let t := s.modKey r (fun k => { k with pair := some (u, w), word := word, mask := keyMask word })
  match r with
  | .nt => t.commitNt u w word
  | .si => t.commitOutputs u w

/-- The receiver commits when it holds two agreeing words, one of which ends in this clock. All words that end in the clock
are held first, so that the committing pair is the two lowest-lettered sources among those that agree (R32). -/
def State.formCommit (s : State) (r : Receiver) : State :=
  let k := s.keyRx r
  let pairs := (k.held.filter (fun h => h.endAt == s.nt)).filterMap (fun h =>
    (lowestTwo (k.agreeing h.word s.nt)).map (fun p => (p, h.word)))
  match k.pair, pairs with
  | none, (p, w) :: _ => s.commit r p.1 p.2 w
  | _, _ => s

/-- A key word ends at a receiver: the rules of R32 in order. A word ignored for its FURLONG is not held, so that it does not
count as the first word of its source in the furlong (DESIGN CHOICE, notes/assumptions/27.md). -/
def State.takeKey (s : State) (rx : Receiver) (manchesterOk : Bool) (word : BitVec 48) : State :=
  let k := s.keyRx rx
  if k.ignores manchesterOk word then s.modKey rx (fun k => { k with ignored := k.ignored + 1 })
  else if s.phase ≠ 2 then s.modKey rx (fun k => { k with outOfWindow := k.outOfWindow + 1 })
  else
    match keySrc word with
    | none => s
    | some v =>
      if k.held.any (fun h => h.src == v) then s.modKey rx (fun k => { k with second := k.second + 1 })
      else if (word.extractLsb' 24 8).toNat ≠ s.fnum % 256 then s
      else s.modKey rx (fun k => { k with held := k.held ++ [⟨v, word, s.nt⟩] })

/-- KEY_WORD: key words end in one clock of a receiver. -/
def execKeyWord (dt : Nat) (rx : Receiver) (manchesterOk : Bool) (word : KeyEnds) (s0 : State) :
    Host.Outcome State Fault Refusal :=
  let s := s0.elapse dt
  if !s.boundaries then ok s
  else
    ok ((((manchesterOk, word.word) :: word.more).foldl (fun t q => t.takeKey rx q.1 q.2) s).formCommit rx)

/-! ### Copy-back (R34, R35) -/

/-- The key of the working bank's 8-byte word at `a`. -/
def VMem.workKey (m : VMem) (a : Nat) : Nat := m.eccKey .imgOut a

/-- The working bank takes the transmit bank, but for the words that cannot be read. -/
def VMem.copyBack (m : VMem) (addrs : List Nat) : VMem :=
  let bad := addrs.filter m.txBad
  let work := m.cells .imgOut
  let cells := bad.foldl (fun c a => Memory.copyRange work c a 8) m.transmit
  let fresh := (addrs.filter (fun a => !m.txBad a)).map m.workKey
  let n := m.setCells .imgOut cells
  { n with ecc := n.ecc.filter (fun k => !fresh.contains k), ecc1 := n.ecc1.filter (fun k => !fresh.contains k) }

/-- BANK_COPY_BACK, once after a commit. -/
def execBankCopyBack (dt : Nat) (s0 : State) : Host.Outcome State Fault Refusal :=
  let s := s0.elapse dt
  if s.nic.lastCommit.isSome && !s.nic.copied then
    let addrs := s.imgAddrs (List.range 8)
    let r := Vtx.list.foldl (fun u v => u.scrubTx v addrs) s
    let t := (r.modAll (fun _ x => { x with mem := x.mem.copyBack addrs })).modNic (fun c => { c with copied := true })
    ok (Vtx.list.foldl (fun u v => u.portEcc v (addrs.any (s.v v).mem.txBad)) t)
  else ok s

/-! ### The end of phase 2 (R32, R33, R259) -/

/-- The sources whose word is missing or differs from that of the committing pair. -/
def KeyRx.minority (k : KeyRx) : List Vtx :=
  Vtx.list.filter (fun v =>
    !k.maskAtStart.get v && !(k.held.any (fun h => h.src == v && keyBits h.word == keyBits k.word)))

/-- KEY_MINORITY records of a receiver that has committed. -/
def State.minorities (s : State) (r : Receiver) (n : Nat) : State :=
  let k := s.keyRx r
  if k.pair.isSome then k.minority.foldl (fun t v => t.record .keyMinority (v.num + 1) n 0) s else s

/-- A furlong without a commit, at each receiver (R33). -/
def State.missedCommit (s : State) : State :=
  let t := if s.keyNt.pair.isSome then s
    else
      let n := s.nic.noCommit + 1
      (s.modNic (fun c => { c with noCommit := n })).modTtb (fun b =>
        { b with silent := if 2 ≤ n ∧ s.mode = .active then satInc 16 b.silent else b.silent })
  if t.keySi.pair.isSome then t else t.modSio (fun x => { x with nocommit := min 255 (x.nocommit + 1) })

/-- PHASE2_END. -/
def execPhase2End (dt : Nat) (s0 : State) : Host.Outcome State Fault Refusal :=
  let s := s0.elapse dt
  if s.boundaries && !s.p2End && s.phase == 3 then
    let t := ((s.minorities .nt 0).minorities .si 1).missedCommit
    ok { t with p2 := true, p2End := true }
  else ok s

end Sys2Proof.Machine
end

