-- ==== Sys2Proof/Machine/LoadStore.lean ====
section
/-! DEFINITION. Loads and stores: the address forms, program access by region, alias windows and register accesses (R94 to
R97, R123 to R126, R369, R370). -/

namespace Sys2Proof.Machine

/-- The address forms of Table 4.2. -/
inductive AForm where
  | inst
  | image
  | const
  | glob
  deriving DecidableEq, Repr

/-- What an access that passes its checks reaches. -/
inductive Target where
  | mem (r : Region) (a : Nat)
  | setBits (r : Region) (a : Nat)
  | clearBits (r : Region) (a : Nat)
  | reg (a : Nat)
  deriving DecidableEq, Repr

/-- The form of a load. -/
def loadForm : LoadForm → AForm
  | .inst _ => .inst
  | .image _ => .image
  | .const _ => .const
  | .glob _ => .glob

/-- The form of a store. -/
def storeForm : StoreForm → AForm
  | .inst _ => .inst
  | .image _ => .image
  | .glob _ => .glob

/-- The effective address of the OFF20 forms and of the global form (R123). -/
def globAddr (c : Core) (g : FmtG) : Word := c.reg g.b + g.disp.signExtend 32

/-- The effective address of a load. -/
def loadAddr (c : Core) : LoadForm → Word
  | .inst m => c.ib + m.off.zeroExtend 32
  | .image m => c.xb + m.off.zeroExtend 32
  | .const m => c.kb + m.off.zeroExtend 32
  | .glob g => globAddr c g

/-- The effective address of a store. -/
def storeAddr (c : Core) : StoreForm → Word
  | .inst m => c.ib + m.off.zeroExtend 32
  | .image m => c.xb + m.off.zeroExtend 32
  | .glob g => globAddr c g

/-- The register of a load. -/
def loadReg : LoadForm → BitVec 4
  | .inst m => m.t
  | .image m => m.t
  | .const m => m.t
  | .glob g => g.t

/-- The register of a store. -/
def storeReg : StoreForm → BitVec 4
  | .inst m => m.t
  | .image m => m.t
  | .glob g => g.t

/-- Registers that the address of a load reads. -/
def loadBase : LoadForm → BitVec 16
  | .glob g => rbit g.b
  | _ => 0

/-- Registers that the address of a store reads. -/
def storeBase : StoreForm → BitVec 16
  | .glob g => rbit g.b
  | _ => 0

/-- The issue class of a form (Table 4.3). -/
def AForm.cls : AForm → IClass
  | .inst => .M
  | .const => .M
  | _ => .U

/-! ### Checks (Table 3.6, R94 to R96) -/

/-- The program reaches frames below the mirror receive area (R350). -/
def inOwnFrames (p : Profile) (a : Nat) : Bool := decide (0x01000000 ≤ a) && decide (a < mirrorBase p)

/-- Globals. -/
def inGlobals (a : Nat) : Bool := decide (0x01600000 ≤ a) && decide (a < 0x01700000)

/-- Constants. -/
def inConsts (a : Nat) : Bool := decide (0x01700000 ≤ a) && decide (a < 0x017F0000)

/-- The running task of a vertex. -/
def State.taskOf (s : State) (x : Vertex) : Option TaskDecl := s.blk.cyc.tasks[x.core.task]?

/-- The address lies in the output area of the running task (R95). -/
def State.inOut (s : State) (x : Vertex) (a : Nat) : Bool :=
  match s.taskOf x with
  | some t => inArea t.outBase t.outSize a
  | none => false

/-- The address lies in the input area of the running task. -/
def State.inIn (s : State) (x : Vertex) (a : Nat) : Bool :=
  match s.taskOf x with
  | some t => inArea t.inBase t.inSize a
  | none => false

/-- An access to the image region: IMAGE unless it stays in the areas of the running task (R95). -/
def State.imageTarget (s : State) (x : Vertex) (write : Bool) (a : Nat) : Except TrapCause Target :=
  if s.inOut x a then .ok (.mem .imgOut a)
  else if s.inIn x a && !write then .ok (.mem .imgIn a)
  else .error .image

/-- A write to an alias window acts on a frame or global word, or on an output-area word (Table 12.2). -/
def State.windowTarget (s : State) (x : Vertex) (a : Nat) : Except TrapCause Target :=
  let inst := fun (t : Nat) (q : Target) =>
    if inOwnFrames s.profile t || inGlobals t then Except.ok q else .error TrapCause.access
  let img := fun (t : Nat) (q : Target) => if s.inOut x t then Except.ok q else .error TrapCause.image
  if a < 0x01C00000 then inst (a - 0x00400000) (.setBits .inst (a - 0x00400000))
  else if a < 0x02000000 then inst (a - 0x00800000) (.clearBits .inst (a - 0x00800000))
  else if a < 0x02200000 then img (a - 0x00100000) (.setBits .imgOut (a - 0x00100000))
  else img (a - 0x00200000) (.clearBits .imgOut (a - 0x00200000))

/-- The address lies in an alias window. -/
def inAliasWindow (a : Nat) : Bool :=
  (decide (0x01800000 ≤ a) && decide (a < 0x02000000)) || (decide (0x02100000 ≤ a) && decide (a < 0x02300000))

/-- What the global form reaches. -/
def State.globTarget (s : State) (v : Vtx) (x : Vertex) (write : Bool) (n a : Nat) : Except TrapCause Target :=
  if inOwnFrames s.profile a || inGlobals a then .ok (.mem .inst a)
  else if inConsts a then (if write then .error .access else .ok (.mem .inst a))
  else if inImage a then s.imageTarget x write a
  else if inAliasWindow a then (if write && n == 4 then s.windowTarget x a else .error .access)
  else if n == 4 && a % 4 == 0 && (s.readReg v a).isSome then .ok (.reg a)
  else .error .access

/-- What an access of `n` bytes reaches, or the cause of its trap: the lowest applies (R106). A read of an alias window, and a
store to one of another width than 4, is ACCESS in every form (R94, R125). -/
def State.target (s : State) (v : Vtx) (x : Vertex) (f : AForm) (write : Bool) (n : Nat) (addr : Word) :
    Except TrapCause Target :=
  let a := addr.toNat
  let r : Except TrapCause Target := match f with
    | .inst => if inOwnFrames s.profile a then .ok (.mem .inst a) else .error .access
    | .image =>
      if inImage a then s.imageTarget x write a
      else if !(write && n == 4) && inAliasWindow a then .error .access
      else .error .image
    | .const => if inConsts a && !write then Except.ok (Target.mem .inst a) else .error TrapCause.access
    | .glob => s.globTarget v x write n a
  match r with
  | .error .access => .error .access
  | r => if a % n = 0 then r else .error .align

/-! ### Cycles (Table 4.4) -/

/-- Worst-case clocks over the base count that a region admits. -/
def regionSlack : Region → Nat
  | .imgIn => 6
  | .imgOut => 6
  | _ => 2

/-- Cycles of an access: the wait `w` counts up to the worst case. -/
def accessCycles (wide : Bool) (w : Nat) : Except TrapCause Target → Nat
  | .ok (.mem r _) => (if wide then 1 else 2) + min w (regionSlack r)
  | .ok (.setBits r _) => 3 + min w (regionSlack r)
  | .ok (.clearBits r _) => 3 + min w (regionSlack r)
  | .ok (.reg _) => 12
  | .error _ => if wide then 1 else 2

/-! ### Loads -/

/-- How a load of `n` bytes extends its value. -/
def extend (signed : Bool) (n val : Nat) : Word :=
  if signed then w32i (if 2 ^ (8 * n - 1) ≤ val then (val : Int) - 2 ^ (8 * n) else val) else w32 val

/-- The address of a load on a vertex. -/
def State.loadTarget (s : State) (v : Vtx) (f : LoadForm) (n : Nat) (x : Vertex) : Except TrapCause Target :=
  s.target v x (loadForm f) false n (loadAddr x.core f)

/-- The issue data of a load. -/
def State.loadMeta (s : State) (v : Vtx) (f : LoadForm) (n w : Nat) (x : Vertex) : IMeta :=
  { cls := (loadForm f).cls, cyc := accessCycles false w (s.loadTarget v f n x), rr := loadBase f,
    rw := if n = 8 then rpair (loadReg f) else rbit (loadReg f) }

/-- The value of a load in its register or registers. -/
def Vertex.loaded (x : Vertex) (t : BitVec 4) (signed : Bool) (n val : Nat) : Vertex :=
  if n = 8 then x.setPair t (BitVec.ofNat 64 val) else x.setReg t (extend signed n val)

/-- A read that waits for the pass (R205) brings the held pass writes into the stream at its retirement (R185). -/
def Vertex.placeWaiting (x : Vertex) (a : Nat) : Vertex := if regWaits a false then x.placePass else x

/-- The action of a load. -/
def State.loadBody (s : State) (v : Vtx) (f : LoadForm) (signed busy : Bool) (n : Nat) (x : Vertex) : IRes :=
  let a := (loadAddr x.core f).toNat
  match s.loadTarget v f n x with
  | .error c => .trap c 0 a
  | .ok (.mem r a) =>
    if x.mem.bad r a then .trap .ecc 0 a
    else .done (((x.touch r a).meetBusy (busy && (r == .imgIn || r == .imgOut))).loaded (loadReg f) signed n (x.mem.load r a n)) none []
  | .ok (.reg a) =>
    let val := w32 ((s.readReg v a).getD 0)
    let y := x.placeWaiting a
    .done (if regLocal a then y.setRegLocal (loadReg f) val else y.setReg (loadReg f) val) none []
  | .ok _ => .trap .access 0 a

/-- The access waits for the lattice pass of the furlong, as a lattice instruction does: until then nothing happens (R192,
R205). -/
def State.accessWaits (s : State) (v : Vtx) (t : Except TrapCause Target) (write : Bool) : Bool :=
  match t with
  | .ok (.reg a) => regWaits a write && !(s.v v).lat.passDone
  | _ => false

/-- A load of `n` bytes. An odd register names no pair (R85). -/
def State.loadInstr (s : State) (v : Vtx) (f : LoadForm) (signed busy : Bool) (n w : Nat) : State :=
  let bad := n == 8 && oddReg (loadReg f)
  let m := s.loadMeta v f n w
  if s.executing v && s.accessWaits v (s.loadTarget v f n (s.v v)) false && (s.commonCause v (m (s.v v)) bad).isNone then s
  else s.run v m bad (s.loadBody v f signed busy n)

/-- LDB. -/
def execLdb (v : Vtx) (f : LoadForm) (w : Nat) (busy : Bool) (s : State) : Host.Outcome State Fault Refusal :=
  ok (s.loadInstr v f false busy 1 w)

/-- LDBS. -/
def execLdbs (v : Vtx) (f : LoadForm) (w : Nat) (busy : Bool) (s : State) : Host.Outcome State Fault Refusal :=
  ok (s.loadInstr v f true busy 1 w)

/-- LDH. -/
def execLdh (v : Vtx) (f : LoadForm) (w : Nat) (busy : Bool) (s : State) : Host.Outcome State Fault Refusal :=
  ok (s.loadInstr v f false busy 2 w)

/-- LDHS. -/
def execLdhs (v : Vtx) (f : LoadForm) (w : Nat) (busy : Bool) (s : State) : Host.Outcome State Fault Refusal :=
  ok (s.loadInstr v f true busy 2 w)

/-- LDW. -/
def execLdw (v : Vtx) (f : LoadForm) (w : Nat) (busy : Bool) (s : State) : Host.Outcome State Fault Refusal :=
  ok (s.loadInstr v f false busy 4 w)

/-- LDD. -/
def execLdd (v : Vtx) (f : LoadForm) (w : Nat) (busy : Bool) (s : State) : Host.Outcome State Fault Refusal :=
  ok (s.loadInstr v f false busy 8 w)

/-! ### Stores -/

/-- The target of a store on a vertex. -/
def State.storeTarget (s : State) (v : Vtx) (f : StoreForm) (n : Nat) (x : Vertex) : Except TrapCause Target :=
  s.target v x (storeForm f) true n (storeAddr x.core f)

/-- The issue data of a store. -/
def State.storeMeta (s : State) (v : Vtx) (f : StoreForm) (n w : Nat) (x : Vertex) : IMeta :=
  { cls := (storeForm f).cls, cyc := accessCycles (n == 8) w (s.storeTarget v f n x),
    rr := storeBase f ||| (if n = 8 then rpair (storeReg f) else rbit (storeReg f)) }

/-- The value that a store moves. -/
def Vertex.storeVal (x : Vertex) (t : BitVec 4) (n : Nat) : Nat :=
  (if n = 8 then (x.pair t).toNat else (x.reg t).toNat) % 2 ^ (8 * n)

/-- The bytes that a store of `n` bytes to the instance memory replaces. -/
def VMem.replaced (m : VMem) (a n : Nat) : List Host.Cell :=
  (List.range n).map (fun i => (a + i, Memory.read m.inst (a + i)))

/-- An alias write: the record holds the alias address and the mask, the bank changes the target word (R370). -/
def Vertex.window (x : Vertex) (r : Region) (a : Nat) (rec_ : SigRec) (f : Word → Word) : Vertex :=
  let y := x.touch r a
  { y with mem := y.mem.store r a 4 (f (w32 (y.mem.load r a 4))).toNat }.feed rec_

/-- The action of a store on its vertex. A store of fewer than 8 bytes reads its word (Table 4.4). -/
def State.storeBody (s : State) (v : Vtx) (f : StoreForm) (n : Nat) (x : Vertex) : IRes :=
  let at_ := (storeAddr x.core f).toNat
  let val := x.storeVal (storeReg f) n
  let mask := w32 val
  match s.storeTarget v f n x with
  | .error c => .trap c 0 at_
  | .ok (.mem r a) =>
    if n != 8 && x.mem.bad r a then .trap .ecc 0 a
    else .done (x.storeRec r a n val) none (if r = .inst then x.mem.replaced a n else [])
  | .ok (.setBits r a) =>
    if x.mem.bad r a then .trap .ecc 0 at_ else .done (x.window r a (.bitSet at_ mask) (fun q => q ||| mask)) none []
  | .ok (.clearBits r a) =>
    if x.mem.bad r a then .trap .ecc 0 at_ else .done (x.window r a (.bitClear at_ mask) (fun q => q &&& ~~~mask)) none []
  | .ok (.reg a) => .done (x.feed (.store 4 a (BitVec.ofNat 64 val))) none []

/-- What a store brings about beyond its vertex: a register write, once the instruction has retired. -/
def State.storePost (s : State) (v : Vtx) (f : StoreForm) (n : Nat) (t : State) : State :=
  match s.storeTarget v f n (s.v v) with
  | .ok (.reg a) => t.writeReg v a ((s.v v).reg (storeReg f))
  | _ => t

/-- A store of `n` bytes. -/
def State.storeInstr (s : State) (v : Vtx) (f : StoreForm) (n w : Nat) : State :=
  let bad := n == 8 && oddReg (storeReg f)
  let m := s.storeMeta v f n w
  if s.executing v && s.accessWaits v (s.storeTarget v f n (s.v v)) true && (s.commonCause v (m (s.v v)) bad).isNone then s
  else s.instr v m bad (s.storeBody v f n) (s.storePost v f n)

/-- STB. -/
def execStb (v : Vtx) (f : StoreForm) (w : Nat) (s : State) : Host.Outcome State Fault Refusal := ok (s.storeInstr v f 1 w)

/-- STH. -/
def execSth (v : Vtx) (f : StoreForm) (w : Nat) (s : State) : Host.Outcome State Fault Refusal := ok (s.storeInstr v f 2 w)

/-- STW. -/
def execStw (v : Vtx) (f : StoreForm) (w : Nat) (s : State) : Host.Outcome State Fault Refusal := ok (s.storeInstr v f 4 w)

/-- STD. -/
def execStd (v : Vtx) (f : StoreForm) (w : Nat) (s : State) : Host.Outcome State Fault Refusal := ok (s.storeInstr v f 8 w)

end Sys2Proof.Machine
end

