-- ==== Sys2Proof/Machine/Logic.lean ====
section
/-! DEFINITION. Logic, bits and shifts (Table 4.8). -/

namespace Sys2Proof.Machine

/-- AND. -/
def execAnd (v : Vtx) (f : FmtR) (s : State) : Host.Outcome State Fault Refusal :=
  ok (s.runAlu v (metaA (rbit f.a ||| rbit f.b) (rbit f.d) 0 fZN 1) (f.mod != 0) f.d
    (fun x => logicAlu x.core.fl (x.reg f.a &&& x.reg f.b)))

/-- OR. -/
def execOr (v : Vtx) (f : FmtR) (s : State) : Host.Outcome State Fault Refusal :=
  ok (s.runAlu v (metaA (rbit f.a ||| rbit f.b) (rbit f.d) 0 fZN 1) (f.mod != 0) f.d
    (fun x => logicAlu x.core.fl (x.reg f.a ||| x.reg f.b)))

/-- XOR. -/
def execXor (v : Vtx) (f : FmtR) (s : State) : Host.Outcome State Fault Refusal :=
  ok (s.runAlu v (metaA (rbit f.a ||| rbit f.b) (rbit f.d) 0 fZN 1) (f.mod != 0) f.d
    (fun x => logicAlu x.core.fl (x.reg f.a ^^^ x.reg f.b)))

/-- NOT. -/
def execNot (v : Vtx) (f : FmtR) (s : State) : Host.Outcome State Fault Refusal :=
  ok (s.runAlu v (metaA (rbit f.a) (rbit f.d) 0 fZN 1) (f.b != 0 || f.mod != 0) f.d
    (fun x => logicAlu x.core.fl (~~~(x.reg f.a))))

/-- ANDI. -/
def execAndi (v : Vtx) (f : FmtI) (s : State) : Host.Outcome State Fault Refusal :=
  ok (s.runAlu v (metaA (rbit f.a) (rbit f.d) 0 fZN 1) false f.d
    (fun x => logicAlu x.core.fl (x.reg f.a &&& immZ f.imm)))

/-- ORI. -/
def execOri (v : Vtx) (f : FmtI) (s : State) : Host.Outcome State Fault Refusal :=
  ok (s.runAlu v (metaA (rbit f.a) (rbit f.d) 0 fZN 1) false f.d
    (fun x => logicAlu x.core.fl (x.reg f.a ||| immZ f.imm)))

/-- XORI. -/
def execXori (v : Vtx) (f : FmtI) (s : State) : Host.Outcome State Fault Refusal :=
  ok (s.runAlu v (metaA (rbit f.a) (rbit f.d) 0 fZN 1) false f.d
    (fun x => logicAlu x.core.fl (x.reg f.a ^^^ immZ f.imm)))

/-- A malformed shift: MOD[10:5] is 0, and the count form not used is 0 (R130). -/
def badShift (f : FmtR) : Bool :=
  f.mod.extractLsb' 5 6 != 0 ||
    (if f.mod.getLsbD 11 then f.b != 0 else f.mod.extractLsb' 0 5 != 0)

/-- The count of a shift (R130). -/
def shiftCount (x : Vertex) (f : FmtR) : Nat :=
  if f.mod.getLsbD 11 then (f.mod.extractLsb' 0 5).toNat else (x.reg f.b).toNat

/-- The issue data of a shift. -/
def metaShift (f : FmtR) : IMeta :=
  metaA (if f.mod.getLsbD 11 then rbit f.a else rbit f.a ||| rbit f.b) (rbit f.d) 0 fZNC 1

/-- SHL. -/
def execShl (v : Vtx) (f : FmtR) (s : State) : Host.Outcome State Fault Refusal :=
  ok (s.runAlu v (metaShift f) (badShift f) f.d (fun x => shlAlu x.core.fl (x.reg f.a) (shiftCount x f)))

/-- SHR. -/
def execShr (v : Vtx) (f : FmtR) (s : State) : Host.Outcome State Fault Refusal :=
  ok (s.runAlu v (metaShift f) (badShift f) f.d (fun x => shrAlu x.core.fl (x.reg f.a) (shiftCount x f)))

/-- SAR. -/
def execSar (v : Vtx) (f : FmtR) (s : State) : Host.Outcome State Fault Refusal :=
  ok (s.runAlu v (metaShift f) (badShift f) f.d (fun x => sarAlu x.core.fl (x.reg f.a) (shiftCount x f)))

/-- ROR. -/
def execRor (v : Vtx) (f : FmtR) (s : State) : Host.Outcome State Fault Refusal :=
  ok (s.runAlu v (metaShift f) (badShift f) f.d (fun x => rorAlu x.core.fl (x.reg f.a) (shiftCount x f)))

/-- A bit number in IMM16[4:0]; the other bits of the immediate are not used (R114). -/
def badBit (imm : BitVec 16) : Bool := imm.extractLsb' 5 11 != 0

/-- BTST: Z is 1 when the bit is 0; Wd is 0. -/
def execBtst (v : Vtx) (f : FmtI) (s : State) : Host.Outcome State Fault Refusal :=
  ok (s.runFlags v (metaA (rbit f.a) 0 0 fZ 1) (f.d != 0 || badBit f.imm)
    (fun x => setZ x.core.fl (!(x.reg f.a).getLsbD f.imm.toNat)))

/-- BSET. -/
def execBset (v : Vtx) (f : FmtI) (s : State) : Host.Outcome State Fault Refusal :=
  ok (s.runAlu v (metaA (rbit f.a) (rbit f.d) 0 fZN 1) (badBit f.imm) f.d
    (fun x => logicAlu x.core.fl (x.reg f.a ||| maskAt f.imm.toNat 1)))

/-- BCLR. -/
def execBclr (v : Vtx) (f : FmtI) (s : State) : Host.Outcome State Fault Refusal :=
  ok (s.runAlu v (metaA (rbit f.a) (rbit f.d) 0 fZN 1) (badBit f.imm) f.d
    (fun x => logicAlu x.core.fl (x.reg f.a &&& ~~~(maskAt f.imm.toNat 1))))

/-- POS of a bit-field instruction, in IMM16[4:0]. -/
def posOf (imm : BitVec 16) : Nat := (imm.extractLsb' 0 5).toNat

/-- LEN, whose predecessor stands in IMM16[9:5]. -/
def lenOf (imm : BitVec 16) : Nat := (imm.extractLsb' 5 5).toNat + 1

/-- A malformed bit field: IMM16[15:10] non-zero, or POS + LEN above 32 (R130), for which the spec names no trap: it is taken as
a malformed encoding and traps OPCODE (DESIGN CHOICE, notes/assumptions/68.md). -/
def badFieldImm (imm : BitVec 16) : Bool :=
  imm.extractLsb' 10 6 != 0 || decide (32 < posOf imm + lenOf imm)

/-- BEXT. -/
def execBext (v : Vtx) (f : FmtI) (s : State) : Host.Outcome State Fault Refusal :=
  ok (s.runAlu v (metaA (rbit f.a) (rbit f.d) 0 fZN 1) (badFieldImm f.imm) f.d
    (fun x => logicAlu x.core.fl (w32 (field (x.reg f.a).toNat (posOf f.imm) (lenOf f.imm)))))

/-- BINS reads its Wd (R118). -/
def execBins (v : Vtx) (f : FmtI) (s : State) : Host.Outcome State Fault Refusal :=
  ok (s.runAlu v (metaA (rbit f.a ||| rbit f.d) (rbit f.d) 0 fZN 1) (badFieldImm f.imm) f.d
    (fun x => logicAlu x.core.fl
      ((x.reg f.d &&& ~~~(maskAt (posOf f.imm) (lenOf f.imm))) |||
        (x.reg f.a <<< posOf f.imm &&& maskAt (posOf f.imm) (lenOf f.imm)))))

end Sys2Proof.Machine
end

