-- ==== Sys2Proof/Machine/Supply.lean ====
section
/-! DEFINITION. The main supply and the power-down reset (R444 to R448). Voltages are in units of 10 mV. -/

namespace Sys2Proof.Machine

/-- Change the supply. -/
def State.modSupply (s : State) (f : Supply → Supply) : State := { s with supply := f s.supply }

/-- One supply input. -/
def Supply.input (x : Supply) (p : Pwr) : PwrIn :=
  match p with
  | .a => x.a
  | .b => x.b

/-- Replace one supply input. -/
def Supply.setInput (x : Supply) (p : Pwr) (i : PwrIn) : Supply :=
  match p with
  | .a => { x with a := i }
  | .b => { x with b := i }

/-- An input counts as present. -/
def Supply.any (x : Supply) : Bool := x.a.present || x.b.present

/-- Table 15.1: the input after a measurement of `volt`, above 80 V for `us` µs. -/
def PwrIn.judge (i : PwrIn) (volt us now : Nat) : PwrIn :=
  if !i.disconnected ∧ 8000 < volt ∧ 1000 < us then { i with present := false, disconnected := true }
  else if i.disconnected ∧ 7700 ≤ volt then i
  else
    let j := { i with disconnected := false }
    if 3400 ≤ volt then { j with present := true, since := if i.present then i.since else now }
    else if volt < 3200 then { j with present := false }
    else j

/-- ARG2 of SUPPLY_INPUT. -/
def PwrIn.arg (i : PwrIn) : Nat := if i.disconnected then 2 else bit i.present

/-- NOR writes go on after a short interruption: what waited is programmed, an erase that waited begins, and the saved write-queue
count is void. -/
def Recorder.supplyBack (r : Recorder) : Recorder :=
  let t := { r with norHold := false, lost := 0, wasFrozen := false }.settle
  if t.erasing && !t.still && !t.logfail then t.eraseAhead else t

/-- An input counts as present again during hold-up: the module carries on with no reset, and what the K3M saved is void. -/
def State.supplyBack (s : State) : State :=
  if s.supply.any ∧ !s.supply.held then
    { s with
      supply := { s.supply with bothLost := false }, k3m := { s.k3m with mark := none },
      recorder := if s.supply.bothLost then s.recorder.supplyBack else s.recorder }
  else s

/-- SUPPLY_INPUT: an input crosses a threshold, or is disconnected or reconnected. -/
def execSupplyInput (dt : Nat) (p : Pwr) (volt overUs : Nat) (s0 : State) : Host.Outcome State Fault Refusal :=
  let s := s0.elapse dt
  let i := s.supply.input p
  let j := i.judge volt overUs s.nt
  if i.present = j.present ∧ i.disconnected = j.disconnected then ok s
  else
    let t := s.modSupply (fun x => x.setInput p j)
    let n := match p with
      | .a => 0
      | .b => 1
    ok ((t.updRec 0x0B01 n j.arg volt).supplyBack)

/-- BOTH_INPUTS_LOST: the K3M stops starting NOR writes and saves its counters, the write-queue count and the power-down
mark. -/
def execBothInputsLost (dt : Nat) (s0 : State) : Host.Outcome State Fault Refusal :=
  let s := s0.elapse dt
  if s.supply.any || s.supply.bothLost then ok s
  else
    let t := (s.modSupply (fun x => { x with bothLost := true })).modRec (fun r => { r with norHold := true })
    if s.k3m.failed then ok t
    else
      let u := t.modRec (fun r =>
        { r with saved := r.optime, lost := r.queue.length, wasFrozen := r.frozen.isSome })
      let w := if s.upd.onProbation then u.journal (fun j => { j with clean := s.upd.clean }) else u
      ok { w with k3m := { w.k3m with mark := some (s.recorder.optime, s.recorder.queue.length) } }

/-- What the recorder holds outside NOR, FRAM and the AO domain is lost with the power. -/
def Recorder.powerLoss (r : Recorder) : Recorder :=
  { r with
    formQ := [], queue := [], frozen := none, heldCount := 0, overflow := 0, ovf := 0, intake := none }

/-- What the K3M holds outside NOR, FRAM and its flash is lost with the power. -/
def State.k3mPowerLoss (s : State) : State :=
  let t := s.modRec Recorder.powerLoss
  let u := t.modUpd (fun x => { x with s0 := none, s1 := none, haltNt := none, secNt := 0,
                                        commanded := none, dlSess := none })
  { u with
    k3m := { u.k3m with failed := true, waiting := none, edges := [] },
    mbox := ⟨.empty, false, List.replicate 16 0, none, false⟩,
    hwin := ⟨[], false, false, 0, 0, 0, true, none, none, none⟩ }

/-- The power-down reset (R446, R447): it is held until an input is back. -/
def State.powerDown (s : State) : State :=
  ((s.enterReset.k3mPowerLoss).modCyc (fun c => { c with cause := .powerOn })).modSupply (fun x => { x with held := true })

/-- POWER_DOWN_RESET: both inputs are lost and the store has fallen to 30 V (R446). All switches open and the guardians disable their transmitters; no
one-shot action is released and no ABDICATE is sent. -/
def execPowerDownReset (dt : Nat) (store : Nat) (s0 : State) : Host.Outcome State Fault Refusal :=
  let s := s0.elapse dt
  if store ≤ 3000 ∧ !s.supply.any ∧ !s.supply.held then
    ok s.powerDown
  else ok s

/-- An input has counted as present for 100 ms without a break. -/
def PwrIn.steady (i : PwrIn) (now : Nat) : Bool := i.present && decide (12500000 ≤ now - i.since)

/-- RESET_RELEASE: the reset is released; POWER_ON follows. -/
def execResetRelease (dt : Nat) (s0 : State) : Host.Outcome State Fault Refusal :=
  let s := s0.elapse dt
  if s.supply.held && (s.supply.a.steady s.nt || s.supply.b.steady s.nt) then
    ok (s.modSupply (fun x => { x with held := false, bothLost := false }))
  else ok s

end Sys2Proof.Machine
end

