-- ==== Sys2Proof/Machine/Verify.lean ====
section
/-! DEFINITION. Check 7 of Table 14.3, CONTENT: the conditions that the chapters lay down for a load set (R29, R41, R42,
R60, R98, R99, R109, R111, R135, R138, R151, R155, R156, R161, R178 to R181, R219, R241, R251 to R253, R256, R294, R302,
R319, R338, R349, R350, R477). What the structured content cannot show is named in notes/assumptions/9.md. -/

namespace Sys2Proof.Machine

/-! ### Areas and spans -/

/-- A span: first address and length. -/
abbrev Span := Nat × Nat

/-- Two spans have a byte in common. -/
def Span.meets (x y : Span) : Bool :=
  decide (0 < x.2) && decide (0 < y.2) && decide (x.1 < y.1 + y.2) && decide (y.1 < x.1 + x.2)

/-- The first span lies inside the second. -/
def Span.within (x y : Span) : Bool := decide (y.1 ≤ x.1) && decide (x.1 + x.2 ≤ y.1 + y.2)

/-- No two spans of a list meet. -/
def Span.apart : List Span → Bool
  | [] => true
  | x :: l => l.all (fun y => !Span.meets x y) && Span.apart l

/-- No value occurs twice. -/
def distinct {α : Type} [BEq α] : List α → Bool
  | [] => true
  | x :: l => !l.contains x && distinct l

/-- The input area of a task. -/
def taskIn (t : TaskDecl) : Span := (0x02000000 + 16 * t.inBase, 16 * t.inSize)

/-- The output area of a task. -/
def taskOut (t : TaskDecl) : Span := (0x02000000 + 16 * t.outBase, 16 * t.outSize)

/-- The frames region, the frames and globals regions together, and the image region. -/
def framesSpan : Span := (0x01000000, 0x00600000)
def mirrorSpan : Span := (0x01000000, 0x00700000)
def imageSpan : Span := (0x02000000, 0x00040000)
def tuneSpans : List Span := [(0x01600000, 0x00100000), (0x01700000, 0x000F0000)]

/-- The mirror receive area (R350). -/
def receiveSpan (p : Profile) : Span := (mirrorBase p, 0x01600000 - mirrorBase p)

/-! ### Tasks (R57, R60, R111, R219) -/

/-- The sum limit of R60 in vertex clocks. -/
def budgetLimit : Profile → Nat
  | .perch => 712500
  | .rood => 1525000
  | .acre => 3150000

/-- The sum of a list. -/
def total (l : List Nat) : Nat := l.foldl (· + ·) 0

/-- The tasks released in furlong `f` of the pattern, with their numbers (R57). -/
def releasedIn (h : AppHeader) (f : Nat) : List (Nat × TaskDecl) :=
  (h.tasks.zipIdx.map (fun q => (q.2, q.1))).filter (fun q => q.2.en && f % 2 ^ q.2.period == q.2.offset)

/-- BUDGET of a task, enabled or not, in its relation to the bound (R111). -/
def budgetOk (t : TaskDecl) : Bool := t.budget == t.bound + ceilDiv t.bound 16 && decide (t.budget ≤ 16777215)

/-- Period and offset of an enabled task (R57). -/
def patternOk (t : TaskDecl) : Bool := decide (t.period ≤ 4) && decide (t.offset < 2 ^ t.period)

/-- The areas of the tasks, enabled or not (R60): inside the image region, no output area on another or on an input
area. -/
def areasOk (l : List TaskDecl) : Bool :=
  l.all (fun t => Span.within (taskIn t) imageSpan && Span.within (taskOut t) imageSpan) && Span.apart (l.map taskOut) &&
    l.all (fun a => l.all (fun b => !Span.meets (taskOut a) (taskIn b)))

/-- R57, R60, R111, R219, and the 96 KiB of R253. -/
def tasksOk (p : Profile) (h : AppHeader) : Bool :=
  let first := match h.tasks with
    | t :: _ => t.en && t.period == 0 && t.offset == 0
    | [] => false
  first && decide (h.tasks.length ≤ 8) && h.tasks.all (fun t => budgetOk t && (!t.en || patternOk t)) && areasOk h.tasks &&
    (List.range 16).all (fun f =>
      let rel := releasedIn h f
      decide (total (rel.map (fun q => q.2.budget)) ≤ budgetLimit p) &&
        decide (total (rel.map (fun q => 16 * q.2.outSize)) ≤ 8 * imgLimit p) &&
        decide (total ((h.bindings.filter (fun b => !b.tx && 0 < b.len && rel.any (fun q => q.1 == b.task))).map
          (fun b => 4 * (b.len + 1))) ≤ 98304))

/-! ### Code (R98, R99, R109, R135, R137, R151, R156) -/

/-- What a walk over the instructions of a block finds. -/
structure Scan where
  starts : List Nat               -- first words of instructions
  branches : List (Nat × Nat)     -- B: address and target
  bodies : List (Nat × Nat)       -- LOOPN bodies: first word and LEND
  opened : List Nat               -- bodies still open
  depth : Nat                     -- most bodies open at once
  calls : List (Nat × Nat × Nat)  -- CALLFB: open bodies, frame offset in 16-byte units, descriptor
  timers : List (Nat × Nat)       -- timer slot number and KIND code
  edges : List Nat                -- edge slot offset
  reads : List Span               -- instance-form loads: offset and size
  writes : List Span              -- instance-form stores
  known : List (Nat × Word)       -- registers that MOVX or MOVI has fixed, with their values
  fixed : List Span               -- global-form accesses at a fixed address: that of the word they act on, and size
  good : Bool

/-- Nothing found. -/
def Scan.start : Scan := ⟨[], [], [], [], 0, [], [], [], [], [], [], [], true⟩

/-- A global-form access of `n` bytes; an access to an alias window acts on the word behind it (R94). -/
def Scan.touching (k : Scan) (g : FmtG) (n : Nat) : Scan :=
  match k.known.find? (fun q => q.1 == g.b.toNat) with
  | some q => { k with fixed := (aliasWord (q.2 + g.disp.signExtend 32).toNat, n) :: k.fixed }
  | none => k

/-- An instance-form or global-form load or store of `n` bytes. -/
def Scan.reading (k : Scan) (f : LoadForm) (n : Nat) : Scan :=
  match f with
  | .inst m => { k with reads := (m.off.toNat, n) :: k.reads }
  | .glob g => k.touching g n
  | _ => k
def Scan.writing (k : Scan) (f : StoreForm) (n : Nat) : Scan :=
  match f with
  | .inst m => { k with writes := (m.off.toNat, n) :: k.writes }
  | .glob g => k.touching g n
  | _ => k

/-- The registers whose values stay known after an instruction with the word `w`: MOVX and MOVI fix one, a store changes none,
a change of the flow of control leaves none, and any other instruction writes at most Wd and the register after it. -/
def Scan.learn (k : Scan) (w : Word) (i : Option Instr) : Scan :=
  let d := (w.extractLsb' 20 4).toNat
  let rest := k.known.filter (fun q => q.1 != d && q.1 != d + 1)
  { k with
    known :=
      match i with
      | some (.movx _ f) => (d, f.imm) :: rest
      | some (.movi _ f) => (d, f.imm.setWidth 32) :: rest
      | some (.stb ..) => k.known
      | some (.sth ..) => k.known
      | some (.stw ..) => k.known
      | some (.std ..) => k.known
      | some (.b ..) => []
      | some (.loopn ..) => []
      | some (.lend ..) => []
      | some (.callfb ..) => []
      | some (.retfb ..) => []
      | some _ => rest
      | none => [] }

/-- One instruction at `pc`. A word with an undefined opcode is the first word of no instruction (R117, R135). -/
def Scan.take (k : Scan) (pc : Nat) (i : Option Instr) : Scan :=
  let n := if i.isSome then { k with starts := pc :: k.starts } else k
  match i with
  | some (.b _ f) => { n with branches := (pc, pc + 4 + 4 * f.off.toNat) :: n.branches }
  | some (.loopn _ f) =>
    { n with
      opened := (pc + 4) :: n.opened, depth := max n.depth (n.opened.length + 1), good := n.good && f.count != 0 }
  | some (.lend _ _) =>
    match n.opened with
    | b :: rest => { n with opened := rest, bodies := (b, pc) :: n.bodies }
    | [] => { n with good := false }
  | some (.ton _ f _) => { n with timers := (f.imm.toNat, 1) :: n.timers }
  | some (.tof _ f _) => { n with timers := (f.imm.toNat, 2) :: n.timers }
  | some (.tp _ f _) => { n with timers := (f.imm.toNat, 3) :: n.timers }
  | some (.rtrig _ f _) => { n with edges := f.off.toNat :: n.edges }
  | some (.ftrig _ f _) => { n with edges := f.off.toNat :: n.edges }
  | some (.callfb _ f _) => { n with calls := (n.opened.length, f.f.toNat, f.d.toNat) :: n.calls }
  | some (.ldb _ f _ _) => n.reading f 1
  | some (.ldbs _ f _ _) => n.reading f 1
  | some (.ldh _ f _ _) => n.reading f 2
  | some (.ldhs _ f _ _) => n.reading f 2
  | some (.ldw _ f _ _) => n.reading f 4
  | some (.ldd _ f _ _) => n.reading f 8
  | some (.stb _ f _) => n.writing f 1
  | some (.sth _ f _) => n.writing f 2
  | some (.stw _ f _) => n.writing f 4
  | some (.std _ f _) => n.writing f 8
  | _ => n

/-- The words of an instruction: MOVX and CALLFB have two (R112). -/
def wordsOf : Option Instr → Nat
  | some (.movx ..) => 2
  | some (.callfb ..) => 2
  | _ => 1

/-- The walk over `n` words at most from `pc` to `last`. -/
def scanFrom (code : List Host.Cell) (pc last : Nat) : Nat → Scan → Scan
  | 0, k => k
  | n + 1, k =>
    if last ≤ pc then k
    else
      let w := w32 (Memory.load code pc 4)
      let i := relkuOf .A w (w32 (Memory.load code (pc + 4) 4))
      scanFrom code (pc + 4 * wordsOf i) last n ((k.take pc i).learn w i)

/-- A branch keeps to the loop nesting (R135). -/
def branchNests (bodies : List (Nat × Nat)) (b t : Nat) : Bool :=
  bodies.all (fun q =>
    if q.1 ≤ b ∧ b ≤ q.2 then decide (t ≤ q.2) else !(decide (q.1 ≤ t) && decide (t ≤ q.2)))

/-- The block by itself. No store reaches the header of its own frame (R99). -/
def Scan.ok (k : Scan) : Bool :=
  k.good && k.opened.isEmpty && k.branches.all (fun q => k.starts.contains q.2 && branchNests k.bodies q.1 q.2) &&
    distinct k.edges && k.calls.all (fun q => q.2.2 != 0) && k.writes.all (fun q => decide (8 ≤ q.1))

/-- The scan of a block. -/
def scanBlock (code : List Host.Cell) (b : BlockDecl) : Scan :=
  scanFrom code b.first b.last ((b.last - b.first) / 4) .start

/-- A descriptor word. -/
def descAtWord (code : List Host.Cell) (d k : Nat) : Nat := Memory.load code (16 * d + 4 * k) 4

/-- FSIZE in bytes. -/
def frameSize (code : List Host.Cell) (d : Nat) : Nat := 16 * field (descAtWord code d 2) 0 16

/-- INSIZE and OUTSIZE together. -/
def ioSize (code : List Host.Cell) (d : Nat) : Nat :=
  field (descAtWord code d 3) 0 16 + field (descAtWord code d 3) 16 16

/-- The fields of Table 3.7 for a block: ENTRY lies within the code region. -/
def descOk (code : List Host.Cell) (b : BlockDecl) : Bool :=
  decide (1 ≤ b.desc) && decide (b.desc ≤ 4095) && descAtWord code b.desc 0 == b.first && decide (0x10000 ≤ b.first) &&
    b.first % 4 == 0 &&
    b.last % 4 == 0 && decide (b.first < b.last) && decide (b.last ≤ 0x00400000) && descAtWord code b.desc 1 % 8 == 0 &&
    decide (1 ≤ field (descAtWord code b.desc 2) 0 16) && field (descAtWord code b.desc 2) 16 16 == 0 &&
    field (descAtWord code b.desc 3) 0 16 % 8 == 0 && field (descAtWord code b.desc 3) 16 16 % 8 == 0

/-- The scan of a block that a descriptor names. -/
def scanOf (l : List (BlockDecl × Scan)) (d : Nat) : Option Scan := (l.find? (fun q => q.1.desc == d)).map Prod.snd

/-- Loop levels and call depth from a block down, none when a call names no block or the call graph does not end
within `n` calls. -/
def callCost (l : List (BlockDecl × Scan)) (d : Nat) : Nat → Option (Nat × Nat)
  | 0 => none
  | n + 1 =>
    match scanOf l d with
    | none => none
    | some k =>
      k.calls.foldl (fun acc q =>
        match acc, callCost l q.2.2 n with
        | some a, some c => some (max a.1 (q.1 + c.1), max a.2 (c.2 + 1))
        | _, _ => none) (some (k.depth, 0))

/-- Every called frame fits inside its parent (R99). -/
def callsFit (code : List Host.Cell) (q : BlockDecl × Scan) : Bool :=
  q.2.calls.all (fun c => decide (16 * c.2.1 + frameSize code c.2.2 ≤ frameSize code q.1.desc))

/-- The span of a frame. -/
def frameSpan (code : List Host.Cell) (f : Nat × Nat) : Span := (f.1, frameSize code f.2)

/-- The frames: aligned, in their region, clear of the mirror receive area, with their TYPEID, and nested. -/
def framesOk (p : Profile) (code inst : List Host.Cell) (l : List (Nat × Nat)) : Bool :=
  l.all (fun f =>
    f.1 % 16 == 0 && Span.within (frameSpan code f) framesSpan && !Span.meets (frameSpan code f) (receiveSpan p) &&
      Memory.load inst f.1 4 == f.2 + 65536 * field (descAtWord code f.2 2) 0 16 && Memory.load inst (f.1 + 4) 4 == 0 &&
      l.all (fun g => f == g || (f.1 != g.1 && (!Span.meets (frameSpan code f) (frameSpan code g) ||
        Span.within (frameSpan code f) (frameSpan code g) || Span.within (frameSpan code g) (frameSpan code f)))))

/-- The frame of a call from the block of frame `f`. -/
def frameOfCall (f : Nat × Nat) (q : Nat × Nat × Nat) : Nat × Nat := (f.1 + 16 * q.2.1, q.2.2)

/-- The inputs and outputs of a frame. -/
def ioSpan (code : List Host.Cell) (f : Nat × Nat) : Span := (f.1 + 8, ioSize code f.2)

/-- An access to the bytes `a` by the block of frame `f` keeps to what is its own (R99): inside its frame it touches a child
frame in the inputs and outputs of a frame that it calls and nowhere else, and outside its frame it touches no frame. -/
def accessOk (code : List Host.Cell) (frames : List (Nat × Nat)) (f : Nat × Nat) (k : Scan) (a : Span) : Bool :=
  if Span.within a (frameSpan code f) then
    frames.all (fun g => g == f || Span.within (frameSpan code f) (frameSpan code g) || !Span.meets a (frameSpan code g) ||
      (k.calls.any (fun q => frameOfCall f q == g) && Span.within a (ioSpan code g)))
  else frames.all (fun g => !Span.meets a (frameSpan code g))

/-- A timer or edge slot of frame `f` lies behind its inputs and outputs, in no child frame (Table 3.8). -/
def slotOk (code : List Host.Cell) (frames : List (Nat × Nat)) (f : Nat × Nat) (x : Span) : Bool :=
  let a : Span := (f.1 + x.1, x.2)
  Span.within a (frameSpan code f) && decide (8 + ioSize code f.2 ≤ x.1) &&
    frames.all (fun g => g == f || Span.within (frameSpan code f) (frameSpan code g) || !Span.meets a (frameSpan code g))

/-- What the block of a frame touches. -/
def frameOk (code : List Host.Cell) (frames : List (Nat × Nat)) (f : Nat × Nat) (k : Scan) : Bool :=
  (k.reads ++ k.writes).all (fun x => accessOk code frames f k (f.1 + x.1, x.2)) &&
    k.fixed.all (fun a => accessOk code frames f k a && !Span.meets a (f.1, 8)) && k.timers.all (fun q => slotOk code frames f (16 * q.1, 16)) &&
    k.edges.all (fun e => slotOk code frames f (e, 1)) && k.calls.all (fun q => frames.contains (frameOfCall f q))

/-- The frames with the scans of their blocks. -/
def scannedFrames (frames : List (Nat × Nat)) (l : List (BlockDecl × Scan)) : List ((Nat × Nat) × Scan) :=
  frames.filterMap (fun f => (scanOf l f.2).map (fun k => (f, k)))

/-- The timer slots that the instructions of all frames name, with their kinds. -/
def namedTimers (l : List ((Nat × Nat) × Scan)) : List (Nat × Nat) :=
  l.flatMap (fun q => q.2.timers.map (fun t => (q.1.1 + 16 * t.1, t.2)))

/-- The edge slots that they name. -/
def namedEdges (l : List ((Nat × Nat) × Scan)) : List Nat := l.flatMap (fun q => q.2.edges.map (fun e => q.1.1 + e))

/-- The initial content of a timer slot (R151). -/
def timerFresh (inst : List Host.Cell) (t : Nat × Nat) : Bool :=
  Memory.load inst t.1 8 == 0 && Memory.load inst (t.1 + 8) 4 == 0 && Memory.load inst (t.1 + 12) 1 == tIdle &&
    Memory.load inst (t.1 + 13) 1 == t.2 && Memory.load inst (t.1 + 14) 1 == 0 &&
    Memory.load inst (t.1 + 15) 1 == timerChk tIdle t.2 0

/-- The timer slots (R151): each slot is named by instructions of one kind, and by one at least. -/
def timersOk (inst : List Host.Cell) (named decl : List (Nat × Nat)) : Bool :=
  named.all (fun a => named.all (fun b => a.1 != b.1 || a.2 == b.2)) && decl.all named.contains && named.all decl.contains &&
    decl.all (timerFresh inst)

/-- The edge slots (R155, R156): FALSE at the start, each named by one instruction. -/
def edgesOk (inst : List Host.Cell) (named decl : List Nat) : Bool :=
  distinct named && decl.all (fun a => Memory.load inst a 1 == 1) && named.all decl.contains

/-- A root stands in its frame, with 16 loop levels and 511 calls at most (R98, R109). -/
def rootOk (frames : List (Nat × Nat)) (l : List (BlockDecl × Scan)) (t : TaskDecl) : Bool :=
  frames.contains (t.frame, t.root) &&
    match callCost l t.root (l.length + 1) with
    | some c => decide (c.1 ≤ 16) && decide (c.2 ≤ 511)
    | none => false

/-- All conditions on code and frames. Descriptor 0 reads as 0 (R98). -/
def codeOk (c : Content) : Bool :=
  let code := Memory.ofCells c.code
  let inst := Memory.ofCells c.inst
  let l := c.blocks.map (fun b => (b, scanBlock code b))
  let fs := scannedFrames c.frames l
  Memory.load code 0 8 == 0 && Memory.load code 8 8 == 0 &&
    distinct (c.blocks.map BlockDecl.desc) && c.blocks.all (descOk code) && l.all (fun q => q.2.ok) &&
    l.all (callsFit code) && l.all (fun q => (callCost l q.1.desc (l.length + 1)).isSome) &&
    c.frames.all (fun f => (scanOf l f.2).isSome) && framesOk c.profile code inst c.frames &&
    fs.all (fun q => frameOk code c.frames q.1 q.2) && timersOk inst (namedTimers fs) c.timers &&
    edgesOk inst (namedEdges fs) c.edges && (c.hdr.tasks.filter TaskDecl.en).all (rootOk c.frames l)

/-! ### Bindings and inputs (R138, R302, R319, R477) -/

/-- The task of a binding. -/
def taskOf (h : AppHeader) (k : Nat) : Option TaskDecl := h.tasks[k]?

/-- A binding entry: unused, or inside its task's area and the image region, for a disabled task too. -/
def bindingOk (h : AppHeader) (b : Binding) : Bool :=
  if b.len = 0 then true
  else
    match taskOf h b.task with
    | none => false
    | some t =>
      let area := if b.tx then taskOut t else taskIn t
      decide (b.len ≤ 240) && decide (b.stat < 65536) && decide (b.pay < 65536) &&
        Span.within (0x02000000 + 4 * b.pay, 4 * b.len) imageSpan && Span.within (0x02000000 + 4 * b.pay, 4 * b.len) area &&
        (if b.tx then b.stat == 0 else Span.within (0x02000000 + 4 * b.stat, 4) area)

/-- A binding number names a receive binding of a length, or none. -/
def receivesLen (h : AppHeader) (n len : Nat) : Bool :=
  n == 0xFFF ||
    match h.bindings[n]? with
    | some b => !b.tx && b.len == len
    | none => false

/-- The bindings of the header. -/
def bindingsOk (h : AppHeader) : Bool :=
  decide (h.bindings.length ≤ 4095) && h.bindings.all (bindingOk h) && receivesLen h h.localBind 6 &&
    receivesLen h h.edgeBind (1 + 4 * h.emax)

/-- The address, in bits, of the value that a declaration names. -/
def declBit (w : Nat) : Nat :=
  if testB w 18 then 8 * (field w 0 18 / 4 * 4) + 2 * field w 19 4 else 8 * field w 0 18

/-- A declaration lies in an input area, has its reserved bits at 0, and names a value that is FALSE. -/
def declOk (h : AppHeader) (img : List Host.Cell) (w : Nat) : Bool :=
  let off := field w 0 18
  let packed := testB w 18
  let size := if packed then 4 else 1
  let code := if packed then field (Memory.load img (0x02000000 + off) 4) (2 * field w 19 4) 2
    else Memory.load img (0x02000000 + off) 1
  field w 23 9 == 0 && (if packed then off % 4 == 0 else field w 19 4 == 0) && code == 1 &&
    h.tasks.any (fun t => Span.within (0x02000000 + off, size) (taskIn t))

/-- The input declaration table and the restrictive input image (R72, R477). -/
def inputsOk (c : Content) : Bool :=
  let img := Memory.ofCells c.imgIn
  let l := c.hdr.inputDecl.map BitVec.toNat
  decide (l.length ≤ 16384) && l.all (declOk c.hdr img) && distinct (l.map declBit)

/-! ### Tunables (R160, R161) -/

/-- A tunable entry. -/
def tunableOk (inst : List Host.Cell) (t : Tunable) : Bool :=
  decide (1 ≤ t.typ) && decide (t.typ ≤ 8) && tuneSpans.any (Span.within (t.addr, tunableSize t.typ)) &&
    t.addr % tunableSize t.typ == 0 && tunableWithin t t.min && tunableWithin t t.max &&
    tunableWithin t (tunableValue inst t) &&
    (if t.typ = 8 then t.min == 1#32 && t.max == 2#32 else if t.typ = 1 then t.min == 0#32 && t.max == 1#32 else true)

/-- The tunable set. -/
def tunablesOk (c : Content) : Bool :=
  let inst := Memory.ofCells c.inst
  decide (c.hdr.tunables.length ≤ 2048) && c.hdr.tunables.all (tunableOk inst) &&
    Span.apart (c.hdr.tunables.map (fun t => (t.addr, tunableSize t.typ)))

/-! ### Lattice tables (R181) -/

/-- Routes and elements of a kind, most (Table 6.7). -/
def routesMost : Profile → Nat
  | .perch => 2048
  | .rood => 8192
  | .acre => 16384

/-- Elements of a kind, most. -/
def elemsMost (p : Profile) (k : ElemKind) : Nat :=
  let scale := match p with
    | .perch => 1
    | .rood => 2
    | .acre => 4
  match k with
  | .point => 256 * scale
  | .signal => 512 * scale
  | .sect => 1024 * scale
  | .crossing => 64 * scale
  | .boundary => 32 * scale

/-- The verification limit in ns. -/
def passLimitNs : Profile → Nat
  | .perch => 112500
  | .rood => 300000
  | .acre => 675000

/-- REQ as Table 6.8 permits it. -/
def reqOk (k : TermKind) (e : ElemKind) (req : Nat) : Bool :=
  match k, e with
  | .path, .point => req == 1 || req == 2
  | .path, .signal => req == 1
  | .path, .sect => req == 0
  | .path, .crossing => req == 2
  | .consent, .boundary => req == 2
  | .flank, .point => req == 1 || req == 2
  | .flank, .signal => req == 1
  | .overlap, .point => req == 1 || req == 2
  | .overlap, .sect => req == 0
  | .clear, .sect => req == 0
  | .approach, .sect => req == 0
  | _, _ => false

/-- The kind of an element of the tables. -/
def kindOf (l : List ElemDecl) (e : Nat) : Option ElemKind := (l[e]?).map ElemDecl.kind

/-- Term `i` of a route. -/
def termOk (l : List ElemDecl) (i : Nat) (t : Term) : Bool :=
  match kindOf l t.elem with
  | none => false
  | some e => reqOk t.kind e t.req && ((t.kind == .path && e == .signal) == (i == 0))

/-- The terms of a route. -/
def termsOk (l : List ElemDecl) (ts : List Term) : Bool :=
  decide (2 ≤ ts.length) && decide (ts.length ≤ 64) && ts.zipIdx.all (fun q => termOk l q.2 q.1) &&
    distinct ((ts.filter (fun t => t.kind.locking)).map Term.elem) &&
    distinct ((ts.filter (fun t => t.kind == .clear || t.kind == .approach)).map Term.elem) &&
    decide ((ts.filter (fun t => t.kind == .flank || t.kind == .overlap)).length ≤ 16)

/-- The conflict list of route `r`. -/
def confOk (rs : List RouteDecl) (r : Nat) (l : List Nat) : Bool :=
  decide (l.length ≤ 128) && l.all (fun q =>
    q != r &&
      match rs[q]? with
      | some d => d.conf.contains r
      | none => false)

/-- FLANK and OVERLAP terms that name element `e`. -/
def sharers (rs : List RouteDecl) (e : Nat) : Nat :=
  total (rs.map (fun r => (r.terms.filter (fun t => (t.kind == .flank || t.kind == .overlap) && t.elem == e)).length))

/-- The list of `n` entries at offset `off` of the term SRAM (R178). -/
def listSpan (off n : Nat) : Span := (0x03000000 + 8 * off, 4 * n)

/-- The term lists and conflict lists of the term SRAM (Table 6.1). -/
def listsSpan : Span := (0x03020000, 0x00FE0000)

/-- A directory entry (Table 6.4). -/
def dirOk (m : List Host.Cell) (r : Nat) : Bool :=
  !testB (Memory.load m (dirAddr r) 4) 31 && decide (0x4000 ≤ dirTOff m r) && decide (2 ≤ dirNTerm m r) &&
    decide (dirNTerm m r ≤ 64) && decide (dirNConf m r ≤ 128) && (dirNConf m r != 0 || dirCOff m r == 0) &&
    Span.within (listSpan (dirTOff m r) (dirNTerm m r)) listsSpan &&
    (dirNConf m r == 0 || Span.within (listSpan (dirCOff m r) (dirNConf m r)) listsSpan)

/-- A term and a conflict entry (R179): reserved bits at 0, a KIND of Table 6.5. -/
def termFormed (w : Nat) : Bool := field w 14 2 == 0 && field w 28 4 == 0 && (termKindOf (field w 24 4)).isSome
def confFormed (w : Nat) : Bool := field w 14 18 == 0

/-- The directory and the lists of the first `n` routes, none on another. -/
def termSramOk (m : List Host.Cell) (n : Nat) : Bool :=
  (List.range n).all (fun r => dirOk m r && (termList m (dirTOff m r) (dirNTerm m r)).all termFormed &&
    (termList m (dirCOff m r) (dirNConf m r)).all confFormed) &&
    Span.apart ((List.range n).flatMap (fun r =>
      [listSpan (dirTOff m r) (dirNTerm m r), listSpan (dirCOff m r) (dirNConf m r)]))

/-- An element entry: KIND 1 to 5, reserved bits and bytes at 0, dynamic fields as R72 has them. -/
def elemFormed (m : List Host.Cell) (e : Nat) : Bool :=
  let w0 := Memory.load m (elemAddr e 0) 8
  let w1 := Memory.load m (elemAddr e 1) 8
  (kindOfCode (field w0 0 8)).isSome && field w0 8 8 == 0 && field w0 51 13 == 0 && field w1 0 8 == 0 &&
    field w1 8 8 == 0 && field w1 16 16 == 0xFFFF && Memory.load m (elemAddr e 2) 8 == 0 && Memory.load m (elemAddr e 3) 8 == 0

/-- A route record in its initial state: RESULT NOT_EVALUATED, STATE 0. -/
def recordFormed (m : List Host.Cell) (r : Nat) : Bool := Memory.load m (routeAddr r) 8 == 0x1C1

/-- The lattice tables. -/
def latticeOk (c : Content) : Bool :=
  let elem := Memory.ofCells c.elem
  let area := match c.hdr.tasks with
    | t :: _ => taskIn t
    | [] => (0, 0)
  decide (c.nroutes ≤ routesMost c.profile) && termSramOk (Memory.ofCells c.term) c.nroutes &&
    (List.range c.nelems).all (elemFormed elem) && (List.range c.nroutes).all (recordFormed elem) &&
    [ElemKind.point, .signal, .sect, .crossing, .boundary].all (fun k =>
      decide ((c.elems.filter (fun e => e.kind == k)).length ≤ elemsMost c.profile k)) &&
    c.elems.all (fun e => decide (1 ≤ e.agelim) && decide (e.agelim ≤ 254) && Span.within (0x02000000 + 4 * e.img, 4) area) &&
    c.routes.all (fun r => termsOk c.elems r.terms) && c.routes.zipIdx.all (fun q => confOk c.routes q.2 q.1.conf) &&
    (List.range c.elems.length).all (fun e => decide (sharers c.routes e ≤ 255)) &&
    decide (4 * nominalPass c.elems.length c.routes ≤ passLimitNs c.profile)

/-! ### The bus matrix (R241, R249 to R253, R255, R256) -/

/-- Exclusive window, most, and arbitrating window, least, in ns (Table 8.4). -/
def windowMost : Profile → Nat
  | .perch => 56000
  | .rood => 112000
  | .acre => 224000

/-- Arbitrating window, least, in ns. -/
def arbLeast : Profile → Nat
  | .perch => 5500
  | .rood => 12000
  | .acre => 25000

/-- The nodes that a frame of node `a` has passed on reaching the link that leaves node `i`, to the right or to the left;
none where it does not reach it. In a line a frame goes out from its sender both ways, in a ring round it; HOP ends it
(R242). -/
def segPassed (g : Segment) (right : Bool) (a i : Nat) : Option Nat :=
  let n := g.nodes
  let k := if right then (i + n - a) % n else (a + n - i) % n
  let carried := g.ring || (if right then decide (a ≤ i) && decide (i + 1 < n) else decide (i ≤ a) && decide (0 < i))
  if carried && decide (k ≤ g.hops) then some k else none

/-- The lead of a frame of node `a` over the later frame of node `b`, 0 where no link gives one (R252). -/
def segLead (g : Segment) (a b : Nat) : Nat :=
  ((List.range g.nodes).flatMap (fun i => [false, true].map (fun right =>
    match segPassed g right a i, segPassed g right b i with
    | some x, some y => x - y
    | _, _ => 0))).foldl max 0

/-- The modules that send in a slot: either module of the position, or the one that PAIRSPEC names. -/
def senders (d : SlotDesc) : List Position :=
  if d.pairspec then [d.owner] else [{ d.owner with senior := false }, { d.owner with senior := true }]

/-- Sender of a slot and sender of the slot after it. Two slots of a position in one rod have the same sender: a takeover
falls on a rod boundary (R67). -/
def senderPairs (a b : SlotDesc) : List (Position × Position) :=
  if ownedBy a b.owner && !a.pairspec && !b.pairspec then (senders a).map (fun p => (p, p))
  else (senders a).flatMap (fun p => (senders b).map (fun q => (p, q)))

/-- The lead of descriptor `a` over the later descriptor `b` on a segment. -/
def segLeadOf (g : Segment) (a b : SlotDesc) : Nat :=
  ((senderPairs a b).map (fun q =>
    match g.indexOf q.1, g.indexOf q.2 with
    | some i, some j => segLead g i j
    | _, _ => 0)).foldl max 0

/-- The descriptor of the slot before slot `k` of rod `r`: for slot 0 that of the last exclusive slot of the rod before. -/
def slotBefore (m : Matrix) (r k : Nat) : Option SlotDesc :=
  (if k = 0 then descAt m ((r + 39) % 40) (slotCount m - 1) else descAt m r (k - 1)).map Prod.snd

/-- The hop lead of a slot (R252), the largest over its rods and the two segments. The guard takes three hops before
slot 0. -/
def hopLead (m : Matrix) (d : SlotDesc) : Nat :=
  ((List.range 40).map (fun r =>
    if slotInRod d r then
      match slotBefore m r d.slot with
      | some e => max (segLeadOf m.segX e d) (segLeadOf m.segY e d) - (if d.slot = 0 then 3 else 0)
      | none => 0
    else 0)).foldl max 0

/-- PLEN of a slot is at most that of R252. -/
def plenOk (m : Matrix) (d : SlotDesc) : Bool :=
  decide (d.plen ≤ 240) && decide (8 * d.plen + 244 + 80 * hopLead m d ≤ 125 * d.dur)

/-- The fields of Table 8.5. -/
def descFieldsOk (d : SlotDesc) : Bool :=
  decide (4 ≤ d.dur) && decide (d.dur ≤ 24) && decide (d.rep ≤ 5) && decide (d.base < repOf d.rep) &&
    decide (d.queue < 48) && decide (d.dir ≤ 2)

/-- A STATUS descriptor of the position for which the matrix is made (R251, R356). -/
def ownStatus (m : Matrix) (d : SlotDesc) : Bool := d.status && d.owner.area == m.area && d.owner.pos == m.pos

/-- BIND of a descriptor: of its direction, with LEN equal to PLEN. DIR of an own STATUS descriptor is not read: one module of the
position forms the payload itself, the other receives it, so its BIND is a receive binding (R251, R260; notes/assumptions/9.md). -/
def descBindOk (h : AppHeader) (m : Matrix) (d : SlotDesc) : Bool :=
  (d.dir == 0 && !ownStatus m d) || d.bind == 0xFFF ||
    match h.bindings[d.bind]? with
    | some b => b.len == d.plen && b.tx == (d.dir == 2 && !ownStatus m d)
    | none => false

/-- Two descriptors assign one (rod, slot). -/
def descsClash (a b : SlotDesc) : Bool :=
  a.slot == b.slot && (List.range 40).any (fun r => slotInRod a r && slotInRod b r)

/-- No two descriptors of a list assign one (rod, slot). -/
def descsApart : List SlotDesc → Bool
  | [] => true
  | d :: l => l.all (fun e => !descsClash d e) && descsApart l

/-- The position of the module has one STATUS descriptor with PAIRSPEC 1 and REP 1 for each senior bit, and no other (R356). -/
def statusOk (m : Matrix) : Bool :=
  let l := m.slots.filter (ownStatus m)
  l.all (fun e => e.pairspec && e.rep == 0) &&
    [false, true].all (fun sen => (l.filter (fun e => e.owner.senior == sen)).length == 1)

/-- A segment: nodes, hops, coldstart-capable modules and their ranks, arbitration priorities. -/
def segmentOk (g : Segment) : Bool :=
  decide (g.nodes ≤ 64) && decide (g.hops ≤ 62) && decide (g.coldstart.length ≤ 4) && distinct (g.coldstart.map rankOf) &&
    distinct (g.line.map SegNode.place) && distinct ((g.line.map SegNode.prio).filter (fun p => p != 0)) &&
    g.line.all (fun n => decide (n.prio ≤ 255))

/-- The largest EVENT frame of a node starts in the arbitrating window with the ARBRES that the verifier computes. -/
def eventsStart (p : Profile) (m : Matrix) : Bool :=
  (m.segX.line ++ m.segY.line).all (fun n =>
    n.prio == 0 || decide (8 * frameBytes n.evMax + 8 * arbAllowance m ≤ arbEnd p - arbStart m))

/-- The transmit channels keep to the largest EVENT frame of the module's nodes. -/
def channelsFit (h : AppHeader) (m : Matrix) : Bool :=
  m.channels.all (fun ch => !ch.tx ||
    match h.bindings[ch.bind]? with
    | some b => (m.segX.line ++ m.segY.line).all (fun n =>
        !(n.place.area == m.area && n.place.pos == m.pos) || (n.prio != 0 && decide (b.len ≤ n.evMax)))
    | none => true)

/-- The bus matrix. -/
def matrixOk (c : Content) : Bool :=
  let m := c.matrix
  m.descs.all DescWords.formed && m.slots.all descFieldsOk && m.slots.all (plenOk m) &&
    m.slots.all (fun d => m.slots.all (fun e => d.slot != e.slot || d.dur == e.dur)) &&
    (List.range (slotCount m)).all (fun k => m.slots.any (fun d => d.slot == k)) &&
    decide (exclNs m ≤ windowMost c.profile) && decide (exclNs m + 1000 + arbLeast c.profile ≤ rodNs c.profile) &&
    descsApart m.slots && m.slots.all (descBindOk c.hdr m) && statusOk m && segmentOk m.segX && segmentOk m.segY &&
    eventsStart c.profile m && channelsFit c.hdr m && decide (total (m.queues.map QCfg.depth) ≤ 8192)

/-! ### The mirror declaration (R41, R348, R349) -/

/-- The mirror set limit of the profile. -/
def mirrorMost : Profile → Nat
  | .perch => 65536
  | .rood => 131072
  | .acre => 262144

/-- BYTES of the mirror image (Table 11.4). -/
def mirrorSize (c : Content) : Nat :=
  8 + 4 * c.hdr.tunables.length + 1024 + 16 * c.elems.length + ceilDiv (4 * c.routes.length) 8 * 8 +
    total (c.hdr.mirror.map Prod.snd)

/-- The mirror declaration table. -/
def mirrorOk (c : Content) : Bool :=
  decide (c.hdr.mirror.length ≤ 256) &&
    c.hdr.mirror.all (fun r =>
      r.1 % 8 == 0 && r.2 % 8 == 0 && r.2 != 0 && Span.within r mirrorSpan && !Span.meets r (receiveSpan c.profile)) &&
    Span.apart c.hdr.mirror && decide (mirrorSize c ≤ mirrorMost c.profile)

/-! ### Check 7 -/

/-- Alignment masks of vertex C (R29). -/
def masksOk (h : AppHeader) : Bool :=
  h.mI % 8 == 0 && decide (h.mI < 2 ^ 23) && h.mT % 8 == 0 && decide (h.mT < 2 ^ 24) && h.mE % 8 == 0 &&
    decide (h.mE < 2 ^ 19) && h.mE != 0

/-- The use of the time-event memory fits the profile (R42). -/
def timeEventOk (p : Profile) (h : AppHeader) : Bool :=
  match p with
  | .acre => !h.launchQueues
  | _ => !h.edgeCapture

/-- The time-jump threshold lies from 1 µs to 1 s (R294). -/
def jumpOk (h : AppHeader) : Bool :=
  match h.jumpth with
  | some j => decide (1 ≤ j) && decide (j ≤ 1000000)
  | none => true

/-- The initial I/O parameter set has SEQ 0 (R338). -/
def ioOk (x : IoParams) : Bool := x.seq == 0

/-- CONTENT. -/
def contentOk (c : Content) : Bool :=
  jumpOk c.hdr && ioOk c.io &&
  masksOk c.hdr && timeEventOk c.profile c.hdr && tasksOk c.profile c.hdr && codeOk c && bindingsOk c.hdr && inputsOk c &&
    tunablesOk c && latticeOk c && matrixOk c && mirrorOk c

end Sys2Proof.Machine
end

