-- ==== Sys2Proof/Machine/PowerOn.lean ====
section
/-! DEFINITION. The power-on sequence: steps 1 to 5 of Table 2.7 (R45 to R47, R70, R375, R384, R385, R400 to R410, R420,
R429 to R434, R447, R461, R464). -/

namespace Sys2Proof.Machine

/-! ### Step 1 -/

/-- The reset of the triangle, the network chip and the safe I/O chip: every register at its reset value. What the K3M
holds, the fuses, the supply and the clocks of the model stay. The local clock starts from the network time in FRAM
(R289). -/
def State.fresh (s : State) : State :=
  { State.reset with
    pending := s.pending, free := s.free, out := s.out, nt := s.nt, clock := Clock.ofUnits (s.k3m.storedTime * 2 ^ 40),
    ptp := { Ptp.reset with enteredAt := s.nt }, fuses := s.fuses, fusesSh := s.fusesSh, recorder := s.recorder,
    upd := { s.upd with reverted := false, setreset := false, actlost := false, haltNt := none, vreason := 0, dlLen := 0, dlPos := 0 },
    hwin := { s.hwin with mem := [], request := none, reqs := 0, k3mBusy := 0, hostBusy := 0, busy := false, data := none, owed := none },
    k3m := { s.k3m with failed := false, waiting := none, edges := [] }, supply := s.supply,
    blk := { Blocks.reset with
             cyc := { Cyc.reset with cause := s.blk.cyc.cause },
             bst := { Bst.reset with slices := Bst.reset.slices.map (fun x => { x with doneNt := s.nt }) } },
    start := { State.reset.start with step := 1 }, inReset := false }

/-- The start follows a loss of power, or is the first one: no restart went before (R400). -/
def State.fromPower (s : State) : Bool := s.blk.cyc.cause != .restartCmd

/-- OPTIME after a loss of the AO rail (R400). -/
def Recorder.aoRestore (r : Recorder) : Recorder := { r with optime := r.saved + 100, frac := 0 }

/-- A record of the newest sector that was torn. -/
def Recorder.tornAt (r : Recorder) (l : LogRec) : Bool := l.sseq == r.sseq && l.commit == 0xFF

/-- The walk through the newest sector at power-on (R405): a torn record there becomes void, and writing continues after it; else LEN
is erased after the last record, and writing continues in a new sector (notes/assumptions/58.md). -/
def Recorder.walk (r : Recorder) : Recorder :=
  if r.logfail || r.pos == 0 then r
  else if r.log.any r.tornAt then
    { r with log := r.log.map (fun l => if r.tornAt l then { l with commit := 0 } else l) }
  else { r with pos := sectorSize }

/-- The recorder at power-on: LOG_FAIL clears when the NOR responds and fewer than 9 sectors are retired (R407), the newest sector is
walked, open folds close, and those that closed in a FREEZE are programmed (R403). -/
def Recorder.powerUp (r : Recorder) (norOk : Bool) : Recorder :=
  let r1 := if norOk then { r with logfail := r.logfail && decide (9 ≤ r.retired.length) }
    else { (r.addSentinel 3 r.sector) with logfail := true, fallSeq := if r.logfail then r.fallSeq else r.seq }
  let r2 := ({ r1 with norHold := false }.walk).thaw.closeAll r.folds
  { r2 with pcycle := r2.pcycle + 1, intake := none }

/-- What the K3M does at step 1 after a loss of power. The AO count is found at 0 when its rail has been lost (R400). -/
def State.powerUpK3m (s : State) (p : PowerOnIn) : State :=
  let a := s.modRec (fun r => if p.aoLost then (r.powerUp p.norOk).aoRestore else r.powerUp p.norOk)
  let b := if p.aoLost then (a.recRec .aoRestored 0 ((s.recorder.saved + 100) % 2 ^ 32) 0).modUpd (fun u => { u with aoFlag := false }) else a
  let c := match s.k3m.mark with
    | some m => b.updRec 0x0B02 (m.1 % 2 ^ 32) m.2 0
    | none => b
  let d := if s.recorder.wasFrozen then c.recRec .holdLost s.recorder.lost 0 0 else c
  let e := d.modRec (fun r => { r with lost := 0, wasFrozen := false, saveNt := s.nt })
  let f : State := { e with k3m := { e.k3m with mark := none } }
  (f.dropDownload 4).modUpd (fun u => { u with clean := u.slots.cur.clean, secNt := 0 })

/-- What the K3M does at step 1 after a restart without loss of power: its registers take their reset values (R17), so that
its sessions are closed, a download is abandoned, and a FREEZE ends. The queue and the log stay. -/
def State.restartK3m (s : State) : State :=
  ((s.closeSess .s0).closeSess .s1).modRec (fun r => { r with ovf := 0, heldCount := 0 })

/-- A vertex whose debug session a restart has ended is still withdrawn after it (R233). -/
def State.stillWithdrawn (s : State) (w : Tri Bool) : State :=
  s.modCen (fun c => { c with withdrawn := w, wdOld := w, excl := w })

/-- The journal after a torn write: its slot is no longer valid, and the record before it is in force (R422). -/
def JSlots.tear (j : JSlots) : JSlots := if j.newestA then { j with a := none } else { j with b := none }

/-- The write of the journal that the loss of power met was torn. -/
def State.tornJournal (s : State) (p : PowerOnIn) : State :=
  if p.torn then s.modUpd (fun u => { u with slots := u.slots.tear }) else s

/-- Step 1. -/
def State.stepOne (s : State) (p : PowerOnIn) : State :=
  let t := if s.fromPower then s.fresh else s.fresh.stillWithdrawn s.blk.cen.wdOld
  let u : State := { t with hwin := { t.hwin with pres := p.hpres, en := p.hpres } }
  (if s.fromPower then (((u.tornJournal p).powerUpK3m p).localCleared).setMode .start .powerOn else u.restartK3m).showMode

/-! ### Step 2 (R375, R384, R385) -/

/-- Spare columns of a bank (Table 12.1). -/
def spareCols (b : Nat) : Nat := if b = 7 then 2 else 4

/-- The failing words of bank `b` in chip `v`: row and bit position. -/
def failsOf (l : List MarchFail) (v : Vtx) (b : Nat) : List (Nat × Nat) :=
  (l.filter (fun f => f.bank == b && (5 ≤ b || f.chip == v))).map (fun f => (f.word / 64, f.bit))

/-- The values of a list, each once, in the order of their first place. -/
def firsts : List Nat → List Nat
  | [] => []
  | x :: l => x :: (firsts l).filter (fun y => y != x)

/-- A bit position fails in more than two rows. -/
def columnFails (l : List (Nat × Nat)) (bit : Nat) : Bool :=
  decide (2 < (firsts ((l.filter (fun f => f.2 == bit)).map Prod.fst)).length)

/-- The repairs that the failing words of a bank need: a column for a bit position that fails in more than two rows, and a row for
every other failing word (R384). -/
def neededRepairs (b : Nat) (l : List (Nat × Nat)) : List Repair :=
  ((firsts (l.map Prod.snd)).filter (columnFails l)).map (fun c => ⟨b, true, false, c⟩) ++
    (firsts ((l.filter (fun f => !columnFails l f.2)).map Prod.fst)).map (fun r => ⟨b, false, false, r⟩)

/-- The repairs of a bank fit its spares. -/
def sparesFit (b : Nat) (l : List Repair) : Bool :=
  decide ((l.filter (fun r => r.bank == b && !r.column)).length ≤ spareRows b) &&
    decide ((l.filter (fun r => r.bank == b && r.column)).length ≤ spareCols b)

/-- The spares of bank `b` of one kind that the fused repairs leave. -/
def sparesLeft (b : Nat) (column : Bool) (fused : List Repair) : Nat :=
  (if column then spareCols b else spareRows b) - (fused.filter (fun r => r.bank == b && r.column == column)).length

/-- The soft repairs of a bank: those needed, as far as the spares go (R384, R385). -/
def allocate (b : Nat) (fused : List Repair) (l : List (Nat × Nat)) : List Repair :=
  let n := neededRepairs b l
  (n.filter Repair.column).take (sparesLeft b true fused) ++ (n.filter (fun r => !r.column)).take (sparesLeft b false fused)

/-- The soft repairs of chip `v` over its own banks. -/
def softOwn (fused : List Repair) (l : List MarchFail) (v : Vtx) : List Repair :=
  (List.range 5).flatMap (fun b => allocate b fused (failsOf l v b))

/-- The soft repairs of banks 5 to 7. -/
def softShared (fused : List Repair) (l : List MarchFail) : List Repair :=
  [5, 6, 7].flatMap (fun b => allocate b fused (failsOf l .A b))

/-- MEM_REPAIR for each soft repair. -/
def State.repairRecords (s : State) (v : Option Vtx) (l : List Repair) : State :=
  l.foldl (fun t r =>
    let body := shortBody r.bank (bit r.column) r.index
    match v with
    | some w => t.recOwn w .memRepair body
    | none => t.recBody .memRepair body) s

/-- The march of step 2 and its repairs. -/
def State.marchAll (s : State) (l : List MarchFail) : State :=
  let t := Vtx.list.foldl (fun u v => u.repairRecords (some v) (softOwn (s.fuses.get v) l v)) s
  let w := t.repairRecords none (softShared s.fusesSh l)
  { w with
    repairs := s.fuses.mapv (fun v f => f ++ softOwn f l v), repairsSh := s.fusesSh ++ softShared s.fusesSh l }

/-- Every bank has spares enough and passes its second march. -/
def State.marchHolds (s : State) (l : List MarchFail) (again : List Nat) : Bool :=
  again.isEmpty &&
    (List.range 5).all (fun b => Vtx.list.all (fun v => sparesFit b (s.fuses.get v ++ neededRepairs b (failsOf l v b)))) &&
    [5, 6, 7].all (fun b => sparesFit b (s.fusesSh ++ neededRepairs b (failsOf l .A b)))

/-! ### Step 3: verification and the journal (R420, R429, R432) -/

/-- The reason for which a bank fails checks 1 to 6, 0 when it passes. An empty bank fails check 1. -/
def bankReason (o : Otp) (l : Option LoadSet) : Nat :=
  match l with
  | some x => manifestReason o x
  | none => 1

/-- LOADSET_REJECTED. -/
def State.rejected (s : State) (bank reason build : Nat) : State :=
  (s.updRec 0x0A05 bank reason build).modUpd (fun u => { u with vreason := reason })

/-- Replace a bank. -/
def Update.setBank (u : Update) (k : Nat) (l : Option LoadSet) : Update :=
  if k = 0 then { u with bank0 := l } else { u with bank1 := l }

/-- The journal after a revert: one write. -/
def Journal.revert (j : Journal) : Journal := { j with act := j.ret.getD j.act, ret := none, state := .idle }

/-- STAGING and the settings after a revert. -/
def Update.afterRevert (u : Update) (d : BitVec 128) : Update :=
  let same := match u.staging with
    | some l => dig16 l.man == d
    | none => false
  { u with
    sstate := if same then .rejected else u.sstate, settings := u.retained.getD u.settings, retained := none,
    commanded := none, reverted := true, clean := 0, secNt := 0 }

/-- A revert. -/
def State.revert (s : State) (cause : Nat) : State :=
  let d := s.upd.slots.cur.dig16
  let t := (s.journal Journal.revert).modUpd (fun u => u.afterRevert d)
  t.updRec 0x0A09 (buildOf t.upd.active) cause 0

/-- The activation flag: with the journal IDLE, ARMED with what the K3M has seen staged, and the flag is cleared (R429); with another state both stay. A staged
activation that did not take place is recorded (R426, R433). -/
def State.takeFlag (s : State) : State :=
  let t := s.modUpd (fun u => { u with aoFlag := false, seen := none })
  if s.upd.aoFlag && s.upd.slots.cur.state != .idle then s
  else if s.upd.aoFlag then
    match s.upd.seen with
    | some q => t.journal (fun j => { j with state := .armed, dig16 := q.2.1, group := q.2.2 })
    | none => t.journal (fun j => { j with state := .armed, dig16 := 0, group := 0 })
  else
    match s.upd.seen with
    | some q => (t.updRec 0x0A04 (q.1 % 2 ^ 32) 0 0).modUpd (fun u => { u with actlost := true })
    | none => t

/-- ARMED: STAGING is verified, and the roles of the banks change. -/
def State.bootArmed (s : State) : State :=
  if s.upd.slots.cur.state ≠ .armed then s
  else
    let r := bankReason s.upd.otp s.upd.staging
    if r ≠ 0 then
      ((s.modUpd (fun u => { u with sstate := .rejected })).journal (fun j => { j with state := .idle })).rejected 2 r
        (buildOf s.upd.staging)
    else
      (s.journal (fun j =>
        { j with state := .copying, block := 0, act := j.ret.getD (1 - j.act), ret := some j.act })).modUpd (fun u =>
          { u with retained := none })

/-- Blocks of 128 KiB of a set. -/
def blocksOf (l : Option LoadSet) : Nat :=
  match l with
  | some x => ceilDiv x.man.length 131072
  | none => 0

/-- The journal writes of blocks `from` to `to`. -/
def State.blockWrites (s : State) (first last : Nat) : State :=
  (List.range (last - first)).foldl (fun t _ => t.journal (fun j => { j with block := j.block + 1 })) s

/-- COPYING: from BLOCK to the last, with one journal write per block. -/
def State.bootCopying (s : State) (resumed : Bool) (bad : Option Nat) : State :=
  let j := s.upd.slots.cur
  if j.state ≠ .copying then s
  else
    let t := if resumed then s.updRec 0x0A07 j.block 0 0 else s
    let n := blocksOf s.upd.staging
    let stop := match bad with
      | some k => if j.block ≤ k ∧ k < n then some k else none
      | none => none
    match stop with
    | some k => ((t.blockWrites j.block k).modUpd (fun u => u.setBank j.act none)).revert 2
    | none =>
      (((t.blockWrites j.block (n - 1)).modUpd (fun u => u.setBank j.act u.staging))).journal
        (fun j => { j with state := .copied })

/-- The settings rule: a set of another SCHEMA resets the settings (R432). -/
def State.settingsRule (s : State) (schema : Nat) : State :=
  let old := s.upd.settings
  if old.schema = schema then s.modUpd (fun u => { u with retained := none })
  else
    (s.updRec 0x0A0A old.schema schema 0).modUpd (fun u =>
      { u with retained := some old, settings := ⟨schema, Config.settingDefaults schema⟩, setreset := true })

/-- COPIED: ACTIVE is verified, and probation begins. -/
def State.bootCopied (s : State) : State :=
  if s.upd.slots.cur.state ≠ .copied then s
  else
    let r := bankReason s.upd.otp s.upd.active
    if r ≠ 0 then (s.rejected 0 r (buildOf s.upd.active)).revert 3
    else
      let old := s.upd.settings.schema
      let schema := match s.upd.active with
        | some l => l.man.schema
        | none => old
      let t := (s.settingsRule schema).journal (fun j =>
        { j with
          state := .probation, clean := 0, fault := false,
          oldSchema := if old = schema then j.oldSchema else old })
      (t.modUpd (fun u => { u with sstate := .activated, clean := 0, secNt := 0 })).updRec 0x0A06 (buildOf s.upd.active)
        (buildOf s.upd.retainedSet) (blocksOf s.upd.active)

/-- PROBATION with the fault mark reverts. -/
def State.bootFault (s : State) : State :=
  if s.upd.slots.cur.state = .probation ∧ s.upd.slots.cur.fault = true then s.revert 1 else s

/-- The last verification: a set in probation that fails is reverted, and the restored set is verified in its place. -/
def State.bootVerify (s : State) : State × Bool :=
  let r := bankReason s.upd.otp s.upd.active
  if r = 0 then (s, true)
  else
    let t := s.rejected 0 r (buildOf s.upd.active)
    if s.upd.slots.cur.state = .probation then
      let u := t.revert 1
      let q := bankReason u.upd.otp u.upd.active
      if q = 0 then (u, true) else (u.rejected 0 q (buildOf u.upd.active), false)
    else (t, false)

/-- Step 3, and whether ACTIVE may be offered. -/
def State.stepThree (s : State) (copyFail : Option Nat) : State × Bool :=
  let resumed := s.upd.slots.cur.state == .copying
  let q := (((s.takeFlag.bootArmed).bootCopying resumed copyFail).bootCopied.bootFault).bootVerify
  (q.1.modUpd (fun u =>
    { u with
      svn := match u.active with
        | some l => l.man.svn
        | none => 0 }), q.2)

/-- The state in which step 3 stands when the power fails at the place `c`, or none where step 3 does not come to it (Table 14.6). A
block under way leaves its bank without a whole set. -/
def State.stepThreeCut (s : State) (c : PowerCut) : Option State :=
  let resumed := s.upd.slots.cur.state == .copying
  let t := s.takeFlag
  let u := t.bootArmed
  let j := u.upd.slots.cur
  match c with
  | .staging => if t.upd.slots.cur.state = .armed then some t else none
  | .block k =>
    if j.state = .copying ∧ j.block ≤ k ∧ k < blocksOf u.upd.staging then
      some (((if resumed then u.updRec 0x0A07 j.block 0 0 else u).blockWrites j.block k).modUpd (fun x =>
        x.setBank j.act none))
    else none
  | .active =>
    let w := u.bootCopying resumed none
    if w.upd.slots.cur.state = .copied then some w else none

/-- The module enters COMMISSION: SW3 on by majority, or no operator roots (R70, R418). -/
def State.commissions (s : State) (sw3 : Tri Bool) : Bool :=
  majority (Vtx.list.map (fun v => (v, sw3.get v))) == some true || s.upd.otp.operator.isNone

/-! ### Step 4 -/

/-- The transmit schedule that a guardian keeps: the descriptors on which the copies of two vertices agree (Table 1.6).
`bad` names for each vertex the descriptors whose copy is damaged; a damaged copy agrees with no other. -/
def votedSchedule (m : Matrix) (bad : Tri (List Nat)) : List DescWords :=
  (m.descs.zipIdx.filter (fun q =>
    decide ((Vtx.list.filter (fun v => (bad.get v).contains q.2)).length ≤ 1))).map Prod.fst

/-- The module takes up a load set: registers, network chip, safe I/O chip, guardians. -/
def State.takeLoad (s : State) (c : Content) (sched : Tri (List Nat)) : State :=
  let h := c.hdr
  let l := some (votedSchedule c.matrix sched)
  let t : State := { s with
                     loaded := some c,
                     guard := ⟨{ s.guard.x with schedule := l }, { s.guard.y with schedule := l }⟩ }
  let a := t.modCyc (fun y => { y with tasks := (h.tasks ++ y.tasks.drop h.tasks.length).take 8, profile := some c.profile, solo := h.solo })
  let b := a.modTtb (fun y => { y with matrix := some { c.matrix with arbres := arbAllowance c.matrix }, mid := c.mid })
  let d := b.modNic (fun n =>
    { n with
      occ := c.matrix.slots.map (fun _ => ⟨none, false, false⟩), seen := c.matrix.slots.map (fun _ => ⟨[], []⟩) })
  let e := d.modChd (fun y => { y with bytes := mirrorSize c, nchunk := ceilDiv (mirrorSize c) 1024, home := h.home })
  let f := e.modSio (fun y => y.setParams c.io)
  let g := f.modNtm (fun y => { y with jumpth := h.jumpth.getD 1000, edgBind := h.edgeBind, emax := h.emax })
  let k := g.modCen (fun y => { y with imgLimit := imgLimit c.profile })
  (k.modAll (fun _ x =>
    { x with
      mem := { x.mem with code := Memory.ofCells c.code, term := Memory.ofCells c.term, ecc := [], ecc1 := [] } })).loadInitial

/-- Step 4: each vertex repeats checks 1 to 6 and applies check 7. -/
def State.stepFour (s : State) (sched : Tri (List Nat)) : State × Bool :=
  match s.upd.active with
  | none => (s, false)
  | some l =>
    let r := manifestReason s.upd.otp l
    if r ≠ 0 then (s.rejected 0 r l.man.build.toNat, false)
    else if !contentOk l.content then (s.rejected 0 7 l.man.build.toNat, false)
    else (s.takeLoad l.content sched, true)

/-! ### Step 5 -/

/-- The agreed position when it owns a slot of the matrix (R47). -/
def State.ownedPosition (s : State) : Option Position :=
  match s.agreedPosition, s.blk.ttb.matrix with
  | some p, some m => if ownsSlot m p then some p else none
  | _, _ => none

/-- Step 5: seals and position. -/
def State.stepFive (s : State) (p : PowerOnIn) : State :=
  let t := (s.setSeals p.seals).readPosition p.j6
  match t.ownedPosition with
  | some q =>
    let u := (t.modTtb (fun y => { y with pos := some q })).modCyc (fun y => { y with senior := q.senior })
    let w := u.modNtm (fun y => { y with gmcap := u.coldCapable })
    { w with start := { w.start with step := 6, waitFrom := w.nt, waits := 0, position := true } }
  | none =>
    (t.record .positionMismatch (p.j6.a.own.toNat) (p.j6.b.own.toNat) (p.j6.c.own.toNat)).setMode .isolated .positionMismatch

/-! ### The sequence -/

/-- Step `n` is under way. -/
def State.atStep (s : State) (n : Nat) : State := { s with start := { s.start with step := n } }

/-- The vertices whose bytes differ from those of the bank, and fail (R420). -/
def differing (found : Tri Nat) : List Vtx := Vtx.list.filter (fun v => found.get v != 0)

/-- The vote on step 4 (R420): where the bytes of one vertex alone fail, the results differ, which is an event of Table 7.6 in START
(R225); where those of two fail, their majority refuses the set. -/
def State.stepFourVoted (s : State) (p : PowerOnIn) : State × Option MCause :=
  let q := s.stepFour p.sched
  if !q.2 then (q.1, some .loadsetFail)
  else
    match differing p.found with
    | [] => (q.1, none)
    | [_] => (s, some .startDisagree)
    | v :: _ => (s.rejected 0 (p.found.get v) (buildOf s.upd.active), some .loadsetFail)

/-- Steps 4 and 5. -/
def State.stepsFourFive (s : State) (p : PowerOnIn) : State :=
  let q := (s.atStep 4).stepFourVoted p
  match q.2 with
  | none => (q.1.atStep 5).stepFive p
  | some c => q.1.halt c

/-- The state of step 3 in which the power fails. -/
def State.cutAt (s : State) (p : PowerOnIn) : Option State := p.cut.bind s.stepThreeCut

/-- Steps 3 to 5, but where the power fails again in step 3 (R433). -/
def State.stepsThreeOn (s : State) (p : PowerOnIn) : State :=
  let q := (s.atStep 3).stepThree p.copyFail
  match (s.atStep 3).cutAt p with
  | some t => t.powerDown
  | none =>
  if !q.2 then q.1.halt .loadsetFail
  else if q.1.commissions p.sw3 then (q.1.setSeals p.seals).setMode .commission .sequence
  else q.1.stepsFourFive p

/-- Steps 2 to 5. -/
def State.stepsTwoOn (s : State) (p : PowerOnIn) : State :=
  let t := (s.atStep 2).marchAll p.march
  if p.analogOk && t.marchHolds p.march p.again then t.stepsThreeOn p else t.halt .bistFail

/-- A module of HW-K3-48 stays in reset below −25 °C (R464). -/
def State.tooCold (s : State) (cold : Bool) : Bool := cold && s.upd.otp.variant == 0

/-- POWER_ON: steps 1 to 5 of Table 2.7. The module waits in reset while the power-down reset is held, or in the cold. -/
def execPowerOn (dt : Nat) (p : PowerOnIn) (s0 : State) : Host.Outcome State Fault Refusal :=
  let s := s0.elapse dt
  if s.inReset && !s.supply.held && !s.tooCold p.cold then ok ((s.stepOne p).stepsTwoOn p) else ok s

end Sys2Proof.Machine
end

