-- ==== Sys2Proof/Machine/Sbool.lean ====
section
/-! DEFINITION. SBOOL operations (Table 4.9). -/

namespace Sys2Proof.Machine

/-- An SBOOL instruction: its operands are checked (R91, R131), then it writes one register and Z. -/
def State.runSbool (s : State) (v : Vtx) (m : IMeta) (bad : Bool) (d : BitVec 4) (valid : Vertex → Bool)
    (val : Vertex → Word) (z : Vertex → Bool) : State :=
  s.run v (fun _ => m) bad (fun x =>
    if valid x then .done ((x.setReg d (val x)).setFlags (setZ x.core.fl (z x))) none [] else .trap .sbool 0 0)

/-- Two operands in register form. -/
def State.runS2 (s : State) (v : Vtx) (f : FmtR) (op : Bool → Bool → Bool) : State :=
  s.runSbool v (metaA (rbit f.a ||| rbit f.b) (rbit f.d) 0 fZ 1) (f.mod != 0) f.d
    (fun x => sValid (x.reg f.a) && sValid (x.reg f.b))
    (fun x => sOf (op (x.reg f.a == sTrue) (x.reg f.b == sTrue)))
    (fun x => !op (x.reg f.a == sTrue) (x.reg f.b == sTrue))

/-- Two packed operands, position by position; Z when all 16 results are FALSE. -/
def State.runP2 (s : State) (v : Vtx) (f : FmtR) (op : Bool → Bool → Bool) : State :=
  s.runSbool v (metaA (rbit f.a ||| rbit f.b) (rbit f.d) 0 fZ 2) (f.mod != 0) f.d
    (fun x => sValid16 (x.reg f.a) && sValid16 (x.reg f.b))
    (fun x => sMap16 op (x.reg f.a) (x.reg f.b))
    (fun x => sMap16 op (x.reg f.a) (x.reg f.b) == 0x55555555#32)

/-- SAND. -/
def execSand (v : Vtx) (f : FmtR) (s : State) : Host.Outcome State Fault Refusal := ok (s.runS2 v f (· && ·))

/-- SOR. -/
def execSor (v : Vtx) (f : FmtR) (s : State) : Host.Outcome State Fault Refusal := ok (s.runS2 v f (· || ·))

/-- SXOR. -/
def execSxor (v : Vtx) (f : FmtR) (s : State) : Host.Outcome State Fault Refusal := ok (s.runS2 v f (· != ·))

/-- SNOT. -/
def execSnot (v : Vtx) (f : FmtR) (s : State) : Host.Outcome State Fault Refusal :=
  ok (s.runSbool v (metaA (rbit f.a) (rbit f.d) 0 fZ 1) (f.b != 0 || f.mod != 0) f.d
    (fun x => sValid (x.reg f.a)) (fun x => sOf (x.reg f.a != sTrue)) (fun x => x.reg f.a == sTrue))

/-- STST: no register write; Wd is 0. -/
def execStst (v : Vtx) (f : FmtR) (s : State) : Host.Outcome State Fault Refusal :=
  ok (s.run v (fun _ => metaA (rbit f.a) 0 0 fZ 1) (f.d != 0 || f.b != 0 || f.mod != 0) (fun x =>
    if sValid (x.reg f.a) then .done (x.setFlags (setZ x.core.fl (x.reg f.a == sFalse))) none []
    else .trap .sbool 0 0))

/-- SFROMB reads Wa[0] alone and never traps. -/
def execSfromb (v : Vtx) (f : FmtR) (s : State) : Host.Outcome State Fault Refusal :=
  ok (s.runSbool v (metaA (rbit f.a) (rbit f.d) 0 fZ 1) (f.b != 0 || f.mod != 0) f.d
    (fun _ => true) (fun x => sOf ((x.reg f.a).getLsbD 0)) (fun x => !(x.reg f.a).getLsbD 0))

/-- STOB. -/
def execStob (v : Vtx) (f : FmtR) (s : State) : Host.Outcome State Fault Refusal :=
  ok (s.runSbool v (metaA (rbit f.a) (rbit f.d) 0 fZ 1) (f.b != 0 || f.mod != 0) f.d
    (fun x => sValid (x.reg f.a)) (fun x => if x.reg f.a == sTrue then 1 else 0) (fun x => x.reg f.a == sFalse))

/-- A position in IMM16[3:0]; the other bits are not used. -/
def badPosition (imm : BitVec 16) : Bool := imm.extractLsb' 4 12 != 0

/-- SGET checks position j of Wa only. -/
def execSget (v : Vtx) (f : FmtI) (s : State) : Host.Outcome State Fault Refusal :=
  ok (s.runSbool v (metaA (rbit f.a) (rbit f.d) 0 fZ 1) (badPosition f.imm) f.d
    (fun x => validCode (packed (x.reg f.a) f.imm.toNat))
    (fun x => w32 (packed (x.reg f.a) f.imm.toNat))
    (fun x => packed (x.reg f.a) f.imm.toNat == 1))

/-- SPUT checks Wa in register form and leaves the other positions of Wd unchecked. -/
def execSput (v : Vtx) (f : FmtI) (s : State) : Host.Outcome State Fault Refusal :=
  ok (s.runSbool v (metaA (rbit f.a ||| rbit f.d) (rbit f.d) 0 fZ 1) (badPosition f.imm) f.d
    (fun x => sValid (x.reg f.a))
    (fun x => (x.reg f.d &&& ~~~(maskAt (2 * f.imm.toNat) 2)) ||| (x.reg f.a <<< (2 * f.imm.toNat)))
    (fun x => x.reg f.a == sFalse))

/-- SANDP. -/
def execSandp (v : Vtx) (f : FmtR) (s : State) : Host.Outcome State Fault Refusal := ok (s.runP2 v f (· && ·))

/-- SORP. -/
def execSorp (v : Vtx) (f : FmtR) (s : State) : Host.Outcome State Fault Refusal := ok (s.runP2 v f (· || ·))

/-- SALL. -/
def execSall (v : Vtx) (f : FmtR) (s : State) : Host.Outcome State Fault Refusal :=
  ok (s.runSbool v (metaA (rbit f.a) (rbit f.d) 0 fZ 2) (f.b != 0 || f.mod != 0) f.d
    (fun x => sValid16 (x.reg f.a)) (fun x => sOf (x.reg f.a == 0xAAAAAAAA#32))
    (fun x => x.reg f.a != 0xAAAAAAAA#32))

end Sys2Proof.Machine
end

