-- ==== Sys2Proof/Machine/Dispatch.lean ====
section
/-! DEFINITION. Dispatch: one arm per constructor of Instr, each one call of its meaning. -/

namespace Sys2Proof.Machine

def exec (i : Instr) (s : State) : Host.Outcome State Fault Refusal :=
  match i with
  | .powerOn dt p => Sys2Proof.Machine.execPowerOn dt p s
  | .sealStateChange dt sw => Sys2Proof.Machine.execSealStateChange dt sw s
  | .sealDisagree dt sw => Sys2Proof.Machine.execSealDisagree dt sw s
  | .mailboxPoll dt seals => Sys2Proof.Machine.execMailboxPoll dt seals s
  | .timeWait dt => Sys2Proof.Machine.execTimeWait dt s
  | .furlongBoundary dt b => Sys2Proof.Machine.execFurlongBoundary dt b s
  | .rodBoundary dt => Sys2Proof.Machine.execRodBoundary dt s
  | .isolatedCleanCount dt => Sys2Proof.Machine.execIsolatedCleanCount dt s
  | .resyncWaitExpiry dt => Sys2Proof.Machine.execResyncWaitExpiry dt s
  | .latticePass dt v wait => Sys2Proof.Machine.execLatticePass dt v wait s
  | .latticeOverrun dt v => Sys2Proof.Machine.execLatticeOverrun dt v s
  | .taskStart v => Sys2Proof.Machine.execTaskStart v s
  | .budgetTrap v stall => Sys2Proof.Machine.execBudgetTrap v stall s
  | .strideClose v => Sys2Proof.Machine.execStrideClose v s
  | .phase2Start dt => Sys2Proof.Machine.execPhase2Start dt s
  | .centroidEntry dt slice sender err => Sys2Proof.Machine.execCentroidEntry dt slice sender err s
  | .wEnd dt => Sys2Proof.Machine.execWEnd dt s
  | .vrdLimit dt => Sys2Proof.Machine.execVrdLimit dt s
  | .keyWord dt rx manchesterOk word => Sys2Proof.Machine.execKeyWord dt rx manchesterOk word s
  | .bankCopyBack dt => Sys2Proof.Machine.execBankCopyBack dt s
  | .phase2End dt => Sys2Proof.Machine.execPhase2End dt s
  | .watchdogTrip dt oscNs => Sys2Proof.Machine.execWatchdogTrip dt oscNs s
  | .slotFetch dt rod slot busy => Sys2Proof.Machine.execSlotFetch dt rod slot busy s
  | .slotTransmit dt rod slot => Sys2Proof.Machine.execSlotTransmit dt rod slot s
  | .statusTransmit dt rod slot => Sys2Proof.Machine.execStatusTransmit dt rod slot s
  | .arbWindowStart dt net => Sys2Proof.Machine.execArbWindowStart dt net s
  | .arbSend dt net idle len => Sys2Proof.Machine.execArbSend dt net idle len s
  | .eventCopyExpiry dt net queue => Sys2Proof.Machine.execEventCopyExpiry dt net queue s
  | .launchTimeReached dt queue => Sys2Proof.Machine.execLaunchTimeReached dt queue s
  | .frameForward dt port busy f => Sys2Proof.Machine.execFrameForward dt port busy f s
  | .frameCopyReceive dt net pre f => Sys2Proof.Machine.execFrameCopyReceive dt net pre f s
  | .combineWindowExpiry dt src rodslot seq => Sys2Proof.Machine.execCombineWindowExpiry dt src rodslot seq s
  | .occurrenceDue dt desc => Sys2Proof.Machine.execOccurrenceDue dt desc s
  | .linkChange dt port e => Sys2Proof.Machine.execLinkChange dt port e s
  | .guardianBoundaryPulse dt net off => Sys2Proof.Machine.execGuardianBoundaryPulse dt net off s
  | .babble dt net => Sys2Proof.Machine.execBabble dt net s
  | .coldstartLtExpiry dt => Sys2Proof.Machine.execColdstartLtExpiry dt s
  | .coldstartEnd dt => Sys2Proof.Machine.execColdstartEnd dt s
  | .syncReceive dt net h clockId origin corr => Sys2Proof.Machine.execSyncReceive dt net h clockId origin corr s
  | .announceReceive dt net h clockId prio1 cls acc var prio2 steps => Sys2Proof.Machine.execAnnounceReceive dt net h clockId prio1 cls acc var prio2 steps s
  | .delayReqReceive dt net h clockId seqId corr => Sys2Proof.Machine.execDelayReqReceive dt net h clockId seqId corr s
  | .delayRespReceive dt net h clockId reqId seqId receive corr => Sys2Proof.Machine.execDelayRespReceive dt net h clockId reqId seqId receive corr s
  | .delayReqSend dt => Sys2Proof.Machine.execDelayReqSend dt s
  | .masterSyncSend dt => Sys2Proof.Machine.execMasterSyncSend dt s
  | .masterAnnounceSend dt => Sys2Proof.Machine.execMasterAnnounceSend dt s
  | .syncTimeout dt => Sys2Proof.Machine.execSyncTimeout dt s
  | .announceReceiptTimeout dt => Sys2Proof.Machine.execAnnounceReceiptTimeout dt s
  | .waitMasterTimeout dt => Sys2Proof.Machine.execWaitMasterTimeout dt s
  | .timeStore dt => Sys2Proof.Machine.execTimeStore dt s
  | .inputEdgeEntry dt copies => Sys2Proof.Machine.execInputEdgeEntry dt copies s
  | .classChange dt input before cur => Sys2Proof.Machine.execClassChange dt input before cur s
  | .ioTick dt => Sys2Proof.Machine.execIoTick dt s
  | .discrepancyLatch dt pair => Sys2Proof.Machine.execDiscrepancyLatch dt pair s
  | .inputFaultLatch dt input cur => Sys2Proof.Machine.execInputFaultLatch dt input cur s
  | .inputLatchClear dt input => Sys2Proof.Machine.execInputLatchClear dt input s
  | .twohandTimeout dt pair => Sys2Proof.Machine.execTwohandTimeout dt pair s
  | .tpPulseStart dt tp => Sys2Proof.Machine.execTpPulseStart dt tp s
  | .tpPulseCheck dt tp currents => Sys2Proof.Machine.execTpPulseCheck dt tp currents s
  | .tpOverload dt tp cur us => Sys2Proof.Machine.execTpOverload dt tp cur us s
  | .outputTestSlot dt k => Sys2Proof.Machine.execOutputTestSlot dt k s
  | .outputTestReading dt supply plus minus => Sys2Proof.Machine.execOutputTestReading dt supply plus minus s
  | .outputTestTimeout dt volt => Sys2Proof.Machine.execOutputTestTimeout dt volt s
  | .outputTestRepeat dt => Sys2Proof.Machine.execOutputTestRepeat dt s
  | .latchResetTestEnd dt n hs ls => Sys2Proof.Machine.execLatchResetTestEnd dt n hs ls s
  | .qsOvercurrent dt n cur us => Sys2Proof.Machine.execQsOvercurrent dt n cur us s
  | .qsOpenLoad dt n cur us => Sys2Proof.Machine.execQsOpenLoad dt n cur us s
  | .qsStuckOn dt n plus minus supply => Sys2Proof.Machine.execQsStuckOn dt n plus minus supply s
  | .qaReadback dt j readOn us volt => Sys2Proof.Machine.execQaReadback dt j readOn us volt s
  | .supplyWarn dt volt => Sys2Proof.Machine.execSupplyWarn dt volt s
  | .supplyWarnClear dt => Sys2Proof.Machine.execSupplyWarnClear dt s
  | .supplyLost dt volt run => Sys2Proof.Machine.execSupplyLost dt volt run s
  | .supplyLostClear dt => Sys2Proof.Machine.execSupplyLostClear dt s
  | .sioFail dt => Sys2Proof.Machine.execSioFail dt s
  | .heartbeatSend dt => Sys2Proof.Machine.execHeartbeatSend dt s
  | .heartbeatReceive dt link pre f => Sys2Proof.Machine.execHeartbeatReceive dt link pre f s
  | .chordDown dt link => Sys2Proof.Machine.execChordDown dt link s
  | .mdataReceive dt link f => Sys2Proof.Machine.execMdataReceive dt link f s
  | .mcommitReceive dt link f => Sys2Proof.Machine.execMcommitReceive dt link f s
  | .mirrorCutoff dt => Sys2Proof.Machine.execMirrorCutoff dt s
  | .takeoverDecision dt => Sys2Proof.Machine.execTakeoverDecision dt s
  | .takeover dt => Sys2Proof.Machine.execTakeover dt s
  | .yieldStop dt => Sys2Proof.Machine.execYieldStop dt s
  | .homeEligible dt => Sys2Proof.Machine.execHomeEligible dt s
  | .supplyInput dt p volt overUs => Sys2Proof.Machine.execSupplyInput dt p volt overUs s
  | .bothInputsLost dt => Sys2Proof.Machine.execBothInputsLost dt s
  | .powerDownReset dt store => Sys2Proof.Machine.execPowerDownReset dt store s
  | .resetRelease dt => Sys2Proof.Machine.execResetRelease dt s
  | .preservingPiece dt chip bank => Sys2Proof.Machine.execPreservingPiece dt chip bank s
  | .pieceComplete dt chip bank r word bit => Sys2Proof.Machine.execPieceComplete dt chip bank r word bit s
  | .sliceStart dt n => Sys2Proof.Machine.execSliceStart dt n s
  | .sliceAbandon dt n => Sys2Proof.Machine.execSliceAbandon dt n s
  | .sliceComplete dt n r => Sys2Proof.Machine.execSliceComplete dt n r s
  | .selftestOverdue dt n => Sys2Proof.Machine.execSelftestOverdue dt n s
  | .statusMirrorIntake dt => Sys2Proof.Machine.execStatusMirrorIntake dt s
  | .recordForm dt => Sys2Proof.Machine.execRecordForm dt s
  | .recordCommit dt o => Sys2Proof.Machine.execRecordCommit dt o s
  | .foldTimeout dt => Sys2Proof.Machine.execFoldTimeout dt s
  | .counterSave dt => Sys2Proof.Machine.execCounterSave dt s
  | .k3mWatchdogRestart dt => Sys2Proof.Machine.execK3mWatchdogRestart dt s
  | .freezeTimeout dt => Sys2Proof.Machine.execFreezeTimeout dt s
  | .probationCleanEnd dt => Sys2Proof.Machine.execProbationCleanEnd dt s
  | .probationFaultRestart dt => Sys2Proof.Machine.execProbationFaultRestart dt s
  | .sessionOpen dt => Sys2Proof.Machine.execSessionOpen dt s
  | .sessionIdleTimeout dt n => Sys2Proof.Machine.execSessionIdleTimeout dt n s
  | .lockoutExpiry dt r => Sys2Proof.Machine.execLockoutExpiry dt r s
  | .login dt n tag r pw => Sys2Proof.Machine.execLogin dt n tag r pw s
  | .logout dt n tag => Sys2Proof.Machine.execLogout dt n tag s
  | .setpw dt n tag r pw salt => Sys2Proof.Machine.execSetpw dt n tag r pw salt s
  | .clearpw dt n tag => Sys2Proof.Machine.execClearpw dt n tag s
  | .info dt n tag => Sys2Proof.Machine.execInfo dt n tag s
  | .freeze dt n tag => Sys2Proof.Machine.execFreeze dt n tag s
  | .read dt n tag fromSeq max => Sys2Proof.Machine.execRead dt n tag fromSeq max s
  | .readsent dt n tag => Sys2Proof.Machine.execReadsent dt n tag s
  | .thaw dt n tag => Sys2Proof.Machine.execThaw dt n tag s
  | .dlStart dt n tag length man => Sys2Proof.Machine.execDlStart dt n tag length man s
  | .dlData dt n tag off len => Sys2Proof.Machine.execDlData dt n tag off len s
  | .dlEnd dt n tag got => Sys2Proof.Machine.execDlEnd dt n tag got s
  | .dlAbort dt n tag => Sys2Proof.Machine.execDlAbort dt n tag s
  | .mailboxItem dt n tag kind cmd body => Sys2Proof.Machine.execMailboxItem dt n tag kind cmd body s
  | .attest dt n tag nonce => Sys2Proof.Machine.execAttest dt n tag nonce s
  | .localAct dt n tag => Sys2Proof.Machine.execLocalAct dt n tag s
  | .setting dt n tag id value => Sys2Proof.Machine.execSetting dt n tag id value s
  | .otpOperator dt n tag h1 h2 h3 h4 => Sys2Proof.Machine.execOtpOperator dt n tag h1 h2 h3 h4 s
  | .mbctlPost dt => Sys2Proof.Machine.execMbctlPost dt s
  | .hostAccess dt wr ha data c => Sys2Proof.Machine.execHostAccess dt wr ha data c s
  | .hostGo dt => Sys2Proof.Machine.execHostGo dt s
  | .hostResponse dt => Sys2Proof.Machine.execHostResponse dt s
  | .hostAck dt => Sys2Proof.Machine.execHostAck dt s
  | .restart arg tag => Sys2Proof.Machine.execRestart arg tag s
  | .enterMaint arg tag => Sys2Proof.Machine.execEnterMaint arg tag s
  | .endMaint arg tag => Sys2Proof.Machine.execEndMaint arg tag s
  | .withdraw arg tag => Sys2Proof.Machine.execWithdraw arg tag s
  | .debug arg tag => Sys2Proof.Machine.execDebug arg tag s
  | .debugEnd arg tag => Sys2Proof.Machine.execDebugEnd arg tag s
  | .rejoin arg tag => Sys2Proof.Machine.execRejoin arg tag s
  | .handover arg tag => Sys2Proof.Machine.execHandover arg tag s
  | .stagePatch arg tag => Sys2Proof.Machine.execStagePatch arg tag s
  | .stageIoParam arg tag => Sys2Proof.Machine.execStageIoParam arg tag s
  | .scheduleAct arg tag => Sys2Proof.Machine.execScheduleAct arg tag s
  | .confirm arg tag => Sys2Proof.Machine.execConfirm arg tag s
  | .cancelStage arg tag => Sys2Proof.Machine.execCancelStage arg tag s
  | .fuseBurn arg tag => Sys2Proof.Machine.execFuseBurn arg tag s
  | .fusectlBurn v val readOk => Sys2Proof.Machine.execFusectlBurn v val readOk s
  | .pmctlReq v val => Sys2Proof.Machine.execPmctlReq v val s
  | .loutWrite v val => Sys2Proof.Machine.execLoutWrite v val s
  | .ptbWrite v off val => Sys2Proof.Machine.execPtbWrite v off val s
  | .dctlRun v => Sys2Proof.Machine.execDctlRun v s
  | .dctlStep v => Sys2Proof.Machine.execDctlStep v s
  | .tuseClr v k => Sys2Proof.Machine.execTuseClr v k s
  | .latCtlClr v => Sys2Proof.Machine.execLatCtlClr v s
  | .cenCtlClr v => Sys2Proof.Machine.execCenCtlClr v s
  | .ttbCtlClr v => Sys2Proof.Machine.execTtbCtlClr v s
  | .ttbFlagClear v val => Sys2Proof.Machine.execTtbFlagClear v val s
  | .ntmCtlClr v => Sys2Proof.Machine.execNtmCtlClr v s
  | .ntmFlagClear v val => Sys2Proof.Machine.execNtmFlagClear v val s
  | .sioCtlClr v => Sys2Proof.Machine.execSioCtlClr v s
  | .chdCtlClr v => Sys2Proof.Machine.execChdCtlClr v s
  | .memCtlClr v => Sys2Proof.Machine.execMemCtlClr v s
  | .memDoneClear v val => Sys2Proof.Machine.execMemDoneClear v val s
  | .bstCtlClr v => Sys2Proof.Machine.execBstCtlClr v s
  | .evrCtlClr v => Sys2Proof.Machine.execEvrCtlClr v s
  | .recnCtlClr => Sys2Proof.Machine.execRecnCtlClr s
  | .sentinelClear => Sys2Proof.Machine.execSentinelClear s
  | .hwinCtlClr => Sys2Proof.Machine.execHwinCtlClr s
  | .updmAbort dt => Sys2Proof.Machine.execUpdmAbort dt s
  | .registerWrite who addr val => Sys2Proof.Machine.execRegisterWrite who addr val s
  | .nop v f => Sys2Proof.Machine.execNop v f s
  | .trap v f => Sys2Proof.Machine.execTrap v f s
  | .evt v f => Sys2Proof.Machine.execEvt v f s
  | .rdtcw v f => Sys2Proof.Machine.execRdtcw v f s
  | .wrtcw v f => Sys2Proof.Machine.execWrtcw v f s
  | .mov v f => Sys2Proof.Machine.execMov v f s
  | .movi v f => Sys2Proof.Machine.execMovi v f s
  | .movis v f => Sys2Proof.Machine.execMovis v f s
  | .movhi v f => Sys2Proof.Machine.execMovhi v f s
  | .movx v f => Sys2Proof.Machine.execMovx v f s
  | .sel v f => Sys2Proof.Machine.execSel v f s
  | .ldb v f w busy => Sys2Proof.Machine.execLdb v f w busy s
  | .ldbs v f w busy => Sys2Proof.Machine.execLdbs v f w busy s
  | .ldh v f w busy => Sys2Proof.Machine.execLdh v f w busy s
  | .ldhs v f w busy => Sys2Proof.Machine.execLdhs v f w busy s
  | .ldw v f w busy => Sys2Proof.Machine.execLdw v f w busy s
  | .ldd v f w busy => Sys2Proof.Machine.execLdd v f w busy s
  | .stb v f w => Sys2Proof.Machine.execStb v f w s
  | .sth v f w => Sys2Proof.Machine.execSth v f w s
  | .stw v f w => Sys2Proof.Machine.execStw v f w s
  | .std v f w => Sys2Proof.Machine.execStd v f w s
  | .adds v f => Sys2Proof.Machine.execAdds v f s
  | .addu v f => Sys2Proof.Machine.execAddu v f s
  | .subs v f => Sys2Proof.Machine.execSubs v f s
  | .subu v f => Sys2Proof.Machine.execSubu v f s
  | .muls v f => Sys2Proof.Machine.execMuls v f s
  | .mulu v f => Sys2Proof.Machine.execMulu v f s
  | .divs v f => Sys2Proof.Machine.execDivs v f s
  | .divu v f => Sys2Proof.Machine.execDivu v f s
  | .rems v f => Sys2Proof.Machine.execRems v f s
  | .remu v f => Sys2Proof.Machine.execRemu v f s
  | .negs v f => Sys2Proof.Machine.execNegs v f s
  | .abss v f => Sys2Proof.Machine.execAbss v f s
  | .addl v f => Sys2Proof.Machine.execAddl v f s
  | .subl v f => Sys2Proof.Machine.execSubl v f s
  | .addsi v f => Sys2Proof.Machine.execAddsi v f s
  | .and v f => Sys2Proof.Machine.execAnd v f s
  | .or v f => Sys2Proof.Machine.execOr v f s
  | .xor v f => Sys2Proof.Machine.execXor v f s
  | .not v f => Sys2Proof.Machine.execNot v f s
  | .andi v f => Sys2Proof.Machine.execAndi v f s
  | .ori v f => Sys2Proof.Machine.execOri v f s
  | .xori v f => Sys2Proof.Machine.execXori v f s
  | .shl v f => Sys2Proof.Machine.execShl v f s
  | .shr v f => Sys2Proof.Machine.execShr v f s
  | .sar v f => Sys2Proof.Machine.execSar v f s
  | .ror v f => Sys2Proof.Machine.execRor v f s
  | .btst v f => Sys2Proof.Machine.execBtst v f s
  | .bset v f => Sys2Proof.Machine.execBset v f s
  | .bclr v f => Sys2Proof.Machine.execBclr v f s
  | .bext v f => Sys2Proof.Machine.execBext v f s
  | .bins v f => Sys2Proof.Machine.execBins v f s
  | .sand v f => Sys2Proof.Machine.execSand v f s
  | .sor v f => Sys2Proof.Machine.execSor v f s
  | .sxor v f => Sys2Proof.Machine.execSxor v f s
  | .snot v f => Sys2Proof.Machine.execSnot v f s
  | .stst v f => Sys2Proof.Machine.execStst v f s
  | .sfromb v f => Sys2Proof.Machine.execSfromb v f s
  | .stob v f => Sys2Proof.Machine.execStob v f s
  | .sget v f => Sys2Proof.Machine.execSget v f s
  | .sput v f => Sys2Proof.Machine.execSput v f s
  | .sandp v f => Sys2Proof.Machine.execSandp v f s
  | .sorp v f => Sys2Proof.Machine.execSorp v f s
  | .sall v f => Sys2Proof.Machine.execSall v f s
  | .cmp v f => Sys2Proof.Machine.execCmp v f s
  | .cmpi v f => Sys2Proof.Machine.execCmpi v f s
  | .cmpl v f => Sys2Proof.Machine.execCmpl v f s
  | .tst v f => Sys2Proof.Machine.execTst v f s
  | .b v f => Sys2Proof.Machine.execB v f s
  | .loopn v f => Sys2Proof.Machine.execLoopn v f s
  | .lend v f => Sys2Proof.Machine.execLend v f s
  | .callfb v f w => Sys2Proof.Machine.execCallfb v f w s
  | .retfb v f w => Sys2Proof.Machine.execRetfb v f w s
  | .rxslot v f w busy => Sys2Proof.Machine.execRxslot v f w busy s
  | .txslot v f w => Sys2Proof.Machine.execTxslot v f w s
  | .age v f => Sys2Proof.Machine.execAge v f s
  | .ton v f w => Sys2Proof.Machine.execTon v f w s
  | .tof v f w => Sys2Proof.Machine.execTof v f w s
  | .tp v f w => Sys2Proof.Machine.execTp v f w s
  | .rtrig v f w => Sys2Proof.Machine.execRtrig v f w s
  | .ftrig v f w => Sys2Proof.Machine.execFtrig v f w s
  | .query v f => Sys2Proof.Machine.execQuery v f s
  | .command v f => Sys2Proof.Machine.execCommand v f s
  | .alStart v f => Sys2Proof.Machine.execAlStart v f s
  | .alStop v f => Sys2Proof.Machine.execAlStop v f s
  | .lresv v f => Sys2Proof.Machine.execLresv v f s
  | .lrelRoute v f => Sys2Proof.Machine.execLrelRoute v f s
  | .lrelElement v f => Sys2Proof.Machine.execLrelElement v f s
  | .lstat v f => Sys2Proof.Machine.execLstat v f s
  | .rejoinSelfTestEnd dt testOk checkOk => Sys2Proof.Machine.execRejoinSelfTestEnd dt testOk checkOk s
  | .rejoinCopySlack dt => Sys2Proof.Machine.execRejoinCopySlack dt s
  | .guardianWindowExpiry dt net => Sys2Proof.Machine.execGuardianWindowExpiry dt net s
  | .sessionEnd dt n => Sys2Proof.Machine.execSessionEnd dt n s
  | .downloadCheckEnd dt => Sys2Proof.Machine.execDownloadCheckEnd dt s
  | .passThroughRelease dt port => Sys2Proof.Machine.execPassThroughRelease dt port s
  | .tpRestoreEnd dt tp cur us => Sys2Proof.Machine.execTpRestoreEnd dt tp cur us s
  | .sectorEraseEnd dt ok => Sys2Proof.Machine.execSectorEraseEnd dt ok s

end Sys2Proof.Machine
end

