-- ==== Sys2Proof/Machine/Forms.lean ====
section
/-! DEFINITION. How the three vertices hold one plain value: vertex B complemented (R26, R86), vertex C at translated
addresses (R28, Table 1.3). The model keeps each memory and register in plain form at logical addresses; these views
say what lies in the chips (notes/assumptions/8.md). -/

namespace Sys2Proof.Machine

/-- A byte as vertex `v` holds it in its instance, image, term and element memories. -/
def physByte (v : Vtx) (b : Byte) : Byte :=
  match v with
  | .B => ~~~b
  | _ => b

/-- A W register as vertex `v` holds it. -/
def physReg (v : Vtx) (w : Word) : Word :=
  match v with
  | .B => ~~~w
  | _ => w

/-- The instance region. -/
def instOffset (mI o : Nat) : Nat := ((o ^^^ mI) + 0x00400000) % 0x00800000

/-- The lattice term region. -/
def termOffset (mT o : Nat) : Nat := ((o ^^^ mT) + 0x00400000) % 0x01000000

/-- The lattice element region. -/
def elemOffset (mE o : Nat) : Nat := o ^^^ mE

/-- The address at which vertex `v` holds the byte of a logical address (Table 1.3). An alias address translates as the
word on which it acts. -/
def physAddr (h : AppHeader) (v : Vtx) (la : Nat) : Nat :=
  let a := aliasWord la
  match v with
  | .C =>
    if 0x01000000 ≤ a ∧ a < 0x01800000 then 0x01000000 + instOffset h.mI (a - 0x01000000)
    else if 0x03000000 ≤ a ∧ a < 0x04000000 then 0x03000000 + termOffset h.mT (a - 0x03000000)
    else if 0x04000000 ≤ a ∧ a < 0x04080000 then 0x04000000 + elemOffset h.mE (a - 0x04000000)
    else a
  | _ => a

end Sys2Proof.Machine
end

