-- ==== Sys2Proof/Machine/Leds.lean ====
section
/-! DEFINITION. The status LEDs as a view of the state (R462, Table 15.12). They carry no safety meaning. -/

namespace Sys2Proof.Machine

/-- Indications of Table 15.12. -/
inductive Led where
  | off
  | red
  | amber
  | amber1Hz
  | amber4Hz
  | green
  | green1Hz
  deriving DecidableEq, Repr

/-- PWR, driven by the supply hardware. -/
def State.ledPwr (s : State) : Led :=
  if !s.supply.a.present && !s.supply.b.present then .off
  else if s.supply.a.present && s.supply.b.present then .green
  else .green1Hz

/-- MODE by mode. -/
def ledMode : Mode → Led
  | .halt => .red
  | .start => .amber4Hz
  | .commission => .amber1Hz
  | .maintenance => .amber1Hz
  | .resync => .amber
  | .isolated => .amber
  | .standby => .green1Hz
  | .active => .green

/-- STR. -/
def Blocks.ledStr (b : Blocks) : Led :=
  if !b.cen.debugged.members.isEmpty then .amber1Hz
  else
    match b.shownStrength with
    | 2 => .amber
    | 3 => .green
    | _ => .off

/-- BUS, with the networks from which a frame was accepted in the last furlong. -/
def Blocks.ledBus (b : Blocks) (rx : Two Bool) : Led :=
  if b.ttb.state ≠ .integrated then .off
  else if (b.ttb.babble.x && b.ttb.babble.y) || (!rx.x && !rx.y) then .red
  else if b.ttb.babble.x || b.ttb.babble.y || rx.x != rx.y then .amber
  else .green

/-- IO. -/
def Blocks.ledIo (b : Blocks) : Led :=
  if b.sio.volt < 1600 then .off
  else if b.sio.lost || b.sio.wdt || b.sio.fail then .red
  else if ioFaultBit b.sio = true ∨ b.sio.warn = true then .amber
  else .green

/-- MODE, STR, BUS and IO in this order, which the K3M drives from the status mirror; all flash amber at 1 Hz while it has failed
or is in reset. -/
def State.ledsK3m (s : State) : List Led :=
  if s.k3m.failed || s.inReset then [.amber1Hz, .amber1Hz, .amber1Hz, .amber1Hz]
  else [ledMode s.mirrorBlk.cyc.mode, s.mirrorBlk.ledStr, s.mirrorBlk.ledBus s.nic.rxLast, s.mirrorBlk.ledIo]

end Sys2Proof.Machine
end

