-- ==== Sys2Proof/WellFormed.lean ====
section
/-! DEFINITION. Well-formed commands: what the hardware or its world can offer. The bounds of fields that a bit vector or
Fin carries stand in Syntax.lean; these are the bounds of the natural numbers. The meanings are total on ill-formed
commands too. -/

namespace Sys2Proof

/-- Words of a bank (Table 12.1). -/
def bankWords : Nat → Nat
  | 0 => 524288
  | 1 => 1048576
  | 2 => 32768
  | 3 => 2097152
  | 4 => 65536
  | 5 => 262144
  | 6 => 65536
  | 7 => 8192
  | _ => 0

/-- A failing word lies in its bank, at one of 72 bit positions (R368, R384). -/
def MarchFail.wf (f : MarchFail) : Bool := decide (f.word < bankWords f.bank) && decide (f.bit < 72)

/-- What power-on meets. -/
def PowerOnIn.wf (p : PowerOnIn) : Bool := p.march.all MarchFail.wf && p.again.all (fun b => decide (b < 8))

/-- At most the words of the two other vertices end in the clock of the first (R32). -/
def KeyEnds.wf (k : KeyEnds) : Bool := decide (k.more.length ≤ 2)

/-- The field supply sample fits its 12 bits (Table 10.4). -/
def BoundaryIn.wf (b : BoundaryIn) : Bool := decide (b.volt < 4096)

/-- A (rod, slot) of the matrix (R49, R250). -/
def slotWf (rod slot : Nat) : Bool := decide (rod < 40) && decide (slot < 256)

/-- A queue (R256). -/
def queueWf (q : Nat) : Bool := decide (q < 64)

/-- A slice (R379). -/
def sliceWf (n : Nat) : Bool := decide (n < 69)

/-- The fields of a Swisko frame fit their bits (Table 8.2). -/
def Frame.wf (f : Frame) : Bool :=
  decide (f.vid < 4096) && decide (f.pcp < 8) && decide (f.hop < 64) && decide (f.plen < 256) && decide (f.payload.length ≤ 255)

/-- A chord frame carries at most 1 024 bytes (Table 11.1). -/
def ChordFrame.wf (f : ChordFrame) : Bool := decide (f.payload.length ≤ 1024)

/-- An edge entry (Table 9.4): input, classes, and the current samples. -/
def EdgeEntry.wf (e : EdgeEntry) : Bool :=
  decide (e.input < 32) && decide (e.newClass < 4) && decide (e.oldClass < 4) && decide (e.eseq < 65536) &&
    decide (e.current.length ≤ 56)

/-- The fields of a PTP header (Table 9.1). -/
def PtpHdr.wf (h : PtpHdr) : Bool :=
  decide (h.vid < 4096) && decide (h.pcp < 8) && decide (h.domain < 256) && decide (h.sdo < 16) && decide (h.minor < 16)

/-- A PTP message. -/
def PtpMsg.wf : PtpMsg → Bool
  | .sync h _ _ _ => h.wf
  | .announce h _ p1 c a v p2 n =>
    h.wf && decide (p1 < 256) && decide (c < 256) && decide (a < 256) && decide (v < 65536) && decide (p2 < 256) &&
      decide (n < 65536)
  | .delayReq h _ q _ => h.wf && decide (q < 65536)
  | .delayResp h _ _ q _ _ => h.wf && decide (q < 65536)
  | .other h => h.wf

/-- Any frame. -/
def AnyFrame.wf : AnyFrame → Bool
  | .swisko f => f.wf
  | .ptp _ m => m.wf
  | .other _ => true

/-- A download of at most 60 KiB in one request (R423), and a mailbox body of 2 032 bytes (Table 16.4). -/
def chunkWf (len : Nat) : Bool := decide (len < 65536)

/-- A mailbox body. -/
def bodyWf (b : List Byte) : Bool := decide (b.length ≤ 2032)

/-- A command is well formed. -/
def Instr.wf : Instr → Bool
  | .powerOn _ p => p.wf
  | .furlongBoundary _ x => x.wf
  | .slotFetch _ r k _ => slotWf r k
  | .slotTransmit _ r k => slotWf r k
  | .statusTransmit _ r k => slotWf r k
  | .eventCopyExpiry _ _ q => queueWf q
  | .launchTimeReached _ q => queueWf q
  | .frameForward _ _ _ f => f.wf
  | .frameCopyReceive _ _ _ f => f.wf
  | .syncReceive _ _ h _ _ _ => h.wf
  | .announceReceive _ _ h c p1 k a v p2 n => (PtpMsg.announce h c p1 k a v p2 n).wf
  | .delayReqReceive _ _ h c q x => (PtpMsg.delayReq h c q x).wf
  | .delayRespReceive _ _ h c r q t x => (PtpMsg.delayResp h c r q t x).wf
  | .keyWord _ _ _ w => w.wf
  | .inputEdgeEntry _ c => decide (c.current.length = 56) && c.current.all (fun x => decide (x < 2 ^ 16)) &&
    [c.damaged.a, c.damaged.b, c.damaged.c].all (fun d => match d with
      | some e => e.wf
      | none => true)
  | .heartbeatReceive _ _ _ f => f.wf
  | .mdataReceive _ _ f => f.wf
  | .mcommitReceive _ _ f => f.wf
  | .sliceStart _ n => sliceWf n
  | .sliceAbandon _ n => sliceWf n
  | .sliceComplete _ n _ => sliceWf n
  | .selftestOverdue _ n => sliceWf n
  | .dlData _ _ _ _ data => chunkWf data.length
  | .mailboxItem _ _ _ _ _ x => bodyWf x
  | .sealStateChange .. | .sealDisagree .. | .mailboxPoll .. | .timeWait .. | .rodBoundary ..
  | .isolatedCleanCount .. | .resyncWaitExpiry .. | .latticePass .. | .latticeOverrun .. | .taskStart ..
  | .budgetTrap .. | .strideClose .. | .phase2Start .. | .centroidEntry .. | .wEnd .. | .vrdLimit ..
  | .bankCopyBack .. | .phase2End .. | .watchdogTrip .. | .arbWindowStart .. | .arbSend ..
  | .combineWindowExpiry .. | .occurrenceDue .. | .linkChange .. | .guardianBoundaryPulse .. | .babble ..
  | .coldstartLtExpiry .. | .coldstartEnd .. | .delayReqSend .. | .masterSyncSend .. | .masterAnnounceSend ..
  | .syncTimeout .. | .announceReceiptTimeout .. | .waitMasterTimeout .. | .timeStore .. | .classChange ..
  | .ioTick .. | .discrepancyLatch .. | .inputFaultLatch .. | .inputLatchClear .. | .twohandTimeout ..
  | .tpPulseStart .. | .tpPulseCheck .. | .tpOverload .. | .outputTestSlot .. | .outputTestReading ..
  | .outputTestTimeout .. | .outputTestRepeat .. | .latchResetTestEnd .. | .qsOvercurrent .. | .qsOpenLoad ..
  | .qsStuckOn .. | .qaReadback .. | .supplyWarn .. | .supplyWarnClear .. | .supplyLost ..
  | .supplyLostClear .. | .sioFail .. | .heartbeatSend .. | .chordDown .. | .mirrorCutoff ..
  | .takeoverDecision .. | .takeover .. | .yieldStop .. | .homeEligible .. | .supplyInput ..
  | .bothInputsLost .. | .powerDownReset .. | .resetRelease .. | .preservingPiece .. | .pieceComplete ..
  | .statusMirrorIntake .. | .recordForm .. | .recordCommit .. | .foldTimeout .. | .counterSave ..
  | .k3mWatchdogRestart .. | .freezeTimeout .. | .probationCleanEnd .. | .probationFaultRestart ..
  | .sessionOpen .. | .sessionIdleTimeout .. | .lockoutExpiry .. | .login .. | .logout .. | .setpw ..
  | .clearpw .. | .info .. | .freeze .. | .read .. | .readsent .. | .thaw .. | .dlStart .. | .dlEnd ..
  | .dlAbort .. | .attest .. | .localAct .. | .setting .. | .otpOperator .. | .mbctlPost .. | .hostAccess ..
  | .hostGo .. | .hostResponse .. | .hostAck .. | .restart .. | .enterMaint .. | .endMaint .. | .withdraw ..
  | .debug .. | .debugEnd .. | .rejoin .. | .handover .. | .stagePatch .. | .stageIoParam .. | .scheduleAct ..
  | .confirm .. | .cancelStage .. | .fuseBurn .. | .fusectlBurn .. | .pmctlReq .. | .loutWrite ..
  | .ptbWrite .. | .dctlRun .. | .dctlStep .. | .tuseClr .. | .latCtlClr .. | .cenCtlClr .. | .ttbCtlClr ..
  | .ttbFlagClear .. | .ntmCtlClr .. | .ntmFlagClear .. | .sioCtlClr .. | .chdCtlClr .. | .memCtlClr ..
  | .memDoneClear .. | .bstCtlClr .. | .evrCtlClr .. | .recnCtlClr .. | .sentinelClear .. | .hwinCtlClr ..
  | .updmAbort .. | .registerWrite .. | .nop .. | .trap .. | .evt .. | .rdtcw .. | .wrtcw .. | .mov ..
  | .movi .. | .movis .. | .movhi .. | .movx .. | .sel .. | .ldb .. | .ldbs .. | .ldh .. | .ldhs .. | .ldw ..
  | .ldd .. | .stb .. | .sth .. | .stw .. | .std .. | .adds .. | .addu .. | .subs .. | .subu .. | .muls ..
  | .mulu .. | .divs .. | .divu .. | .rems .. | .remu .. | .negs .. | .abss .. | .addl .. | .subl ..
  | .addsi .. | .and .. | .or .. | .xor .. | .not .. | .andi .. | .ori .. | .xori .. | .shl .. | .shr ..
  | .sar .. | .ror .. | .btst .. | .bset .. | .bclr .. | .bext .. | .bins .. | .sand .. | .sor .. | .sxor ..
  | .snot .. | .stst .. | .sfromb .. | .stob .. | .sget .. | .sput .. | .sandp .. | .sorp .. | .sall ..
  | .cmp .. | .cmpi .. | .cmpl .. | .tst .. | .b .. | .loopn .. | .lend .. | .callfb .. | .retfb ..
  | .rxslot .. | .txslot .. | .age .. | .ton .. | .tof .. | .tp .. | .rtrig .. | .ftrig .. | .query ..
  | .command .. | .alStart .. | .alStop .. | .lresv .. | .lrelRoute .. | .lrelElement .. | .lstat ..
  | .rejoinSelfTestEnd .. | .rejoinCopySlack .. | .guardianWindowExpiry .. | .sessionEnd ..
  | .downloadCheckEnd .. | .passThroughRelease .. | .tpRestoreEnd .. | .sectorEraseEnd .. => true

end Sys2Proof
end

