-- ==== Sys2Proof/Safety.lean ====
section
/-! DEFINITION. The terms in which statements speak: the canonical form of every memory, what can never be undone, and what an
instruction leaves on its vertex and in the module. -/

namespace Sys2Proof.Machine

/-! ### Invariants -/

/-- Every memory of a vertex is in canonical form. -/
def VMem.wf (m : VMem) : Prop :=
  Memory.wf m.code = true ∧ Memory.wf m.inst = true ∧ Memory.wf m.imgIn = true ∧ Memory.wf m.out0 = true ∧
    Memory.wf m.out1 = true ∧ Memory.wf m.term = true

/-- Every memory of the module is in canonical form: those of the three vertices, and the host window. -/
def State.memWf (s : State) : Prop := (∀ v, (s.v v).mem.wf) ∧ Memory.wf s.hwin.mem = true

/-- `t` may come after `s`: what is burnt, programmed once or counted for ever is kept (R386, R399, R418, R419, R439). -/
structure Later (s t : State) : Prop where
  time : s.nt ≤ t.nt
  vendor : t.upd.otp.vendor = s.upd.otp.vendor
  variant : t.upd.otp.variant = s.upd.otp.variant
  serial : t.upd.otp.serial = s.upd.otp.serial
  operator : ∀ r, s.upd.otp.operator = some r → t.upd.otp.operator = some r
  svn : s.upd.otp.svn ≤ t.upd.otp.svn
  hssidx : s.upd.hssidx ≤ t.upd.hssidx
  seq : s.recorder.seq ≤ t.recorder.seq
  fuses : ∀ v e, e ∈ s.fuses.get v → e ∈ t.fuses.get v
  fusesSh : ∀ e, e ∈ s.fusesSh → e ∈ t.fusesSh

/-! ### Instructions -/

/-- The state in which an instruction of vertex `v` with `words` words issues: a full stride is closed first (R211), and
the correctable errors that the fetch meets are written back (R22). -/
def State.issueState (s : State) (v : Vtx) (words : Nat) : State :=
  (s.closeFull v).modV v (fun x => x.fetchCorrect words)

/-- Vertex `v` in that state. -/
def State.issueVertex (s : State) (v : Vtx) (words : Nat) : Vertex := (s.issueState v words).v v

/-- An instruction with issue data `m` may execute on vertex `v`: a task or a debug furlong runs there, no instruction
breakpoint stops it, and none of the causes common to all instructions applies (R106, R110, R114, R122). -/
structure MayIssue (s : State) (v : Vtx) (m : IMeta) : Prop where
  runs : s.executing v = true
  free : ((s.closeFull v).debugging v && ((s.closeFull v).v v).atBreak) = false
  clean : (s.closeFull v).commonCause v m false = none

/-- The instruction has retired: the next address is `pc`, the budget count takes its cycles (R118, R121), and nothing
outside vertex `v` has changed. -/
structure Retires (s t : State) (v : Vtx) (m : IMeta) (pc : Word) : Prop where
  module : t = (s.issueState v m.words).setV v (t.v v)
  pc : (t.v v).core.pc = pc
  count : (t.v v).core.count = ((s.closeFull v).v v).countAfter m
  retired : (t.v v).core.retired = (s.issueVertex v m.words).core.retired + 1

/-- The address of the next word in sequence. -/
def State.nextPc (s : State) (v : Vtx) (m : IMeta) : Word :=
  (s.issueVertex v m.words).core.pc + BitVec.ofNat 32 (4 * m.words)

/-- Of the registers of a vertex only W0 to W15, the flags, PC, the counts and the signature stream have changed: IB, XB,
KB, TASK, DEPTH, the loop stack and ELOOPS stand. -/
def Core.plain (c d : Core) : Prop :=
  d = { c with w := d.w, fl := d.fl, pc := d.pc, count := d.count, retired := d.retired, stream := d.stream }

/-- Nothing of a vertex has changed but its registers and the memory of the last issue; its debug channel only in a debug
furlong. Memories, lattice, slice, buffers and counters stand. -/
structure CoreOnly (x y : Vertex) (debugging : Bool) : Prop where
  vertex : y = { x with core := y.core, last := y.last, dbg := y.dbg }
  core : x.core.plain y.core
  dbg : debugging = false → y.dbg = x.dbg

/-- The result of an instruction that writes no register: flags `fl`, no record. -/
structure WritesFlags (s t : State) (v : Vtx) (m : IMeta) (fl : Flags) : Prop where
  retires : Retires s t v m (s.nextPc v m)
  only : CoreOnly (s.issueVertex v m.words) (t.v v) ((s.closeFull v).debugging v)
  regs : (t.v v).core.w = (s.issueVertex v m.words).core.w
  flags : (t.v v).core.fl = fl
  stream : (t.v v).core.stream = (s.issueVertex v m.words).core.stream

/-- The result of an instruction that writes register `d`, with the record `rec` (R206), and the flags `fl`, where `x` is
the vertex after the reads of its operands. -/
structure WritesRegOn (x : Vertex) (s t : State) (v : Vtx) (m : IMeta) (d : BitVec 4) (val : Word) (fl : Flags)
    (rec : SigRec) : Prop where
  retires : Retires s t v m (s.nextPc v m)
  only : CoreOnly x (t.v v) ((s.closeFull v).debugging v)
  reg : (t.v v).reg d = val
  others : ∀ r, r ≠ d → (t.v v).reg r = x.reg r
  flags : (t.v v).core.fl = fl
  stream : (t.v v).core.stream = rec :: x.core.stream

/-- The result of an instruction that writes register `d` and the flags `fl`. -/
abbrev WritesReg (s t : State) (v : Vtx) (m : IMeta) (d : BitVec 4) (val : Word) (fl : Flags) : Prop :=
  WritesRegOn (s.issueVertex v m.words) s t v m d val fl (.reg d.toNat val)

/-- The result of an instruction that writes the register pair `d` (R85), with two records, the even register first
(R208), and the flags `fl`, where `x` is the vertex after the reads of its operands. -/
structure WritesPairOn (x : Vertex) (s t : State) (v : Vtx) (m : IMeta) (d : BitVec 4) (val : Long) (fl : Flags) :
    Prop where
  retires : Retires s t v m (s.nextPc v m)
  only : CoreOnly x (t.v v) ((s.closeFull v).debugging v)
  pair : (t.v v).pair d = val
  others : ∀ r, r ≠ d → r ≠ succReg d → (t.v v).reg r = x.reg r
  flags : (t.v v).core.fl = fl
  stream : (t.v v).core.stream =
    .reg (succReg d).toNat (val.extractLsb' 32 32) :: .reg d.toNat (val.extractLsb' 0 32) :: x.core.stream

/-- The result of an instruction that writes the register pair `d` and the flags `fl`. -/
abbrev WritesPair (s t : State) (v : Vtx) (m : IMeta) (d : BitVec 4) (val : Long) (fl : Flags) : Prop :=
  WritesPairOn (s.issueVertex v m.words) s t v m d val fl

/-- What an instruction that stores leaves: the next address in sequence, W, the flags, IB, XB, KB and the loop stack as
before, the record `rec` in the stream, and of the vertex nothing changed but the memories, the pages marked for a rejoin
(R236) and the count of corrected errors (R22). -/
structure Stores (s t : State) (v : Vtx) (m : IMeta) (rec : SigRec) : Prop where
  retires : Retires s t v m (s.nextPc v m)
  vertex : (t.v v) = { s.issueVertex v m.words with
    core := (t.v v).core, last := (t.v v).last, dbg := (t.v v).dbg, mem := (t.v v).mem, dirty := (t.v v).dirty,
    loc := { (s.issueVertex v m.words).loc with eccOwn := (t.v v).loc.eccOwn } }
  dbg : (s.closeFull v).debugging v = false → (t.v v).dbg = (s.issueVertex v m.words).dbg
  core : (s.issueVertex v m.words).core.plain (t.v v).core
  regs : (t.v v).core.w = (s.issueVertex v m.words).core.w
  flags : (t.v v).core.fl = (s.issueVertex v m.words).core.fl
  stream : (t.v v).core.stream = rec :: (s.issueVertex v m.words).core.stream

/-- Of the memories of a vertex only the `n` bytes at `a` of region `r` have changed: they spell `val`, least significant
byte first (R10). The bank of the image that is sent stands. -/
structure StoredBytes (x y : Vertex) (r : Region) (a n val : Nat) : Prop where
  bytes : ∀ i, i < n → Memory.read (y.mem.cells r) (a + i) = BitVec.ofNat 8 (val / 256 ^ i)
  others : ∀ q b, (q ≠ r ∨ b < a ∨ a + n ≤ b) → Memory.read (y.mem.cells q) b = Memory.read (x.mem.cells q) b
  sent : y.mem.transmit = x.mem.transmit
  bank : y.mem.work1 = x.mem.work1

/-- A trap of vertex `v` in a task, outside a debug furlong and a rejoin trial, the first of the furlong: the trapping
instruction has written no register and no byte of memory; the vertex stops, records VERTEX_TRAP with the fields of Table 3.13
while its buffer of 64 records has room, sends no key word whatever verdict comes, and sends WD with the cause to the three
slices, which exclude it when they receive it (R105, R108, R226). The vertices in service stand, the trapping one among them
until then, and so do the mode and the links of the other vertices. -/
structure TrapsOut (s t : State) (v : Vtx) (c : TrapCause) (user : Nat := 0) : Prop where
  stopped : (t.v v).stopped = true
  idle : (t.v v).cur = none
  core : (t.v v).core = ((s.closeFull v).v v).core
  mem : (t.v v).mem = ((s.closeFull v).v v).mem
  lat : (t.v v).lat = ((s.closeFull v).v v).lat
  record : let x := (s.closeFull v).v v
    x.recs.length < 64 → ∃ addr, (t.v v).recs = x.recs ++
      [⟨.vertexTrap, 0x11 + v.num, trapBody v c user x.core.task x.core.pc addr x.core.tcw s.fnum x.core.count⟩]
  key : (t.v v).key = ((s.closeFull v).v v).key ∧ ∀ n, t.sendKey v n = t
  wd : ∀ y, (t.links.get v).get y = ((s.closeFull v).links.get v).get y ++ [wdEntry (.trap c)]
  links : ∀ u, u ≠ v → t.links.get u = s.links.get u
  mode : t.mode = s.mode
  service : ∀ u, t.inService u = s.inService u

end Sys2Proof.Machine
end

