-- ==== Sys2Proof/Certificates/Slice0/Obligations.lean ====
section
/-! DEFINITION. The statements. Each says what the rules named in OBLIGATIONS.json say of the commands that it names. -/

open Sys2Proof Sys2Proof.Machine


/-! ### Steps -/

/-- A step takes the command at the front of the queue and runs it with the rest of the queue. -/
def Obligations.StepRunsTheFrontCommand : Prop :=
  ∀ (c : Instr) (s : State), step { s with pending := c :: s.pending } = exec c s

/-- On an empty queue a step lets one NT clock of 8 ns pass and does nothing else. This is the model's choice (log entry 4). -/
def Obligations.StepIdlesOnAnEmptyQueue : Prop :=
  ∀ s : State, s.pending = [] → step s = .next (s.elapse 1)

/-! ### Instructions: moves (Table 4.5) -/

/-- NOP, RDTCW, WRTCW, MOV, MOVI, MOVIS, MOVHI, MOVX and SEL complete with the register or the flags of their rows, and change
nothing else. -/
def Obligations.MovesWriteTheirResult : Prop :=
  ∀ (s : State) (v : Vtx),
    (∀ f : FmtN, f.z = 0 → f.code = 0 → MayIssue s v (metaU 1) →
      ∃ t, exec (.nop v f) s = .next t ∧ WritesFlags s t v (metaU 1) (s.issueVertex v 1).core.fl) ∧
    (∀ f : FmtR, f.a = 0 → f.b = 0 → f.mod = 0 → MayIssue s v (metaU 1) →
      let c := (s.issueVertex v 1).core
      ∃ t, exec (.rdtcw v f) s = .next t ∧
        WritesReg s t v (metaU 1) f.d
          (w32 (bit c.fl.z + 2 * bit c.fl.n + 4 * bit c.fl.c + 8 * bit c.fl.v + 16 * bit c.fl.s + 2 ^ 8 * c.task +
            2 ^ 12 * c.depth + 2 ^ 21 * c.loops.length)) c.fl) ∧
    (∀ f : FmtR, f.d = 0 → f.b = 0 → f.mod = 0 → MayIssue s v (metaU 1) →
      let w := (s.issueVertex v 1).reg f.a
      ∃ t, exec (.wrtcw v f) s = .next t ∧
        WritesFlags s t v (metaU 1)
          ⟨w.getLsbD 0, w.getLsbD 1, w.getLsbD 2, w.getLsbD 3, w.getLsbD 4⟩) ∧
    (∀ f : FmtR, f.b = 0 → f.mod = 0 → MayIssue s v (metaA (rbit f.a) (rbit f.d) 0 0 1) →
      ∃ t, exec (.mov v f) s = .next t ∧
        WritesReg s t v (metaA (rbit f.a) (rbit f.d) 0 0 1) f.d ((s.issueVertex v 1).reg f.a)
          (s.issueVertex v 1).core.fl) ∧
    (∀ f : FmtI, f.a = 0 → MayIssue s v (metaA 0 (rbit f.d) 0 0 1) →
      ∃ t, exec (.movi v f) s = .next t ∧
        WritesReg s t v (metaA 0 (rbit f.d) 0 0 1) f.d (f.imm.zeroExtend 32) (s.issueVertex v 1).core.fl) ∧
    (∀ f : FmtI, f.a = 0 → MayIssue s v (metaA 0 (rbit f.d) 0 0 1) →
      ∃ t, exec (.movis v f) s = .next t ∧
        WritesReg s t v (metaA 0 (rbit f.d) 0 0 1) f.d (f.imm.signExtend 32) (s.issueVertex v 1).core.fl) ∧
    (∀ f : FmtI, f.a = 0 → MayIssue s v (metaA (rbit f.d) (rbit f.d) 0 0 1) →
      let x := s.issueVertex v 1
      ∃ t, exec (.movhi v f) s = .next t ∧
        WritesReg s t v (metaA (rbit f.d) (rbit f.d) 0 0 1) f.d
          (BitVec.ofNat 32 (f.imm.toNat * 2 ^ 16 + (x.reg f.d).toNat % 2 ^ 16)) x.core.fl) ∧
    (∀ f : FmtX, f.z = 0 → MayIssue s v { cls := .U, cyc := 2, words := 2 } →
      ∃ t, exec (.movx v f) s = .next t ∧
        WritesReg s t v { cls := .U, cyc := 2, words := 2 } f.d f.imm (s.issueVertex v 2).core.fl) ∧
    (∀ f : FmtR, f.mod.extractLsb' 0 8 = 0 →
      let cond := f.mod.extractLsb' 8 4
      let m := metaA (rbit f.a ||| rbit f.b) (rbit f.d) (condFlags cond) 0 1
      MayIssue s v m →
      let x := s.issueVertex v 1
      ∃ t, exec (.sel v f) s = .next t ∧
        WritesReg s t v m f.d (if condHolds cond x.core.fl then x.reg f.a else x.reg f.b) x.core.fl)

/-! ### Instructions: saturating arithmetic (Table 4.7) -/

/-- The exact result limited to the range of an `n`-bit type, as R127 gives it. -/
def satTo (signed : Bool) (n : Nat) (r : Int) : Int :=
  if signed then max (-(2 ^ (n - 1))) (min r (2 ^ (n - 1) - 1)) else max 0 (min r (2 ^ n - 1))

/-- The low `n` bits of a register, read as signed or as unsigned (R127). -/
def readAs (signed : Bool) (n : Nat) (x : Word) : Int :=
  if signed then (x.toNat : Int).bmod (2 ^ n) else (x.toNat : Int) % 2 ^ n

/-- The flags of R128: Z of the result written, N its most significant bit at the size, C as given, V when it was
limited; S stands. -/
def arithFlags (f : Flags) (signed : Bool) (n : Nat) (exact : Int) (c : Bool) : Flags :=
  let r := satTo signed n exact
  { z := decide (r = 0), n := decide (2 ^ (n - 1) ≤ r % 2 ^ n), c := c, v := decide (r ≠ exact), s := f.s }

/-- Carry out of the unsigned addition at the size (R128). -/
def carries (n : Nat) (a b : Word) : Bool := decide (2 ^ n ≤ a.toNat % 2 ^ n + b.toNat % 2 ^ n)

/-- No borrow out of the unsigned subtraction at the size (R128). -/
def noBorrows (n : Nat) (a b : Word) : Bool := decide (b.toNat % 2 ^ n ≤ a.toNat % 2 ^ n)

/-- The outcome `o` of an instruction of the sized group with the operands of `f`: it completes with the exact result `r`
limited to the size, and the flags of R128. -/
def SizedResult (s : State) (o : Host.Outcome State Fault Refusal) (v : Vtx) (m : IMeta) (d : BitVec 4) (signed : Bool)
    (n : Nat) (r : Int) (c : Bool) : Prop :=
  ∃ t, o = .next t ∧
    WritesReg s t v m d (BitVec.ofInt 32 (satTo signed n r)) (arithFlags (s.issueVertex v 1).core.fl signed n r c)

/-- The size that MOD[11:10] names, with MOD[9:0] = 0 (R127). -/
def HasSize (mod : BitVec 12) (n : Nat) : Prop :=
  (mod = 0x000 ∧ n = 32) ∨ (mod = 0x400 ∧ n = 16) ∨ (mod = 0x800 ∧ n = 8)

/-- ADDS, ADDU, SUBS, SUBU, MULS, MULU, NEGS, ABSS and ADDSI: the exact result of the operands at the size, limited to the
range of the size, is written to Wd, with the flags of R128, for every size; nothing else changes. -/
def ArithmeticSaturates : Prop :=
  ∀ (s : State) (v : Vtx),
    (∀ (f : FmtR) (n : Nat), HasSize f.mod n →
      let x := s.issueVertex v 1
      let a := x.reg f.a
      let b := x.reg f.b
      let m : IMeta := { cls := .A, cyc := 1, rr := rbit f.a ||| rbit f.b, rw := rbit f.d, fw := fZNCV }
      let u : IMeta := { cls := .U, cyc := 3, rr := rbit f.a ||| rbit f.b, rw := rbit f.d, fw := fZNCV }
      (MayIssue s v m →
        SizedResult s (exec (.adds v f) s) v m f.d true n (readAs true n a + readAs true n b) (carries n a b) ∧
        SizedResult s (exec (.addu v f) s) v m f.d false n (readAs false n a + readAs false n b) (carries n a b) ∧
        SizedResult s (exec (.subs v f) s) v m f.d true n (readAs true n a - readAs true n b) (noBorrows n a b) ∧
        SizedResult s (exec (.subu v f) s) v m f.d false n (readAs false n a - readAs false n b) (noBorrows n a b)) ∧
      (MayIssue s v u →
        SizedResult s (exec (.muls v f) s) v u f.d true n (readAs true n a * readAs true n b) false ∧
        SizedResult s (exec (.mulu v f) s) v u f.d false n (readAs false n a * readAs false n b) false) ∧
      (f.b = 0 → MayIssue s v (metaA (rbit f.a) (rbit f.d) 0 fZNCV 1) →
        SizedResult s (exec (.negs v f) s) v (metaA (rbit f.a) (rbit f.d) 0 fZNCV 1) f.d true n (-(readAs true n a))
          false ∧
        SizedResult s (exec (.abss v f) s) v (metaA (rbit f.a) (rbit f.d) 0 fZNCV 1) f.d true n
          ((readAs true n a).natAbs : Int) false)) ∧
    (∀ f : FmtI, MayIssue s v (metaA (rbit f.a) (rbit f.d) 0 fZNCV 1) →
      let a := (s.issueVertex v 1).reg f.a
      SizedResult s (exec (.addsi v f) s) v (metaA (rbit f.a) (rbit f.d) 0 fZNCV 1) f.d true 32
        (a.toInt + f.imm.toInt) (carries 32 a (f.imm.signExtend 32)))

/-- DIVS, DIVU, REMS and REMU with a divisor that is not 0 at the size: the quotient rounded toward zero, limited, or the
remainder with the sign of the dividend; C is 0. -/
def DivisionRoundsTowardZero : Prop :=
  ∀ (s : State) (v : Vtx) (f : FmtR) (n : Nat), HasSize f.mod n →
    let x := s.issueVertex v 1
    let a := x.reg f.a
    let b := x.reg f.b
    let m : IMeta := { cls := .U, cyc := 34, rr := rbit f.a ||| rbit f.b, rw := rbit f.d, fw := fZNCV }
    MayIssue s v m → readAs false n b ≠ 0 →
      SizedResult s (exec (.divs v f) s) v m f.d true n ((readAs true n a).tdiv (readAs true n b)) false ∧
      SizedResult s (exec (.divu v f) s) v m f.d false n (readAs false n a / readAs false n b) false ∧
      SizedResult s (exec (.rems v f) s) v m f.d true n ((readAs true n a).tmod (readAs true n b)) false ∧
      SizedResult s (exec (.remu v f) s) v m f.d false n (readAs false n a % readAs false n b) false

/-- ArithmeticSaturates and DivisionRoundsTowardZero, together. -/
def Obligations.SizedArithmetic : Prop := ArithmeticSaturates ∧ DivisionRoundsTowardZero

/-- ADDL and SUBL on even register pairs: the exact 64-bit signed result, limited, with the flags of R128; CMPL: the flags of
the unlimited difference, and no register. -/
def Obligations.LongArithmetic : Prop :=
  ∀ (s : State) (v : Vtx) (f : FmtR), f.mod = 0 → f.a.getLsbD 0 = false → f.b.getLsbD 0 = false →
    MayIssue s v (metaU 2) →
    let x := s.issueVertex v 1
    let a := x.pair f.a
    let b := x.pair f.b
    (f.d.getLsbD 0 = false →
      (∃ t, exec (.addl v f) s = .next t ∧
        WritesPair s t v (metaU 2) f.d (BitVec.ofInt 64 (satTo true 64 (a.toInt + b.toInt)))
          (arithFlags x.core.fl true 64 (a.toInt + b.toInt) (decide (2 ^ 64 ≤ a.toNat + b.toNat)))) ∧
      (∃ t, exec (.subl v f) s = .next t ∧
        WritesPair s t v (metaU 2) f.d (BitVec.ofInt 64 (satTo true 64 (a.toInt - b.toInt)))
          (arithFlags x.core.fl true 64 (a.toInt - b.toInt) (decide (b.toNat ≤ a.toNat))))) ∧
    (f.d = 0 →
      ∃ t, exec (.cmpl v f) s = .next t ∧
        WritesFlags s t v (metaU 2)
          { z := decide (a = b), n := (a - b).msb, c := decide (b.toNat ≤ a.toNat),
            v := decide ((a - b).toInt ≠ a.toInt - b.toInt), s := x.core.fl.s })

/-! ### Instructions: logic, bits and shifts (Table 4.8) -/

/-- The outcome of a logic instruction: the result `r` in Wd, Z and N of it, C, V and S as before (R130). -/
def LogicResult (s : State) (o : Host.Outcome State Fault Refusal) (v : Vtx) (rr : BitVec 16) (d : BitVec 4) (r : Word) :
    Prop :=
  ∃ t, o = .next t ∧
    WritesReg s t v (metaA rr (rbit d) 0 fZN 1) d r
      { (s.issueVertex v 1).core.fl with z := decide (r = 0), n := r.msb }

/-- AND, OR, XOR, NOT, ANDI, ORI, XORI, BSET, BCLR, BEXT, BINS and BTST complete with the result of their rows, bit by bit;
they write Z and N of it (BTST Z alone), and leave C, V and S. -/
def LogicWritesZAndN : Prop :=
  ∀ (s : State) (v : Vtx),
    (∀ f : FmtR, f.mod = 0 →
      let x := s.issueVertex v 1
      let rr := rbit f.a ||| rbit f.b
      (MayIssue s v (metaA rr (rbit f.d) 0 fZN 1) →
        LogicResult s (exec (.and v f) s) v rr f.d (x.reg f.a &&& x.reg f.b) ∧
        LogicResult s (exec (.or v f) s) v rr f.d (x.reg f.a ||| x.reg f.b) ∧
        LogicResult s (exec (.xor v f) s) v rr f.d (x.reg f.a ^^^ x.reg f.b)) ∧
      (f.b = 0 → MayIssue s v (metaA (rbit f.a) (rbit f.d) 0 fZN 1) →
        LogicResult s (exec (.not v f) s) v (rbit f.a) f.d (~~~(x.reg f.a)))) ∧
    (∀ f : FmtI,
      let x := s.issueVertex v 1
      let a := x.reg f.a
      let i := f.imm.zeroExtend 32
      let pos := f.imm.toNat % 32
      let len := f.imm.toNat / 32 % 32 + 1
      (MayIssue s v (metaA (rbit f.a) (rbit f.d) 0 fZN 1) →
        LogicResult s (exec (.andi v f) s) v (rbit f.a) f.d (a &&& i) ∧
        LogicResult s (exec (.ori v f) s) v (rbit f.a) f.d (a ||| i) ∧
        LogicResult s (exec (.xori v f) s) v (rbit f.a) f.d (a ^^^ i) ∧
        (f.imm.toNat < 32 →
          (∃ r, LogicResult s (exec (.bset v f) s) v (rbit f.a) f.d r ∧
            ∀ j, j < 32 → r.getLsbD j = (a.getLsbD j || decide (j = f.imm.toNat))) ∧
          (∃ r, LogicResult s (exec (.bclr v f) s) v (rbit f.a) f.d r ∧
            ∀ j, j < 32 → r.getLsbD j = (a.getLsbD j && decide (j ≠ f.imm.toNat)))) ∧
        (f.imm.toNat < 1024 → pos + len ≤ 32 →
          ∃ r, LogicResult s (exec (.bext v f) s) v (rbit f.a) f.d r ∧
            ∀ j, j < 32 → r.getLsbD j = (decide (j < len) && a.getLsbD (pos + j)))) ∧
      (f.imm.toNat < 1024 → pos + len ≤ 32 → MayIssue s v (metaA (rbit f.a ||| rbit f.d) (rbit f.d) 0 fZN 1) →
        ∃ r, LogicResult s (exec (.bins v f) s) v (rbit f.a ||| rbit f.d) f.d r ∧
          ∀ j, j < 32 →
            r.getLsbD j = if pos ≤ j ∧ j < pos + len then a.getLsbD (j - pos) else (x.reg f.d).getLsbD j) ∧
      (f.d = 0 → f.imm.toNat < 32 → MayIssue s v (metaA (rbit f.a) 0 0 fZ 1) →
        ∃ t, exec (.btst v f) s = .next t ∧
          WritesFlags s t v (metaA (rbit f.a) 0 0 fZ 1) { x.core.fl with z := !a.getLsbD f.imm.toNat }))

/-- The outcome of a shift: the result in Wd, Z and N of it, C as given, V and S as before (R130). -/
def ShiftResult (s : State) (o : Host.Outcome State Fault Refusal) (v : Vtx) (m : IMeta) (d : BitVec 4) (r : Word) (c : Bool) :
    Prop :=
  ∃ t, o = .next t ∧
    WritesReg s t v m d r { (s.issueVertex v 1).core.fl with z := decide (r = 0), n := r.msb, c := c }

/-- SHL, SHR, SAR and ROR in both count forms: the result bit by bit, and C the last bit shifted out, with the corners of R130
for counts of 0, of 32 and above. -/
def ShiftsGiveTheLastBitOut : Prop :=
  ∀ (s : State) (v : Vtx) (f : FmtR),
    (f.mod.extractLsb' 5 6 = 0 ∧ (if f.mod.getLsbD 11 then f.b = 0 else f.mod.extractLsb' 0 5 = 0)) →
    let x := s.issueVertex v 1
    let a := x.reg f.a
    let n := if f.mod.getLsbD 11 then f.mod.toNat % 32 else (x.reg f.b).toNat
    let m := metaA (if f.mod.getLsbD 11 then rbit f.a else rbit f.a ||| rbit f.b) (rbit f.d) 0 fZNC 1
    MayIssue s v m →
      (∃ r c, ShiftResult s (exec (.shl v f) s) v m f.d r c ∧
        (∀ j, j < 32 → r.getLsbD j = (decide (n ≤ j) && a.getLsbD (j - n))) ∧
        c = (decide (0 < n) && decide (n ≤ 32) && a.getLsbD (32 - n))) ∧
      (∃ r c, ShiftResult s (exec (.shr v f) s) v m f.d r c ∧
        (∀ j, j < 32 → r.getLsbD j = a.getLsbD (j + n)) ∧
        c = (decide (0 < n) && decide (n ≤ 32) && a.getLsbD (n - 1))) ∧
      (∃ r c, ShiftResult s (exec (.sar v f) s) v m f.d r c ∧
        (∀ j, j < 32 → r.getLsbD j = if j + n < 32 then a.getLsbD (j + n) else a.msb) ∧
        c = if n = 0 then false else if n ≤ 32 then a.getLsbD (n - 1) else a.msb) ∧
      (∃ r c, ShiftResult s (exec (.ror v f) s) v m f.d r c ∧
        (∀ j, j < 32 → r.getLsbD j = a.getLsbD ((j + n) % 32)) ∧
        c = if n % 32 = 0 then false else r.getLsbD 31)

/-- LogicWritesZAndN and ShiftsGiveTheLastBitOut, together. -/
def Obligations.LogicAndShifts : Prop := LogicWritesZAndN ∧ ShiftsGiveTheLastBitOut

/-! ### Instructions: SBOOL (Table 4.9) -/

/-- The outcome of an SBOOL instruction: the result in Wd and Z; N, C, V and S as before (R131). -/
def SboolResult (s : State) (o : Host.Outcome State Fault Refusal) (v : Vtx) (m : IMeta) (d : BitVec 4) (r : Word) (z : Bool) :
    Prop :=
  ∃ t, o = .next t ∧ WritesReg s t v m d r { (s.issueVertex v 1).core.fl with z := z }

/-- A register holds the code of a truth value: 1 for FALSE, 2 for TRUE (R90). -/
def Codes (w : Word) (b : Bool) : Prop := w = if b then 2 else 1

/-- Position `j` of a packed word holds the code of a truth value. -/
def CodesAt (w : Word) (j : Nat) (b : Bool) : Prop := w.toNat / 2 ^ (2 * j) % 4 = if b then 2 else 1

/-- The SBOOL instructions on valid codes: the truth value of their rows in register or packed form, Z as Table 4.9 states, and
the other flags unchanged. -/
def Obligations.SboolComputesTruthValues : Prop :=
  ∀ (s : State) (v : Vtx),
    (∀ f : FmtR, f.mod = 0 →
      let x := s.issueVertex v 1
      let m2 := metaA (rbit f.a ||| rbit f.b) (rbit f.d) 0 fZ 1
      let m1 := metaA (rbit f.a) (rbit f.d) 0 fZ 1
      let p2 := metaA (rbit f.a ||| rbit f.b) (rbit f.d) 0 fZ 2
      let p1 := metaA (rbit f.a) (rbit f.d) 0 fZ 2
      (∀ a b, Codes (x.reg f.a) a → Codes (x.reg f.b) b → MayIssue s v m2 →
        SboolResult s (exec (.sand v f) s) v m2 f.d (if a && b then 2 else 1) (!(a && b)) ∧
        SboolResult s (exec (.sor v f) s) v m2 f.d (if a || b then 2 else 1) (!(a || b)) ∧
        SboolResult s (exec (.sxor v f) s) v m2 f.d (if a != b then 2 else 1) (!(a != b))) ∧
      (∀ a, Codes (x.reg f.a) a → f.b = 0 → MayIssue s v m1 →
        SboolResult s (exec (.snot v f) s) v m1 f.d (if a then 1 else 2) a ∧
        SboolResult s (exec (.stob v f) s) v m1 f.d (if a then 1 else 0) (!a)) ∧
      (∀ a, Codes (x.reg f.a) a → f.b = 0 → f.d = 0 → MayIssue s v (metaA (rbit f.a) 0 0 fZ 1) →
        ∃ t, exec (.stst v f) s = .next t ∧
          WritesFlags s t v (metaA (rbit f.a) 0 0 fZ 1) { x.core.fl with z := !a }) ∧
      (f.b = 0 → MayIssue s v m1 →
        SboolResult s (exec (.sfromb v f) s) v m1 f.d (if (x.reg f.a).getLsbD 0 then 2 else 1)
          (!(x.reg f.a).getLsbD 0)) ∧
      (∀ a b : Nat → Bool, (∀ j, j < 16 → CodesAt (x.reg f.a) j (a j)) → (∀ j, j < 16 → CodesAt (x.reg f.b) j (b j)) →
        MayIssue s v p2 →
        (∃ r z, SboolResult s (exec (.sandp v f) s) v p2 f.d r z ∧ (∀ j, j < 16 → CodesAt r j (a j && b j)) ∧
          (z = true ↔ ∀ j, j < 16 → (a j && b j) = false)) ∧
        (∃ r z, SboolResult s (exec (.sorp v f) s) v p2 f.d r z ∧ (∀ j, j < 16 → CodesAt r j (a j || b j)) ∧
          (z = true ↔ ∀ j, j < 16 → (a j || b j) = false))) ∧
      (∀ a : Nat → Bool, (∀ j, j < 16 → CodesAt (x.reg f.a) j (a j)) → f.b = 0 → MayIssue s v p1 →
        ∃ b : Bool, (b = true ↔ ∀ j, j < 16 → a j = true) ∧
          SboolResult s (exec (.sall v f) s) v p1 f.d (if b then 2 else 1) (!b))) ∧
    (∀ f : FmtI, f.imm.toNat < 16 →
      let x := s.issueVertex v 1
      let m1 := metaA (rbit f.a) (rbit f.d) 0 fZ 1
      let m2 := metaA (rbit f.a ||| rbit f.d) (rbit f.d) 0 fZ 1
      (∀ b, CodesAt (x.reg f.a) f.imm.toNat b → MayIssue s v m1 →
        SboolResult s (exec (.sget v f) s) v m1 f.d (if b then 2 else 1) (!b)) ∧
      (∀ b, Codes (x.reg f.a) b → MayIssue s v m2 →
        ∃ r, SboolResult s (exec (.sput v f) s) v m2 f.d r (!b) ∧ CodesAt r f.imm.toNat b ∧
          ∀ j, j < 16 → j ≠ f.imm.toNat → r.toNat / 2 ^ (2 * j) % 4 = (x.reg f.d).toNat / 2 ^ (2 * j) % 4))

/-! ### Instructions: compare, branch and loops (Table 4.11) -/

/-- CMP, CMPI and TST write the flags of their rows and no register. -/
def ComparesWriteFlagsAlone : Prop :=
  ∀ (s : State) (v : Vtx),
    (∀ f : FmtR, f.d = 0 → f.mod = 0 →
      let x := s.issueVertex v 1
      let a := x.reg f.a
      let b := x.reg f.b
      (MayIssue s v (metaA (rbit f.a ||| rbit f.b) 0 0 fZNCV 1) →
        ∃ t, exec (.cmp v f) s = .next t ∧
          WritesFlags s t v (metaA (rbit f.a ||| rbit f.b) 0 0 fZNCV 1)
            { z := decide (a = b), n := (a - b).msb, c := decide (b.toNat ≤ a.toNat),
              v := decide ((a - b).toInt ≠ a.toInt - b.toInt), s := x.core.fl.s }) ∧
      (MayIssue s v (metaA (rbit f.a ||| rbit f.b) 0 0 fZN 1) →
        ∃ t, exec (.tst v f) s = .next t ∧
          WritesFlags s t v (metaA (rbit f.a ||| rbit f.b) 0 0 fZN 1)
            { x.core.fl with z := decide (a &&& b = 0), n := (a &&& b).msb })) ∧
    (∀ f : FmtI, f.d = 0 → MayIssue s v (metaA (rbit f.a) 0 0 fZNCV 1) →
      let x := s.issueVertex v 1
      let a := x.reg f.a
      let b := f.imm.signExtend 32
      ∃ t, exec (.cmpi v f) s = .next t ∧
        WritesFlags s t v (metaA (rbit f.a) 0 0 fZNCV 1)
          { z := decide (a = b), n := (a - b).msb, c := decide (b.toNat ≤ a.toNat),
            v := decide ((a - b).toInt ≠ a.toInt - b.toInt), s := x.core.fl.s })

/-- What a change of control leaves: the next address, the flags and registers as before, and nothing else. -/
structure Jumps (s t : State) (v : Vtx) (m : IMeta) (pc : Word) : Prop where
  retires : Retires s t v m pc
  only : CoreOnly (s.issueVertex v m.words) (t.v v) ((s.closeFull v).debugging v)
  regs : (t.v v).core.w = (s.issueVertex v m.words).core.w
  flags : (t.v v).core.fl = (s.issueVertex v m.words).core.fl
  stream : (t.v v).core.stream = (s.issueVertex v m.words).core.stream

/-- B goes to the address of its word + 4 + 4 × OFF20 in 3 clocks when its condition holds and that address lies in the code
region, and continues in sequence in 1 clock otherwise, whatever its target is (the model's reading, log entry 23); it writes no
flag (R132, R134). -/
def BranchIsForward : Prop :=
  ∀ (s : State) (v : Vtx) (f : FmtB),
    let x := s.issueVertex v 1
    let target := x.core.pc + 4 + BitVec.ofNat 32 (4 * f.off.toNat)
    let m : Nat → IMeta := fun n => { cls := .B, cyc := n, fr := condFlags f.cond }
    (condHolds f.cond x.core.fl = true → 0x00010000 ≤ target.toNat → target.toNat < 0x00400000 → MayIssue s v (m 3) →
      ∃ t, exec (.b v f) s = .next t ∧ Jumps s t v (m 3) target) ∧
    (condHolds f.cond x.core.fl = false → MayIssue s v (m 1) →
      ∃ t, exec (.b v f) s = .next t ∧ Jumps s t v (m 1) (s.nextPc v (m 1)))

/-- ComparesWriteFlagsAlone and BranchIsForward, together. -/
def Obligations.ComparesAndBranches : Prop := ComparesWriteFlagsAlone ∧ BranchIsForward

/-- Of a vertex only W, PC, the counts, the stream and the loop stack have changed. -/
structure LoopOnly (s t : State) (v : Vtx) (m : IMeta) (pc : Word) (loops : List LoopEntry) (w : Option (BitVec 4 × Word)) :
    Prop where
  retires : Retires s t v m pc
  vertex : (t.v v) = { s.issueVertex v m.words with core := (t.v v).core, last := (t.v v).last, dbg := (t.v v).dbg }
  dbg : (s.closeFull v).debugging v = false → (t.v v).dbg = (s.issueVertex v m.words).dbg
  core : Core.plain { (s.issueVertex v m.words).core with loops := loops } (t.v v).core
  flags : (t.v v).core.fl = (s.issueVertex v m.words).core.fl
  reg : ∀ r, (t.v v).reg r = match w with
    | some (d, val) => if r = d then val else (s.issueVertex v m.words).reg r
    | none => (s.issueVertex v m.words).reg r
  stream : (t.v v).core.stream = match w with
    | some (d, val) => .reg d.toNat val :: (s.issueVertex v m.words).core.stream
    | none => (s.issueVertex v m.words).core.stream

/-- A trap that is a fault of one vertex alone: the vertex is in service, and the trap is the first of the furlong (R107). -/
structure MayTrapOut (s : State) (v : Vtx) (c : TrapCause) : Prop where
  inService : s.inService v = true
  task : s.debugging v = false
  trial : s.trial v = false
  first : s.traps = []
  notBudget : c ≠ .budget

/-- LOOPN opens an entry that names the next word and the count and clears its index register; LEND goes back while passes are
left, with the index raised, and drops the entry after the last; a count of 0 traps with OPCODE, a 17th entry and a LEND outside the
block's own loops with LOOP (R136). -/
def Obligations.LoopsCountTheirPasses : Prop :=
  ∀ (s : State) (v : Vtx),
    (∀ f : FmtL, f.z = 0 → f.count ≠ 0 → MayIssue s v (metaU 2) →
      let x := s.issueVertex v 1
      x.core.loops.length ≠ 16 →
      ∃ t, exec (.loopn v f) s = .next t ∧
        LoopOnly s t v (metaU 2) (s.nextPc v (metaU 2))
          (⟨x.core.pc + 4, f.count.toNat, f.count.toNat, f.ix, f.i⟩ :: x.core.loops)
          (if f.ix then some (f.i, 0) else none)) ∧
    (∀ (f : FmtN) (e : LoopEntry) (rest : List LoopEntry), f.z = 0 → f.code = 0 → MayIssue s v (metaU 1) →
      let x := s.issueVertex v 1
      x.core.loops = e :: rest → x.core.loops.length ≠ x.core.eloops →
      (1 < e.left →
        ∃ t, exec (.lend v f) s = .next t ∧
          LoopOnly s t v (metaU 1) e.start ({ e with left := e.left - 1 } :: rest)
            (if e.ix then some (e.wi, BitVec.ofNat 32 (e.total - (e.left - 1))) else none)) ∧
      (e.left ≤ 1 →
        ∃ t, exec (.lend v f) s = .next t ∧
          LoopOnly s t v (metaU 1) (s.nextPc v (metaU 1)) rest none)) ∧
    (∀ f : FmtL, f.z = 0 → MayIssue s v (metaU 2) →
      (f.count = 0 → MayTrapOut (s.closeFull v) v .opcode → ∃ t, exec (.loopn v f) s = .next t ∧ TrapsOut s t v .opcode) ∧
      (f.count ≠ 0 → (s.issueVertex v 1).core.loops.length = 16 → MayTrapOut (s.closeFull v) v .loop →
        ∃ t, exec (.loopn v f) s = .next t ∧ TrapsOut s t v .loop)) ∧
    (∀ f : FmtN, f.z = 0 → f.code = 0 → MayIssue s v (metaU 1) →
      (s.issueVertex v 1).core.loops.length = (s.issueVertex v 1).core.eloops → MayTrapOut (s.closeFull v) v .loop →
      ∃ t, exec (.lend v f) s = .next t ∧ TrapsOut s t v .loop)

/-! ### Instructions: calls, TRAP and EVT -/

/-- CALLFB with every check of R101 passed: IB, XB and KB take the callee's frame, image base and constants, DEPTH rises by
1, the flags are cleared, ELOOPS takes the loop depth, control goes to the callee's entry, and the return record of Table 3.9
stands in four words at the record address of the task and depth. Every other byte of the instance memory, the registers and
every other memory stand. -/
def CallEntersTheBlock : Prop :=
  ∀ (s : State) (v : Vtx) (f : FmtC) (w : Nat), f.z = 0 → f.z15 = false → f.d ≠ 0 →
    let m : IMeta := { cls := .U, cyc := 14 + min w 6, words := 2 }
    let x := s.issueVertex v 2
    let c := x.core
    let d := f.d.toNat
    let frame := c.ib + BitVec.ofNat 32 (16 * f.f.toNat)
    let img := c.xb + BitVec.ofInt 32 (16 * f.x.toInt)
    let a := 0x017F0000 + c.task * 0x2000 + c.depth * 16
    MayIssue s v m → (s.v v).mem.wf →
    frame.toNat % 16 = 0 → 0x01000000 ≤ frame.toNat → frame.toNat < 0x01600000 →
    img.toNat % 16 = 0 → 0x02000000 ≤ img.toNat → img.toNat < 0x02040000 →
    c.depth < 511 → c.task < 8 →
    x.mem.load .inst frame.toNat 4 = x.mem.load .code (16 * d + 8) 4 % 0x10000 * 0x10000 + d →
    (∀ e ∈ x.mem.ecc, e ≠ 16 * d ∧ e ≠ 16 * d + 8 ∧ e ≠ frame.toNat / 8 * 8 ∧ e ≠ a ∧ e ≠ a + 8) →
    ∃ t, exec (.callfb v f w) s = .next t ∧
      Retires s t v m (BitVec.ofNat 32 (x.mem.load .code (16 * d) 4)) ∧
      (let y := t.v v
       y.core.ib = frame ∧ y.core.xb = img ∧
       y.core.kb = BitVec.ofNat 32 (0x01700000 + x.mem.load .code (16 * d + 4) 4) ∧
       y.core.depth = c.depth + 1 ∧ y.core.task = c.task ∧ y.core.loops = c.loops ∧ y.core.eloops = c.loops.length ∧
       y.core.w = c.w ∧ y.core.fl = ⟨false, false, false, false, false⟩ ∧
       y.mem.load .inst a 4 = (c.pc + 8).toNat ∧ y.mem.load .inst (a + 4) 4 = c.ib.toNat ∧
       y.mem.load .inst (a + 8) 4 = c.xb.toNat ∧
       y.mem.load .inst (a + 12) 4 =
         ((c.kb.toNat - 0x01700000) % 2 ^ 24 + 2 ^ 24 * bit c.fl.s + 2 ^ 25 * c.eloops) % 2 ^ 32 ∧
       (∀ b, b < a ∨ a + 16 ≤ b → Memory.read y.mem.inst b = Memory.read x.mem.inst b) ∧
       y.mem.code = x.mem.code ∧ y.mem.imgIn = x.mem.imgIn ∧ y.mem.out0 = x.mem.out0 ∧ y.mem.out1 = x.mem.out1 ∧
       y.lat = x.lat ∧ y.slice = x.slice ∧ y.events = x.events ∧ y.recs = x.recs)

/-- RETFB at a depth above 0: the caller's IB, XB, KB and ELOOPS come back from the return record, DEPTH falls by 1, S is set
when the record or the callee has it and the other flags are cleared, and control goes to the recorded address; at depth 0 the
task ends and TUSE.MAX takes its count. No byte of any memory changes. -/
def ReturnLeavesTheBlock : Prop :=
  ∀ (s : State) (v : Vtx) (f : FmtN) (w : Nat), f.z = 0 → f.code = 0 →
    let x := s.issueVertex v 1
    let c := x.core
    let a := 0x017F0000 + c.task * 0x2000 + (c.depth - 1) * 16
    let k := x.mem.load .inst (a + 12) 4
    c.loops.length ≤ c.eloops →
    (0 < c.depth → MayIssue s v (metaU (10 + min w 4)) → (∀ e ∈ x.mem.ecc, e ≠ a ∧ e ≠ a + 8) →
      ∃ t, exec (.retfb v f w) s = .next t ∧
        Retires s t v (metaU (10 + min w 4)) (BitVec.ofNat 32 (x.mem.load .inst a 4)) ∧
        (let y := t.v v
         y.core.ib = BitVec.ofNat 32 (x.mem.load .inst (a + 4) 4) ∧
         y.core.xb = BitVec.ofNat 32 (x.mem.load .inst (a + 8) 4) ∧
         y.core.kb = BitVec.ofNat 32 (0x01700000 + k % 2 ^ 24) ∧ y.core.depth = c.depth - 1 ∧
         y.core.eloops = k / 2 ^ 25 % 2 ^ 5 ∧ y.core.loops = c.loops ∧ y.core.w = c.w ∧ y.core.task = c.task ∧
         y.core.fl = ⟨false, false, false, false, decide (k / 2 ^ 24 % 2 = 1) || c.fl.s⟩ ∧
         y.mem.inst = x.mem.inst ∧ y.mem.code = x.mem.code ∧ y.mem.imgIn = x.mem.imgIn ∧
         y.mem.out0 = x.mem.out0 ∧ y.mem.out1 = x.mem.out1)) ∧
    (c.depth = 0 → MayIssue s v (metaU 4) → (s.closeFull v).debugging v = false →
      ∃ t, exec (.retfb v f w) s = .next t ∧
        (let y := t.v v
         y.cur = none ∧ y.core.count = ((s.closeFull v).v v).countAfter (metaU 4) ∧
         y.loc = { x.loc with
           tuseMax := modNth x.loc.tuseMax c.task (fun n => max n (((s.closeFull v).v v).countAfter (metaU 4))) } ∧
         y.core.w = c.w ∧ y.mem = x.mem ∧ y.lat = x.lat ∧
         t = (s.issueState v 1).setV v y))

/-- CallEntersTheBlock and ReturnLeavesTheBlock, together. -/
def Obligations.CallsAndReturns : Prop := CallEntersTheBlock ∧ ReturnLeavesTheBlock

/-- TRAP, a division by 0 at the size, an SBOOL operand with an invalid code, and a word that breaks R114 (here an ADDS with
a reserved size) each trap with their cause: the instruction writes no register and no byte of memory; the vertex stops, records
VERTEX_TRAP with the fields of Table 3.13 (the user code of TRAP, 0 of the others), sends no key word in the furlong and sends WD
with the cause. It counts as in service until the slices exclude it (R105, R108, R142, R226). -/
def Obligations.TrapsTakeTheVertexOut : Prop :=
  ∀ (s : State) (v : Vtx),
    (∀ f : FmtN, f.z = 0 → f.code ≠ 0 → MayIssue s v (metaU 1) → MayTrapOut (s.closeFull v) v .trap →
      ∃ t, exec (.trap v f) s = .next t ∧ TrapsOut s t v .trap f.code.toNat) ∧
    (∀ (f : FmtR) (n : Nat), HasSize f.mod n →
      let b := (s.issueVertex v 1).reg f.b
      let m : IMeta := { cls := .U, cyc := 34, rr := rbit f.a ||| rbit f.b, rw := rbit f.d, fw := fZNCV }
      MayIssue s v m → readAs false n b = 0 → MayTrapOut (s.closeFull v) v .divzero →
      (∃ t, exec (.divs v f) s = .next t ∧ TrapsOut s t v .divzero) ∧
      (∃ t, exec (.divu v f) s = .next t ∧ TrapsOut s t v .divzero) ∧
      (∃ t, exec (.rems v f) s = .next t ∧ TrapsOut s t v .divzero) ∧
      (∃ t, exec (.remu v f) s = .next t ∧ TrapsOut s t v .divzero)) ∧
    (∀ f : FmtR, f.mod = 0 →
      let x := s.issueVertex v 1
      MayIssue s v (metaA (rbit f.a ||| rbit f.b) (rbit f.d) 0 fZ 1) →
      (x.reg f.a ≠ 1 ∧ x.reg f.a ≠ 2) ∨ (x.reg f.b ≠ 1 ∧ x.reg f.b ≠ 2) → MayTrapOut (s.closeFull v) v .sbool →
      (∃ t, exec (.sand v f) s = .next t ∧ TrapsOut s t v .sbool) ∧
      (∃ t, exec (.sor v f) s = .next t ∧ TrapsOut s t v .sbool) ∧
      (∃ t, exec (.sxor v f) s = .next t ∧ TrapsOut s t v .sbool)) ∧
    (∀ f : FmtR, f.mod.extractLsb' 10 2 = 3 →
      MayIssue s v { cls := .A, cyc := 1, rr := rbit f.a ||| rbit f.b, rw := rbit f.d, fw := fZNCV } →
      MayTrapOut (s.closeFull v) v .opcode →
      ∃ t, exec (.adds v f) s = .next t ∧ TrapsOut s t v .opcode)

/-- EVT places an entry with the event number, the task, PC and its two registers in the event buffer while it holds fewer
than 32 entries, and drops and counts a further one for its task (R143, R157); registers and flags stand. -/
def Obligations.EventsEnterTheBuffer : Prop :=
  ∀ (s : State) (v : Vtx) (f : FmtI), MayIssue s v (metaU 6) →
    let x := s.issueVertex v 1
    ∃ t, exec (.evt v f) s = .next t ∧ Retires s t v (metaU 6) (s.nextPc v (metaU 6)) ∧
      (t.v v).core.w = x.core.w ∧ (t.v v).core.fl = x.core.fl ∧ (t.v v).core.stream = x.core.stream ∧
      (t.v v).mem = x.mem ∧ (t.v v).lat = x.lat ∧ (t.v v).recs = x.recs ∧
      (x.events.length < 32 →
        (t.v v).events = x.events ++ [⟨f.imm, x.core.task, x.core.pc, x.reg f.d, x.reg f.a⟩] ∧
        (t.v v).evDrop = x.evDrop ∧ (t.v v).loc = x.loc) ∧
      (32 ≤ x.events.length →
        (t.v v).events = x.events ∧ (t.v v).evDrop = modNth x.evDrop x.core.task (· + 1) ∧
        (t.v v).loc = { x.loc with edrop := min (x.loc.edrop + 1) 65535 })

/-! ### Instructions: loads and stores (Table 4.6) -/

/-- The `n` bytes at `a` as a number, least significant first (R10). -/
def numberAt (m : List Host.Cell) (a n : Nat) : Nat := ofLe ((List.range n).map (fun i => Memory.read m (a + i)))

/-- The register value of a load of `n` bytes that spell `u` (R124). -/
def extended (u n : Nat) (signed : Bool) : Word := BitVec.ofInt 32 (if signed then (u : Int).bmod (2 ^ (8 * n)) else u)

/-- LDB, LDBS, LDH, LDHS, LDW and LDD in every address form, where the access reaches a memory of the vertex (the frame, the
constants, the globals, or an area of the running task) and meets no uncorrectable error: the bytes at the effective address,
extended, stand in the register or the pair, in 2 clocks and the wait. No flag and no byte of memory changes; a correctable error
is written back, and an image access that met BUSY is counted. -/
def LoadsReadMemory : Prop :=
  ∀ (s : State) (v : Vtx) (f : LoadForm) (w : Nat) (busy : Bool) (r : Region) (a : Nat),
    let m : Nat → IMeta := fun n =>
      { cls := (loadForm f).cls, cyc := 2 + min w (regionSlack r), rr := loadBase f,
        rw := if n = 8 then rpair (loadReg f) else rbit (loadReg f) }
    let x := s.issueVertex v 1
    let x1 := (x.touch r a).meetBusy (busy && (r == .imgIn || r == .imgOut))
    x.mem.bad r a = false →
      (∀ p ∈ [(1, false, Instr.ldb v f w busy), (1, true, .ldbs v f w busy), (2, false, .ldh v f w busy),
          (2, true, .ldhs v f w busy), (4, false, .ldw v f w busy)],
        MayIssue s v (m p.1) → s.loadTarget v f p.1 x = .ok (.mem r a) →
          ∃ t, exec p.2.2 s = .next t ∧
            WritesRegOn x1 s t v (m p.1) (loadReg f) (extended (numberAt (x.mem.cells r) a p.1) p.1 p.2.1) x.core.fl
              (.reg (loadReg f).toNat (extended (numberAt (x.mem.cells r) a p.1) p.1 p.2.1))) ∧
      ((loadReg f).getLsbD 0 = false → MayIssue s v (m 8) → s.loadTarget v f 8 x = .ok (.mem r a) →
          ∃ t, exec (.ldd v f w busy) s = .next t ∧
            WritesPairOn x1 s t v (m 8) (loadReg f) (BitVec.ofNat 64 (numberAt (x.mem.cells r) a 8)) x.core.fl)

/-- The effective address of a load is a multiple of its width and, in the instance form, lies in the frames below the mirror
receive area; in the image form it lies in an area of the running task; in the constant form in the constants. Everything else
traps: ACCESS (a read of an alias window among them), IMAGE or ALIGN (R94 to R96). -/
def LoadsReachTheirRegion : Prop :=
  ∀ (s : State) (v : Vtx) (g : FmtM) (n : Nat) (x : Vertex), 0 < n →
    let ai := (x.core.ib + g.off.zeroExtend 32).toNat
    let ax := (x.core.xb + g.off.zeroExtend 32).toNat
    let ak := (x.core.kb + g.off.zeroExtend 32).toNat
    (s.loadTarget v (.inst g) n x =
      if ¬ (0x01000000 ≤ ai ∧ ai < mirrorBase s.profile) then .error .access
      else if ai % n ≠ 0 then .error .align else .ok (.mem .inst ai)) ∧
    (s.loadTarget v (.const g) n x =
      if ¬ (0x01700000 ≤ ak ∧ ak < 0x017F0000) then .error .access
      else if ak % n ≠ 0 then .error .align else .ok (.mem .inst ak)) ∧
    (0x02000000 ≤ ax → ax < 0x02040000 →
      s.loadTarget v (.image g) n x =
        if ax % n ≠ 0 then .error .align
        else if s.inOut x ax then .ok (.mem .imgOut ax)
        else if s.inIn x ax then .ok (.mem .imgIn ax) else .error .image) ∧
    (0x02100000 ≤ ax → ax < 0x02300000 → s.loadTarget v (.image g) n x = .error .access)

/-- LoadsReadMemory and LoadsReachTheirRegion, together. -/
def Obligations.LoadsReadTheirRegion : Prop := LoadsReadMemory ∧ LoadsReachTheirRegion

/-- STB, STH, STW and STD in every address form, where the access reaches a memory of the vertex and (below 8 bytes) meets no
uncorrectable error: the low bytes of the register or the pair stand at the effective address, every other byte of every memory
stands, and one store record is formed. -/
def StoresWriteTheirBytes : Prop :=
  ∀ (s : State) (v : Vtx) (f : StoreForm) (w : Nat) (r : Region) (a : Nat),
    let x := s.issueVertex v 1
    ∀ p ∈ [(1, Instr.stb v f w), (2, .sth v f w), (4, .stw v f w), (8, .std v f w)],
      let n := p.1
      let m : IMeta :=
        { cls := (storeForm f).cls, cyc := (if n = 8 then 1 else 2) + min w (regionSlack r),
          rr := storeBase f ||| (if n = 8 then rpair (storeReg f) else rbit (storeReg f)) }
      let val := (if n = 8 then (x.pair (storeReg f)).toNat else (x.reg (storeReg f)).toNat) % 2 ^ (8 * n)
      (n = 8 → (storeReg f).getLsbD 0 = false) → (n ≠ 8 → x.mem.bad r a = false) →
      (s.v v).mem.wf → MayIssue s v m → s.storeTarget v f n x = .ok (.mem r a) →
        ∃ t, exec p.2 s = .next t ∧ Stores s t v m (.store n a (BitVec.ofNat 64 val)) ∧
          StoredBytes x (t.v v) r a n val

/-- STW through an alias window: the bits of the word at the target that the stored mask has are set or cleared, the record
holds the alias address and the mask, and every other byte stands (R369, R370). -/
def AliasStoresChangeBits : Prop :=
  ∀ (s : State) (v : Vtx) (g : FmtG) (w : Nat) (r : Region) (a : Nat),
    let x := s.issueVertex v 1
    let m : IMeta :=
      { cls := .U, cyc := 3 + min w (regionSlack r), rr := rbit g.b ||| rbit g.t }
    let at_ := (x.reg g.b + g.disp.signExtend 32).toNat
    let mask := x.reg g.t
    let old := BitVec.ofNat 32 (numberAt (x.mem.cells r) a 4)
    (s.v v).mem.wf → x.mem.bad r a = false → MayIssue s v m →
      (s.storeTarget v (.glob g) 4 x = .ok (.setBits r a) →
        ∃ t, exec (.stw v (.glob g) w) s = .next t ∧ Stores s t v m (.bitSet at_ mask) ∧
          StoredBytes x (t.v v) r a 4 (old ||| mask).toNat) ∧
      (s.storeTarget v (.glob g) 4 x = .ok (.clearBits r a) →
        ∃ t, exec (.stw v (.glob g) w) s = .next t ∧ Stores s t v m (.bitClear at_ mask) ∧
          StoredBytes x (t.v v) r a 4 (old &&& ~~~mask).toNat)

/-- StoresWriteTheirBytes and AliasStoresChangeBits, together. -/
def Obligations.StoresWriteTheirTarget : Prop := StoresWriteTheirBytes ∧ AliasStoresChangeBits

/-! ### Instructions: slots and age -/

/-- RXSLOT on a used receive binding of the running task: the payload word, C the STALE mark of its status word, and S set
with it. TXSLOT on a used transmit binding: the register in the payload word of the working bank. Without a used entry of the
running task that holds the word, or on an entry of the other kind, each traps with SLOT (R139). -/
def SlotsReadAndWrite : Prop :=
  ∀ (s : State) (v : Vtx) (f : FmtS) (w : Nat),
    let x := s.issueVertex v 1
    let free := ∀ b, s.binding f.bind.toNat = some b → b.len = 0 ∨ b.task ≠ x.core.task ∨ b.len ≤ f.wix.toNat
    (MayTrapOut (s.closeFull v) v .slot →
      (∀ busy, free ∨ (∃ b, s.binding f.bind.toNat = some b ∧ b.tx = true) → MayIssue s v (metaU (4 + min w 12)) →
        ∃ t, exec (.rxslot v f w busy) s = .next t ∧ TrapsOut s t v .slot) ∧
      (free ∨ (∃ b, s.binding f.bind.toNat = some b ∧ b.tx = false) → MayIssue s v (metaU (2 + min w 6)) →
        ∃ t, exec (.txslot v f w) s = .next t ∧ TrapsOut s t v .slot)) ∧
    ∀ b : Binding,
    let a := 0x02000000 + 4 * (b.pay + f.wix.toNat)
    let st := 0x02000000 + 4 * b.stat
    s.binding f.bind.toNat = some b → b.len ≠ 0 → b.task = x.core.task → f.wix.toNat < b.len →
      (∀ busy, b.tx = false → MayIssue s v (metaU (4 + min w 12)) →
        x.mem.bad .imgIn a = false → x.mem.bad .imgIn st = false →
        let stale := decide (numberAt x.mem.imgIn st 4 / 2 ^ 24 % 2 = 1)
        ∃ t, exec (.rxslot v f w busy) s = .next t ∧
          WritesRegOn (((x.touch .imgIn a).touch .imgIn st).meetBusy busy) s t v (metaU (4 + min w 12)) f.d
            (BitVec.ofNat 32 (numberAt x.mem.imgIn a 4)) { x.core.fl with c := stale, s := x.core.fl.s || stale }
            (.reg f.d.toNat (BitVec.ofNat 32 (numberAt x.mem.imgIn a 4)))) ∧
      (b.tx = true → (s.v v).mem.wf → MayIssue s v (metaU (2 + min w 6)) → x.mem.bad .imgOut a = false →
        ∃ t, exec (.txslot v f w) s = .next t ∧
          Stores s t v (metaU (2 + min w 6)) (.store 4 a (BitVec.ofNat 64 (x.reg f.d).toNat)) ∧
          StoredBytes x (t.v v) .imgOut a 4 (x.reg f.d).toNat)

/-- AGE writes the low half of Wa and sets C, and S with it, when the age in Wa[23:16] exceeds its limit, an immediate or a
register; Z, N and V stand (R140). -/
def AgeTestsTheLimit : Prop :=
  ∀ (s : State) (v : Vtx) (f : FmtI),
    let x := s.issueVertex v 1
    let reg := f.imm.extractLsb' 8 4
    let m := metaA (if f.imm.getLsbD 15 then rbit f.a ||| rbit reg else rbit f.a) (rbit f.d) 0 (fC ||| fS) 1
    let lim := if f.imm.getLsbD 15 then (x.reg reg).toNat else f.imm.toNat % 256
    let old := decide (lim < (x.reg f.a).toNat / 2 ^ 16 % 256)
    (if f.imm.getLsbD 15 then f.imm.extractLsb' 12 3 = 0 ∧ f.imm.extractLsb' 0 8 = 0 else f.imm.extractLsb' 8 7 = 0) →
    MayIssue s v m →
      ∃ t, exec (.age v f) s = .next t ∧
        WritesReg s t v m f.d (BitVec.ofNat 32 ((x.reg f.a).toNat % 2 ^ 16))
          { x.core.fl with c := old, s := x.core.fl.s || old }

/-- SlotsReadAndWrite and AgeTestsTheLimit, together. -/
def Obligations.SlotsAndAge : Prop := SlotsReadAndWrite ∧ AgeTestsTheLimit

/-! ### Instructions: timers and edges -/

/-- The 16 bytes of a timer slot (Table 5.1) hold the slot `q`, with its check byte. -/
structure HoldsTimer (m : List Host.Cell) (a : Nat) (q : TimerSlot) : Prop where
  start : numberAt m a 4 = q.start
  et : numberAt m (a + 4) 4 = q.et
  pt : numberAt m (a + 8) 4 = q.pt
  state : numberAt m (a + 12) 1 = q.state
  kind : numberAt m (a + 13) 1 = q.kind
  inprev : numberAt m (a + 14) 1 = q.inprev
  chk : BitVec.ofNat 8 (numberAt m (a + 15) 1) =
    BitVec.ofNat 8 q.state ^^^ BitVec.ofNat 8 q.kind ^^^ BitVec.ofNat 8 q.inprev ^^^ 0xFF#8

/-- A timer instruction in furlong `F` (of `lus` µs) with preset `pt` ms carries the slot from `p` to `q` and writes Q:
`st`, `et` and `q` are the new STATE, ET and Q, START is `F` where the timing starts now, and PT and INPREV are written. -/
def TimerResult (s : State) (o : Host.Outcome State Fault Refusal) (v : Vtx) (w : Nat) (f : FmtI) (a : Nat) (p : TimerSlot)
    (starts : Bool) (st et : Nat) (q : Bool) : Prop :=
  let x := s.issueVertex v 1
  let m := metaU (8 + min w 6)
  ∃ t, o = .next t ∧ Retires s t v m (s.nextPc v m) ∧
    HoldsTimer (t.v v).mem.inst a
      { start := if starts then s.furlongOf v % 2 ^ 32 else p.start, et := et, pt := (x.reg f.a).toInt.toNat, state := st,
        kind := p.kind, inprev := if (x.reg f.d).getLsbD 0 then 1 else 0, chk := 0 } ∧
    (t.v v).reg f.d = (if q then 1 else 0) ∧ (∀ r, r ≠ f.d → (t.v v).reg r = x.reg r) ∧
    (t.v v).core.fl = { x.core.fl with z := !q } ∧
    (∀ b, b < a ∨ a + 16 ≤ b → Memory.read (t.v v).mem.inst b = Memory.read x.mem.inst b) ∧
    (t.v v).mem.code = x.mem.code ∧ (t.v v).mem.imgIn = x.mem.imgIn ∧ (t.v v).mem.out0 = x.mem.out0 ∧
    (t.v v).mem.out1 = x.mem.out1 ∧ (t.v v).lat = x.lat

/-- TON, TOF and TP on a valid slot: the states, times and Q of R145, R149 and R153 in every state of the slot and for both
values of IN; nothing outside the slot's 16 bytes, Wd and Z changes. -/
def Obligations.TimersFollowTheirTables : Prop :=
  ∀ (s : State) (v : Vtx) (f : FmtI) (w : Nat) (p : TimerSlot),
    let x := s.issueVertex v 1
    let a := (x.core.ib + BitVec.ofNat 32 (16 * f.imm.toNat)).toNat
    let inp := (x.reg f.d).getLsbD 0
    let pt := (x.reg f.a).toInt.toNat
    let lus := furlongUs s.profile
    let fnum := s.furlongOf v
    let gone := (fnum + 2 ^ 32 - p.start % 2 ^ 32) % 2 ^ 32
    let ended := 1000 * pt ≤ gone * lus
    let shown := min (gone * lus / 1000) pt
    MayIssue s v (metaU (8 + min w 6)) → (s.v v).mem.wf → 0x01000000 ≤ a → a < mirrorBase s.profile → a % 16 = 0 →
    x.mem.bad .inst a = false → x.mem.bad .inst (a + 8) = false → HoldsTimer x.mem.inst a p → p.inprev < 2 →
      (p.kind = 1 →
        let R := TimerResult s (exec (.ton v f w) s) v w f a p
        (inp = false → p.state = 0x3C → R false 0x3C p.et false) ∧
        (inp = false → p.state = 0x5A ∨ p.state = 0xA5 → R false 0x3C 0 false) ∧
        (inp = true → p.state = 0x3C → 0 < pt → R true 0x5A 0 false) ∧
        (inp = true → p.state = 0x3C → pt = 0 → R true 0xA5 0 true) ∧
        (inp = true → p.state = 0x5A → ¬ ended → R false 0x5A shown false) ∧
        (inp = true → p.state = 0x5A → ended → R false 0xA5 pt true) ∧
        (inp = true → p.state = 0xA5 → R false 0xA5 p.et true)) ∧
      (p.kind = 2 →
        let R := TimerResult s (exec (.tof v f w) s) v w f a p
        (inp = true → p.state = 0xC3 → R false 0xC3 p.et true) ∧
        (inp = true → p.state = 0x3C ∨ p.state = 0x5A → R false 0xC3 0 true) ∧
        (inp = false → p.state = 0x3C → R false 0x3C p.et false) ∧
        (inp = false → p.state = 0xC3 → 0 < pt → R true 0x5A 0 true) ∧
        (inp = false → p.state = 0xC3 → pt = 0 → R true 0x3C 0 false) ∧
        (inp = false → p.state = 0x5A → ¬ ended → R false 0x5A shown true) ∧
        (inp = false → p.state = 0x5A → ended → R false 0x3C pt false)) ∧
      (p.kind = 3 →
        let R := TimerResult s (exec (.tp v f w) s) v w f a p
        (p.state = 0x3C → inp = true → p.inprev = 0 → 0 < pt → R true 0x5A 0 true) ∧
        (p.state = 0x3C → inp = true → p.inprev = 0 → pt = 0 → R true 0xA5 0 false) ∧
        (p.state = 0x3C → inp = false ∨ p.inprev = 1 → R false 0x3C p.et false) ∧
        (p.state = 0x5A → ¬ ended → R false 0x5A shown true) ∧
        (p.state = 0x5A → ended → inp = true → R false 0xA5 pt false) ∧
        (p.state = 0x5A → ended → inp = false → R false 0x3C 0 false) ∧
        (p.state = 0xA5 → inp = true → R false 0xA5 p.et false) ∧
        (p.state = 0xA5 → inp = false → R false 0x3C 0 false))

/-- RTRIG and FTRIG on a byte that holds the SBOOL code of the previous input: Q on the edge alone, and the byte takes the
code of the input (R156). -/
def Obligations.EdgesAreSeenOnce : Prop :=
  ∀ (s : State) (v : Vtx) (f : FmtM) (w : Nat) (prev : Bool),
    let x := s.issueVertex v 1
    let a := (x.core.ib + f.off.zeroExtend 32).toNat
    let inp := (x.reg f.t).getLsbD 0
    MayIssue s v (metaU (3 + min w 2)) → 0x01000000 ≤ a → a < mirrorBase s.profile → x.mem.bad .inst a = false →
    Memory.read x.mem.inst a = (if prev then 2 else 1) →
    ∀ p ∈ [(Instr.rtrig v f w, inp && !prev), (.ftrig v f w, !inp && prev)],
      ∃ t, exec p.1 s = .next t ∧ Retires s t v (metaU (3 + min w 2)) (s.nextPc v (metaU (3 + min w 2))) ∧
        StoredBytes x (t.v v) .inst a 1 (if inp then 2 else 1) ∧
        (t.v v).reg f.t = (if p.2 then 1 else 0) ∧ (∀ r, r ≠ f.t → (t.v v).reg r = x.reg r) ∧
        (t.v v).core.fl = { x.core.fl with z := !p.2 } ∧ (t.v v).lat = x.lat

/-! ### Instructions: the lattice (Tables 6.10 to 6.14) -/

/-- A lattice instruction has completed after the pass of its furlong: Wd takes `word`, Z is as given, S is kept or set, the
lattice is `l`, and no byte of memory, no other register and no other flag changes (R193); a correctable error is written back. -/
def LatticeResult (s : State) (o : Host.Outcome State Fault Refusal) (v : Vtx) (m : IMeta) (d : BitVec 4) (word : Word)
    (z sets : Bool) (l : Lattice) : Prop :=
  let x := s.issueVertex v 1
  ∃ t, o = .next t ∧ Retires s t v m (s.nextPc v m) ∧ (t.v v).reg d = word ∧ (∀ r, r ≠ d → (t.v v).reg r = x.reg r) ∧
    (t.v v).core.fl = { x.core.fl with z := z, s := x.core.fl.s || sets } ∧ (t.v v).lat = { l with held := [] } ∧
    (t.v v).mem = { x.mem with ecc1 := (t.v v).mem.ecc1 } ∧ (t.v v).events = x.events ∧ (t.v v).recs = x.recs ∧ (t.v v).slice = x.slice ∧
    x.core.plain (t.v v).core

/-- None of the memory words that an instruction reads has an uncorrectable error (R22). -/
def Readable (x : Vertex) (words : List Nat) : Prop := ∀ k ∈ words, k ∉ x.mem.ecc

/-- An element whose approach-lock time runs until furlong `fin` (R194). -/
def alRunning (e : Elem) (fin : Word) : Elem := { e with alend := fin, alst := true }

/-- LREQ in its four operations and LSTAT in its two, once the pass of the furlong is done and where no word that they read has an uncorrectable error: QUERY gives the route word, COMMAND
sets the commanded state of a free point or crossing and answers 9 for a locked one in another state and 10 for another kind,
AL_START sets the end of the approach-lock time of a signal that has none running, AL_STOP stops it, LSTAT gives the status or
the lock word. -/
def Obligations.LatticeAnswersRequests : Prop :=
  ∀ (s : State) (v : Vtx) (f : FmtR), f.mod = 0 → (s.v v).lat.passDone = true →
    let x := s.issueVertex v 1
    let l := x.lat
    let wa := (x.reg f.a).toNat
    let wb := (x.reg f.b).toNat
    Readable x (l.lreqWords (x.reg f.a) (x.reg f.b)) → Readable x (l.lstatWords (x.reg f.a)) →
    (∀ r, l.routes[wa]? = some r → wb = 0 → MayIssue s v (metaU 8) →
      LatticeResult s (exec (.query v f) s) v (metaU 8) f.d r.result (decide (r.result.toNat % 16 = 0)) false l) ∧
    (∀ e, l.elems[wa]? = some e →
      let code := fun c => LatticeResult s (exec (.command v f) s) v (metaU 12) f.d (BitVec.ofNat 32 c) (decide (c = 0)) false l
      (∀ st, (st = 1 ∨ st = 2) → wb = 1 + 256 * st → MayIssue s v (metaU 12) →
        (e.decl.kind = .point ∨ e.decl.kind = .crossing → e.owner = none → e.share = 0 →
          LatticeResult s (exec (.command v f) s) v (metaU 12) f.d 0 true false
            { l with elems := l.elems.set wa { e with cstate := st } }) ∧
        (e.decl.kind = .point ∨ e.decl.kind = .crossing → e.owner ≠ none ∨ e.share ≠ 0 →
          (e.cstate = st → code 0) ∧ (e.cstate ≠ st → code 9)) ∧
        (e.decl.kind ≠ .point → e.decl.kind ≠ .crossing → code 10)) ∧
      (∀ ms, ms < 2 ^ 24 → wb = 2 + 256 * ms → MayIssue s v (metaU 12) →
        (e.decl.kind = .signal → e.alst = false →
          LatticeResult s (exec (.alStart v f) s) v (metaU 12) f.d 0 true false
            { l with elems := l.elems.set wa (alRunning e (BitVec.ofNat 32 (s.furlongOf v +
                (1000 * ms + furlongUs s.profile - 1) / furlongUs s.profile))) }) ∧
        (e.decl.kind = .signal → e.alst = true →
          LatticeResult s (exec (.alStart v f) s) v (metaU 12) f.d 0 true false l) ∧
        (e.decl.kind ≠ .signal → LatticeResult s (exec (.alStart v f) s) v (metaU 12) f.d 10 false false l)) ∧
      (wb = 3 → MayIssue s v (metaU 12) →
        (e.decl.kind = .signal →
          LatticeResult s (exec (.alStop v f) s) v (metaU 12) f.d 0 true false
            { l with elems := l.elems.set wa { e with alst := false } }) ∧
        (e.decl.kind ≠ .signal → LatticeResult s (exec (.alStop v f) s) v (metaU 12) f.d 10 false false l)) ∧
      (MayIssue s v (metaU 8) →
        let sets := decide (e.dstate = 0) || e.aged
        (wb = 0 →
          LatticeResult s (exec (.lstat v f) s) v (metaU 8) f.d
            (BitVec.ofNat 32 (e.dstate + 2 ^ 8 * e.cstate + 2 ^ 16 * e.dage + 2 ^ 24 * bit e.aged + 2 ^ 25 * bit e.invalid +
              2 ^ 26 * bit e.stale + 2 ^ 27 * bit e.alst + 2 ^ 28 * bit (e.expired (s.furlongOf v)) +
              2 ^ 29 * kindCode e.decl.kind))
            (decide (e.dstate ≠ 0) && !e.aged) sets l) ∧
        (wb = 1 →
          LatticeResult s (exec (.lstat v f) s) v (metaU 8) f.d
            (BitVec.ofNat 32 ((match e.owner with | some r => r % 2 ^ 14 | none => 2 ^ 15) + 2 ^ 16 * e.share))
            (decide (e.dstate ≠ 0) && !e.aged) sets l)))

/-- LRESV: a FREE route with no failure becomes RESERVED with all its locks, its entry signal stops its approach-lock time, and
the answer is 0; a FREE route that fails answers BLOCKED or, when the pass called it settable, CHANGED with the first failure and takes no
lock; a route that is not FREE answers ALREADY (R195, Table 6.9). The locks are those of Table 6.8: the owner of the element of a
PATH or CONSENT term, one more SHARE for each FLANK or OVERLAP term, and CSTATE := REQ; the SHELD bits are set, RESULT is CODE
RESERVED with every other field 0, and the bitmap bit is cleared. That the word of ALREADY has every field but CODE 0 is the model's choice (log
entry 59). -/
def ReservationTakesEveryLock : Prop :=
  ∀ (s : State) (v : Vtx) (f : FmtR) (rt : Route), f.mod = 0 → f.b = 0 → (s.v v).lat.passDone = true →
    let x := s.issueVertex v 1
    let l := x.lat
    let r := (x.reg f.a).toNat
    let m := metaU (4 + l.lresvWait (x.reg f.a))
    l.routes[r]? = some rt → Readable x (l.lresvWords (x.reg f.a)) → MayIssue s v m →
      (rt.rstate = .free → l.failure rt.decl = none →
        ∃ n, LatticeResult s (exec (.lresv v f) s) v m f.d 0 true false n ∧
          n.fResv = min (l.fResv + 1) 255 ∧ n.resvOk = min (l.resvOk + 1) 65535 ∧
          (∃ q, n.routes[r]? = some q ∧ q.decl = rt.decl ∧ q.rstate = .reserved ∧ q.engaged = false ∧ q.settable = false ∧
            q.result = 2 ∧
            ∀ i, i < min 16 (rt.decl.terms.countP (fun t => t.kind == .flank || t.kind == .overlap)) → q.sheld.getLsbD i = true) ∧
          (∀ (k : Nat) (e : Elem), l.elems[k]? = some e → ∃ q, n.elems[k]? = some q ∧
            q = { e with
                  owner := q.owner, cstate := q.cstate,
                  share := e.share + rt.decl.terms.countP (fun t => t.elem == k && (t.kind == .flank || t.kind == .overlap)),
                  alst := if k = rt.decl.entry then false else e.alst } ∧
            (∀ t ∈ rt.decl.terms, t.elem = k → t.kind.locking = true →
              (∀ u ∈ rt.decl.terms, u.elem = k → u.kind.locking = true → u = t) → q.cstate = t.req)) ∧
          (∀ k, k ≠ r → n.routes[k]? = l.routes[k]?) ∧
          (∀ t ∈ rt.decl.terms, (t.kind = .path ∨ t.kind = .consent) →
            ∀ e, n.elems[t.elem]? = some e → e.owner = some r) ∧
          (∀ k, (∀ t ∈ rt.decl.terms, t.elem ≠ k) → k ≠ rt.decl.entry → n.elems[k]? = l.elems[k]?)) ∧
      (∀ reason pos idx, rt.rstate = .free → l.failure rt.decl = some (reason, pos, idx) →
        LatticeResult s (exec (.lresv v f) s) v m f.d
          (BitVec.ofNat 32 ((if rt.settable then 4 else 1) + 2 ^ 6 * reason + 2 ^ 10 * pos + 2 ^ 18 * idx)) false false
          { l with
            fResv := min (l.fResv + 1) 255,
            resvSame := if rt.settable then min (l.resvSame + 1) 65535 else l.resvSame }) ∧
      (rt.rstate ≠ .free →
        LatticeResult s (exec (.lresv v f) s) v m f.d 5 false false { l with fResv := min (l.fResv + 1) 255 })

/-- LREL, whole or of one element: a route that holds nothing of what is asked answers 6; the release of the entry signal waits
for the signal at stop (8) and, once the route is engaged, for a clear approach or the expired approach-lock time (7); a release
that passes gives up exactly the locks asked for and leaves CSTATE, and the route becomes FREE, its RESULT 16#0000_01C1, or PARTIAL,
with CODE PARTIAL and PROVED 0 in its RESULT; the release of the entry signal's lock stops its approach-lock time (R197, R198). -/
def ReleaseGivesUpItsLocks : Prop :=
  ∀ (s : State) (v : Vtx) (f : FmtR) (rt : Route), f.mod = 0 → (s.v v).lat.passDone = true →
    let x := s.issueVertex v 1
    let l := x.lat
    let r := (x.reg f.a).toNat
    let wb := (x.reg f.b).toNat
    let m := metaU (4 + l.lrelWait (x.reg f.a) (x.reg f.b))
    l.routes[r]? = some rt → Readable x (l.lrelWords (x.reg f.a)) → MayIssue s v m → wb = 2 ^ 32 - 1 ∨ wb < l.elems.length →
      let held := l.heldTerms r rt
      let go := if wb = 2 ^ 32 - 1 then held else held.filter (fun p => p.1.elem == wb)
      let l1 : Lattice := { l with fRel := min (l.fRel + 1) 255 }
      let first := go.any (fun p => p.2 == 0)
      let stop := match l.elems[rt.decl.entry]? with | some e => e.valid && e.dstate == 1 | none => false
      let due := match l.elems[rt.decl.entry]? with | some e => e.expired (s.furlongOf v) | none => false
      ∀ i ∈ (if wb = 2 ^ 32 - 1 then [Instr.lrelRoute v f] else [.lrelElement v f]),
        (rt.rstate = .free ∨ go = [] → LatticeResult s (exec i s) v m f.d 6 false false l1) ∧
        (rt.rstate ≠ .free → go ≠ [] → first = true → stop = false →
          LatticeResult s (exec i s) v m f.d 8 false false l1) ∧
        (rt.rstate ≠ .free → go ≠ [] → first = true → stop = true → rt.engaged = true →
          l.approachClear rt.decl = false → due = false →
          LatticeResult s (exec i s) v m f.d 7 false false { l1 with relAppr := min (l.relAppr + 1) 65535 }) ∧
        (rt.rstate ≠ .free → go ≠ [] →
          (first = false ∨ (stop = true ∧ (rt.engaged = false ∨ l.approachClear rt.decl = true ∨ due = true))) →
          ∃ n, LatticeResult s (exec i s) v m f.d 0 true false n ∧
            n.relOk = min (l.relOk + 1) 65535 ∧ n.fRel = min (l.fRel + 1) 255 ∧
            (∃ q, n.routes[r]? = some q ∧ q.decl = rt.decl ∧
              (go.length = held.length → q.rstate = .free ∧ q.engaged = false ∧ q.result = 0x1C1) ∧
              (go.length ≠ held.length → q.rstate = .partly ∧ q.engaged = rt.engaged ∧ q.result.toNat % 32 = 3 ∧
                q.result.toNat / 32 = rt.result.toNat / 32)) ∧
            (∀ (k : Nat) (e : Elem), l.elems[k]? = some e → ∃ q, n.elems[k]? = some q ∧
              q = { e with
                    owner := q.owner,
                    share := e.share - go.countP (fun p => p.1.elem == k && (p.1.kind == .flank || p.1.kind == .overlap)),
                    alst := if first = true ∧ k = rt.decl.entry then false else e.alst }) ∧
            (∀ k, k ≠ r → n.routes[k]? = l.routes[k]?) ∧
            (∀ p ∈ go, (p.1.kind = .path ∨ p.1.kind = .consent) →
              ∀ e, n.elems[p.1.elem]? = some e → e.owner = none) ∧
            (∀ k, (∀ p ∈ go, p.1.elem ≠ k) → k ≠ rt.decl.entry → n.elems[k]? = l.elems[k]?))

/-- ReservationTakesEveryLock and ReleaseGivesUpItsLocks, together. -/
def Obligations.ReservationAndRelease : Prop := ReservationTakesEveryLock ∧ ReleaseGivesUpItsLocks

/-! ### Power-on and boundaries -/

/-- POWER_ON in reset, not held by the power-down reset and not in the cold (R464), runs steps 1 to 5 of Table 2.7 (R70): a failed
self-test ends in HALT with BIST_FAIL, a failed verification in HALT with LOADSET_FAIL, SW3 or missing operator roots in COMMISSION
(R418), a vertex that alone finds another result on the bytes it receives in HALT with START_DISAGREE (R420), no owned position
in ISOLATED with POSITION_MISMATCH (R47), and otherwise step 6 waits for time with the set of the ACTIVE bank loaded. Power that
fails again in step 3 (R433) leaves the module in reset. That a failed verification ends in HALT also while SW3 is on, and what
the command brings as read or as failed, is the model's (log entry 18). -/
def Obligations.PowerOnReachesItsMode : Prop :=
  ∀ (dt : Nat) (p : PowerOnIn) (s : State), s.inReset = true → s.supply.held = false →
    (p.cold = false ∨ s.upd.otp.variant ≠ 0) →
    let t2 := (((s.elapse dt).stepOne p).atStep 2).marchAll p.march
    let t3 := (t2.atStep 3).stepThree p.copyFail
    let t4 := (t3.1.atStep 4).stepFour p.sched
    let t5 := ((t4.1.atStep 5).setSeals p.seals).readPosition p.j6
    let good := p.analogOk = true ∧ t2.marchHolds p.march p.again = true
    let whole := (t2.atStep 3).cutAt p = none
    let odd := (Vtx.list.filter (fun v => p.found.get v != 0)).length
    (¬ good → ∃ t, exec (.powerOn dt p) s = .next t ∧ t.mode = .halt ∧ t.blk.cyc.cause = .bistFail ∧ t.inReset = false) ∧
    (∀ w, good → (t2.atStep 3).cutAt p = some w →
      exec (.powerOn dt p) s = .next w.powerDown ∧ w.powerDown.inReset = true ∧ w.powerDown.supply.held = true) ∧
    (good → whole → t3.2 = false →
      ∃ t, exec (.powerOn dt p) s = .next t ∧ t.mode = .halt ∧ t.blk.cyc.cause = .loadsetFail) ∧
    (good → whole → t3.2 = true → t3.1.commissions p.sw3 = true →
      ∃ t, exec (.powerOn dt p) s = .next t ∧ t.mode = .commission ∧ t.blk.cyc.cause = .sequence) ∧
    (good → whole → t3.2 = true → t3.1.commissions p.sw3 = false → t4.2 = false ∨ 2 ≤ odd →
      ∃ t, exec (.powerOn dt p) s = .next t ∧ t.mode = .halt ∧ t.blk.cyc.cause = .loadsetFail) ∧
    (good → whole → t3.2 = true → t3.1.commissions p.sw3 = false → t4.2 = true → odd = 1 →
      ∃ t, exec (.powerOn dt p) s = .next t ∧ t.mode = .halt ∧ t.blk.cyc.cause = .startDisagree) ∧
    (good → whole → t3.2 = true → t3.1.commissions p.sw3 = false → t4.2 = true → odd = 0 →
      (t5.ownedPosition = none →
        ∃ t, exec (.powerOn dt p) s = .next t ∧ t.mode = .isolated ∧ t.blk.cyc.cause = .positionMismatch) ∧
      (∀ q, t5.ownedPosition = some q →
        ∃ t, exec (.powerOn dt p) s = .next t ∧ t.start.step = 6 ∧ t.start.position = true ∧ t.blk.ttb.pos = some q ∧
          t.blk.cyc.senior = q.senior ∧ t.loaded = t4.1.loaded))

/-- A furlong has been opened as number `n`: boundaries are raised, its phase 2 is still to come, and every vertex in service
shows the number. A module that the boundary has restarted waits in reset instead. -/
def Opens (t : State) (n : Nat) : Prop :=
  t.fnum = n ∧ (t.inReset = false →
    t.boundaries = true ∧ t.p2 = false ∧ t.p2End = false ∧ ∀ v, t.inService v = true → (t.view.get v).cyc.fnum = n)

/-- FURLONG_BOUNDARY at the first NT clock edge that reaches a whole multiple of the furlong length (R50) opens the next furlong:
one more than the last, and at the first boundary after time acquisition the number of R49, T div L. The vertices in service show
the number from there on (R215). -/
def Obligations.BoundaryRaisesTheFurlong : Prop :=
  ∀ (dt : Nat) (b : BoundaryIn) (s : State),
    let u := s.elapse dt
    s.start.acquired = true → s.inReset = false → u.onGrid (furlongNs s.profile) 0 = true →
    (s.boundaries = true → s.fnum + 1 ≤ u.time / furlongNs s.profile →
      ∃ t, exec (.furlongBoundary dt b) s = .next t ∧ Opens t (s.fnum + 1)) ∧
    (s.boundaries = false →
      ∃ t, exec (.furlongBoundary dt b) s = .next t ∧ Opens t (u.time / furlongNs s.profile % 2 ^ 48))

/-- A command of the boundary group whose condition does not hold lets its time pass and does nothing else. This is the model's
choice (log entry 1). -/
def Obligations.BoundaryCommandsWaitForTheirInstant : Prop :=
  ∀ (dt : Nat) (s : State),
    (∀ b, (s.elapse dt).onGrid (furlongNs s.profile) 0 = false ∨ s.start.acquired = false ∨ s.inReset = true →
      exec (.furlongBoundary dt b) s = .next (s.elapse dt)) ∧
    ((s.elapse dt).onGrid (rodNs s.profile) 0 = false ∨ s.boundaries = false ∨ s.inReset = true →
      exec (.rodBoundary dt) s = .next (s.elapse dt)) ∧
    (s.mode ≠ .isolated → exec (.isolatedCleanCount dt) s = .next (s.elapse dt)) ∧
    (s.mode ≠ .resync → exec (.resyncWaitExpiry dt) s = .next (s.elapse dt)) ∧
    (∀ p, s.inReset = false → exec (.powerOn dt p) s = .next (s.elapse dt))

/-- ROD_BOUNDARY at the first NT clock edge that reaches the boundary of a rod from 1 to 39 (R49, R50), once for each, counts the
rods of bus integration (R272), and in INTEGRATED changes nothing else where no frame waits for the rod, no takeover is decided and
no split brain is seen; a takeover decided at least 20 µs before makes the standby ACTIVE (R358), and a junior that detected split
brain at least 20 µs before stops sending (R361). ISOLATED_CLEAN_COUNT at the 16th clean furlong (R68), RESYNC_WAIT_EXPIRY when the
rule of R73 applies, and TIME_WAIT after each 60 s of step 6 (R70) take effect as their rules say, and change nothing else. When
the furlongs of ISOLATED count as clean is the model's (log entry 65). -/
def Obligations.BoundaryCommandsTakeEffect : Prop :=
  ∀ (dt : Nat) (s : State),
    let u := s.elapse dt
    (s.boundaries = true → s.inReset = false → u.onGrid (rodNs s.profile) 0 = true → u.rod ≠ 0 →
      s.nic.rodAt ≠ some u.nt →
      ∃ t, exec (.rodBoundary dt) s = .next t ∧ t.fnum = s.fnum ∧ t.nic.rodAt = some u.nt ∧
        (s.blk.ttb.state = .integrated → s.nic.csPend = none →
          t.blk.ttb.count = min 255 (s.blk.ttb.count + 1) ∧ t.nic.csRod = min 255 (s.nic.csRod + 1) ∧
          t.blk.ttb.state = .integrated ∧
          (s.nic.txLater = [] → s.pair.decided = none → s.pair.yieldAt = none →
            t = { u with
                  blk := { u.blk with ttb := { u.blk.ttb with count := min 255 (s.blk.ttb.count + 1) } },
                  nic := { u.nic with
                           rodAt := some u.nt, csRod := min 255 (s.nic.csRod + 1), srcCount := t.nic.srcCount } })) ∧
        (∀ a c, s.mode = .standby → s.pair.decided = some (a, c) → s.pair.noTakeover = false → 2500 ≤ u.nt - a →
          t.mode = .active ∧ t.blk.cyc.cause = .takeover ∧ t.pair.decided = none ∧ t.blk.chd.tkoCause = c) ∧
        (∀ a, s.mode = .active → s.pair.yieldAt = some a → 2500 ≤ u.nt - a → t.pair.yielded = true ∧ t.mode = .active)) ∧
    (s.mode = .isolated → s.r478 = false → s.strength = 3 → s.keyNt.pair ≠ none → s.keySi.pair ≠ none → 15 ≤ s.clean →
      exec (.isolatedCleanCount dt) s = .next { u with cleanDue := true }) ∧
    (s.mode = .resync → s.resyncF * furlongNs s.profile + 2000000000 ≤ u.time → s.blk.chd.conflict = false →
      s.blk.chd.buildmm = false → (u.within s.pair.heardAt twoSeconds = false ∨ s.blk.chd.pmode ≠ 4) →
      exec (.resyncWaitExpiry dt) s = .next { u with startDue := some s.blk.cyc.solo }) ∧
    (s.start.step = 6 → s.inReset = false → 7500000000 * (s.start.waits + 1) ≤ u.nt - s.start.waitFrom →
      ∃ t, exec (.timeWait dt) s = .next t ∧
        t = { u with vtx := t.vtx, start := { s.start with waits := s.start.waits + 1 } } ∧
        ∀ v, t.v v = { s.v v with recs := (t.v v).recs, recDrop := (t.v v).recDrop, loc := (t.v v).loc } ∧
          (s.inService v = true → (s.v v).recs.length < 64 →
            (t.v v).recs = (s.v v).recs ++ [⟨.timeWait, 0x10, shortBody 0 0 0⟩] ∧ (t.v v).loc = (s.v v).loc))

/-- Without boundaries MAILBOX_POLL copies the mailbox and reads the seal switches, 10 ms of a vertex clock after the last time
(R80). A reading of the seal switches: a new majority held at 4 consecutive readings becomes the voted state; a reading that has
differed at 100 consecutive readings sets SEALDIS and writes SEAL_DISAGREE once, with the readings. The rows that bring them say
the same (R434). -/
def Obligations.SealsAreVoted : Prop :=
  ∀ (dt : Nat) (sw : Fin 4) (s : State),
    let u := s.elapse dt
    (∀ b, majority (s.sealReads sw.val) = some b → 4 ≤ s.blk.seals.run.getD sw.val 0 →
      ∃ t, exec (.sealStateChange dt sw) s = .next t ∧ t.blk.cyc.sw sw.val = b ∧
        (∀ k, k < 4 → k ≠ sw.val → t.blk.cyc.sw k = s.blk.cyc.sw k) ∧
        t = { u with blk := { u.blk with cyc := t.blk.cyc, seals := t.blk.seals } }) ∧
    (100 ≤ s.blk.seals.oddRun.getD sw.val 0 → s.blk.seals.done.getD sw.val false = false →
      ∃ t, exec (.sealDisagree dt sw) s = .next t ∧ t.blk.seals.dis = true ∧
        t.blk.cyc = s.blk.cyc ∧
        ∀ v, s.inService v = true → (s.v v).recs.length < 64 →
          (t.v v).recs = (s.v v).recs ++
            [⟨.update 0x0A0E, 0x10, shortBody (s.blk.seals.reads.a.toNat + 2 ^ 4 * s.blk.seals.reads.b.toNat +
              2 ^ 8 * s.blk.seals.reads.c.toNat) 0 0⟩]) ∧
    (∀ r, s.boundaries = false → s.inReset = false → (∀ a, s.start.polled = some a → 1249875 ≤ u.nt - a) → s.mode ≠ .halt → s.mode ≠ .commission → s.mode ≠ .isolated →
      ∃ t, exec (.mailboxPoll dt r) s = .next t ∧ t.blk.seals.reads = r ∧ t.mbox.post = false ∧
        t.blk.mbx.item = (if s.mbox.post then s.mbox.page else s.blk.mbx.item) ∧ t.blk.mbx.ks = s.mbox.ks)

/-! ### Lattice pass, tasks and strides -/

/-- Vertex `v` has found itself at fault: it has stopped and sent WD with cause `c` to the three slices, which exclude it when they
receive it; the mode and the vertices in service stand (R226). -/
def StopsWith (s t : State) (v : Vtx) (c : XCause) : Prop :=
  (t.v v).stopped = true ∧ (t.v v).cur = none ∧ (t.v v).todo = [] ∧
    (∀ y, (t.links.get v).get y = (s.links.get v).get y ++ [wdEntry c]) ∧ (∀ u, u ≠ v → t.links.get u = s.links.get u) ∧
    t.mode = s.mode ∧ ∀ u, t.inService u = s.inService u

/-- LATTICE_PASS in time imports every element and evaluates every route, and the vertex keeps the length of the pass and the
longest one; LATTICE_OVERRUN at E_max stops the first vertex, which sends WD with its cause, and takes the module to HALT with
STRENGTH_LOST when another vertex has overrun in the same furlong (R182 to R184). -/
def Obligations.PassesCompleteInTime : Prop :=
  ∀ (dt wait : Nat) (v : Vtx) (s : State),
    let u := s.elapse dt
    let x := u.v v
    s.boundaries = true → u.runsApp v = true → x.lat.passDone = false →
      (u.inFurlong ≤ emaxNs u.profile → Readable x x.lat.passWords →
        ∃ t, exec (.latticePass dt v wait) s = .next t ∧
          t = u.setV v { x with
            lat := (t.v v).lat, mem := { x.mem with ecc1 := (t.v v).mem.ecc1 },
            loc := { x.loc with eccOwn := (t.v v).loc.eccOwn } } ∧
          (t.v v).lat.passDone = true ∧
          (t.v v).lat.elems = x.lat.elems.map (fun e => e.importW (x.imgWord e.decl.img)) ∧
          (∀ (r : Nat) (q : Route), x.lat.routes[r]? = some q → q.rstate = .free →
            ∃ n, (t.v v).lat.routes[r]? = some n ∧ n.rstate = .free ∧ n.decl = q.decl ∧
              (n.settable = true ↔ { x.lat with elems := (t.v v).lat.elems }.failure q.decl = none)) ∧
          (t.v v).lat.plast = min (x.lat.nominal + wait) 1048575 ∧
          (t.v v).lat.pmax = max x.lat.pmax (min (x.lat.nominal + wait) 1048575)) ∧
      (emaxNs u.profile ≤ u.inFurlong → s.overran = Tri.all false → s.inService v = true → s.trial v = false →
        ∃ t, exec (.latticeOverrun dt v) s = .next t ∧ StopsWith s t v .latticeOverrun ∧
          (t.v v).lat.overrun = min ((s.v v).lat.overrun + 1) 65535) ∧
      (emaxNs u.profile ≤ u.inFurlong → s.overran ≠ Tri.all false →
        ∃ t, exec (.latticeOverrun dt v) s = .next t ∧ t.mode = .halt ∧ t.blk.cyc.cause = .strengthLost)

/-- TASK_START of a vertex that can start gives the first released task its registers (R100): W0 to W15, the flags, the
counts and the loop stack zero, IB the instance frame, XB 16#0200_0000, KB and PC from the root block (R61). BUDGET_TRAP counts
the clocks of waiting for the running task (R110), and beyond its budget stops the vertex with WD (R226). STRIDE_CLOSE closes a stride of 256 instructions and opens the next (R211). -/
def Obligations.TasksStartAndStridesClose : Prop :=
  ∀ (v : Vtx) (s : State),
    (∀ k rest d, s.canStart v = true → (s.v v).todo = k :: rest → s.blk.cyc.tasks[k]? = some d →
      16 * d.root ∉ (s.v v).mem.ecc → 16 * d.root + 8 ∉ (s.v v).mem.ecc →
      ∃ t, exec (.taskStart v) s = .next t ∧ t = (s.closeFull v).setV v (t.v v) ∧
        (∀ r, (t.v v).reg r = 0) ∧ (t.v v).core.fl = ⟨false, false, false, false, false⟩ ∧
        (t.v v).core.ib = BitVec.ofNat 32 d.frame ∧ (t.v v).core.xb = 0x02000000#32 ∧
        (t.v v).core.kb = (s.v v).mem.kbase d.root ∧ (t.v v).core.pc = (s.v v).mem.entry d.root ∧
        (t.v v).core.task = k ∧ (t.v v).core.depth = 0 ∧ (t.v v).core.loops = [] ∧ (t.v v).core.count = 0 ∧
        (t.v v).cur = some k ∧ (t.v v).todo = rest ∧
        (t.v v).mem = { (s.v v).mem with ecc1 := (t.v v).mem.ecc1 }) ∧
    (∀ stall, s.executing v = true → (s.v v).core.count + stall ≤ s.budget (s.v v) →
      ∃ t, exec (.budgetTrap v stall) s = .next t ∧
        t = s.setV v { s.v v with core := { (s.v v).core with count := (s.v v).core.count + stall } }) ∧
    (∀ stall, s.executing v = true → s.budget (s.v v) < (s.v v).core.count + stall → s.debugging v = false →
      s.inService v = true → s.trial v = false → s.traps = [] →
      ∃ t, exec (.budgetTrap v stall) s = .next t ∧ StopsWith s t v (.trap .budget)) ∧
    (s.runsApp v = true → s.debugging v = false → 256 ≤ (s.v v).core.retired →
      ∃ t, exec (.strideClose v) s = .next t ∧ (t.v v).core.retired = 0 ∧ (t.v v).core.stream = [] ∧
        (t.v v).strides = (s.v v).strides + 1 ∧ (t.v v).strideNo = (s.v v).strideNo + 1 ∧
        (∀ y, (t.links.get v).get y =
          (s.links.get v).get y ++ [⟨.sig, (s.v v).strideNo % 4096, (s.v v).closeSig s.fnum 0⟩]) ∧
        t = { s with vtx := t.vtx, links := t.links } ∧ ∀ w, w ≠ v → t.v w = s.v w) ∧
    (s.runsApp v = true → (s.v v).core.retired < 256 → exec (.strideClose v) s = .next s)

/-! ### The centroid and the commit -/

/-- PHASE2_START takes every vertex whose tasks are done to its end-of-cycle entries: RES, the two test signatures, the image
words in address order, the local output word and IEND with their number (R211, R218), with the words of the image read from the
working bank; the last local output word of every vertex becomes its shadow (R36). -/
def PhaseTwoSendsTheImage : Prop :=
  ∀ (dt : Nat) (s : State),
    let u := s.elapse dt
    s.boundaries = true → u.phase = 2 → s.p2 = false →
    (∀ v, s.runsApp v = true → (s.v v).cur = none ∧ (s.v v).todo = [] ∧ (s.v v).core.retired < 256 ∧
      (s.v v).lat.held = [] ∧ ∀ a ∈ s.imgAddrs (s.v v).released, (s.v v).mem.bad .imgOut a = false) →
    ∃ t, exec (.phase2Start dt) s = .next t ∧ t.p2 = true ∧ t.mode = s.mode ∧ t.blk = s.blk ∧
      (∀ v, (t.v v).own = { (s.v v).own with shadow := (s.v v).own.lout }) ∧
      (∀ v, s.runsApp v = false → t.v v = { s.v v with own := (t.v v).own } ∧ t.links.get v = s.links.get v) ∧
      (∀ v, s.runsApp v = true →
        (t.v v).closed = true ∧ (t.v v).core.retired = 0 ∧ (t.v v).mem = { (s.v v).mem with ecc1 := (t.v v).mem.ecc1 } ∧
        ∀ y, (t.links.get v).get y = (s.links.get v).get y ++
          [⟨.res, (s.v v).strideNo % 4096, (s.v v).closeSig s.fnum 1⟩, ⟨.tst0, 0, testSig s.fnum 2⟩,
           ⟨.tst1, 0, testSig s.fnum 3⟩] ++ (s.v v).imgEntries (s.imgAddrs (s.v v).released))

/-- Slice `y` can take an entry `r` of sender `x`, at strength 3 with no rejoin: every vertex is in service and counted by the
slice, nothing of `x` is undecided, and `g` is the alignment register after the entry. -/
structure MayTake (s : State) (y x : Vtx) (e : Entry) (rest : List Entry) : Prop where
  waiting : (s.links.get x).get y = e :: rest
  three : s.strength = 3
  counted : (s.v y).slice.excl = Tri.all false
  majority : (s.v y).slice.noMaj = false
  mode : s.mode ≠ .start ∧ s.mode ≠ .isolated ∧ s.mode ≠ .halt
  settled : s.blk.cen.rejVtx = none
  empty : ((s.v y).slice.feed.get x).queue = []
  novrd : ((s.v y).slice.feed.get x).vrd = none

/-- CENTROID_ENTRY: an entry out of sequence, WD and an image word alone against two equal ones make the slice exclude its
sender; once every other slice has excluded the sender, it leaves service with the cause of its WD; an image word that agrees with the
two others is taken into the image CRC; one that comes first waits; with an empty link nothing happens (R217, R220, R221, R226). -/
def SlicesVoteOnEntries : Prop :=
  ∀ (dt : Nat) (y x : Vtx) (err : LinkErr) (s : State),
    let u := s.elapse dt
    ((s.links.get x).get y = [] → exec (.centroidEntry dt y x err) s = .next u) ∧
    (∀ e rest, MayTake s y x e rest →
      let r := Entry.ofBits (e.bits ^^^ err.flip)
      let f := (s.v y).slice.feed.get x
      let w : State := { u with links := s.links.set x ((s.links.get x).set y rest) }
      (f.align r = none → ∃ t, exec (.centroidEntry dt y x err) s = .next t ∧ (t.v y).slice.excl.get x = true) ∧
      (r.typ = .wd → r.seq = 0 → (∀ z, ((s.v y).slice.feed.get z).queue = []) →
        ∃ t, exec (.centroidEntry dt y x err) s = .next t ∧ (t.v y).slice.excl.get x = true ∧ t.mode = s.mode ∧
          ((∀ z, z ≠ x → z ≠ y → (s.v z).slice.excl.get x = true) → y ≠ x →
            t.inService x = false ∧ (t.v x).stopped = true ∧
              (t.blk.cen.x.get x).cause = xcauseCode (xcauseOf (r.data.toNat % 256)) ∧
              ∀ z, z ≠ x → t.inService z = true)) ∧
      (∀ g, f.align r = some g → r.typ = .img →
        (∀ a b, a ≠ b → a ≠ x → b ≠ x →
          ((s.v y).slice.feed.get a).queue = [] →
            exec (.centroidEntry dt y x err) s =
              .next (w.setV y { s.v y with
                slice := { (s.v y).slice with feed := (s.v y).slice.feed.set x { g with queue := [r] } } })) ∧
        (∀ a b q, a ≠ b → a ≠ x → b ≠ x →
          ((s.v y).slice.feed.get a).queue = [q] → ((s.v y).slice.feed.get b).queue = [q] →
          (q = r →
            ∃ t, exec (.centroidEntry dt y x err) s = .next t ∧ t = w.setV y (t.v y) ∧
              (t.v y) = { s.v y with slice := (t.v y).slice } ∧
              (t.v y).slice.imgPrev = some r.data ∧ (t.v y).slice.excl = Tri.all false ∧
              (∀ p, (s.v y).slice.imgPrev = some p →
                (t.v y).slice.imgcrc = crc16 (s.v y).slice.imgcrc (leBytes 8 p.toNat)) ∧
              ∀ z, ((t.v y).slice.feed.get z).queue = []) ∧
          (q ≠ r → q.typ = .img →
            ∃ t, exec (.centroidEntry dt y x err) s = .next t ∧ (t.v y).slice.excl.get x = true ∧
              (t.v y).slice.imgPrev = some q.data))))

/-- PhaseTwoSendsTheImage and SlicesVoteOnEntries, together. -/
def Obligations.PhaseTwoIsVoted : Prop := PhaseTwoSendsTheImage ∧ SlicesVoteOnEntries

/-- The one vertex `x` is late: of its entries not everything up to stage `n` has come to the slices of the two others, which agree
on everything else that has come, while nothing else of the three is late; all three are in service and counted by every slice. -/
structure OneLate (s : State) (x : Vtx) (n : Nat) : Prop where
  three : s.strength = 3
  mode : s.mode ≠ .isolated
  counted : ∀ y, (s.v y).slice.excl = Tri.all false
  majority : ∀ y, (s.v y).slice.noMaj = false
  late : ∀ y, y ≠ x → ((s.v y).slice.feed.get x).stage < n
  others : ∀ y z, z ≠ x → n ≤ ((s.v y).slice.feed.get z).stage
  agree : ∀ y a b, a ≠ x → b ≠ x → ((s.v y).slice.feed.get a).queue = ((s.v y).slice.feed.get b).queue
  own : ∀ z, ((s.v x).slice.feed.get z).queue = []

/-- `x` alone has left service with LATE_END, and the module goes on. -/
def LateOut (s t : State) (x : Vtx) : Prop :=
  t.mode = s.mode ∧ t.inService x = false ∧ (t.v x).stopped = true ∧
    (t.blk.cen.x.get x).cause = xcauseCode .lateEnd ∧ ∀ z, z ≠ x → t.inService z = true

/-- Slice `y` sends its key word with the verdict `n`: SRC, the exclusions of the verdict and of the slice, a withdrawal that takes
effect, the low 8 bits of the furlong number, the released tasks and the image CRC (R31, R224). -/
def KeySent (s t : State) (y : Vtx) (n : Nat) : Prop :=
  ∃ e, e < 8 ∧
    (∀ v, testB e v.num = true ↔ (testB n v.num = true ∨ (s.v y).slice.excl.get v = true ∨ s.inService v = false ∨
      (s.blk.cen.wpend = some v ∧ s.wdEffect = true))) ∧
    t.v y = { s.v y with
      key := some (keyWordOf y e s.fnum (tasksMask (s.v y).released) (s.v y).slice.imgcrc),
      slice := { (s.v y).slice with keySent := true } }

/-- At W_END a slice that has received everything sends its VRD. At both limits the one vertex that is late for the two other slices
at strength 3 leaves service with LATE_END, and a vertex that is late at strength 2 is no majority: the module goes to HALT with
STRENGTH_LOST; a vertex that is late for a slice is in every case excluded by it, or leaves the slice without a majority, or the
module is in HALT. VRD_LIMIT with everything received sends the key words that are still to be sent, up to the last key instant,
and changes nothing else (R222 to R224). -/
def Obligations.LateVerticesAreExcluded : Prop :=
  ∀ (dt : Nat) (s : State),
    let u := s.elapse dt
    s.boundaries = true → s.p2 = true → u.phase = 2 → s.appMode = true → s.blk.cen.rejVtx = none →
    (wEndNs u.profile ≤ u.inPhase2 →
      (∃ t, exec (.wEnd dt) s = .next t ∧ ∀ y x, s.inService y = true → x ∈ s.members y →
        ((s.v y).slice.feed.get x).stage < 4 →
          t.mode = .halt ∨ t.inService y = false ∨ (t.v y).slice.excl.get x = true ∨ (t.v y).slice.noMaj = true) ∧
      (∀ x, OneLate s x 4 → ∃ t, exec (.wEnd dt) s = .next t ∧ LateOut s t x) ∧
      (∀ y x, s.strength = 2 → s.mode ≠ .isolated → s.inService y = true → x ∈ s.members y →
        (∀ z, (s.v z).slice.noMaj = false) → ((s.v y).slice.feed.get x).stage < 4 →
        ∃ t, exec (.wEnd dt) s = .next t ∧ t.mode = .halt ∧ t.blk.cyc.cause = .strengthLost) ∧
      ((∀ y x, s.inService y = true → x ∈ s.members y →
          4 ≤ ((s.v y).slice.feed.get x).stage ∧ ((s.v y).slice.feed.get x).queue = []) →
        ∃ t, exec (.wEnd dt) s = .next t ∧ t = { u with vtx := t.vtx, links := t.links } ∧
          (∀ y, s.inService y = true → (t.v y).slice.vrdSent = true ∧
            ((s.v y).slice.vrdSent = false → ∀ z,
              (t.links.get y).get z = (s.links.get y).get z ++ [s.vrdEntry y])) ∧
          (∀ y, s.inService y = false → t.v y = s.v y))) ∧
    (vrdNs u.profile ≤ u.inPhase2 →
      (∃ t, exec (.vrdLimit dt) s = .next t ∧ ∀ y x, s.inService y = true → x ∈ s.members y →
        ((s.v y).slice.feed.get x).stage < 5 →
          t.mode = .halt ∨ t.inService y = false ∨ (t.v y).slice.excl.get x = true ∨ (t.v y).slice.noMaj = true) ∧
      (∀ x, OneLate s x 5 → ∃ t, exec (.vrdLimit dt) s = .next t ∧ LateOut s t x) ∧
      (∀ y x, s.strength = 2 → s.mode ≠ .isolated → s.inService y = true → x ∈ s.members y →
        (∀ z, (s.v z).slice.noMaj = false) → ((s.v y).slice.feed.get x).stage < 5 →
        ∃ t, exec (.vrdLimit dt) s = .next t ∧ t.mode = .halt ∧ t.blk.cyc.cause = .strengthLost) ∧
      ((∀ y x, s.inService y = true → x ∈ s.members y →
          5 ≤ ((s.v y).slice.feed.get x).stage ∧ ((s.v y).slice.feed.get x).queue = []) →
        ∃ t, exec (.vrdLimit dt) s = .next t ∧ t = { u with vtx := t.vtx } ∧
          (∀ y, s.inService y = false → t.v y = s.v y) ∧
          (∀ y, s.inService y = true →
            let l := (s.v y).slice
            let due := l.keySent = false ∧ l.checkFail = false ∧ l.noMaj = false ∧ (s.v y).stopped = false ∧
              u.inPhase2 ≤ lastKeyNs u.profile
            (∀ n, l.verdict = some n → testB n 3 = false → due → KeySent s t y n) ∧
            ((∀ n, l.verdict = some n → testB n 3 = true ∨ ¬ due) → t.v y = s.v y))))

/-- KEY_WORD follows R32: an ignored word, one outside phase 2 and a second one of a source are counted and discarded; one with
another FURLONG is discarded; a first one is held; the second agreeing one within 100 µs commits the receiver with its pair and its
exclusions, and at the network chip switches the image banks of every vertex (R34). The words of earlier receiver clocks have
ended before, and no other word ends in this one. -/
def KeyWordsCommit : Prop :=
  ∀ (dt : Nat) (rx : Receiver) (ok : Bool) (w : BitVec 48) (s : State), s.boundaries = true →
    let u := s.elapse dt
    let k := s.keyRx rx
    let c : Instr := .keyWord dt rx ok ⟨w, []⟩
    (∀ h ∈ k.held, h.endAt < u.nt) →
    (k.ignores ok w = true → exec c s = .next (u.modKey rx (fun k => { k with ignored := k.ignored + 1 }))) ∧
    (k.ignores ok w = false → u.phase ≠ 2 →
      exec c s = .next (u.modKey rx (fun k => { k with outOfWindow := k.outOfWindow + 1 }))) ∧
    (∀ v, k.ignores ok w = false → u.phase = 2 → keySrc w = some v →
      ((∃ h ∈ k.held, h.src = v) → exec c s = .next (u.modKey rx (fun k => { k with second := k.second + 1 }))) ∧
      ((∀ h ∈ k.held, h.src ≠ v) → (w.extractLsb' 24 8).toNat ≠ s.fnum % 256 → exec c s = .next u) ∧
      ((w.extractLsb' 24 8).toNat = s.fnum % 256 → k.held = [] →
        exec c s = .next (u.modKey rx (fun k => { k with held := [⟨v, w, u.nt⟩] }))) ∧
      (∀ h, (w.extractLsb' 24 8).toNat = s.fnum % 256 → k.held = [h] → h.src ≠ v → k.pair = none →
        keyBits h.word = keyBits w → u.nt - h.endAt ≤ 12500 →
        ∃ t, exec c s = .next t ∧
          (t.keyRx rx).pair = some (if h.src.num < v.num then (h.src, v) else (v, h.src)) ∧
          (t.keyRx rx).mask = keyMask w ∧ t.fnum = s.fnum ∧
          (rx = .nt → t.nic.lastCommit = some s.fnum ∧ t.nic.noCommit = 0 ∧
            ∀ x, (t.v x).mem = { (s.v x).mem with work1 := !(s.v x).mem.work1, ecc1 := (t.v x).mem.ecc1 }) ∧
          (rx = .si → t.mode = s.mode ∧ t.blk.sio.commits = true ∧ t.blk.sio.nocommit = 0 ∧ t.blk.sio.wdt = false)))

/-- After a commit BANK_COPY_BACK gives every working bank the bytes of its transmit bank once, PHASE2_END counts a furlong without a
commit at each receiver, and WATCHDOG_TRIP after two of them, or on the chip's own oscillator, opens every QS output, gives every QA
output its safe state and ends the running slices (R33, R34, R330). -/
def CommitsAreFollowedUp : Prop :=
  ∀ (dt : Nat) (s : State),
    let u := s.elapse dt
    (s.nic.lastCommit ≠ none → s.nic.copied = false →
      (∀ v, ∀ a ∈ s.imgAddrs (List.range 8), (s.v v).mem.txBad a = false) →
      ∃ t, exec (.bankCopyBack dt) s = .next t ∧ t.nic.copied = true ∧ t.mode = s.mode ∧
        ∀ v, (t.v v).mem.cells .imgOut = (s.v v).mem.transmit ∧ (t.v v).mem.transmit = (s.v v).mem.transmit ∧
          (t.v v).mem.inst = (s.v v).mem.inst ∧ (t.v v).core = (s.v v).core) ∧
    (s.boundaries = true → s.p2End = false → u.phase = 3 →
      ∃ t, exec (.phase2End dt) s = .next t ∧ t.p2End = true ∧ t.mode = s.mode ∧
        t.nic.noCommit = s.nic.noCommit + (if s.keyNt.pair = none then 1 else 0) ∧
        t.blk.sio.nocommit = (if s.keySi.pair = none then min 255 (s.blk.sio.nocommit + 1) else s.blk.sio.nocommit)) ∧
    (∀ oscNs, s.blk.sio.commits = true → s.blk.sio.wdt = false →
      2 ≤ s.blk.sio.nocommit ∨ 2 * furlongNs s.profile + 1000000 ≤ oscNs →
      ∃ t, exec (.watchdogTrip dt oscNs) s = .next t ∧ t.blk.sio.wdt = true ∧
        t.blk.sio.wdtrip = min (s.blk.sio.wdtrip + 1) 65535 ∧ t.blk.bst.running = [] ∧ t.blk.sio.tests = none ∧
        (∀ q ∈ t.blk.sio.qs, q.on = false) ∧
        ∀ (j : Nat) (q : QaSt), s.blk.sio.qa[j]? = some q → q.latched = false → s.blk.sio.qaOff = false →
          t.blk.sio.qa[j]? = some { q with
            on := if s.blk.sio.qaSafe j = 0 then false else if s.blk.sio.qaSafe j = 1 then true else q.on })

/-- KeyWordsCommit and CommitsAreFollowedUp, together. -/
def Obligations.KeysCommit : Prop := KeyWordsCommit ∧ CommitsAreFollowedUp

/-! ### The bus -/

/-- A frame of the module's own as it leaves on a network: kind, payload, SRC of the position in force, the EtherType, VID and PCP of
the matrix, HOP from the segment of the network, and the two codes, each over the copy of the payload that its port has read
(R244 to R248). -/
structure OwnFrame (s : State) (m : Matrix) (n : Net) (f : Frame) (kind : BitVec 8) (payload copy1 copy2 : List Word) : Prop where
  kind : f.kind = kind
  plen : f.plen = payload.length
  payload : f.payload = payload
  src : f.src = s.ownSrc
  etype : f.etype = m.etype
  vid : f.vid = m.vid
  pcp : f.pcp = m.pcp
  hop : f.hop = (segOf m n).hops
  code1 : f.code1 = crc32c (coveredBytes s.blk.ttb.mid { f with payload := copy1, plen := copy1.length })
  code2 : f.code2 = crc32k (coveredBytes s.blk.ttb.mid { f with payload := copy2, plen := copy2.length })
  fcs : f.fcsOk = true

/-- SLOT_FETCH of an owned command slot, 1 µs before it, takes the payload of the two banks of the committing pair where they agree,
and none where they differ, with the copies over which the codes are computed, and counts the BUSY answers; SLOT_TRANSMIT at its
instant sends what was fetched on X and Y, and suppresses, counts and records a slot whose banks differed; STATUS_TRANSMIT at its
instant sends the STATUS frame with the mode and the senior bit, and beside it on one network the announcement of BABBLE on the other (R35,
R248, R250, R259, R260, R270, R373). The form of the announcement, the instant at which HELD is judged and the filling of a payload
whose PLEN is not 8 are the model's choices (log entries 34, 36 and 69). -/
def Obligations.SlotsAreSent : Prop :=
  ∀ (dt rod slot : Nat) (s : State) (m : Matrix) (p : Position),
    let u := s.elapse dt
    s.blk.ttb.matrix = some m → s.blk.ttb.pos = some p →
    (∀ (busy : Tri Nat) (a b : Vtx) (c : Content) (i : Nat) (d : SlotDesc) (bd : Binding),
      s.nic.pair = some (a, b) → a ≠ b → s.loaded = some c → descAt m rod slot = some (i, d) →
      c.hdr.bindings[d.bind]? = some bd → descDir p d = 2 → d.status = false → d.bind ≠ 0xFFF → s.sending = true →
      s.soonActive = true → s.commandsRun = true →
      u.atSlot m rod slot (-1000) = true → (∀ k ∈ bindAddrs bd d.plen, ∀ v, (s.v v).mem.txBad k = false) →
      ∃ t f, exec (.slotFetch dt rod slot busy) s = .next t ∧ t.nic = { s.nic with fetched := some f } ∧
        f.rod = rod ∧ f.slot = slot ∧
        ((∀ k ∈ bindAddrs bd d.plen, (s.v a).mem.txWord k = (s.v b).mem.txWord k) →
          f.payload = some ((bindAddrs bd d.plen).map (s.v a).mem.txWord)) ∧
        ((∃ k ∈ bindAddrs bd d.plen, (s.v a).mem.txWord k ≠ (s.v b).mem.txWord k) → f.payload = none) ∧
        f.copy1 = (bindAddrs bd d.plen).map (s.v s.coders.1).mem.txWord ∧
        f.copy2 = (bindAddrs bd d.plen).map (s.v s.coders.2).mem.txWord ∧
        (∀ g, s.nic.lastCommit = some g → f.held = decide (g < u.recentEnd)) ∧
        (t.v a).loc.p1busy = min ((s.v a).loc.p1busy + busy.get a) 65535 ∧
        (t.v b).loc.p1busy = min ((s.v b).loc.p1busy + busy.get b) 65535 ∧ t.mode = s.mode ∧ t.out = s.out) ∧
    (∀ f : Fetched, s.nic.fetched = some f → f.rod = rod → f.slot = slot → u.atSlot m rod slot 250 = true →
      s.mode = .active → s.commandsRun = true →
      (f.payload = none →
        ∃ t, exec (.slotTransmit dt rod slot) s = .next t ∧ t.nic.fetched = none ∧ t.out = s.out ∧
          t.blk.ttb.suppr = min (s.blk.ttb.suppr + 1) 65535 ∧ t.blk.ttb.fOutmm = some u.nt ∧
          ∀ v, s.inService v = true → (s.v v).recs.length < 64 →
            (t.v v).recs = (s.v v).recs ++ [⟨.outMismatch, 0x10, shortBody rod slot 0⟩]) ∧
      (∀ pay, f.payload = some pay → s.maySend .X = true → s.maySend .Y = true → s.slotDelay .X = 0 → s.slotDelay .Y = 0 →
        u.permits .X u.time (u.time + 8 * frameBytes pay.length) = true →
        u.permits .Y u.time (u.time + 8 * frameBytes pay.length) = true →
        ∃ x y, exec (.slotTransmit dt rod slot) s =
            .next { u with nic := { s.nic with fetched := none }, out := .frame .Y y :: .frame .X x :: s.out } ∧
          OwnFrame s m .X x kSlot pay f.copy1 f.copy2 ∧ OwnFrame s m .Y y kSlot pay f.copy1 f.copy2 ∧ x.ts = y.ts ∧ x.seq = y.seq ∧
          x.rodslot = rodslotOf rod slot ∧ y.rodslot = rodslotOf rod slot)) ∧
    (∀ (i : Nat) (d : SlotDesc), descAt m rod slot = some (i, d) → descDir p d = 2 → d.status = true → s.sending = true →
      (s.mode ≠ .halt ∨ rod = d.base) → 1 ≤ d.plen → s.maySend .X = true → s.maySend .Y = true → s.slotDelay .X = 0 →
      s.slotDelay .Y = 0 → u.atSlot m rod slot 250 = true →
      u.permits .X u.time (u.time + 8 * frameBytes d.plen) = true →
      u.permits .Y u.time (u.time + 8 * frameBytes d.plen) = true →
      ∃ x y pay w, exec (.statusTransmit dt rod slot) s =
          .next { u with out := .frame .Y y :: .frame .X x :: s.out } ∧
        OwnFrame s m .X x kStatus pay pay pay ∧ OwnFrame s m .Y y kStatus pay pay pay ∧ pay.length = d.plen ∧ pay[0]? = some w ∧
        w.toNat % 2 ^ 8 = modeCode s.mode ∧ w.toNat / 2 ^ 24 % 2 = bit s.blk.cyc.senior) ∧
    (∀ (i : Nat) (d : SlotDesc) (n o : Net), descAt m rod slot = some (i, d) → descDir p d = 2 → d.status = true →
      s.sending = true → (s.mode ≠ .halt ∨ rod = d.base) → n ≠ o → s.blk.ttb.babble.get o = true → s.maySend n = true →
      s.slotDelay n = 0 → u.atSlot m rod slot 250 = true → u.permits n u.time (u.time + 8 * frameBytes d.plen) = true →
      ∃ x pay, exec (.statusTransmit dt rod slot) s = .next { u with out := .babbleNote o :: .frame n x :: s.out } ∧
        OwnFrame s m n x kStatus pay pay pay)

/-- The arbitrating window: ARB_WINDOW_START loads the countdown of a module with a frame waiting; ARB_SEND counts idle time
down, sends the waiting event frame when the countdown has run out and the rest of the window is long enough, and starts again with
PRIO; EVENT_COPY_EXPIRY drops and counts copies older than 2 × L; LAUNCH_TIME_REACHED lets frames wait whose launch time has come
and loads the countdown (R254, R255, R258, R298). -/
def Obligations.ArbitrationSendsInTurn : Prop :=
  ∀ (dt : Nat) (net : Net) (s : State),
    let u := s.elapse dt
    (u.inArb = true →
      exec (.arbWindowStart dt net) s = .next { u with nic := { s.nic with
        countdown := s.nic.countdown.set net (if (u.nextWaiting net).isSome = true then some s.prio else none) } }) ∧
    (∀ idle len c, s.nic.countdown.get net = some c →
      (idle < c →
        exec (.arbSend dt net idle len) s =
          .next { u with nic := { s.nic with countdown := s.nic.countdown.set net (some (c - idle)) } }) ∧
      (∀ (e : TxEvent) (m : Matrix), c ≤ idle → u.inArb = true → s.blk.ttb.matrix = some m →
        u.nextWaiting net = some (.event e) →
        (arbEnd s.profile < u.inRodNs + 8 * frameBytes e.payload.length + 8 * s.arbres →
          exec (.arbSend dt net idle len) s =
            .next { u with nic := { s.nic with countdown := s.nic.countdown.set net none } }) ∧
        (u.inRodNs + 8 * frameBytes e.payload.length + 8 * s.arbres ≤ arbEnd s.profile → u.slotDelay net = 0 →
          ∃ t f, exec (.arbSend dt net idle len) s = .next t ∧ t = { u with nic := t.nic, out := .frame net f :: s.out } ∧
            OwnFrame s m net f kEvent e.payload e.copy1 e.copy2 ∧ t.nic.countdown = s.nic.countdown.set net (some s.prio) ∧
            ∀ q ∈ t.nic.txEvents, q.waits net = true → q ∈ s.nic.txEvents ∧ q ≠ e))) ∧
    (∀ queue, ∃ t, exec (.eventCopyExpiry dt net queue) s = .next t ∧
      (∀ e ∈ t.nic.txEvents, e.queue = queue → e.waits net = true → u.time < e.ts + 2 * furlongNs s.profile) ∧
      (∀ e ∈ t.nic.txMgmt, e.queue = queue → e.waits net = true → u.time < e.ts + 2 * furlongNs s.profile) ∧
      (∀ e ∈ s.nic.txEvents, e.queue ≠ queue → e.waitX = true ∨ e.waitY = true → e ∈ t.nic.txEvents) ∧
      (∀ e ∈ s.nic.txMgmt, e.queue ≠ queue → e.waitX = true ∨ e.waitY = true → e ∈ t.nic.txMgmt) ∧
      (∀ k, s.blk.ttb.qdrop[queue]? = some k →
        t.blk.ttb.qdrop[queue]? = some (min (k + ((s.nic.txEvents.filter (fun e =>
            e.queue == queue && e.waits net && decide (e.ts + 2 * furlongNs s.profile ≤ u.time))).length +
          (s.nic.txMgmt.filter (fun e =>
            e.queue == queue && e.waits net && decide (e.ts + 2 * furlongNs s.profile ≤ u.time))).length)) 65535)) ∧
      t = { u with nic := { s.nic with txEvents := t.nic.txEvents, txMgmt := t.nic.txMgmt },
                   blk := { s.blk with ttb := { s.blk.ttb with qdrop := t.blk.ttb.qdrop } } }) ∧
    (∀ queue, ∃ t, exec (.launchTimeReached dt queue) s = .next t ∧
      (∀ e ∈ t.nic.txEvents, e.queue = queue → ∀ l, e.launch = some l → u.time < l) ∧
      (∀ e ∈ s.nic.txEvents, e.queue = queue → ∀ l, e.launch = some l → l ≤ u.time →
        u.inArb = true → s.nic.countdown.get net = none → (t.nextWaiting net).isSome = true →
          t.nic.countdown.get net = some s.prio) ∧
      t = { u with nic := { s.nic with txEvents := t.nic.txEvents, countdown := t.nic.countdown } })

/-- FRAME_FORWARD: a Swisko frame with right FCS and hops left leaves by the other port with HOP one lower, waits in the
pass-through buffer while the port is busy, is dropped with FWDDROP while the buffer is occupied, and a foreign EtherType is dropped and
counted; PASS_THROUGH_RELEASE lets the buffered frame go where the guardian lets it out, as pass-through after 320 ns ± 80 ns or in
a window of the module's own, and elsewhere the frame is cut and BABBLE latched (R242, R243, R269, R270). -/
def Obligations.FramesAreForwarded : Prop :=
  ∀ (dt : Nat) (port : Port) (n : Net) (g : Frame) (s : State),
    let u := s.elapse dt
    let out := otherPort port
    let down : Frame := { g with hop := g.hop - 1 }
    portNet port = some n → s.portUp port = true → s.inReset = false →
    (∀ busy, g.etype ≠ s.etype →
      exec (.frameForward dt port busy (.swisko g)) s = .next { u with nic := { s.nic with
        fwdOther := s.nic.fwdOther.set n (s.nic.fwdOther.get n + 1) } }) ∧
    (g.etype = s.etype → g.hop ≠ 0 → (s.blk.ttb.pos = none ∨ g.src ≠ s.ownSrc) → s.portUp out = true → s.cutNet n = false →
      (∀ busy, s.nic.buffered out = true →
        exec (.frameForward dt port busy (.swisko g)) s =
          .next { u with blk := { s.blk with ttb := { s.blk.ttb with fFwddrop := some u.nt } } }) ∧
      (s.nic.buffered out = false →
        exec (.frameForward dt port true (.swisko g)) s =
          .next { u with nic := { s.nic with pass := (out, .swisko g, u.nt) :: s.nic.pass } } ∧
        (g.fcsOk = true →
          exec (.frameForward dt port false (.swisko g)) s = .next { u with out := .fwd out (.swisko down) :: s.out }) ∧
        (g.fcsOk = false →
          exec (.frameForward dt port false (.swisko g)) s = .next { u with out := .cutFrame out (.swisko down) :: s.out }))) ∧
    (∀ a rest, s.nic.pass = (port, .swisko g, a) :: rest → s.cutNet n = false →
      let ns := 8 * (u.nt - a)
      let lets := (240 ≤ ns ∧ ns ≤ 400) ∨ u.permits n u.time (u.time + 8 * frameBytes g.plen) = true
      (lets → g.fcsOk = true →
        exec (.passThroughRelease dt port) s =
          .next { u with nic := { s.nic with pass := rest.filter (fun q => q.1 != port) },
                         out := .fwd port (.swisko down) :: s.out }) ∧
      (¬ lets →
        ∃ t, exec (.passThroughRelease dt port) s = .next t ∧ t.out = .cutFrame port (.swisko down) :: s.out ∧
          t.nic = { s.nic with pass := rest.filter (fun q => q.1 != port) } ∧ t.blk.ttb.babble.get n = true ∧
          t.cutNet n = true ∧ t.mode = s.mode))

/-- The frame `f` can enter the binding of receive descriptor `d`: the binding is used, the queue of the descriptor is not held back
and has room, and `f` is newer than the frame there (R246, R256). -/
def Enters (s : State) (m : Matrix) (d : SlotDesc) (f : Frame) : Prop :=
  d.bind ≠ 0xFFF ∧ s.queueHeld d.queue = false ∧ s.nic.slotUnits m d.queue + frameUnits f.plen ≤ s.depthOf d.queue ∧
    ∀ q, s.nic.rxBind.find? (fun q => q.1 == d.bind) = some q → newer f.seq q.2.newest.frame.seq = true

/-- The binding holds the frame `f`, accepted from X, from Y or from both. -/
def BindingHolds (t : State) (bind : Nat) (f : Frame) (x y : Bool) : Prop :=
  ∃ q, t.nic.rxBind.find? (fun q => q.1 == bind) = some q ∧ q.2.newest.frame = f ∧ q.2.newest.fromX = x ∧
    q.2.newest.fromY = y

/-- FRAME_COPY_RECEIVE: a copy with a wrong code is counted and discarded; a first valid copy of a command frame opens its
combination window; an equal second copy from the other network closes it, counts a pair, and the frame is accepted: its occurrence
is marked and its binding holds it; an unequal one is discarded with NET_DISAGREE. COMBINE_WINDOW_EXPIRY accepts the copy alone, in the same
way, and counts its network. OCCURRENCE_DUE marks an occurrence without an accepted frame STALE and counts it, and one with an accepted
frame not STALE (R256, R261, R262, R265). -/
def Obligations.CopiesAreCombined : Prop :=
  ∀ (dt pre : Nat) (net : Net) (f : Frame) (s : State) (m : Matrix) (p : Position),
    let u := s.elapse dt
    s.blk.ttb.matrix = some m → s.blk.ttb.pos = some p →
    (s.inReset = false → f.src ≠ p.src → stepOne m f = true →
      (s.nic.openCopies = [] → f.codesOk s.blk.ttb.mid = false →
        exec (.frameCopyReceive dt net pre f) s = .next (u.countErr net (fun e => { e with code := min (e.code + 1) 255 }))) ∧
      (∀ i, f.codesOk s.blk.ttb.mid = true → stepFour m s.profile f pre = true → stepFive m s.profile net f pre = true →
        s.blk.ttb.state = .integrated → f.kind = kSlot → roleOf m p net f = .rx i →
        (s.nic.openCopies = [] → (∀ d ∈ s.nic.decided, sameFrame d.frame f = false) →
          exec (.frameCopyReceive dt net pre f) s = .next { u with nic := { s.nic with
            openCopies := [⟨f, net, u.nt + 25000, none⟩] } }) ∧
        (∀ o, s.nic.openCopies = [o] → sameFrame o.frame f = true → o.net ≠ net → u.nt ≤ o.endAt →
          (sameCopy s.blk.ttb.mid o.frame f = true →
            ∃ t, exec (.frameCopyReceive dt net pre f) s = .next t ∧ t.nic.openCopies = [] ∧
              t.blk.ttb.pairs = min (s.blk.ttb.pairs + 1) 4294967295 ∧
              (∀ q, s.nic.seen[i]? = some q → t.nic.seen[i]? = some { q with accepted := f.seq :: q.accepted }) ∧
              ∀ d, m.slots[i]? = some d → Enters u m d o.frame → BindingHolds t d.bind o.frame true true) ∧
          (sameCopy s.blk.ttb.mid o.frame f = false →
            ∃ t, exec (.frameCopyReceive dt net pre f) s = .next t ∧ t.nic.openCopies = [] ∧
              t.blk.ttb.dis = min (s.blk.ttb.dis + 1) 65535 ∧ t.blk.ttb.fDisagree = some u.nt ∧
              t.nic.rxBind = s.nic.rxBind ∧
              (∀ q, s.nic.seen[i]? = some q → t.nic.seen[i]? = some { q with disagree := f.seq :: q.disagree }) ∧
              ∀ v, s.inService v = true → (s.v v).recs.length < 64 →
                (t.v v).recs = (s.v v).recs ++
                  [⟨.netDisagree, 0x10, shortBody f.src.toNat f.rodslot.toNat f.seq.toNat⟩])))) ∧
    (∀ o, s.nic.openCopies = [o] → o.endAt ≤ u.nt →
      ∃ t, exec (.combineWindowExpiry dt o.frame.src o.frame.rodslot o.frame.seq) s = .next t ∧ t.nic.openCopies = [] ∧
        t.blk.ttb.sgl.get o.net = min (s.blk.ttb.sgl.get o.net + 1) 65535 ∧ t.mode = s.mode ∧
        (∀ i, roleOf m p o.net o.frame = .rx i →
          (∀ q, s.nic.seen[i]? = some q → t.nic.seen[i]? = some { q with accepted := o.frame.seq :: q.accepted }) ∧
          ∀ d, m.slots[i]? = some d → Enters u m d o.frame →
            BindingHolds t d.bind o.frame (decide (o.net = .X)) (decide (o.net = .Y)))) ∧
    (∀ (desc : Nat) (o : OccState) (q : OccSeen) (d : SlotDesc) (rc : Word), (∀ c ∈ s.nic.openCopies, u.nt ≤ c.endAt) →
      s.nic.occ[desc]? = some o → s.nic.seen[desc]? = some q → m.slots[desc]? = some d → u.lastDue m d = some rc →
      descDir p d = 1 → o.due ≠ some rc →
      ∃ t, exec (.occurrenceDue dt desc) s = .next t ∧
        t = { u with nic := { s.nic with occ := t.nic.occ, seen := t.nic.seen },
                     blk := { s.blk with ttb := { s.blk.ttb with missed := t.blk.ttb.missed } } } ∧
        (rc ∉ q.accepted → t.nic.occ[desc]? = some ⟨some rc, true, decide (rc ∈ q.disagree)⟩ ∧
          t.blk.ttb.missed = min (s.blk.ttb.missed + 1) 4294967295) ∧
        (rc ∈ q.accepted → t.nic.occ[desc]? = some ⟨some rc, false, decide (rc ∈ q.disagree)⟩ ∧
          t.blk.ttb.missed = s.blk.ttb.missed))

/-- LINK_CHANGE follows the port and holds one of wrong speed down; a guardian adopts its first pulse and one within ±1 µs of its
prediction, the third missed window in a row cuts its transmitter with SYNC_LOST; a transmitter that starts where the guardian
permits it changes nothing, and elsewhere BABBLE cuts it and is recorded (R269); coldstart begins when the
listen timeout has run and ends at its 80th rod (R39, R240, R270 to R273). -/
def Obligations.LinksGuardiansAndColdstart : Prop :=
  ∀ (dt : Nat) (net : Net) (s : State),
    let u := s.elapse dt
    let g := s.guard.get net
    (∀ port, portNet port ≠ none →
      exec (.linkChange dt port .down) s = .next { u with
        blk := { s.blk with ttb := { s.blk.ttb with up := setNth s.blk.ttb.up (portNum port) false } } } ∧
      (port ∉ s.nic.heldDown →
        exec (.linkChange dt port .up) s = .next { u with
          blk := { s.blk with ttb := { s.blk.ttb with up := setNth s.blk.ttb.up (portNum port) true } } }) ∧
      ∃ t, exec (.linkChange dt port .wrongSpeed) s = .next t ∧ port ∈ t.nic.heldDown ∧
        t.blk.ttb.up = setNth s.blk.ttb.up (portNum port) false) ∧
    (s.boundaries = true → g.cut = false →
      (∀ off, g.reference = false →
        exec (.guardianBoundaryPulse dt net off) s =
          .next { u with guard := s.guard.set net { g with reference := true, misses := 0 } }) ∧
      (∀ off, g.reference = true → -1000 ≤ off → off ≤ 1000 →
        exec (.guardianBoundaryPulse dt net off) s = .next { u with guard := s.guard.set net { g with misses := 0 } }) ∧
      (∀ off, g.reference = true → off < -1000 ∨ 1000 < off →
        exec (.guardianBoundaryPulse dt net off) s = .next u) ∧
      (g.reference = true → g.misses < 2 →
        exec (.guardianWindowExpiry dt net) s = .next { u with guard := s.guard.set net { g with misses := g.misses + 1 } }) ∧
      (g.reference = true → 2 ≤ g.misses →
        ∃ t, exec (.guardianWindowExpiry dt net) s = .next t ∧ t.blk.ttb.syncLost.get net = true ∧
          (t.guard.get net).cut = true ∧ t.mode = s.mode)) ∧
    (u.permits net u.time u.time = true → exec (.babble dt net) s = .next u) ∧
    (s.cutNet net = false → u.permits net u.time u.time = false →
      ∃ t, exec (.babble dt net) s = .next t ∧ t.blk.ttb.babble.get net = true ∧ (t.guard.get net).cut = true ∧
        t.cutNet net = true ∧ t.mode = s.mode ∧
        ∀ v, s.inService v = true → (s.v v).recs.length < 64 →
          (t.v v).recs = (s.v v).recs ++ [⟨.babble, 0x10, shortBody (match net with | .X => 0 | .Y => 1) 0 0⟩]) ∧
    (s.blk.ttb.state = .listen → s.nic.integBy = none → s.coldCapable = true → s.lt ≤ s.blk.ttb.count →
      ∃ t, exec (.coldstartLtExpiry dt) s = .next t ∧ t.blk.ttb.state = .coldstart ∧ t.blk.ttb.count = 0 ∧
        t.nic.csRod = 0 ∧ t.nic.csSent = 1) ∧
    (s.blk.ttb.state = .coldstart → 80 ≤ s.nic.csRod →
      ∃ t, exec (.coldstartEnd dt) s = .next t ∧ t.blk.ttb.state = .integrated ∧ t.nic.csPend = none ∧
        ∀ v, s.inService v = true → (s.v v).recs.length < 64 →
          (t.v v).recs = (s.v v).recs ++ [⟨.busIntegrated, 0x10, shortBody s.rank 0 0⟩])

/-! ### Network time -/

/-- The clock messages that the module takes: a message off the profile is ignored and counted. From step 6 on, where the queue
has room, an Announce of a node outside the matrix is counted, and so is one whose priorities are not those of the matrix, or of a
module whose clock quality is not that of Table 9.1; the first one of a time-capable node that keeps to both selects it in WAIT and
enters LOCKING with its currentUtcOffset; the first Sync of the selected master on X in LOCKING steps the clock, a Sync with a large offset in
LOCKED is kept once and slews at the second, and one with a small offset stays LOCKED with RATE within 2 ppm of the last. A
Delay_Req is answered by a master on both networks, and a Delay_Resp gives the path delay of the network of the requesting port,
0 where it comes out negative (notes/assumptions/69.md) (R283, R284, R285, R286, R288 to R291, R294). The instant of a Sync and
its corrected origin are those of notes/assumptions/41.md. -/
def Obligations.ClockMessagesAreTaken : Prop :=
  ∀ (dt : Nat) (net : Net) (h : PtpHdr) (id : Long) (s : State),
    let u := s.elapse dt
    let ignored : State := { u with blk := { s.blk with ntm := { s.blk.ntm with
      ignProfile := min (s.blk.ntm.ignProfile + 1) 65535 } } }
    (s.ptpOk h (-3) = false → ∀ o c, exec (.syncReceive dt net h id o c) s = .next ignored) ∧
    (s.ptpOk h (-2) = false → ∀ a b c d e f, exec (.announceReceive dt net h id a b c d e f) s = .next ignored) ∧
    (s.ptpOk h 0 = false → ∀ q c, exec (.delayReqReceive dt net h id q c) s = .next ignored) ∧
    (s.ptpOk h 0 = false → ∀ r q w c, exec (.delayRespReceive dt net h id r q w c) s = .next ignored) ∧
    (s.ptpOk h (-2) = true → id ≠ s.clockId → s.timeRuns = true → u.otherFull 61 1 = false →
      (s.timeNode id = none → ∀ a b c d e f,
        exec (.announceReceive dt net h id a b c d e f) s = .next { u with blk := { s.blk with ntm := { s.blk.ntm with
          ignBm := min (s.blk.ntm.ignBm + 1) 65535 } } }) ∧
      (∀ n a b c d e f, s.timeNode id = some n →
        (a ≠ n.prio1 ∨ e ≠ n.prio2 ∨ (n.module = true ∧ (b ≠ 248 ∨ c ≠ 0xFE ∨ d ≠ 0xFFFF))) →
        exec (.announceReceive dt net h id a b c d e f) s = .next ignored) ∧
      (∀ n cls acc var steps, s.timeNode id = some n → (n.module = true → cls = 248 ∧ acc = 0xFE ∧ var = 0xFFFF) →
        s.blk.ntm.state = .wait → s.ptp.isSelected id = false →
        ∃ t, exec (.announceReceive dt net h id n.prio1 cls acc var n.prio2 steps) s = .next t ∧
          t = { u with ptp := t.ptp, blk := { s.blk with ntm := t.blk.ntm } } ∧ t.blk.ntm.state = .locking ∧
          t.ptp.isSelected id = true ∧ t.ptp.utcOffset = some h.utcOffset ∧ t.blk.ntm.gmid = id)) ∧
    (s.ptpOk h (-3) = true → s.ptp.isSelected id = true → net = .X → s.timeRuns = true → u.otherFull 60 1 = false →
      (∀ (o : Nat) (c : Int), s.blk.ntm.state = .locking → s.ptp.stepped = false →
        ∃ t, exec (.syncReceive dt net h id o c) s = .next t ∧ t.blk.ntm.state = .locking ∧ t.ptp.stepped = true ∧
          t.clock = Clock.ofUnits ((o : Int) * 2 ^ 40 + c * 2 ^ 24 + (s.pathDelay .X : Int) * 2 ^ 40).toNat ∧
          t.blk.ntm.net = some .X) ∧
      (∀ (o : Nat) (c : Int), s.blk.ntm.state = .locked →
        let off := (u.time : Int) - o - c / 65536 - s.pathDelay .X
        (1000 < off.natAbs → s.ptp.overRun = 0 →
          ∃ t, exec (.syncReceive dt net h id o c) s = .next t ∧ t.blk.ntm.state = .locked ∧ t.ptp.overRun = 1) ∧
        (1000 < off.natAbs → 1 ≤ s.ptp.overRun →
          ∃ t, exec (.syncReceive dt net h id o c) s = .next t ∧ t.blk.ntm.state = .slewing) ∧
        (off.natAbs ≤ 1000 → s.blk.ntm.rate.natAbs ≤ 109951163 →
          ∃ t, exec (.syncReceive dt net h id o c) s = .next t ∧ t.blk.ntm.state = .locked ∧ t.ptp.overRun = 0 ∧
            (t.blk.ntm.rate - s.blk.ntm.rate).natAbs ≤ 2199023 ∧ t.clock = u.clock))) ∧
    (s.ptpOk h 0 = true → u.otherFull 60 1 = false → s.blk.ntm.state = .master → ∀ q c,
      exec (.delayReqReceive dt net h id q c) s = .next { u with
        nic := { s.nic with txPtp := ⟨s.nic.txPtp.x ++ [.delayResp h.port id q u.time c],
                                      s.nic.txPtp.y ++ [.delayResp h.port id q u.time c]⟩ } }) ∧
    (∀ q t3 msd n w c, s.ptpOk h 0 = true → u.otherFull 60 1 = false → s.ptp.isSelected id = true →
      s.ptp.reqSent.get (netOfPort h.port) = some (q, t3) → s.ptp.msd.get (netOfPort h.port) = some msd →
      s.timeNode id = some n →
      ∃ t, exec (.delayRespReceive dt net h id s.clockId q w c) s = .next t ∧
        t.ptp.delay.get (netOfPort h.port) = some ((msd + ((w : Int) - t3 - c / 65536)) / 2).toNat ∧
        t.ptp.reqSent.get (netOfPort h.port) = none ∧ t.ptp.firstDelay.get (netOfPort h.port) = true ∧ t.clock = u.clock)

/-- The clock's own timers, where the queues have room: a Delay_Req 1 s after the last one in LOCKED and SLEWING, Sync every
125 ms and Announce every 250 ms as grandmaster on the bus, HOLDOVER after three Sync intervals without a Sync in LOCKED and
SLEWING, the choice 750 ms after the last Announce and grandmaster after 750 ms more as a candidate, grandmaster after 2 s in
WAIT, and the time stored by the K3M once per second (R285, R289, R293, R296). The second announceReceiptTimeout of a candidate is
that of notes/assumptions/42.md. -/
def Obligations.ClockTimersRun : Prop :=
  ∀ (dt : Nat) (s : State),
    let u := s.elapse dt
    (∀ a, s.blk.ntm.state = .locked ∨ s.blk.ntm.state = .slewing → u.otherFull 60 1 = false → s.ptp.lastReq = some a → 125000000 ≤ u.nt - a →
      exec (.delayReqSend dt) s = .next { u with
        ptp := { s.ptp with reqId := (s.ptp.reqId + 1) % 65536, lastReq := some u.nt },
        nic := { s.nic with txPtp := ⟨s.nic.txPtp.x ++ [.delayReq ((s.ptp.reqId + 1) % 65536)],
                                      s.nic.txPtp.y ++ [.delayReq ((s.ptp.reqId + 1) % 65536)]⟩ } }) ∧
    (s.blk.ntm.state = .master → s.blk.ttb.state = .integrated → u.otherFull 60 1 = false → u.otherFull 61 1 = false →
      (∀ a, s.ptp.lastMSync = some a → 15625000 ≤ u.nt - a →
        exec (.masterSyncSend dt) s = .next { u with
          ptp := { s.ptp with lastMSync := some u.nt },
          nic := { s.nic with txPtp := ⟨s.nic.txPtp.x ++ [.sync], s.nic.txPtp.y ++ [.sync]⟩ } }) ∧
      (∀ a, s.ptp.lastMAnn = some a → 31250000 ≤ u.nt - a →
        exec (.masterAnnounceSend dt) s = .next { u with
          ptp := { s.ptp with lastMAnn := some u.nt },
          nic := { s.nic with txPtp := ⟨s.nic.txPtp.x ++ [.announce], s.nic.txPtp.y ++ [.announce]⟩ } })) ∧
    (s.blk.ntm.state = .locked ∨ s.blk.ntm.state = .slewing →
      (∀ a b, s.ptp.lastSync = ⟨some a, some b⟩ → s.ptp.enteredAt ≤ max a b →
        (46875000 ≤ u.nt - max a b →
          ∃ t, exec (.syncTimeout dt) s = .next t ∧ t.blk.ntm.state = .holdover ∧ t.blk.ntm.net = none ∧
            t.clock = u.clock ∧ t = { u with ptp := t.ptp, blk := { s.blk with ntm := t.blk.ntm } }) ∧
        (u.nt - max a b < 46875000 → exec (.syncTimeout dt) s = .next u))) ∧
    (∀ m, s.ptp.selected = some m →
      (u.nt - m.at_ < 93750000 → exec (.announceReceiptTimeout dt) s = .next u) ∧
      (93750000 ≤ u.nt - m.at_ → s.ptp.timedOut = false ∨ s.ptp.candidate = false →
        exec (.announceReceiptTimeout dt) s = .next { u with ptp := { s.ptp with
          timedOut := true, candidate := s.blk.ntm.gmcap && u.wallOk, candidates := [],
          selected := some { m with at_ := u.nt } } }) ∧
      (93750000 ≤ u.nt - m.at_ → s.ptp.timedOut = true → s.ptp.candidate = true →
        ∃ t, exec (.announceReceiptTimeout dt) s = .next t ∧ t.blk.ntm.state = .master ∧ t.ptp.selected = none ∧
          t.blk.ntm.gmid = s.clockId ∧ t.clock = u.clock)) ∧
    (s.blk.ntm.state = .wait → s.blk.ntm.gmcap = true → s.timeRuns = true → 250000000 ≤ u.nt - s.ptp.enteredAt →
      ∃ t, exec (.waitMasterTimeout dt) s = .next t ∧ t.blk.ntm.state = .master ∧ t.start.acquired = true ∧
        t.clock = u.clock ∧ (s.start.acquired = false → s.start.step = 6 → t.start.step = 7)) ∧
    (u.wallOk = true → s.k3m.failed = false →
      ((∀ a, s.k3m.storedAt = some a → 125000000 ≤ u.nt - a) →
        exec (.timeStore dt) s = .next { u with k3m := { s.k3m with storedTime := u.time, storedAt := some u.nt } }) ∧
      (∀ a, s.k3m.storedAt = some a → u.nt - a < 125000000 → exec (.timeStore dt) s = .next u))

/-- INPUT_EDGE_ENTRY sends the oldest change that the safe I/O chip has dated, 39 µs after its time; before that, and with none
dated, only time passes. An entry whose copies the vertices in service pass on undamaged enters the edge FIFO with the overflow
mark of the last one dropped; one that finds 4096 entries is dropped, counted and marks the overflow; copies that differ are
recorded, and the one on which two agree is stored (R300, R301). -/
def Obligations.EdgesEnterTheirFifo : Prop :=
  ∀ (dt : Nat) (c : EdgeCopies) (s : State),
    let u := s.elapse dt
    (s.blk.sio.edges = [] → exec (.inputEdgeEntry dt c) s = .next u) ∧
    (∀ e rest, s.blk.sio.edges = e :: rest →
      let sent : State := { u with blk := { s.blk with sio := { s.blk.sio with edges := rest } } }
      let x : EdgeEntry := { e with current := (List.range 56).map (fun i => c.current.getD i 0) }
      (u.time < e.time + 39000 → exec (.inputEdgeEntry dt c) s = .next u) ∧
      (e.time + 39000 ≤ u.time →
        (c.damaged = Tri.all none → 2 ≤ s.strength →
          (s.edge.entries.length < 4096 →
            exec (.inputEdgeEntry dt c) s = .next { sent with edge := { s.edge with
              entries := s.edge.entries ++ [{ x with ovf := s.edge.ovf }], ovf := false,
              fresh := s.edge.fresh ++ [{ x with ovf := s.edge.ovf }] } }) ∧
          (4096 ≤ s.edge.entries.length →
            exec (.inputEdgeEntry dt c) s = .next { sent with
              blk := { s.blk with
                ntm := { s.blk.ntm with edgDrop := min (s.blk.ntm.edgDrop + 1) 65535, fEdgeovf := some u.nt },
                sio := { s.blk.sio with edges := rest } },
              edge := { s.edge with ovf := true, dropped := min (s.edge.dropped + 1) 65535 } })) ∧
        (∀ d, c.damaged = ⟨none, none, some d⟩ → s.strength = 3 → d ≠ x → s.edge.entries.length < 4096 →
          ∃ t, exec (.inputEdgeEntry dt c) s = .next t ∧
            t.edge.entries = s.edge.entries ++ [{ x with ovf := s.edge.ovf }] ∧
            ∀ v, (s.v v).recs.length < 64 →
              (t.v v).recs = (s.v v).recs ++ [⟨.edgeDisagree, 0x10, shortBody x.input 0 0⟩])))

/-! ### Local inputs and outputs -/

/-- Every vertex in service with room in its buffer has formed one more record: type `typ` of the triangle in common, with the
payload of Table 10.9 (R337, R393). -/
def IoRecorded (s t : State) (typ : RecType) (group kind chan val time : Nat) : Prop :=
  ∀ v, s.inService v = true → (s.v v).recs.length < 64 →
    (t.v v).recs = (s.v v).recs ++ [⟨typ, 0x10, ioBody group kind chan val time⟩]

/-- Nothing has changed from `u` to `t` but the safe I/O chip and the records that the vertices form. -/
def SioOnly (u t : State) : Prop :=
  t = { u with vtx := t.vtx, blk := { u.blk with sio := t.blk.sio } } ∧
    ∀ v, t.v v = { u.v v with recs := (t.v v).recs, recDrop := (t.v v).recDrop,
                              loc := { (u.v v).loc with qdrop := (t.v v).loc.qdrop } }

/-- The lists of the safe I/O chip have their lengths: 32 inputs, 16 pairs, 4 TP outputs, 16 QS and 8 QA outputs. -/
def Sized (x : Sio) : Prop :=
  x.inputs.length = 32 ∧ x.pairs.length = 16 ∧ x.tps.length = 4 ∧ x.qs.length = 16 ∧ x.qa.length = 8

/-- CLASS_CHANGE with 5 consecutive samples of a new class gives the input its class and notes when it left CLOSED; a change that is
captured, in ACRE and not caused by a test pulse (notes/assumptions/42.md), is dated at the first of the five, with the next ESEQ. IO_TICK, when the chip ticks, counts a discrepancy of the two channels of a
pair and starts again where there is none, clears a discrepancy latch with its record where both channels show their safe
class and keeps it elsewhere, and gives every pair outside a two-hand function its output (R300, R307, R312, R314 to R316, R337).
The clearing record has VALUE 0 (notes/assumptions/46.md); the order within a tick is that of notes/assumptions/45.md. -/
def InputsAreEvaluated : Prop :=
  ∀ (dt : Nat) (s : State), Sized s.blk.sio →
    let u := s.elapse dt
    let x := s.blk.sio
    (∀ (i : Fin 32) (a b c d e : Nat), classOf b = classOf a → classOf c = classOf a → classOf d = classOf a →
      classOf e = classOf a → u.inputHeld i.val = false → (x.input i.val).cls ≠ classOf a →
      ∃ t, exec (.classChange dt i [a, b, c, d] e) s = .next t ∧ SioOnly u t ∧ t.vtx = s.vtx ∧
        (t.blk.sio.input i.val) = { x.input i.val with
          cls := classOf a, leftAt := if (x.input i.val).cls = 3 then u.nt else (x.input i.val).leftAt } ∧
        (∀ j, j ≠ i.val → t.blk.sio.input j = x.input j) ∧
        (u.captures i.val (x.input i.val).cls (classOf a) = false → t.blk.sio.edges = x.edges ∧ t.blk.sio.eseq = x.eseq) ∧
        (u.captures i.val (x.input i.val).cls (classOf a) = true → t.blk.sio.eseq = (x.eseq + 1) % 65536 ∧
          t.blk.sio.edges = x.edges ++
            [⟨(u.time - 4000) / 1000 * 1000, i.val, classOf a, (x.input i.val).cls, x.eseq, false, []⟩])) ∧
    (∀ (i : Fin 32) (before : List Nat) (cur : Nat), classRun (before ++ [cur]) = none →
      exec (.classChange dt i before cur) s = .next u) ∧
    (x.fail = false → u.tickDue = true →
      ∃ t, exec (.ioTick dt) s = .next t ∧ SioOnly u t ∧ t.blk.sio.snap = x.inputs.map InputSt.cls ∧
        t.blk.sio.lastTick = some u.nt ∧
        (∀ v, s.inService v = true → (s.v v).recs.length + (x.discClearing u.nt).length ≤ 64 →
          (t.v v).recs = (s.v v).recs ++
            (x.discClearing u.nt).map (fun p => ⟨.ioClear, 0x10, ioBody (p / 8) 1 p 0 u.time⟩)) ∧
        (∀ p, p < 16 → (x.cfg p).func ≠ 0 → (x.pair p).disc = false →
          (t.blk.sio.pair p).disc = false ∧
          (t.blk.sio.pair p).count =
            (if x.perm u.nt (2 * p) = x.perm u.nt (2 * p + 1) then 0 else (x.pair p).count + 1) ∧
          (x.inHand p = false →
            (t.blk.sio.pair p).out = (x.both u.nt p && !(x.input (2 * p)).latched && !(x.input (2 * p + 1)).latched))) ∧
        (∀ p, p < 16 → (x.cfg p).func ≠ 0 → (x.pair p).disc = true →
          (x.bothSafe u.nt p = true → (t.blk.sio.pair p).disc = false ∧ (t.blk.sio.pair p).count = 0) ∧
          (x.bothSafe u.nt p = false → (t.blk.sio.pair p).disc = true))) ∧
    (x.fail = true ∨ u.tickDue = false → exec (.ioTick dt) s = .next u)

/-- Both channels of the pair of input `i` show their safe class (R312). -/
def PairSafe (x : Sio) (nt i : Nat) : Prop :=
  let a := 2 * (i / 2)
  match x.func i with
  | 0 => False
  | 2 => (x.input a).cls = cOpen ∧ (x.input (a + 1)).cls = cClosed
  | 3 => (x.input a).cls = cOpen ∧ (x.input (a + 1)).cls = cClosed
  | 4 => x.ossdOn nt a = false ∧ x.ossdOn nt (a + 1) = false
  | _ => (x.input a).cls = cOpen ∧ (x.input (a + 1)).cls = cOpen

/-- The conditions of R316 on a set latch of input `i`, at a tick: 1000 ticks without its condition, two checks passed on the TP of
the input unless it is of a light curtain, and both channels safe. -/
def LatchClears (x : Sio) (nt i : Nat) (l : InLatch) : Prop :=
  x.fail = false ∧ x.lastTick = some nt ∧ l.set = true ∧ 1000 ≤ l.clean ∧ (x.func i = 4 ∨ 2 ≤ l.passes) ∧ PairSafe x nt i

/-- The latches of the inputs, at a tick: DISCREPANCY_LATCH when the counter is DT and INPUT_FAULT_LATCH after 20 ticks of a fault class,
each with its record, the first with the output of the pair withdrawn; INPUT_LATCH_CLEAR clears the latches that meet R316, with
their records, whose VALUE is 0 (notes/assumptions/46.md), and the pair counts from 0; TWOHAND_TIMEOUT blocks the function at 501
ticks (R309, R315 to R318). -/
def InputLatchesFollowTheirRules : Prop :=
  ∀ (dt : Nat) (s : State), Sized s.blk.sio →
    let u := s.elapse dt
    let x := s.blk.sio
    (∀ p : Fin 16, u.atTick = true → x.fail = false → (x.cfg p.val).func ≠ 0 → (x.pair p.val).count = (x.cfg p.val).dt →
      (x.pair p.val).disc = false → u.supplyLow = false →
      ∃ t, exec (.discrepancyLatch dt p) s = .next t ∧ SioOnly u t ∧ (t.blk.sio.pair p.val).disc = true ∧
        IoRecorded s t .ioFault (p.val / 8) 1 p.val (x.pair p.val).count u.time ∧
        (x.inHand p.val = false → (t.blk.sio.pair p.val).out = false) ∧
        (x.inHand p.val = true →
          (t.blk.sio.pair (p.val / 2 * 2)).hand = .block ∧ (t.blk.sio.pair (p.val / 2 * 2)).out = false)) ∧
    (∀ (i : Fin 32) (cur : Nat), u.atTick = true → x.fail = false → x.func i.val ≠ 0 → 20 ≤ (x.input i.val).bad → u.supplyLow = false →
      ((x.input i.val).cls = 1 → x.contact i.val = true → (x.input i.val).brk.set = false →
        ∃ t, exec (.inputFaultLatch dt i cur) s = .next t ∧ SioOnly u t ∧
          t.blk.sio.input i.val = { x.input i.val with brk := ⟨true, 0, 0⟩ } ∧
          IoRecorded s t .ioFault (i.val / 16) 2 i.val cur u.time) ∧
      ((x.input i.val).cls = 0 → (x.input i.val).inter.set = false →
        ∃ t, exec (.inputFaultLatch dt i cur) s = .next t ∧ SioOnly u t ∧
          t.blk.sio.input i.val = { x.input i.val with inter := ⟨true, 0, 0⟩ } ∧
          IoRecorded s t .ioFault (i.val / 16) 3 i.val cur u.time)) ∧
    (∀ i : Fin 32,
      let y := x.input i.val
      ∀ b n c : Bool, (b = true ↔ LatchClears x u.nt i.val y.brk) → (n = true ↔ LatchClears x u.nt i.val y.inter) →
        (c = true ↔ LatchClears x u.nt i.val y.cross) →
      ∃ t, exec (.inputLatchClear dt i) s = .next t ∧ SioOnly u t ∧
        (t.blk.sio.input i.val).brk.set = (y.brk.set && !b) ∧ (t.blk.sio.input i.val).inter.set = (y.inter.set && !n) ∧
        (t.blk.sio.input i.val).cross.set = (y.cross.set && !c) ∧
        ((b || n || c) = true → (t.blk.sio.pair (i.val / 2)).count = 0) ∧
        ∀ v, s.inService v = true → (s.v v).recs.length + 3 ≤ 64 →
          (t.v v).recs = (s.v v).recs ++ ([(2, b), (3, n), (4, c)].filter Prod.snd).map
            (fun k => ⟨.ioClear, 0x10, ioBody (i.val / 16) k.1 i.val 0 u.time⟩)) ∧
    (∀ (p : Fin 16) (b : Bool) (n : Nat), u.atTick = true → x.fail = false → (x.pair p.val).hand = .one b n → x.handBase p.val = true → 501 ≤ n →
      ∃ t, exec (.twohandTimeout dt p) s = .next t ∧ SioOnly u t ∧ t.vtx = s.vtx ∧
        t.blk.sio.pair p.val = { x.pair p.val with hand := .block, out := false })

/-- InputsAreEvaluated and InputLatchesFollowTheirRules, together. -/
def Obligations.InputsAndLatches : Prop := InputsAreEvaluated ∧ InputLatchesFollowTheirRules

/-- The test-pulse outputs: a pulse that is due, at an instant when no slice of an input that it feeds runs, starts unless the output is off, and a check that the pulse before did not make leaves no
failure; the check 150 µs into the pulse notes for every input that it applies to whether it passed, and for the others no
failure, and latches CROSS_SHORT at the second failure at one TP; an overload switches the output off and latches TP_OVERLOAD, and
a restored one clears it after 1 ms (R310, R311, R335, R337). What is due without
boundaries is that of notes/assumptions/45.md. -/
def TestPulsesAreChecked : Prop :=
  ∀ (dt : Nat) (k : Fin 4) (q : TpSt) (s : State), Sized s.blk.sio → s.blk.sio.tps[k.val]? = some q →
    let u := s.elapse dt
    let x := s.blk.sio
    (q.off = false → q.pulseAt ≠ some u.nt → u.pulseDue k.val = true →
      (∀ r ∈ s.blk.bst.running, r.n < 32 → x.feed r.n ≠ k.val) →
      ∃ t, exec (.tpPulseStart dt k) s = .next t ∧ SioOnly u t ∧ t.vtx = s.vtx ∧
        t.blk.sio.tps[k.val]? = some { q with pulseAt := some u.nt, checked := false } ∧
        t.blk.sio.inputs = (if q.checked then x.inputs
          else x.inputs.map (fun y => { y with xfail := setNth y.xfail k.val false }))) ∧
    (u.pulseDue k.val = false → exec (.tpPulseStart dt k) s = .next u) ∧
    (∀ a (currents : List Nat), q.pulseAt = some a → q.checked = false → 18750 ≤ u.nt - a → u.nt - a < 18875 → x.fail = false →
      ∃ t, exec (.tpPulseCheck dt k currents) s = .next t ∧ SioOnly u t ∧
        t.blk.sio.tps[k.val]? = some { q with checked := true } ∧
        ∀ i, i < 32 →
          (x.pulseApplies i = false →
            t.blk.sio.input i = { x.input i with xfail := setNth (x.input i).xfail k.val false }) ∧
          (x.pulseApplies i = true →
            let pass := x.pulsePass i k.val (currents.getD i 0)
            (t.blk.sio.input i).xfail = setNth (x.input i).xfail k.val (!pass) ∧
            (pass = false → (x.input i).xfail.getD k.val false = true → (x.input i).cross.set = false → u.supplyLow = false →
              (t.blk.sio.input i).cross = ⟨true, 0, 0⟩))) ∧
    (∀ cur us, q.off = false → 15000 < cur → 1000 ≤ us →
      ∃ t, exec (.tpOverload dt k cur us) s = .next t ∧ SioOnly u t ∧
        t.blk.sio.tps[k.val]? = some { q with off := true, overload := true, restoreAt := none, pulseAt := none } ∧
        (q.overload = false → IoRecorded s t .ioFault (k.val / 2) 5 k.val cur u.time)) ∧
    (∀ cur us, q.restored u.nt = true → q.off = false → cur ≤ 15000 → 1000 ≤ us →
      ∃ t, exec (.tpRestoreEnd dt k cur us) s = .next t ∧ SioOnly u t ∧
        t.blk.sio.tps[k.val]? = some { q with overload := false, restoreAt := none } ∧
        IoRecorded s t .ioClear (k.val / 2) 5 k.val cur u.time)

/-- Output tests: the start of a test slot, with no slice of the output running, starts the test of its switch, the expected reading 20 to 300 µs later ends it, no
reading by 300 µs latches the fault of Table 10.7, an abandoned test is repeated at a rod boundary of the next furlong, and the
reset test of two good switches clears every latch of the output with its records, while a bad switch latches with a record
(R326, R327, R335, R337). The VALUE of these
records is that of notes/assumptions/46.md. -/
def OutputTestsRun : Prop :=
  ∀ (dt : Nat) (s : State), Sized s.blk.sio →
    let u := s.elapse dt
    let x := s.blk.sio
    (∀ k : Fin 32, u.onGrid 31250000 0 = true → u.testSlot % 32 = k.val → x.lastSlot ≠ some u.testSlot →
      (∀ r ∈ s.blk.bst.running, r.n ≠ 32 + k.val / 2) →
      exec (.outputTestSlot dt k) s = .next { u with blk := { s.blk with sio := { x with
        lastSlot := some u.testSlot,
        tests := if x.mayTest (k.val / 2) = true then some ⟨k.val / 2, k.val % 2 == 1, (x.out (k.val / 2)).on, u.nt⟩
          else x.tests } } }) ∧
    (∀ q supply p m, x.tests = some q → q.expected (levelOf supply p) (levelOf supply m) = true → 2500 ≤ u.nt - q.at_ →
      u.nt - q.at_ ≤ 37500 →
      exec (.outputTestReading dt supply p m) s = .next { u with blk := { s.blk with sio := { x with tests := none } } }) ∧
    (∀ q volt, x.tests = some q → 37500 ≤ u.nt - q.at_ → q.n < 16 → (x.out q.n).faults.has q.fault = false →
      ∃ t, exec (.outputTestTimeout dt volt) s = .next t ∧ SioOnly u t ∧ t.blk.sio.tests = none ∧
        (t.blk.sio.out q.n).faults = (x.out q.n).faults.latch q.fault ∧ (t.blk.sio.out q.n).on = false ∧
        IoRecorded s t .ioFault 2 q.fault.code q.n volt u.time) ∧
    (∀ r rest, x.repeats = r :: rest → u.repeatDue r = true → x.tests = none →
      exec (.outputTestRepeat dt) s = .next { u with blk := { s.blk with sio := { x with
        repeats := rest, tests := if x.mayTest r.n = true then some ⟨r.n, r.low, (x.out r.n).on, u.nt⟩ else none } } }) ∧
    (∀ (n : Fin 16) (hs ls : TermReading), (x.out n.val).resetRuns u.nt = true →
      let f := (x.out n.val).faults
      ∃ t, exec (.latchResetTestEnd dt n hs ls) s = .next t ∧ SioOnly u t ∧ (t.blk.sio.out n.val).resetAt = none ∧
        (levelOf hs.supply hs.volt = .high → levelOf ls.supply ls.volt = .low →
          (t.blk.sio.out n.val).faults = .none ∧
          ∀ v, s.inService v = true → (s.v v).recs.length + 6 ≤ 64 →
            (t.v v).recs = (s.v v).recs ++
              (QsKind.all.filter f.has).map (fun k => ⟨.ioClear, 0x10, ioBody 2 k.code n.val 0 u.time⟩)) ∧
        (levelOf hs.supply hs.volt ≠ .high → levelOf ls.supply ls.volt = .low →
          (t.blk.sio.out n.val).faults = f.latch .hsOff ∧ (t.blk.sio.out n.val).on = false ∧
          IoRecorded s t .ioFault 2 0x0A n.val hs.volt u.time) ∧
        (levelOf hs.supply hs.volt = .high → levelOf ls.supply ls.volt ≠ .low →
          (t.blk.sio.out n.val).faults = f.latch .lsOff ∧ (t.blk.sio.out n.val).on = false ∧
          IoRecorded s t .ioFault 2 0x0B n.val ls.volt u.time))

/-- TestPulsesAreChecked and OutputTestsRun, together. -/
def Obligations.OutputsAreTested : Prop := TestPulsesAreChecked ∧ OutputTestsRun

/-- Faults of the outputs: overcurrent, open load and a stuck terminal latch their fault and open both switches of the QS output, a
differing read-back latches the QA output and opens it, each with its record (R325, R328, R337). -/
def OutputFaultsOpenTheOutput : Prop :=
  ∀ (dt : Nat) (s : State), Sized s.blk.sio →
    let u := s.elapse dt
    let x := s.blk.sio
    let latched := fun (o : Host.Outcome State Fault Refusal) (n : Nat) (k : QsKind) (val : Nat) =>
      ∃ t, o = .next t ∧ SioOnly u t ∧ (t.blk.sio.out n).faults = (x.out n).faults.latch k ∧
        (t.blk.sio.out n).on = false ∧ IoRecorded s t .ioFault 2 k.code n val u.time ∧
        ∀ j, j ≠ n → (t.blk.sio.out j).faults = (x.out j).faults
    (∀ (n : Fin 16) (cur us : Nat), 60000 < cur → 100 ≤ us → (x.out n.val).faults.overcur = false →
      latched (exec (.qsOvercurrent dt n cur us) s) n.val .overcur cur) ∧
    (∀ (n : Fin 16) (cur us : Nat), (x.out n.val).on = true → cur < x.imin n.val → 10000 ≤ us →
      (x.out n.val).faults.openLoad = false → latched (exec (.qsOpenLoad dt n cur us) s) n.val .openLoad cur) ∧
    (∀ (n : Fin 16) (plus minus supply : Nat), (x.out n.val).on = false → x.testing n.val = false →
      (levelOf supply plus = .high → levelOf supply minus ≠ .low → (x.out n.val).faults.hsOn = false →
        latched (exec (.qsStuckOn dt n plus minus supply) s) n.val .hsOn plus) ∧
      (levelOf supply plus ≠ .high → levelOf supply minus = .low → (x.out n.val).faults.lsOn = false →
        latched (exec (.qsStuckOn dt n plus minus supply) s) n.val .lsOn minus) ∧
      (levelOf supply plus = .high → levelOf supply minus = .low →
        ∃ t, exec (.qsStuckOn dt n plus minus supply) s = .next t ∧ SioOnly u t ∧
          (t.blk.sio.out n.val).faults = ((x.out n.val).faults.latch .hsOn).latch .lsOn)) ∧
    (∀ (j : Fin 8) (us volt : Nat), (x.aux j.val).latched = false → 1000 ≤ us →
      ∃ t, exec (.qaReadback dt j (!(x.aux j.val).on) us volt) s = .next t ∧ SioOnly u t ∧
        (t.blk.sio.aux j.val).latched = true ∧ (t.blk.sio.aux j.val).on = false ∧
        IoRecorded s t .ioFault 3 0x0E j.val volt u.time)

/-- The field supply and the chip: every sample counts for the lowest one; one below 19.2 V sets the warning and records it for both output groups once in a
furlong, 100 ms without one clear it, 42 samples below 16.0 V open every output until a fresh commit, SUPPLY_LOST clears after 100 ms, and SIO_FAIL is safe until a restart
(R331, R332, R336, R337, R342). The VALUE of the records is that of notes/assumptions/46.md. -/
def SupplyAndChipFaults : Prop :=
  ∀ (dt : Nat) (s : State),
    let u := s.elapse dt
    let x := s.blk.sio
    (∀ volt, 1920 ≤ volt →
      ∃ t, exec (.supplyWarn dt volt) s = .next t ∧ SioOnly u t ∧ t.vtx = s.vtx ∧ t.blk.sio.warn = x.warn ∧
        t.blk.sio.volt = volt ∧ t.blk.sio.voltMin = some (min (x.voltMin.getD volt) volt)) ∧
    (∀ volt, volt < 1920 → (∀ r ∈ s.blk.bst.running, r.n ≠ 57) →
      ∃ t, exec (.supplyWarn dt volt) s = .next t ∧ SioOnly u t ∧ t.blk.sio.warn = true ∧ t.blk.sio.volt = volt ∧
        t.blk.sio.voltMin = some (min (x.voltMin.getD volt) volt) ∧ t.blk.sio.lastWarn = some u.nt ∧ t.blk.sio.warnFurl = some s.fnum ∧
        (volt < 1800 → t.blk.sio.lastLow = some u.nt) ∧ (x.warnFurl = some s.fnum → t.vtx = s.vtx) ∧
        (x.warnFurl ≠ some s.fnum → ∀ v, s.inService v = true → (s.v v).recs.length + 2 ≤ 64 →
          (t.v v).recs = (s.v v).recs ++
            [2, 3].map (fun g => ⟨.ioFault, 0x10, ioBody g 0x10 0xFF volt u.time⟩))) ∧
    (u.supplyGood = true →
      exec (.supplyWarnClear dt) s = .next { u with blk := { s.blk with sio := { x with warn := false } } }) ∧
    (∀ volt run, volt < 1600 → 42 ≤ run → x.lost = false →
      ∃ t, exec (.supplyLost dt volt run) s = .next t ∧ t.blk.sio.lost = true ∧ t.blk.bst.running = [] ∧
        t.blk.sio.tests = none ∧ (∀ q ∈ t.blk.sio.qs, q.on = false ∧ q.fresh = .needOff) ∧
        (∀ q ∈ t.blk.sio.qa, q.on = false ∧ q.fresh = .needOff) ∧ t.mode = s.mode) ∧
    (u.supplyGood = true → x.lost = true →
      ∃ t, exec (.supplyLostClear dt) s = .next t ∧ SioOnly u t ∧ t.blk.sio.lost = false ∧
        ∀ q ∈ t.blk.sio.qs, q.fresh ≠ .none → q.on = false) ∧
    (x.fail = true → exec (.sioFail dt) s = .next u) ∧
    (x.fail = false →
      ∃ t, exec (.sioFail dt) s = .next t ∧ t.blk.sio.fail = true ∧ t.blk.bst.running = [] ∧ t.blk.sio.tests = none ∧
        (∀ q ∈ t.blk.sio.qs, q.on = false) ∧ t.mode = s.mode ∧
        ∀ v, s.inService v = true → (s.v v).recs.length + 4 ≤ 64 →
          (t.v v).recs = (s.v v).recs ++ [0, 1, 2, 3].map (fun g => ⟨.ioFault, 0x10, ioBody g 0x13 0xFF 0 u.time⟩))

/-- OutputFaultsOpenTheOutput and SupplyAndChipFaults, together. -/
def Obligations.OutputAndSupplyFaults : Prop := OutputFaultsOpenTheOutput ∧ SupplyAndChipFaults

/-! ### The pair -/

/-- Every vertex in service with room in its buffer has formed one more record with source 16#10. -/
def Recorded (s t : State) (typ : RecType) (body : List Byte) : Prop :=
  ∀ v, s.inService v = true → (s.v v).recs.length < 64 → (t.v v).recs = (s.v v).recs ++ [⟨typ, 0x10, body⟩]

/-- HEARTBEAT_SEND at a whole multiple of 25 µs sends one HEARTBEAT on both links, but for one whose port is held down, with the mode, the furlong number, SEQ T / 25 µs and right codes;
HEARTBEAT_RECEIVE of a frame that passes the checks brings its link UP and the partner heard, counts one that fails step 4, notes a
partner of another set and takes evidence from an ACTIVE one of the same set, later by the delay of CHDD; CHORD_DOWN after 300 µs takes the link down, counted and
recorded (R343 to R347, R356, R387). MSEQ before the first set, and the rest that Table 11.2 leaves open, is that of
notes/assumptions/40.md. -/
def HeartbeatsTellOfThePartner : Prop :=
  ∀ (dt : Nat) (l : Link) (s : State),
    let u := s.elapse dt
    (s.mode = .resync ∨ s.mode = .standby ∨ s.mode = .active → s.pair.silent = false → s.boundaries = true →
      s.inReset = false → u.onGrid 25000 0 = true →
      ∃ f, exec (.heartbeatSend dt) s = .next { u with
          out := (if s.pair.c2.down then [] else [.chord .C2 f]) ++ (if s.pair.c1.down then [] else [.chord .C1 f]) ++ s.out } ∧
        f.kind = kHeartbeat ∧ f.src = s.ownSrc ∧ f.len = 32 ∧ f.payload.length = 32 ∧ f.codesOk 0 = true ∧
        f.seq = BitVec.ofNat 32 (u.time / 25000) ∧ (beatOf f.payload).mode = modeCode s.mode ∧
        (s.mode = .active → (beatOf f.payload).mseq = s.pair.formed.toNat) ∧
        (beatOf f.payload).furlong = s.fnum % 2 ^ 32) ∧
    (∀ pre f, u.chordOn l = true → u.chordReject l kHeartbeat 0 f = none →
      let b := beatOf f.payload
      ((s.pair.link l).stepFour (pre + u.chordLate l) f = false → exec (.heartbeatReceive dt l pre f) s = .next (u.chordErr l)) ∧
      ((s.pair.link l).stepFour (pre + u.chordLate l) f = true → s.mode ≠ .active →
        ∃ t, exec (.heartbeatReceive dt l pre f) s = .next t ∧ linkOf t.blk.chd.up l = true ∧
          (t.pair.link l).lastAt = some (u.nt + u.chordDelay l) ∧ (t.pair.link l).lastSeq = some f.seq ∧ t.blk.chd.heard = true ∧
          t.blk.chd.pmode = b.mode % 8 ∧ t.blk.cyc.partner = true ∧ t.mode = s.mode ∧
          (s.sameSet b = false → t.blk.chd.buildmm = true ∧ t.pair.evidActive = s.pair.evidActive) ∧
          (s.sameSet b = true → b.mode = 4 → testB b.flags 1 = false → testB b.flags 2 = false →
            t.pair.evidActive = some (u.nt + u.chordDelay l)))) ∧
    (linkOf s.blk.chd.up l = true → (∀ a, (s.pair.link l).lastAt = some a → 37500 < u.nt - a) → s.inReset = false →
      ∃ t, exec (.chordDown dt l) s = .next t ∧ linkOf t.blk.chd.up l = false ∧
        linkOf t.blk.chd.down l = min (linkOf s.blk.chd.down l + 1) 255 ∧ t.mode = s.mode ∧
        Recorded s t .chordDown (shortBody (linkNum l) 0 0))

/-- MDATA_RECEIVE writes a new chunk of the set of this furlong into the receive area of every vertex, MCOMMIT_RECEIVE with the module's
own values marks the set, and MIRROR_CUTOFF counts the set sent or abandoned (R352, R353); what becomes of a chunk beyond NCHUNK and
when a set has been sent is in notes/assumptions/50.md. -/
def MirrorSetsAreReceived : Prop :=
  ∀ (dt : Nat) (l : Link) (f : ChordFrame) (s : State),
    let u := s.elapse dt
    (u.chordOn l = true → u.chordReject l kMdata s.blk.ttb.mid f = none →
      (u.inTime l f = false → exec (.mdataReceive dt l f) s = .next (u.chordErr l)) ∧
      (u.inTime l f = true → (s.rxSet f.seq).chunks.contains f.idx.toNat = false → f.idx.toNat < s.blk.chd.nchunk →
        ∃ t, exec (.mdataReceive dt l f) s = .next t ∧
          t.pair.rx = some { s.rxSet f.seq with chunks := f.idx.toNat :: (s.rxSet f.seq).chunks } ∧ t.mode = s.mode ∧
          ∀ v, t.v v = { s.v v with
            mem := (s.v v).mem.putChunk (mirrorBase s.profile + 1024 * f.idx.toNat) f.payload })) ∧
    (u.chordOn l = true → u.chordReject l kMcommit s.blk.ttb.mid f = none → u.inTime l f = true →
      (s.mcommitOk f.payload = true →
        ∃ t, exec (.mcommitReceive dt l f) s = .next t ∧
          t.pair.rx = some { s.rxSet f.seq with commit := true } ∧ t.vtx = s.vtx ∧ t.mode = s.mode) ∧
      (s.mcommitOk f.payload = false → exec (.mcommitReceive dt l f) s = .next u)) ∧
    (∀ x, s.pair.tx = some x → u.furlongStart (s.fnum + 1) ≤ u.time + 20000 →
      (x.doneAt ≤ u.nt →
        exec (.mirrorCutoff dt) s = .next { u with
          pair := { s.pair with tx := none },
          blk := { s.blk with chd := { s.blk.chd with sent := min (s.blk.chd.sent + 1) 65535 } } }) ∧
      (u.nt < x.doneAt →
        exec (.mirrorCutoff dt) s = .next { u with
          pair := { s.pair with tx := none },
          blk := { s.blk with chd := { s.blk.chd with abandon := min (s.blk.chd.abandon + 1) 255 } } }))

/-- HeartbeatsTellOfThePartner and MirrorSetsAreReceived, together. -/
def Obligations.PairPartners : Prop := HeartbeatsTellOfThePartner ∧ MirrorSetsAreReceived

/-- TAKEOVER_DECISION decides on silence; TAKEOVER at a rod boundary at least 20 µs later makes the standby ACTIVE with the cause kept,
and no other instant does; YIELD_STOP at such a boundary stops the junior that detected split brain 20 µs before; HOME_ELIGIBLE in the
window acts as a handover request for two furlongs on, with its record (R357, R358, R361, R362, R365; ARG1 of the record is that of
notes/assumptions/40.md). -/
def Obligations.TakeoverYieldAndReturn : Prop :=
  ∀ (dt : Nat) (s : State),
    let u := s.elapse dt
    (u.silence = true →
      exec (.takeoverDecision dt) s = .next { u with pair := { s.pair with decided := some (u.nt, 1) } }) ∧
    (∀ a cause, s.pair.decided = some (a, cause) → s.mode = .standby → 2500 ≤ u.nt - a → s.pair.noTakeover = false →
      u.atRod = true →
      ∃ t, exec (.takeover dt) s = .next t ∧ t.mode = .active ∧ t.blk.cyc.cause = .takeover ∧
        t.blk.chd.tkoCause = cause ∧ t.pair.decided = none ∧ t.pair.tookOver = some s.fnum ∧ t.fnum = s.fnum) ∧
    (∀ a cause, s.pair.decided = some (a, cause) → u.nt - a < 2500 ∨ u.atRod = false → exec (.takeover dt) s = .next u) ∧
    (∀ a, s.pair.yieldAt = some a → s.mode = .active → 2500 ≤ u.nt - a → u.atRod = true →
      exec (.yieldStop dt) s = .next { u with pair := { s.pair with yielded := true } }) ∧
    (s.homeEligible = true → s.boundaries = true → s.inWindow = true → s.pair.target = none → s.pair.tries < 16 →
      s.strength = 3 →
      ∃ t, exec (.homeEligible dt) s = .next t ∧ t.pair.target = some (s.fnum + 2) ∧
        t.pair.judged = some (s.fnum + 2) ∧ t.pair.tries = s.pair.tries + 1 ∧
        t.blk.chd.host = .horeq ∧ t.mode = s.mode ∧ Recorded s t .homeReturn (shortBody (s.fnum % 2 ^ 32) 0 0))

/-! ### Supply, memory test, self-test -/

/-- A supply input is lost below 32 V and present from 34 V on; with both lost the K3M saves its counters and the power-down mark
and starts no NOR write; the power-down reset with both lost at 30 V opens every output and holds the module until an input has been present for 100 ms (R444 to R448). -/
def Obligations.PowerIsSupervised : Prop :=
  ∀ (dt : Nat) (s : State),
    let u := s.elapse dt
    (∀ p volt us, (s.supply.input p).disconnected = false →
      ((s.supply.input p).present = true → volt < 3200 →
        ∃ t, exec (.supplyInput dt p volt us) s = .next t ∧ (t.supply.input p).present = false ∧ t.mode = s.mode) ∧
      ((s.supply.input p).present = false → 3400 ≤ volt → volt ≤ 8000 →
        ∃ t, exec (.supplyInput dt p volt us) s = .next t ∧ (t.supply.input p).present = true ∧
          (t.supply.input p).since = u.nt ∧ (s.supply.held = false → t.supply.bothLost = false)) ∧
      ((s.supply.input p).present = true → 8000 < volt → 1000 < us →
        ∃ t, exec (.supplyInput dt p volt us) s = .next t ∧ (t.supply.input p).disconnected = true ∧
          (t.supply.input p).present = false)) ∧
    (s.supply.any = false → s.supply.bothLost = false → s.k3m.failed = false →
      ∃ t, exec (.bothInputsLost dt) s = .next t ∧ t.supply.bothLost = true ∧ t.recorder.saved = u.recorder.optime ∧
        t.recorder.norHold = true ∧ t.recorder.lost = s.recorder.queue.length ∧ t.k3m.mark = some (u.recorder.optime, s.recorder.queue.length) ∧
        t.vtx = s.vtx ∧ t.blk = s.blk) ∧
    (∀ store, s.supply.any = true → exec (.powerDownReset dt store) s = .next u) ∧
    (∀ store, store ≤ 3000 → s.supply.any = false → s.supply.held = false →
      ∃ t, exec (.powerDownReset dt store) s = .next t ∧ t.inReset = true ∧ t.supply.held = true ∧ t.boundaries = false ∧
        t.out = s.out ∧ (∀ q ∈ t.blk.sio.qs, q.on = false) ∧ (∀ q ∈ t.blk.sio.qa, q.on = false) ∧
        (∀ n, (t.guard.get n).schedule = none) ∧ (∀ v, (t.v v).cur = none ∧ (t.v v).key = none) ∧
        t.recorder.log = s.recorder.log ∧ t.recorder.seq = s.recorder.seq) ∧
    (s.supply.held = true → u.supply.a.steady u.nt = true ∨ u.supply.b.steady u.nt = true →
      exec (.resetRelease dt) s = .next { u with supply := { s.supply with held := false, bothLost := false } })

/-- PRESERVING_PIECE starts the next piece of a requested bank in the slack, once the mirror set and the reserved slices are done and before
the recorder's writes, its result cleared; PIECE_COMPLETE advances on a pass, with the signature of a fault-free march and 11264 operations, and on a failure latches the bank and takes its consequence: a vertex in service stops with WD,
HALT for banks 5 and 6, the K3M failed for bank 7 (R56, R374, R376 to R378, R383). The order in which an engine takes its banks is
that of notes/assumptions/56.md. -/
def MarchPiecesAreJudged : Prop :=
  ∀ (dt : Nat) (chip : Vtx) (bank : Fin 8) (s : State),
    let u := s.elapse dt
    let b := bank.val
    let e := s.engine chip b
    (u.ordinaryTurn = false → u.backToBack chip = false → exec (.preservingPiece dt chip bank) s = .next u) ∧
    (b < 5 → e.run = none → e.bank = some b → u.marchWaits chip = false → u.slackFree = true → u.ordinaryTurn = true →
      u.fitsSlack (pieceNs b) 10000 = true →
      ∃ t, exec (.preservingPiece dt chip bank) s = .next t ∧
        (t.engine chip b) = { e with run := some ⟨b, e.next, (s.v chip).mem.ecc.any (inPiece b e.next), clearedResult⟩, cur := some b } ∧
        t = { u with engines := t.engines, vtx := t.vtx } ∧ (∀ w, w ≠ chip → t.v w = s.v w) ∧
        (t.v chip).mem = { (s.v chip).mem with
          ecc1 := (s.v chip).mem.ecc1.filter (fun k => !inPiece b e.next k) }) ∧
    (5 ≤ b → e.run = none → e.bank = some b → u.slackFree = true → u.ordinaryTurn = true → u.fitsSlack (pieceNs b) 10000 = true →
      exec (.preservingPiece dt chip bank) s =
        .next ((u.modEngine chip b (fun e =>
          { e with run := some ⟨b, e.next, s.shEcc.hard.any (inSharedPiece b e.next), clearedResult⟩, cur := some b })).scrubShared (inSharedPiece b e.next))) ∧
    (∀ (r : TestResult) (word bitNo : Nat) (p : PieceRun), e.run = some p → p.bank = b →
      (p.passes r = true ↔ p.bad = false ∧ r.sig = marchSig ∧ r.count = 11264 ∧ r.complete = 0xC3A5#16) ∧
      (p.passes r = true →
        exec (.pieceComplete dt chip bank r word bitNo) s = .next (u.modEngine chip b (fun e => e.advance u.nt b true))) ∧
      (p.passes r = false → b < 5 → s.blk.cen.rejVtx = none → s.inService chip = true → s.trial chip = false →
        ∃ t, exec (.pieceComplete dt chip bank r word bitNo) s = .next t ∧ StopsWith s t chip (.trap .ecc) ∧
          (t.engine chip b).fail.getLsbD b = true) ∧
      (p.passes r = false → 5 ≤ b → b < 7 → s.mode ≠ .halt →
        ∃ t, exec (.pieceComplete dt chip bank r word bitNo) s = .next t ∧ t.mode = .halt ∧
          t.blk.cyc.cause = .bistFail ∧ t.engN.fail.getLsbD b = true) ∧
      (p.passes r = false → b = 7 →
        ∃ t, exec (.pieceComplete dt chip bank r word bitNo) s = .next t ∧ t.k3m.failed = true ∧ t.mode = s.mode))

/-- Analogue slices: SLICE_START in the slack after the mirror set, a reserved one first and no other after a recorder write, SLICE_ABANDON
counted; a new class, a pulse, a test slot and a low sample abandon the slices whose service they ask for; SLICE_COMPLETE with a pass
within 50 µs clears the slice, with a first failure keeps it for the reserved slot, and with a second that two vertices in service
judge has the consequence of Table 12.6; SELFTEST_OVERDUE after 10 s is recorded with the slice's result (R56, R379 to R383). What a
reserved slice waits for is that of notes/assumptions/48.md. -/
def SlicesAreRunAndJudged : Prop :=
  ∀ (dt n : Nat) (s : State),
    let u := s.elapse dt
    let b := s.blk.bst
    (u.fitsSlack sliceNs 0 = true → u.mirrorSent = true → u.sliceMayStart n = true →
      ∃ t, exec (.sliceStart dt n) s = .next t ∧ t = { u with blk := { s.blk with bst := t.blk.bst } } ∧
        t.blk.bst.running = ⟨n, (b.slice n).due s.fnum, u.nt⟩ :: b.running ∧
        ((b.slice n).due s.fnum = true → u.channelClear n = true) ∧
        (∀ x, t.blk.bst.slices[n]? = some x → x.res = clearedResult) ∧
        ((b.slice n).due s.fnum = false → u.ordinaryTurn = true ∧ b.next = n ∧ t.blk.bst.next = (n + 1) % 69)) ∧
    (sliceYields n = true → (∃ r ∈ b.running, r.n = n ∧ r.reserved = false) →
      ∃ t, exec (.sliceAbandon dt n) s = .next t ∧ t = { u with blk := { s.blk with bst := t.blk.bst } } ∧
        t.blk.bst.running = b.running.filter (fun r => r.n != n) ∧ t.blk.bst.abandon = min (b.abandon + 1) 65535) ∧
    (let ends := fun (o : Host.Outcome State Fault Refusal) (m : Nat) =>
        ∃ t, o = .next t ∧ ∀ r ∈ t.blk.bst.running, r.n = m → r.reserved = true;
      (∀ volt, volt < 1920 → ends (exec (.supplyWarn dt volt) s) 57) ∧
      (∀ (i : Fin 32) (a : Nat), (s.blk.sio.input i.val).cls ≠ classOf a → ends (exec (.classChange dt i [a, a, a, a] a) s) i.val) ∧
      (∀ (k : Fin 32), u.onGrid 31250000 0 = true → u.testSlot % 32 = k.val → s.blk.sio.lastSlot ≠ some u.testSlot →
        ends (exec (.outputTestSlot dt k) s) (32 + k.val / 2)) ∧
      (∀ (k : Fin 4) q m, s.blk.sio.tps[k.val]? = some q → q.off = false → q.pulseAt ≠ some u.nt → u.pulseDue k.val = true →
        m < 32 → s.blk.sio.feed m = k.val → ends (exec (.tpPulseStart dt k) s) m)) ∧
    (∀ r : TestResult, (∃ q ∈ b.running, q.n = n) → ∀ pass : Bool,
      (pass = true ↔ slicePasses n r = true ∧ ∃ q ∈ b.running, q.n = n ∧ u.nt - q.at_ ≤ 6250) →
      (∀ x, b.slices[n]? = some x → (pass = true ∨ x.retry = false) →
        ∃ t, exec (.sliceComplete dt n r) s = .next t ∧ t = { u with blk := { s.blk with bst := t.blk.bst } } ∧
          t.blk.bst.running = b.running.filter (fun q => q.n != n) ∧
          ∃ y, t.blk.bst.slices[n]? = some y ∧ y.pass = pass ∧ y.res = r ∧ y.cons = 0 ∧
            (pass = true → y.retry = false ∧ y.failed = x.failed) ∧
            (pass = false → y.retry = true ∧ y.reserved = true)) ∧
      (pass = false → (b.slice n).retry = true → 2 ≤ s.serving.length →
        (n < 56 ∨ n = 57 ∨ n = 67 → s.blk.sio.fail = false →
          ∃ t, exec (.sliceComplete dt n r) s = .next t ∧ t.blk.sio.fail = true ∧ t.blk.bst.fail = true) ∧
        (n = 56 → s.mode ≠ .halt →
          ∃ t, exec (.sliceComplete dt n r) s = .next t ∧ t.mode = .halt ∧ t.blk.cyc.cause = .bistFail) ∧
        (n = 64 → ∃ t, exec (.sliceComplete dt n r) s = .next t ∧ t.k3m.failed = true ∧ t.mode = s.mode) ∧
        (n = 65 → ∃ t, exec (.sliceComplete dt n r) s = .next t ∧ t.blk.ttb.syncLost.get .X = true ∧
          (t.guard.get .X).cut = true))) ∧
    (n < 69 → 1250000000 ≤ u.nt - (b.slice n).doneNt → (b.slice n).late = false →
      ∃ t, exec (.selftestOverdue dt n) s = .next t ∧ t.blk.bst.overdue = true ∧ t.mode = s.mode ∧
        (∀ x, b.slices[n]? = some x → t.blk.bst.slices[n]? = some { x.mark s.fnum with late := true }) ∧
        Recorded s t .selftestOverdue (shortBody n (b.slice n).res.sig.toNat (b.slice n).res.count))

/-- MarchPiecesAreJudged and SlicesAreRunAndJudged, together. -/
def Obligations.SelfTestsAreJudged : Prop := MarchPiecesAreJudged ∧ SlicesAreRunAndJudged

/-- FUSECTL_BURN in COMMISSION burns the soft repairs of a bank of the vertex when its fuses have room, never otherwise, for banks 5 to 7
when the writes of two vertices agree, and outside COMMISSION is refused with WRITE_REFUSED; PMCTL_REQ adds its requests for the next boundary; a PTB write outside MAINTENANCE is refused first, with SW4 off
next, and otherwise stands for the vertex (R14, R377, R386, R387, R391, Table 0.3). -/
def Obligations.TestRegistersAreGuarded : Prop :=
  ∀ (v : Vtx) (val : Word) (s : State),
    (∀ readOk,
      let b := (val.extractLsb' 0 3).toNat
      (s.mode ≠ .commission → exec (.fusectlBurn v val readOk) s = .next (s.recBy v .writeRefused 0x08007018 1 0)) ∧
      (s.mode = .commission → val.getLsbD 3 = true → b < 5 →
        ((s.toBurn v b).length ≤ s.fusesLeft v b →
          ∃ t, exec (.fusectlBurn v val readOk) s = .next t ∧
            t.fuses.get v = s.fuses.get v ++ (s.toBurn v b).map (fun r => { r with fused := true }) ∧
            (t.fuse.get v).done = readOk ∧ (t.fuse.get v).err = !readOk ∧ t.mode = s.mode ∧
            (∀ w, w ≠ v → t.fuses.get w = s.fuses.get w) ∧ t.fusesSh = s.fusesSh) ∧
        (s.fusesLeft v b < (s.toBurn v b).length →
          exec (.fusectlBurn v val readOk) s = .next { s with fuse := s.fuse.set v ⟨b, false, false, true⟩ })) ∧
      (s.mode = .commission → val.getLsbD 3 = true → 5 ≤ b → s.inService v = true →
        (s.voters 0x08007018 val = [] →
          ∃ t, exec (.fusectlBurn v val readOk) s = .next t ∧ (t.fuse.get v).burn = true ∧ (t.fuse.get v).bank = b ∧
            t.fusesSh = s.fusesSh ∧ t.mode = s.mode) ∧
        (∀ w, w ≠ v → s.inService w = true → s.voters 0x08007018 val = [w] → (s.toBurn v b).length ≤ s.fusesLeft v b →
          ∃ t, exec (.fusectlBurn v val readOk) s = .next t ∧
            t.fusesSh = s.fusesSh ++ (s.toBurn v b).map (fun r => { r with fused := true }) ∧ t.fuses = s.fuses ∧
            ∀ x, s.inService x = true →
              (t.fuse.get x).burn = false ∧ (t.fuse.get x).done = readOk ∧ (t.fuse.get x).err = !readOk) ∧
        (∀ w y, w ≠ v → y ≠ v → w ≠ y → s.inService w = true → s.inService y = true → s.voters 0x08007018 val = [w, y] →
          ∃ t, exec (.fusectlBurn v val readOk) s = .next t ∧ t.fuse = s.fuse ∧ t.fusesSh = s.fusesSh))) ∧
    exec (.pmctlReq v val) s = .next { s with
      engines := s.engines.set v { s.engines.get v with
        newReq := (s.engines.get v).newReq ||| (val.extractLsb' 0 8 &&& 0x1F#8) },
      sharedReq := s.sharedReq.set v (s.sharedReq.get v ||| (val.extractLsb' 0 8 &&& 0xE0#8)) } ∧
    (∀ off : BitVec 12,
      (s.mode ≠ .maintenance →
        exec (.ptbWrite v off val) s = .next (s.recBy v .writeRefused (0x0800B000 + off.toNat) 1 0)) ∧
      (s.mode = .maintenance → s.blk.cyc.sw4 = false →
        exec (.ptbWrite v off val) s = .next (s.recBy v .sealRefused (0x0800B000 + off.toNat) 0 0)) ∧
      (s.mode = .maintenance → s.blk.cyc.sw4 = true →
        ∃ t, exec (.ptbWrite v off val) s = .next t ∧ t = { s with blk := { s.blk with ptb := t.blk.ptb } } ∧
          t.blk.ptb.own = s.blk.ptb.own.set v ((s.blk.ptb.own.get v).write off.toNat val) ∧
          t.blk.ptb.force = s.blk.ptb.force ∧
          (off = 0x004#12 → (t.blk.ptb.own.get v).strd = val &&& 0x00003F03#32)))

/-! ### The event recorder -/

/-- RECORD_FORM folds a record into its open fold, enters it in the write queue, or drops and counts it on a full queue; RECORD_COMMIT in the
recorder's turn of the slack, or while no boundary is raised, programs the oldest record with the next SEQ, opens the next sector for one
that does not fit, retires the sector on a mismatch, leaves a torn record when the K3M stops, fails the log without a response, goes to
the fallback entries in LOG_FAIL, and waits in a FREEZE; FOLD_TIMEOUT leaves no fold older than 600 units; SECTOR_ERASE_END ends or
retires (R56, R394, R398, R399, R402 to R407, R411). Where a torn record ends and when the first sector opens is in
notes/assumptions/58.md, the turn of the recorder in notes/assumptions/30.md. -/
def RecordsAreFoldedAndCommitted : Prop :=
  ∀ (dt : Nat) (s : State),
    let u := s.elapse dt
    let r := u.recorder
    (∀ x d w rest, s.recorder.formQ = (x, d, w) :: rest → s.k3m.failed = false →
      (∀ f, { r with formQ := rest }.foldOf x = some f → f.rept + 1 < 65534 →
        exec (.recordForm dt) s = .next { u with recorder := { r with
          formQ := rest, folds := r.folds.filter (fun h => h.id != f.id) ++ [{ f with rept := f.rept + 1, last := r.optime }] } }) ∧
      ((∀ f ∈ r.folds, f.typ = x.typ → f.source ≠ x.source) →
        (r.queue.length < 512 → r.folds.length < 64 →
          exec (.recordForm dt) s = .next { u with recorder := { r with
            formQ := rest, ids := r.ids + 1,
            queue := r.queue ++ [⟨r.ids, none, x, d, r.frozen.isSome, r.optime, r.pcycle, w⟩],
            heldCount := if r.frozen.isSome = true then min (r.heldCount + 1) 65535 else r.heldCount,
            folds := r.folds ++ [⟨x.typ, x.source, r.ids, x.body, r.optime, 0, r.optime, r.pcycle⟩] } }) ∧
        (512 ≤ r.queue.length →
          exec (.recordForm dt) s = .next { u with recorder := { r with
            formQ := rest, overflow := r.overflow + 1, ovf := min (r.ovf + 1) 65535 } }))) ∧
    (∀ q rest o, s.recorder.queue = q :: rest →
      (s.recorder.frozen ≠ none → exec (.recordCommit dt o) s = .next u) ∧
      (s.recorder.frozen = none → s.k3m.failed = false → s.supply.bothLost = false → (s.boundaries = false ∨ u.recorderTurn = true) →
        s.recorder.logfail = false →
        (o = .ok → (r.pos = 0 ∨ 131072 < r.pos + q.r.len) →
          ∃ t, exec (.recordCommit dt o) s = .next t ∧ t.recorder.sseq = r.sseq + 1 ∧ t.recorder.erasing = true ∧
            t.recorder.seq = r.seq + 1 ∧ t.recorder.pos = 16 + q.r.len ∧
            ∃ l ∈ t.recorder.log, l.q = q ∧ l.seq = r.seq ∧ l.commit = 0xA5 ∧ l.sseq = r.sseq + 1) ∧
        (o = .torn →
          ∃ t, exec (.recordCommit dt o) s = .next t ∧ t.k3m.failed = true ∧ t.recorder.queue = r.queue ∧
            t.recorder.seq = r.seq ∧ ∃ l ∈ t.recorder.log, l.q = q ∧ l.commit = 0xFF) ∧
        (o = .ok → s.recorder.overflow = 0 → 0 < r.pos → r.pos + q.r.len ≤ 131072 →
          exec (.recordCommit dt o) s = .next { u with recorder := { r with
            wrote := if s.boundaries then some s.fnum else r.wrote, queue := rest, seq := r.seq + 1, pos := r.pos + q.r.len,
            log := r.log ++ [⟨q, r.seq, q.fix.map Prod.fst, q.fix.map Prod.snd, r.sector, r.sseq, 0xA5⟩] } }) ∧
        (o = .mismatch →
          ∃ t, exec (.recordCommit dt o) s = .next t ∧ t.recorder.retired = (r.place q).sector :: r.retired ∧
            t.recorder.queue = r.queue ∧ t.recorder.seq = r.seq) ∧
        (o = .noResponse →
          ∃ t, exec (.recordCommit dt o) s = .next t ∧ t.recorder.logfail = true ∧ t.recorder.fallSeq = r.seq ∧
            t.recorder.queue = r.queue ∧ t.recorder.log = r.log)) ∧
      (s.recorder.frozen = none → s.k3m.failed = false → s.supply.bothLost = false → (s.boundaries = false ∨ u.recorderTurn = true) →
        s.recorder.logfail = true → s.recorder.overflow = 0 →
        ∃ t, exec (.recordCommit dt o) s = .next t ∧ t.recorder.fallSeq = r.fallSeq + 1 ∧ t.recorder.queue = rest ∧
          t.recorder.log = r.log ∧ t.recorder.seq = r.seq)) ∧
    (∃ t, exec (.foldTimeout dt) s = .next t ∧ t = { u with recorder := t.recorder } ∧
      t.recorder.seq = r.seq ∧ ∀ f ∈ t.recorder.folds, r.optime - f.last < 600 ∧ f ∈ r.folds) ∧
    (s.recorder.erasing = true → s.recorder.frozen = none → s.recorder.logfail = false →
      exec (.sectorEraseEnd dt true) s = .next { u with recorder := { r with erasing := false } } ∧
      ∃ t, exec (.sectorEraseEnd dt false) s = .next t ∧ t.recorder.retired = r.aheadSector :: r.retired ∧
        t.recorder.erasing = true)

/-- STATUS_MIRROR_INTAKE takes the waiting status mirror's records and writes the status words; COUNTER_SAVE saves the operating time every 10 s;
K3M_WATCHDOG_RESTART empties the queue and the sessions and forms LOG_JUMP first, with the number of status mirrors lost and with SEQ
going on; FREEZE_TIMEOUT ends a FREEZE after 600 s with
its record (R393, R400, R408, R412 to R414, R439). The clears of the recorder and of the vertex's drop counts act as their registers say. -/
def RecorderServices : Prop :=
  ∀ (dt : Nat) (s : State),
    let u := s.elapse dt
    (∀ f, s.k3m.waiting = some f → s.k3m.failed = false →
      ∃ t l, exec (.statusMirrorIntake dt) s = .next t ∧ t.k3m.waiting = none ∧ t.recorder.intake = some f ∧
        t.recorder.formQ = s.recorder.formQ ++ s.mirrorRecs.map (fun q =>
          (q.1, q.2, if s.wallOk = true then some s.k3m.boundary else none)) ++ l ∧
        t.mbox.ks[15]? = some (BitVec.ofNat 32 f) ∧ t.vtx = s.vtx ∧ t.blk = s.blk) ∧
    (s.k3m.failed = false → 1250000000 ≤ u.nt - s.recorder.saveNt →
      ∃ t, exec (.counterSave dt) s = .next t ∧ t.recorder = { u.recorder with saved := u.recorder.optime, saveNt := u.nt } ∧
        t.vtx = s.vtx ∧ t.blk = s.blk ∧ (s.upd.onProbation = false → t.upd = u.upd)) ∧
    (∀ lost, (∀ f, s.recorder.intake = some f → lost = s.fnum - 1 - f) → (s.recorder.intake = none → lost = 0) →
      s.upd.sstate ≠ .loading →
      ∃ t, exec (.k3mWatchdogRestart dt) s = .next t ∧ t.k3m.failed = false ∧ t.upd.s0 = none ∧ t.upd.s1 = none ∧
        t.upd.lastAttest = s.upd.lastAttest ∧ t.recorder.queue = [] ∧ t.recorder.frozen = none ∧ t.recorder.seq = s.recorder.seq ∧
        t.recorder.formQ = [(⟨.logJump, 0x41, logJumpBody 1 lost 0⟩, false, u.wallNow)] ∧ t.vtx = s.vtx ∧ t.blk = s.blk) ∧
    (s.recorder.frozen ≠ none → 75000000000 ≤ u.nt - s.recorder.frozenNt → s.recorder.overflow = 0 → s.recorder.norHold = false →
      s.k3m.failed = false →
      ∃ t, exec (.freezeTimeout dt) s = .next t ∧ t.recorder.frozen = none ∧ t.recorder.deferred = [] ∧
        t.recorder.formQ = s.recorder.formQ ++
          [(⟨.freezeTimeout, 0x41, shortBody s.recorder.heldCount 0 0⟩, false, u.wallNow)] ∧
        t.recorder.seq = s.recorder.seq) ∧
    (s.mode = .commission → exec .sentinelClear s = .next { s with recorder := { s.recorder with sentinel := [], sentAt := 0 } }) ∧
    (s.mode ≠ .commission → s.k3m.failed = false →
      exec .sentinelClear s = .next { s with recorder := { s.recorder with formQ := s.recorder.formQ ++
        [(⟨.writeRefused, 0x40, shortBody 0x40001024 1 0⟩, false, s.wallNow)] } }) ∧
    (∀ v, exec (.evrCtlClr v) s = .next (s.setV v { s.v v with loc := { (s.v v).loc with qdrop := 0, edrop := 0 } })) ∧
    exec .recnCtlClr s = .next { s with recorder := { s.recorder with ovf := 0 } }

/-- RecordsAreFoldedAndCommitted and RecorderServices, together. -/
def Obligations.RecorderRecordsAndServes : Prop := RecordsAreFoldedAndCommitted ∧ RecorderServices

/-! ### Service sessions -/

/-- The request has been answered on channel S1 with `code`, the TAG and the result, and `P` holds of the state after it. -/
def Answered (s : State) (o : Host.Outcome State Fault Refusal) (code : Nat) (tag : BitVec 16) (r : Res) (body : List Byte)
    (P : State → Prop) : Prop :=
  ∃ t, o = .next t ∧ t.out = .response ⟨.s1, code + 0x8000, tag, r.code, body⟩ :: s.out ∧ t.mode = s.mode ∧ t.vtx = s.vtx ∧ P t

/-- Sessions and roles: two sessions at most, a third is refused with SESSION_LIMIT; a session ends after 900 s or when its peer closes it, and its download with it; LOGIN gives the
role, counts a failure or answers LOCKED_OUT, and the lock ends in time; LOGOUT drops the role; SETPW and CLEARPW change the passwords only
when their conditions hold (R435 to R437); the order of the conditions is that of notes/assumptions/49.md. -/
def SessionsAndRoles : Prop :=
  ∀ (dt : Nat) (n : Sess) (tag : BitVec 16) (s : State),
    let u := s.elapse dt
    (s.k3m.failed = false →
      (s.upd.s0 = none → exec (.sessionOpen dt) s = .next { u with upd := { u.upd with s0 := some ⟨none, u.nt⟩ } }) ∧
      (s.upd.s0 ≠ none → s.upd.s1 = none →
        exec (.sessionOpen dt) s = .next { u with upd := { u.upd with s1 := some ⟨none, u.nt⟩ } }) ∧
      (s.upd.s0 ≠ none → s.upd.s1 ≠ none → exec (.sessionOpen dt) s = .next { u with out := .noSession 0x13 :: s.out })) ∧
    (∀ x, s.upd.sess n = some x →
      (112500000000 ≤ u.nt - x.lastNt →
        ∃ t, exec (.sessionIdleTimeout dt n) s = .next t ∧ t.upd.sess n = none ∧ t.recorder.frozen ≠ some n ∧
          (s.upd.dlSess = some n → s.upd.sstate = .loading → t.upd.sstate = .empty ∧ t.upd.staging = none)) ∧
      (u.nt - x.lastNt < 112500000000 → exec (.sessionIdleTimeout dt n) s = .next u) ∧
      ∃ t, exec (.sessionEnd dt n) s = .next t ∧ t.upd.sess n = none ∧ t.recorder.frozen ≠ some n ∧
        (s.upd.dlSess = some n → s.upd.sstate = .loading → t.upd.sstate = .empty ∧ t.upd.staging = none)) ∧
    (∀ r a, (s.upd.lock r).until_ = some a → a ≤ u.nt →
      exec (.lockoutExpiry dt r) s = .next { u with upd := u.upd.setLock r { s.upd.lock r with until_ := none } }) ∧
    (s.open_ n = false → exec (.logout dt n tag) s = .next u ∧ ∀ r pw, exec (.login dt n tag r pw) s = .next u) ∧
    (s.open_ n = true →
      (∀ r pw, u.locked r = true →
        Answered s (exec (.login dt n tag r pw) s) 0x01 tag .lockedOut [] (fun t => t.roleOf n = s.roleOf n)) ∧
      (∀ r pw, u.locked r = false → s.upd.pwOk r pw = true →
        Answered s (exec (.login dt n tag r pw) s) 0x01 tag .accepted [] (fun t => t.roleOf n = roleNum r)) ∧
      (∀ r pw, u.locked r = false → s.upd.pwOk r pw = false → s.upd.locks.length = 4 →
        Answered s (exec (.login dt n tag r pw) s) 0x01 tag .auth [] (fun t => t.roleOf n = s.roleOf n ∧
          (t.upd.lock r).fails = (s.upd.lock r).fails + 1 ∧
          (5 ≤ (s.upd.lock r).fails + 1 →
            (t.upd.lock r).until_ = some (u.nt + lockoutSec ((s.upd.lock r).fails + 1) * 125000000)))) ∧
      Answered s (exec (.logout dt n tag) s) 0x02 tag .accepted [] (fun t => t.roleOf n = 0) ∧
      (∀ r pw salt,
        Answered s (exec (.setpw dt n tag r pw salt) s) 0x03 tag (s.setpwRes n r pw) [] (fun t =>
          (s.setpwRes n r pw = .accepted → t.upd.pw r = some ⟨salt, Config.argon2id pw salt⟩ ∧
            ∀ q, q ≠ r → t.upd.pw q = s.upd.pw q) ∧
          (s.setpwRes n r pw ≠ .accepted → t.upd.pws = s.upd.pws))) ∧
      (s.mode ≠ .commission →
        Answered s (exec (.clearpw dt n tag) s) 0x04 tag .wrongMode [] (fun t => t.upd.pws = s.upd.pws)) ∧
      (s.mode = .commission → s.blk.cyc.sw3 = true → s.blk.cyc.sw4 = true →
        Answered s (exec (.clearpw dt n tag) s) 0x04 tag .accepted [] (fun t => t.upd.pws = [])))

/-- The requests that read the recorder: INFO, READ and READSENT answer what the recorder holds, READ its committed records alone and READSENT
65 536 bytes (notes/assumptions/58.md), and change nothing but the session's idle time;
FREEZE freezes it for the session, with NOT_READY while another holds one, and THAW ends it (R406, R411, R412, Table 13.8). What INFO
answers is that of notes/assumptions/44.md. -/
def RecorderIsRead : Prop :=
  ∀ (dt : Nat) (n : Sess) (tag : BitVec 16) (s : State),
    let u := s.elapse dt
    s.open_ n = true →
    Answered s (exec (.info dt n tag) s) 0x10 tag .accepted u.recorder.info (fun t => t.recorder = u.recorder) ∧
    (∀ a b, a < s.recorder.seq → u.recorder.oldest ≤ a →
      Answered s (exec (.read dt n tag a b) s) 0x12 tag .accepted
        (takeRecs ((s.recorder.log.filter (fun l => l.commit == 0xA5 && decide (a ≤ l.seq))).map u.recorder.readRec) (min b 65536))
        (fun t => t.recorder = u.recorder)) ∧
    (∀ a b, s.recorder.seq ≤ a → 1 ≤ s.recorder.seq →
      Answered s (exec (.read dt n tag a b) s) 0x12 tag .badParam [] (fun t => t.recorder = u.recorder)) ∧
    (∀ a b, a < u.recorder.oldest → a < s.recorder.seq →
      Answered s (exec (.read dt n tag a b) s) 0x12 tag .overwritten [] (fun t => t.recorder = u.recorder)) ∧
    s.recorder.sentinelBytes.length = 65536 ∧
    Answered s (exec (.readsent dt n tag) s) 0x13 tag .accepted
      (padTo 4096 (s.recorder.sentinel.flatMap SentEntry.bytes) ++ padTo 61440 (s.recorder.fallback.flatMap Prod.snd))
      (fun t => t.recorder = u.recorder) ∧
    (s.recorder.frozen = none →
      Answered s (exec (.freeze dt n tag) s) 0x11 tag .accepted [] (fun t => t.recorder.frozen = some n ∧
        t.recorder.frozenNt = u.nt ∧ t.recorder.queue = s.recorder.queue.map (fun q => { q with held := true }))) ∧
    (∀ m, s.recorder.frozen = some m → m ≠ n →
      Answered s (exec (.freeze dt n tag) s) 0x11 tag .notReady [] (fun t => t.recorder.frozen = some m)) ∧
    (s.recorder.frozen = some n → s.recorder.norHold = false →
      Answered s (exec (.thaw dt n tag) s) 0x14 tag .accepted [] (fun t => t.recorder.frozen = none ∧ t.recorder.deferred = [])) ∧
    (s.recorder.frozen ≠ some n →
      Answered s (exec (.thaw dt n tag) s) 0x14 tag .notReady [] (fun t => t.recorder = u.recorder))

/-- SessionsAndRoles and RecorderIsRead, together. -/
def Obligations.RecorderSessions : Prop := SessionsAndRoles ∧ RecorderIsRead

/-! ### Downloads, mailbox, roots and probation -/

/-- The download: DL_START erases STAGING, DL_DATA goes on at the next offset with its bytes, DL_END leaves the set LOADED with the bytes
that have arrived (what they say is the operand of DL_END, notes/assumptions/9.md), the check leaves it CHECKED or
REJECTED with its reason, and DL_ABORT and UPDM_ABORT leave STAGING EMPTY; a request whose conditions do not hold answers its result and leaves
STAGING (R423, R424; the order of the conditions is that of notes/assumptions/49.md). -/
def DownloadsFillStaging : Prop :=
  ∀ (dt : Nat) (n : Sess) (tag : BitVec 16) (s : State),
    s.open_ n = true →
    (∀ len man,
      Answered s (exec (.dlStart dt n tag len man) s) 0x20 tag (s.dlStartRes n len man) [] (fun t =>
        (s.dlStartRes n len man = .accepted → t.upd.sstate = .loading ∧ t.upd.staging = none ∧ t.upd.dlMan = some man ∧
          t.upd.dlLen = len ∧ t.upd.dlPos = 4096 ∧ t.upd.dlBytes = [] ∧ t.upd.dlSess = some n) ∧
        (s.dlStartRes n len man ≠ .accepted → t.upd.sstate = s.upd.sstate ∧ t.upd.staging = s.upd.staging))) ∧
    (∀ off data,
      Answered s (exec (.dlData dt n tag off data) s) 0x21 tag (s.dlDataRes n off data.length) [] (fun t =>
        t.upd.dlPos = (if s.dlDataRes n off data.length = .accepted then s.upd.dlPos + data.length else s.upd.dlPos) ∧
        t.upd.dlBytes = (if s.dlDataRes n off data.length = .accepted then s.upd.dlBytes ++ data else s.upd.dlBytes) ∧
        t.upd.sstate = s.upd.sstate)) ∧
    (∀ got,
      Answered s (exec (.dlEnd dt n tag got) s) 0x22 tag (s.dlEndRes n) [] (fun t =>
        (s.dlEndRes n = .accepted → t.upd.sstate = .loaded ∧ t.upd.dlSess = none ∧
          t.upd.staging = some (s.upd.received (s.upd.dlMan.getD got.man) got.content)) ∧
        (s.dlEndRes n ≠ .accepted → t.upd.sstate = s.upd.sstate ∧ t.upd.staging = s.upd.staging))) ∧
    (s.hasRole n .maintainer false = true → s.upd.sstate = .loading →
      Answered s (exec (.dlAbort dt n tag) s) 0x23 tag .accepted [] (fun t => t.upd.sstate = .empty ∧ t.upd.staging = none)) ∧
    (s.upd.sstate = .loading →
      ∃ t, exec (.updmAbort dt) s = .next t ∧ t.upd.sstate = .empty ∧ t.upd.staging = none ∧ t.upd.dlSess = none ∧
        t.vtx = s.vtx ∧ t.blk = s.blk) ∧
    (∀ l, s.upd.staging = some l → s.upd.sstate = .loaded →
      ∃ t, exec (.downloadCheckEnd dt) s = .next t ∧
        t.upd.sstate = (if downloadReason l = 0 then .checked else .rejected) ∧
        (downloadReason l ≠ 0 → t.upd.vreason = downloadReason l) ∧ t.upd.staging = some l ∧ t.vtx = s.vtx)

/-- MAILBOX_ITEM places an accepted item in the page, numbered one above the last one posted, and MBCTL_POST posts it; LOCAL_ACT arms the journal and posts a RESTART;
SETTING keeps the value in COMMISSION alone; ATTEST advances the index once for each signature; OTP_OPERATOR programs the operator roots once
(R418, R428, R439, R470, R471). The order of the
conditions is that of notes/assumptions/49.md, and LOCAL_ACT waits for the page (notes/assumptions/69.md). -/
def Obligations.ServiceRequestsAct : Prop :=
  ∀ (dt : Nat) (n : Sess) (tag : BitVec 16) (s : State),
    let u := s.elapse dt
    exec (.mbctlPost dt) s = .next { u with mbox := { s.mbox with post := true, posted := some s.fnum, placed := false } } ∧
    (s.open_ n = true →
      (∀ kind cmd body, s.hasRole n .maintainer false = true → cmd.extractLsb' 0 8 ≠ 12 →
        let r := s.itemRes true kind cmd body
        Answered s (exec (.mailboxItem dt n tag kind cmd body) s) 0x30 tag r [] (fun t =>
          (r = .accepted → t.mbox.page.mseq = (if s.mbox.placed then s.mbox.page.mseq else s.mbox.page.mseq + 1) ∧
            t.mbox.placed = true ∧ t.mbox.page.kind = kind ∧ t.mbox.page.cmd = cmd ∧
            t.mbox.page.len = body.length ∧ t.mbox.page.body = body ++ List.replicate (2032 - body.length) 0 ∧
            t.mbox.post = s.mbox.post) ∧
          (r ≠ .accepted → t.mbox = s.mbox))) ∧
      (∀ l, s.localActRes n = .accepted → s.upd.staging = some l → s.upd.slots.cur.jseq.toNat + 1 < 2 ^ 32 →
        Answered s (exec (.localAct dt n tag) s) 0x41 tag .accepted [] (fun t =>
          t.upd.slots.cur.state = .armed ∧ t.upd.slots.cur.dig16 = dig16 l.man ∧ t.mbox.post = true ∧
          t.mbox.page.kind = 1 ∧ t.mbox.page.cmd.extractLsb' 0 8 = 1)) ∧
      (s.localActRes n ≠ .accepted →
        Answered s (exec (.localAct dt n tag) s) 0x41 tag (s.localActRes n) [] (fun t =>
          t.upd.slots = s.upd.slots ∧ t.mbox = s.mbox)) ∧
      (∀ id value, s.mode ≠ .commission →
        Answered s (exec (.setting dt n tag id value) s) 0x42 tag .wrongMode [] (fun t => t.upd.settings = s.upd.settings)) ∧
      (∀ id value, s.mode = .commission → 3 ≤ s.roleOf n →
        Answered s (exec (.setting dt n tag id value) s) 0x42 tag .accepted [] (fun t =>
          t.upd.settings.vals.find? (fun q => q.1 == id) = some (id, value))) ∧
      (∀ nonce, u.attestReady = true →
        ∃ b, Answered s (exec (.attest dt n tag nonce) s) 0x40 tag .accepted b (fun t =>
          t.upd.hssidx = s.upd.hssidx + 1 ∧ t.upd.lastAttest = some u.nt)) ∧
      (∀ nonce, u.attestReady = false →
        Answered s (exec (.attest dt n tag nonce) s) 0x40 tag .notReady [] (fun t => t.upd.hssidx = s.upd.hssidx)) ∧
      (∀ h1 h2 h3 h4, s.otpRes n h1 h2 = .accepted →
        Answered s (exec (.otpOperator dt n tag h1 h2 h3 h4) s) 0x43 tag .accepted [] (fun t =>
          t.upd.otp = { s.upd.otp with operator := some (h3, h4) })) ∧
      (∀ h1 h2 h3 h4, s.otpRes n h1 h2 ≠ .accepted →
        Answered s (exec (.otpOperator dt n tag h1 h2 h3 h4) s) 0x43 tag (s.otpRes n h1 h2) [] (fun t =>
          t.upd.otp = s.upd.otp)))

/-- A probation of 86 400 clean seconds ends in IDLE and raises the SVN counter when the set asks for it; a fault in probation restarts the module
1 s after its entry to HALT (R419, R430, R431). -/
def ProbationEnds : Prop :=
  ∀ (dt : Nat) (s : State), s.upd.onProbation = true → s.k3m.failed = false →
    let u := s.elapse dt
    (86400 ≤ s.upd.clean → s.upd.slots.cur.jseq.toNat + 1 < 2 ^ 32 →
      ∃ t, exec (.probationCleanEnd dt) s = .next t ∧ t.upd.slots.cur.state = .idle ∧ t.upd.onProbation = false ∧
        t.upd.retained = none ∧ t.mode = s.mode ∧
        ∀ l, s.upd.active = some l → l.man.raise = true →
          t.upd.otp.svn = max s.upd.otp.svn l.man.svn) ∧
    (∀ a, s.upd.haltNt = some a → 125000000 ≤ u.nt - a →
      ∃ t, exec (.probationFaultRestart dt) s = .next t ∧ t.inReset = true ∧ t.mode = .start ∧ t.upd.haltNt = none ∧
        t.boundaries = false)

/-- DownloadsFillStaging and ProbationEnds, together. -/
def Obligations.DownloadsAndProbation : Prop := DownloadsFillStaging ∧ ProbationEnds

/-- The host window: a write stores its word and a read brings it, BUSY answers while the K3M writes the same word or is down, the repeat
completes, HBUSY# stays low while the K3M is in reset or has failed, a disabled port does nothing; HOST_GO takes the request, HOST_RESPONSE answers it and sets RSPRDY, HOST_ACK clears RSPRDY (R372, R373, R459 to R461, R475, R476). -/
def Obligations.HostWindowServes : Prop :=
  ∀ (dt : Nat) (s : State), Memory.wf s.hwin.mem = true →
    let u := s.elapse dt
    let h := s.hwin
    (∀ wr ha d c, h.en = false → exec (.hostAccess dt wr ha d c) s = .next u) ∧
    (∀ wr ha d c, h.en = true → s.j7Up = false →
      exec (.hostAccess dt wr ha d c) s = .next { u with hwin := { h with busy := true, data := none } }) ∧
    (s.hbusyLow = true ↔ h.en = true ∧ (s.k3m.failed = true ∨ s.inReset = true)) ∧
    (∀ wr (ha : BitVec 15) d, s.j7Up = true → h.owed ≠ some (2 * ha.toNat / 8) →
      exec (.hostAccess dt wr ha d .write) s =
        .next { u with hwin := { h with
          busy := true, data := none, hostBusy := min (h.hostBusy + 1) 65535, owed := some (2 * ha.toNat / 8) } }) ∧
    (∀ (ha : BitVec 15) (d : BitVec 16) (c : Collide), s.j7Up = true → (c ≠ .write ∨ h.owed = some (2 * ha.toNat / 8)) →
      ∃ t, exec (.hostAccess dt true ha d c) s = .next t ∧ t = { u with hwin := t.hwin, shEcc := t.shEcc, blk := t.blk } ∧
        (s.shEcc.soft = [] → t.shEcc = s.shEcc ∧ t.blk = s.blk) ∧ t.hwin.busy = false ∧ t.hwin.owed = none ∧
        Memory.load t.hwin.mem (2 * ha.toNat) 2 = d.toNat ∧
        ∀ a, a < 2 * ha.toNat ∨ 2 * ha.toNat + 2 ≤ a → Memory.read t.hwin.mem a = Memory.read h.mem a) ∧
    (∀ (ha : BitVec 15) (d : BitVec 16) (c : Collide), s.j7Up = true → (c ≠ .write ∨ h.owed = some (2 * ha.toNat / 8)) →
      s.shEcc = ⟨[], []⟩ →
      exec (.hostAccess dt false ha d c) s = .next { u with hwin := { h with
        busy := false, owed := none, data := some (BitVec.ofNat 16 (Memory.load h.mem (2 * ha.toNat) 2)) } }) ∧
    (s.j7Up = true → h.ready = false → h.request = none → s.shEcc = ⟨[], []⟩ →
      ∃ t l, exec (.hostGo dt) s = .next t ∧ t = { u with hwin := t.hwin } ∧ t.hwin.request = some l ∧
        l = Memory.bytes h.mem 0x10 (8 + min (ofBe (Memory.bytes h.mem 0x10 4)) 32744) ∧ t.hwin.ready = false ∧
        Memory.load t.hwin.mem 8 2 % 2 = 0) ∧
    (∀ l, s.j7Up = true → h.request = some l →
      ∃ t r b, exec (.hostResponse dt) s = .next t ∧ t.hwin.request = none ∧ t.hwin.ready = true ∧
        t.hwin.reqs = min (h.reqs + 1) 65535 ∧
        t.out = .response ⟨.j7, (messageOf l).code + 0x8000, (messageOf l).tag, Res.code r, b⟩ :: s.out ∧
        (s.strict = true → r = .wrongMode)) ∧
    (s.j7Up = true → h.ready = true →
      ∃ t, exec (.hostAck dt) s = .next t ∧ t = { u with hwin := t.hwin } ∧ t.hwin.ready = false ∧
        Memory.load t.hwin.mem 8 2 / 2 % 2 = 0)

/-! ### The commands of Table 2.9 -/

/-- The command word `w` has been taken with result `r`: CMDRES shows the result and the TAG, no further command is taken in this furlong
(R79, R83), and `P` holds of the state after it. -/
def CommandTaken (o : Host.Outcome State Fault Refusal) (w : Word) (r : Res) (P : State → Prop) : Prop :=
  ∃ t, o = .next t ∧ t.blk.cyc.resCode = r.code ∧ t.blk.cyc.resTag = cmdTag w ∧ t.taken = true ∧ P t

/-- A command may be taken now: out of reset, boundaries are raised, and no other has been taken in this furlong. -/
def MayCommand (s : State) : Prop := s.inReset = false ∧ s.boundaries = true ∧ s.taken = false

/-- The mode commands, accepted under their conditions, and turned away in the order of R78: RESTART, ENTER_MAINT, END_MAINT and HANDOVER ask for
their change at the coming boundary or at F + 2, and a second command of a furlong is refused with BAD_PARAM; where no boundary is raised, as
in COMMISSION, RESTART restarts at once (Table 2.9, R67, R78, R79, R80, R83, R362). -/
def ModeCommandsAskForTheirChange : Prop :=
  (∀ (arg : BitVec 8) (tag : BitVec 16) (s : State), s.inReset = false → s.boundaries = false →
    (s.blk.cyc.sw4 = true ∨ (s.mode ≠ .resync ∧ s.mode ≠ .standby ∧ s.mode ≠ .active)) →
    ∃ t, exec (.restart arg tag) s = .next t ∧ t.inReset = true ∧ t.mode = .start ∧ t.boundaries = false ∧ t.start.step = 0) ∧
  ∀ (arg : BitVec 8) (tag : BitVec 16) (s : State), MayCommand s →
    (s.blk.cyc.sw4 = true ∨ (s.mode ≠ .resync ∧ s.mode ≠ .standby ∧ s.mode ≠ .active) →
      CommandTaken (exec (.restart arg tag) s) (cmdWord 1 arg tag) .accepted (fun t =>
        t.change = some (.start, .restartCmd) ∧ t.mode = s.mode ∧ t.inReset = false)) ∧
    (s.mode = .standby ∨ (s.mode = .isolated ∧ s.r478 = false) → s.blk.cyc.sw4 = true →
      CommandTaken (exec (.enterMaint arg tag) s) (cmdWord 2 arg tag) .accepted (fun t =>
        t.change = some (.maintenance, .command) ∧ t.mode = s.mode)) ∧
    (s.mode ≠ .standby → s.mode ≠ .isolated →
      CommandTaken (exec (.enterMaint arg tag) s) (cmdWord 2 arg tag) .wrongMode (fun t =>
        t.change = s.change ∧ t.mode = s.mode ∧ Recorded s t .command (shortBody (cmdWord 2 arg tag).toNat 1 0))) ∧
    (s.mode = .standby → s.blk.cyc.sw4 = false →
      CommandTaken (exec (.enterMaint arg tag) s) (cmdWord 2 arg tag) .sealRefused (fun t => t.change = s.change)) ∧
    (s.mode = .maintenance → s.blk.cyc.sw4 = true → s.strength = 3 → s.blk.cen.debugged = Tri.all false →
      CommandTaken (exec (.endMaint arg tag) s) (cmdWord 3 arg tag) .accepted (fun t =>
        t.change = some (.resync, .command) ∧ t.mode = s.mode)) ∧
    (s.mode = .maintenance → s.blk.cyc.sw4 = true → s.strength ≠ 3 →
      CommandTaken (exec (.endMaint arg tag) s) (cmdWord 3 arg tag) .notReady (fun t => t.change = s.change)) ∧
    (s.mode = .active ∨ s.mode = .standby → s.partnerReady = true → s.pair.target = none →
      CommandTaken (exec (.handover arg tag) s) (cmdWord 7 arg tag) .accepted (fun t =>
        t.pair.target = some (s.fnum + 2) ∧ t.pair.judged = some (s.fnum + 2) ∧ t.blk.chd.host = .horeq ∧ t.mode = s.mode)) ∧
    (∀ w : State, w = { s with taken := true } →
      exec (.restart arg tag) w = .next (w.record .command (cmdWord 1 arg tag).toNat 6 0))

/-- The vertex commands: WITHDRAW is pending for two furlongs, DEBUG opens the channel of a withdrawn vertex and DEBUG_END closes it, REJOIN begins a
rejoin; a WITHDRAW at another strength, a REJOIN of a vertex in service and a DEBUG of a vertex withdrawn before a restart answer
NOT_READY (R229, R231, R233, R234; notes/assumptions/68.md). -/
def VertexCommandsActOnTheirVertex : Prop :=
  ∀ (v : Vtx) (tag : BitVec 16) (s : State), MayCommand s →
    let arg := BitVec.ofNat 8 v.num
    (s.mode = .standby ∨ s.mode = .maintenance → s.blk.cyc.sw4 = true →
      (s.strength = 3 → s.blk.cen.wpend = none →
        CommandTaken (exec (.withdraw arg tag) s) (cmdWord 4 arg tag) .accepted (fun t =>
          t.blk.cen.wpend = some v ∧ t.wAt = s.fnum ∧ t.inService v = s.inService v)) ∧
      (s.strength ≠ 3 →
        CommandTaken (exec (.withdraw arg tag) s) (cmdWord 4 arg tag) .notReady (fun t =>
          t.blk.cen.wpend = s.blk.cen.wpend)) ∧
      (s.blk.cen.wdOld.get v = true →
        CommandTaken (exec (.debug arg tag) s) (cmdWord 5 arg tag) .notReady (fun t => t.blk.cen = s.blk.cen)) ∧
      (s.blk.cen.withdrawn.get v = true → s.blk.cen.wdOld.get v = false →
        (s.blk.cen.debugged.get v = false →
          CommandTaken (exec (.debug arg tag) s) (cmdWord 5 arg tag) .accepted (fun t =>
            t.blk.cen.debugged = s.blk.cen.debugged.set v true ∧ (t.v v).dbg = .reset)) ∧
        (s.blk.cen.debugged.get v = true →
          CommandTaken (exec (.debugEnd arg tag) s) (cmdWord 5 (arg ||| 0x80#8) tag) .accepted (fun t =>
            t.blk.cen.debugged.get v = false ∧ (t.v v).cur = none ∧ (t.v v).dbg.halted = true)))) ∧
    (s.mode = .resync ∨ s.mode = .standby ∨ s.mode = .active ∨ s.mode = .maintenance →
      (s.inService v = false → s.blk.cen.debugged.get v = false → s.blk.cen.rejVtx = none → s.blk.cen.rejFails.get v < 3 →
        CommandTaken (exec (.rejoin arg tag) s) (cmdWord 6 arg tag) .accepted (fun t =>
          t.blk.cen.rejVtx = some v ∧ t.blk.cen.rejStep = 0 ∧ t.rejoin.word = cmdWord 6 arg tag ∧ t.inService v = false)) ∧
      (s.inService v = true →
        CommandTaken (exec (.rejoin arg tag) s) (cmdWord 6 arg tag) .notReady (fun t => t.blk.cen = s.blk.cen)))

/-- ModeCommandsAskForTheirChange and VertexCommandsActOnTheirVertex, together. -/
def Obligations.ModeAndVertexCommands : Prop := ModeCommandsAskForTheirChange ∧ VertexCommandsActOnTheirVertex

/-- The staging and update commands: STAGE of a set that passes its checks holds the area for its boundary, and each vertex is to copy the set
that its own mailbox view holds; a set that fails is discarded with
BAD_PARAM, an occupied area answers BUSY_STAGED (STAGE_PATCH is STAGE with ARG 0, STAGE_IO_PARAM with ARG 1); SCHEDULE_ACT stages an
activation; CONFIRM ends a probation once the status mirror of its furlong or of a later one is taken up; CANCEL_STAGE clears an area;
FUSE_BURN is accepted in COMMISSION, where no boundary is raised, when a soft repair can be burnt (R74, R75, R80, R163, R339, R386, R425,
R430; how a vertex copies its set is in notes/assumptions/66.md). -/
def Obligations.StagingCommandsStageTheirSets : Prop :=
  (∀ (arg : BitVec 8) (tag : BitVec 16) (s : State), MayCommand s →
    (∀ h, s.hdr = some h → s.mode = .standby ∨ s.mode = .active → s.blk.cyc.sw1 = true → s.served = false →
      let b := s.viewBody 2
      s.latePast (setTarget b) = false →
      (s.blk.cyc.stg0.state ≠ 0 →
        CommandTaken (exec (.stagePatch arg tag) s) (cmdWord 8 0 tag) .busyStaged (fun t =>
          t.staged = s.staged ∧ t.blk.cyc.stg0 = s.blk.cyc.stg0)) ∧
      (s.blk.cyc.stg0.state = 0 → patchAtStaging h s.tuneSeq b = none →
        CommandTaken (exec (.stagePatch arg tag) s) (cmdWord 8 0 tag) .accepted (fun t =>
          t.staged.patch = b ∧ t.stageCopy = s.stageCopy ++ [(0, s.view.map (fun q => q.mbx.bodyOf 2))] ∧
          t.blk.cyc.stg0 = (if setTarget b = 0 then ⟨2, s.fnum + 2⟩ else ⟨3, setTarget b⟩))) ∧
      (∀ q, s.blk.cyc.stg0.state = 0 → patchAtStaging h s.tuneSeq b = some q →
        CommandTaken (exec (.stagePatch arg tag) s) (cmdWord 8 0 tag) .badParam (fun t =>
          t.staged = s.staged ∧ t.blk.cyc.stg0 = s.blk.cyc.stg0))) ∧
    (∀ h, s.hdr = some h → s.mode = .standby ∨ s.mode = .maintenance → s.blk.cyc.sw4 = true → s.blk.cyc.stg1.state = 0 →
      let b := s.viewBody 3
      s.latePast (setTarget b) = false → ioAtStaging h s.blk.sio.params.seq b = none →
        CommandTaken (exec (.stageIoParam arg tag) s) (cmdWord 8 1 tag) .accepted (fun t =>
          t.staged.io = b ∧ t.stageCopy = s.stageCopy ++ [(1, s.view.map (fun q => q.mbx.bodyOf 3))] ∧
          t.blk.cyc.stg1 = (if setTarget b = 0 then ⟨2, s.fnum + 2⟩ else ⟨3, setTarget b⟩))) ∧
    (s.mode = .standby ∨ s.mode = .active → s.blk.cyc.sw2 = true → s.served = false → s.upd.onProbation = false →
      s.blk.cyc.stg2.state = 0 →
      let b := s.viewBody 4
      b.length = 32 → s.stagingHolds (actDig b) = true → s.latePast (leAt b 0 6) = false →
      (crc32c (b.take 28)).toNat = leAt b 28 4 → leAt b 6 2 = 0 →
        CommandTaken (exec (.scheduleAct arg tag) s) (cmdWord 9 arg tag) .accepted (fun t =>
          t.staged.act = b ∧
          t.blk.cyc.stg2 = (if leAt b 0 6 = 0 then ⟨2, s.fnum + 2⟩ else ⟨3, leAt b 0 6⟩))) ∧
    (s.mode = .standby ∨ s.mode = .active →
      (s.upd.onProbation = true →
        CommandTaken (exec (.confirm arg tag) s) (cmdWord 10 arg tag) .accepted (fun t => t.upd.commanded = some s.fnum)) ∧
      (s.upd.onProbation = false →
        CommandTaken (exec (.confirm arg tag) s) (cmdWord 10 arg tag) .notReady (fun t => t.upd = s.upd)) ∧
      (s.blk.cyc.stg2.state ≠ 0 →
        CommandTaken (exec (.cancelStage 2 tag) s) (cmdWord 11 2 tag) .accepted (fun t =>
          t.blk.cyc.stg2 = ⟨0, 0⟩ ∧ t.staged.act = [] ∧ t.blk.cyc.stg0 = s.blk.cyc.stg0)))) ∧
  (∀ (dt f g : Nat) (s : State), s.k3m.waiting = some f → s.k3m.failed = false → s.upd.commanded = some g →
    s.upd.onProbation = true → s.upd.slots.cur.jseq.toNat + 1 < 2 ^ 32 →
    ∃ t, exec (.statusMirrorIntake dt) s = .next t ∧
      (g ≤ f → t.upd.slots.cur.state = .idle ∧ t.upd.onProbation = false ∧ t.upd.commanded = none) ∧
      (f < g → t.upd.slots = s.upd.slots ∧ t.upd.commanded = some g)) ∧
  ∀ (arg : BitVec 8) (tag : BitVec 16) (s : State), s.inReset = false → s.boundaries = false → s.change = none →
    (s.mode = .commission → s.blk.cyc.sw3 = true → arg.toNat ≤ 7 →
      (s.burnReady arg.toNat = true →
        CommandTaken (exec (.fuseBurn arg tag) s) (cmdWord 12 arg tag) .accepted (fun t => t.fuses = s.fuses)) ∧
      (s.burnReady arg.toNat = false →
        CommandTaken (exec (.fuseBurn arg tag) s) (cmdWord 12 arg tag) .notReady (fun t => t.fuses = s.fuses)))

/-! ### Registers -/

/-- The registers of one vertex: LOUT_WRITE keeps the word with its reserved bits 0, TUSE_CLR, LAT_CTL_CLR and CEN_CTL_CLR clear their
counters, DCTL_RUN and DCTL_STEP let a halted vertex of an open channel run on or begin a debug furlong, and HWIN_CTL_CLR clears the
counters of the window (R36, R205, R232, R239, R342). REGISTER_WRITE does the same at the register's address; where none is listed a vertex
traps with ACCESS and the K3M's access ends with a bus error; the K3M writes the window, and its read of DMD of an open debug channel
adds 4 to DMA (R105, R469, R473). The K3M's accesses as operands are those of notes/assumptions/21.md, DCTL_STEP with no debug furlong in
progress that of notes/assumptions/54.md. -/
def Obligations.VertexRegistersAreWritten : Prop :=
  ∀ (v : Vtx) (val : Word) (s : State),
    let x := s.v v
    exec (.loutWrite v val) s = .next (s.setV v { x with own := { x.own with lout := val &&& 0x0FFFFFFF#32 } }) ∧
    exec (.registerWrite (.vertex v) 0x08005008 val) s = exec (.loutWrite v val) s ∧
    (∀ a, s.readReg v a.toNat = none →
      (s.inService v = true → s.trial v = false → s.debugging v = false → s.traps = [] →
        ∃ t, exec (.registerWrite (.vertex v) a val) s = .next t ∧ StopsWith s t v (.trap .access) ∧
          (x.recs.length < 64 → (t.v v).recs = x.recs ++ [⟨.vertexTrap, 0x11 + v.num,
            trapBody v .access 0 x.core.task x.core.pc a.toNat x.core.tcw s.fnum x.core.count⟩])) ∧
      (s.inService v = false → s.trial v = false → s.debugging v = false →
        exec (.registerWrite (.vertex v) a val) s = .next s)) ∧
    (∀ a, a.toNat % 4 ≠ 0 ∨ s.k3mRead a.toNat = none →
      exec (.registerWrite .k3m a val) s = .next { s with out := .busError a.toNat :: s.out } ∧
      exec (.registerWrite .k3mReads a val) s = .next { s with out := .busError a.toNat :: s.out }) ∧
    (∀ a, a.toNat % 4 = 0 → 0x41000000 ≤ a.toNat → a.toNat < 0x41010000 → s.shEcc.soft = [] →
      exec (.registerWrite .k3m a val) s = .next { s with hwin := { s.hwin with
        mem := Memory.store s.hwin.mem (a.toNat - 0x41000000) 4 val.toNat } }) ∧
    (∀ k : Fin 8, exec (.tuseClr v k) s = .next (s.setV v { x with loc := { x.loc with
      tuseMax := setNth x.loc.tuseMax k.val 0, tuseOvr := setNth x.loc.tuseOvr k.val 0 } })) ∧
    (x.lat.passDone = true → exec (.latCtlClr v) s = .next (s.setV v { x with lat := { x.lat with
      pmax := 0, resvOk := 0, resvSame := 0, relOk := 0, relAppr := 0 } })) ∧
    exec (.cenCtlClr v) s = .next (s.setV v { x with loc := { x.loc with skewMax := 0, scfail := 0 } }) ∧
    exec .hwinCtlClr s = .next { s with hwin := { s.hwin with reqs := 0, k3mBusy := 0, hostBusy := 0 } } ∧
    (s.blk.cen.debugged.get v = true → x.dbg.halted = true → x.dbg.started = true →
      exec (.dctlRun v) s =
        .next (s.setV v { x with dbg := { x.dbg with halted := false, single := false, fresh := true } }) ∧
      exec (.dctlStep v) s =
        .next (s.setV v { x with dbg := { x.dbg with halted := false, single := true, fresh := true } })) ∧
    (x.dbg.halted = false ∨ s.blk.cen.debugged.get v = false → exec (.dctlRun v) s = .next s) ∧
    (s.blk.cen.debugged.get v = false → exec (.dctlStep v) s = .next s) ∧
    (let a := BitVec.ofNat 32 (0x40004094 + 256 * v.num)
     (s.blk.cen.debugged.get v = true → exec (.registerWrite .k3mReads a val) s =
       .next (s.setV v { x with dbg := { x.dbg with dma := x.dbg.dma + 4 } })) ∧
     (s.blk.cen.debugged.get v = false → exec (.registerWrite .k3mReads a val) s = .next s)) ∧
    (s.blk.cen.debugged.get v = true → x.dbg.started = false → x.passEcc = none → tasksFor s.blk.cyc.tasks x.dbg.dfur.toNat ≠ [] →
      ∃ t, exec (.dctlStep v) s = .next t ∧ (t.v v).dbg.started = true ∧ (t.v v).dbg.halted = false ∧
        (t.v v).dbg.single = true ∧ (t.v v).todo = tasksFor s.blk.cyc.tasks x.dbg.dfur.toNat ∧
        (t.v v).lat.passDone = true ∧ t = s.setV v (t.v v)) ∧
    (s.blk.cen.debugged.get v = true → x.dbg.halted = true → x.dbg.started = false → x.passEcc = none →
      tasksFor s.blk.cyc.tasks x.dbg.dfur.toNat ≠ [] →
      ∃ t, exec (.dctlRun v) s = .next t ∧ (t.v v).dbg.started = true ∧ (t.v v).dbg.halted = false ∧
        (t.v v).todo = tasksFor s.blk.cyc.tasks x.dbg.dfur.toNat ∧ (t.v v).lat.passDone = true ∧ t = s.setV v (t.v v))

/-- A write with an effect on the module in common is noted for its vertex and acts when a second vertex in service writes the same value to
the same address in the furlong, and again when both have written it once more: the clears of TTB, NTM, SIO, CHD, BST, MEM and their flags
(notes/assumptions/20.md: the model's choice of how vertices agree). -/
def Obligations.CommonClearsActWhenTwoAgree : Prop :=
  ∀ (v w : Vtx) (val : Word) (s : State), s.inService v = true → s.inService w = true → w ≠ v →
    let agrees := fun (c : Instr) (addr : Nat) (x : Word) (own : State) (effect : State → State) =>
      (s.votes = [] → exec c s = .next { own with votes := [(addr, x, [v])] }) ∧
      (s.votes = [(addr, x, [w])] → exec c s = .next (effect { own with votes := [(addr, x, [v, w])] })) ∧
      (s.votes = [(addr, x, [v, w])] → exec c s = .next { own with votes := [(addr, x, [v, v, w])] }) ∧
      (s.votes = [(addr, x, [w, v, w])] → exec c s = .next (effect { own with votes := [(addr, x, [v, w, v, w])] }))
    let m := val.extractLsb' 0 8
    agrees (.ttbCtlClr v) 0x08003040 1 s (fun t => t.modTtb Ttb.clear) ∧
    agrees (.ttbFlagClear v val) 0x08003020 val s (fun t => t.modTtb (fun b => b.clearFlags t.nt val)) ∧
    agrees (.ntmCtlClr v) 0x0800402C 1 s (fun t => t.modNtm Ntm.clear) ∧
    agrees (.ntmFlagClear v val) 0x08004004 val s (fun t => t.modNtm (fun b => b.clearFlags t.nt val)) ∧
    agrees (.sioCtlClr v) 0x08005028 1 s (fun t => t.modSio Sio.clear) ∧
    agrees (.chdCtlClr v) 0x08006030 1 s (fun t => t.modChd Chd.clear) ∧
    agrees (.bstCtlClr v) 0x08008014 1 s (fun t => t.modBst (fun b => { b with abandon := 0, resrun := 0 })) ∧
    agrees (.memCtlClr v) 0x0800701C 1
      (s.setV v { s.v v with loc := { (s.v v).loc with eccOwn := 0, p0busy := 0, p1busy := 0 } })
      (fun t => { t with blk := { t.blk with mem := { t.blk.mem with shared := 0 } } }) ∧
    agrees (.memDoneClear v val) 0x08007000 val
      { s with engines := s.engines.set v ((s.engines.get v).clearDone s.nt m) }
      (fun t => { t with engN := t.engN.clearDone t.nt m, engM := t.engM.clearDone t.nt m })

/-! ### The rejoin -/

/-- The rejoin: its self-test ends with step 2 at the next boundary, or with REJOIN_FAIL reason 1 or 2; the copy of step 2 brings the next share of the
instance region from the source in phase 3, after the mirror set and the reserved slices, and fails with reason 5 when the source has left
service; until the final copy the element SRAM reads as zero data (R56, R234 to R236, R238, R375). What a rejoin copies beside is in
notes/assumptions/51.md. -/
def Obligations.RejoinTestsAndCopies : Prop :=
  ∀ (dt : Nat) (u v : Vtx) (s : State), s.blk.cen.rejVtx = some v →
    let e := s.elapse dt
    let failed := fun (o : Host.Outcome State Fault Refusal) (reason : Nat) =>
      ∃ t, o = .next t ∧ t.blk.cen.rejVtx = none ∧ t.blk.cen.rejReason = reason ∧ t.blk.cen.rejLast = some v ∧
        t.blk.cen.rejFails.get v = min (s.blk.cen.rejFails.get v + 1) 3 ∧ t.mode = s.mode ∧
        Recorded s t .rejoinFail (shortBody v.num reason 0)
    (s.blk.cen.rejStep = 1 → s.rejoin.stepDue = 0 →
      (∀ c, failed (exec (.rejoinSelfTestEnd dt false c) s) 1) ∧
      ((s.v v).mem.ecc.any staticKey = false →
        failed (exec (.rejoinSelfTestEnd dt true false) s) 2 ∧
        ∃ t, exec (.rejoinSelfTestEnd dt true true) s = .next t ∧ t.rejoin.stepDue = 2 ∧ (t.v v).mem.inst = [] ∧
          (t.v v).lat.blank = true ∧
          t.blk = s.blk ∧ ∀ w, w ≠ v → t.v w = s.v w)) ∧
    (s.rejoin.source = some u → e.slackFree = true → s.rejoin.done = false →
      (s.inService u = false → s.blk.cen.rejStep ≠ 0 → failed (exec (.rejoinCopySlack dt) s) 5) ∧
      (s.inService u = true → u ≠ v → s.blk.cen.rejStep = 2 → s.rejoin.copied < 0x00800000 →
        let n := min (copyBudget s.profile) (0x00800000 - s.rejoin.copied)
        let a := 0x01000000 + s.rejoin.copied
        (∀ k ∈ (s.v u).mem.ecc, k < a ∨ a + n ≤ k) → Memory.wf (s.v u).mem.inst = true → Memory.wf (s.v v).mem.inst = true →
        ∃ t, exec (.rejoinCopySlack dt) s = .next t ∧ t.rejoin.done = true ∧ t.rejoin.copied = s.rejoin.copied + n ∧
          t.blk = s.blk ∧ (t.v u).mem.inst = (s.v u).mem.inst ∧
          ∀ b, Memory.read (t.v v).mem.inst b =
            Memory.read (if a ≤ b ∧ b < a + n then (s.v u).mem.inst else (s.v v).mem.inst) b))

/-! ### The whole module -/

/-- Every command takes the module to a next state: none faults and none is refused. -/
def Obligations.EveryCommandEndsInANextState : Prop := ∀ (c : Instr) (s : State), ∃ t, exec c s = .next t

/-- No command touches the commands that wait behind it. -/
def Obligations.CommandsLeaveTheQueue : Prop := ∀ (c : Instr) (s t : State), exec c s = .next t → t.pending = s.pending

/-- What is burnt, programmed once or counted for ever is never undone by a step: fuses, vendor roots, variant and serial number stand, the
operator roots once programmed stand, and the SVN counter, the index of the attestation key, SEQ and the time of the module never go back
(R386, R399, R418, R419, R439). -/
def Obligations.StepsNeverUndoWhatIsPermanent : Prop := ∀ s t : State, step s = .next t → Later s t

/-- Every step keeps every memory of the module in canonical form. -/
def Obligations.StepsKeepMemoryCanonical : Prop := ∀ s t : State, s.memWf → step s = .next t → t.memWf

/-- The module right after reset: every memory is canonical, no command waits, the module is held in START and waits for POWER_ON, with no vertex
excluded, no output closed, no transmitter of a guardian released and the next SEQ 1; what the tables give for a few registers (R17). What no
table gives, such as the next SEQ, is the model's (notes/assumptions/14.md). -/
def Obligations.ResetLeavesItsValues : Prop :=
  State.reset.memWf ∧ State.reset.pending = [] ∧ State.reset.inReset = true ∧ State.reset.mode = .start ∧
    State.reset.boundaries = false ∧ State.reset.strength = 3 ∧ State.reset.recorder.seq = 1 ∧ State.reset.out = [] ∧
    (∀ q ∈ State.reset.blk.sio.qs, q.on = false) ∧ (∀ q ∈ State.reset.blk.sio.qa, q.on = false) ∧
    (∀ n, (State.reset.guard.get n).schedule = none) ∧
    (∀ v r, (State.reset.v v).reg r = 0) ∧
    ∀ v, State.reset.readReg v 0x08000000 = some 0x1C0 ∧ State.reset.readReg v 0x08008000 = some 0x7F ∧
      State.reset.readReg v 0x0800B004 = some 3 ∧ State.reset.readReg v 0x08005000 = some 0xF ∧
      State.reset.readReg v 0x08005040 = some 0
end

