-- ==== Sys2Proof/Laws/State.lean ====
section
/-! SUPPORT. The small laws of the state: the three-vertex tuple, the vertices of a state, and what each elementary update
leaves. -/

namespace Sys2Proof

@[simp] theorem Tri.get_set_same {α : Type} (t : Tri α) (v : Vtx) (x : α) : (t.set v x).get v = x := by
  cases v <;> rfl

theorem Tri.get_set_other {α : Type} (t : Tri α) {u v : Vtx} (x : α) (h : u ≠ v) : (t.set v x).get u = t.get u := by
  cases u <;> cases v <;> first | rfl | exact absurd rfl h

@[simp] theorem Tri.set_set {α : Type} (t : Tri α) (v : Vtx) (x y : α) : (t.set v x).set v y = t.set v y := by
  cases v <;> rfl

@[simp] theorem Tri.set_get {α : Type} (t : Tri α) (v : Vtx) : t.set v (t.get v) = t := by
  cases v <;> rfl

@[simp] theorem Tri.get_mapv {α β : Type} (t : Tri α) (f : Vtx → α → β) (v : Vtx) : (t.mapv f).get v = f v (t.get v) := by
  cases v <;> rfl

@[simp] theorem Tri.get_map {α β : Type} (t : Tri α) (f : α → β) (v : Vtx) : (t.map f).get v = f (t.get v) := by
  cases v <;> rfl

@[simp] theorem Tri.get_all {α : Type} (x : α) (v : Vtx) : (Tri.all x).get v = x := by
  cases v <;> rfl

namespace Machine

/-! ### The vertices of a state -/

@[simp] theorem State.v_setV (s : State) (v : Vtx) (x : Vertex) : (s.setV v x).v v = x := Tri.get_set_same _ _ _

theorem State.v_setV_other (s : State) {u v : Vtx} (x : Vertex) (h : u ≠ v) : (s.setV v x).v u = s.v u :=
  Tri.get_set_other _ _ h

@[simp] theorem State.setV_setV (s : State) (v : Vtx) (x y : Vertex) : (s.setV v x).setV v y = s.setV v y := by
  simp [State.setV]

@[simp] theorem State.setV_v (s : State) (v : Vtx) : s.setV v (s.v v) = s := by
  simp [State.setV, State.v]

@[simp] theorem State.v_modV (s : State) (v : Vtx) (f : Vertex → Vertex) : (s.modV v f).v v = f (s.v v) :=
  State.v_setV _ _ _

theorem State.v_modV_other (s : State) {u v : Vtx} (f : Vertex → Vertex) (h : u ≠ v) : (s.modV v f).v u = s.v u :=
  State.v_setV_other _ _ h

@[simp] theorem State.v_modAll (s : State) (f : Vtx → Vertex → Vertex) (v : Vtx) :
    (s.modAll f).v v = f v (s.v v) := Tri.get_mapv _ _ _

/-! ### What the elementary updates leave -/

@[simp] theorem State.setV_blk (s : State) (v : Vtx) (x : Vertex) : (s.setV v x).blk = s.blk := rfl
@[simp] theorem State.modV_blk (s : State) (v : Vtx) (f : Vertex → Vertex) : (s.modV v f).blk = s.blk := rfl
@[simp] theorem State.modAll_blk (s : State) (f : Vtx → Vertex → Vertex) : (s.modAll f).blk = s.blk := rfl
@[simp] theorem State.setV_traps (s : State) (v : Vtx) (x : Vertex) : (s.setV v x).traps = s.traps := rfl
@[simp] theorem State.modV_traps (s : State) (v : Vtx) (f : Vertex → Vertex) : (s.modV v f).traps = s.traps := rfl
@[simp] theorem State.modCyc_v (s : State) (f : Cyc → Cyc) (v : Vtx) : (s.modCyc f).v v = s.v v := rfl
@[simp] theorem State.modCyc_cyc (s : State) (f : Cyc → Cyc) : (s.modCyc f).blk.cyc = f s.blk.cyc := rfl
@[simp] theorem State.modCyc_cen (s : State) (f : Cyc → Cyc) : (s.modCyc f).blk.cen = s.blk.cen := rfl
@[simp] theorem State.modCen_v (s : State) (f : Cen → Cen) (v : Vtx) : (s.modCen f).v v = s.v v := rfl
@[simp] theorem State.modCen_cen (s : State) (f : Cen → Cen) : (s.modCen f).blk.cen = f s.blk.cen := rfl
@[simp] theorem State.modCen_cyc (s : State) (f : Cen → Cen) : (s.modCen f).blk.cyc = s.blk.cyc := rfl
@[simp] theorem State.modTtb_v (s : State) (f : Ttb → Ttb) (v : Vtx) : (s.modTtb f).v v = s.v v := rfl
@[simp] theorem State.modTtb_ttb (s : State) (f : Ttb → Ttb) : (s.modTtb f).blk.ttb = f s.blk.ttb := rfl
@[simp] theorem State.modNtm_v (s : State) (f : Ntm → Ntm) (v : Vtx) : (s.modNtm f).v v = s.v v := rfl
@[simp] theorem State.modNtm_ntm (s : State) (f : Ntm → Ntm) : (s.modNtm f).blk.ntm = f s.blk.ntm := rfl
@[simp] theorem State.modNic_v (s : State) (f : Nic → Nic) (v : Vtx) : (s.modNic f).v v = s.v v := rfl
@[simp] theorem State.modNic_nic (s : State) (f : Nic → Nic) : (s.modNic f).nic = f s.nic := rfl
@[simp] theorem State.modNic_blk (s : State) (f : Nic → Nic) : (s.modNic f).blk = s.blk := rfl
@[simp] theorem State.elapse_v (s : State) (dt : Nat) (v : Vtx) : (s.elapse dt).v v = s.v v := rfl
@[simp] theorem State.elapse_blk (s : State) (dt : Nat) : (s.elapse dt).blk = s.blk := rfl
@[simp] theorem State.elapse_nt (s : State) (dt : Nat) : (s.elapse dt).nt = s.nt + dt := rfl
@[simp] theorem State.elapse_pending (s : State) (dt : Nat) : (s.elapse dt).pending = s.pending := rfl

end Machine

end Sys2Proof
end

