-- ==== Sys2Proof/Laws/Issue.lean ====
section
/-! SUPPORT. What the issue of an instruction does, once for every instruction: where nothing stops it and its body is done, the
next state is the retirement of that body. -/

namespace Sys2Proof.Machine

/-- The issue state differs from the state in which the full stride is closed in vertex `v` alone. -/
theorem State.issueState_setV (s : State) (v : Vtx) (n : Nat) (x : Vertex) :
    (s.issueState v n).setV v x = (s.closeFull v).setV v x := by
  simp [State.issueState, State.modV]

theorem State.issueVertex_eq (s : State) (v : Vtx) (n : Nat) :
    s.issueVertex v n = ((s.closeFull v).v v).fetchCorrect n := by
  simp [State.issueVertex, State.issueState]

/-- A read of memory leaves the registers. -/
@[simp] theorem Vertex.touch_core (x : Vertex) (r : Region) (a : Nat) : (x.touch r a).core = x.core := by
  unfold Vertex.touch; split <;> rfl

@[simp] theorem Vertex.fetchCorrect_core (x : Vertex) (n : Nat) : (x.fetchCorrect n).core = x.core := by
  unfold Vertex.fetchCorrect; split <;> simp

/-- The vertex at issue has the registers of the vertex. -/
theorem State.issueVertex_core (s : State) (v : Vtx) (n : Nat) :
    (s.issueVertex v n).core = ((s.closeFull v).v v).core := by
  rw [State.issueVertex_eq, Vertex.fetchCorrect_core]

/-- The last step of a retirement: the debug channel's, in a debug furlong. -/
def Vertex.finish (x z : Vertex) (debugging : Bool) : Vertex :=
  if debugging then z.debugAfter x.core.stream.length else z

/-- An instruction that nothing stops and whose body is done. -/
theorem State.instr_done {s : State} {v : Vtx} {m : Vertex → IMeta} {body : Vertex → IRes} {post : State → State}
    {k : IMeta} {y : Vertex} {npc : Option Word} {undo : List Host.Cell}
    (h : MayIssue s v k) (hm : m ((s.closeFull v).v v) = k)
    (hb : body (s.issueVertex v k.words) = .done y npc undo) :
    s.instr v m false body post =
      post ((s.closeFull v).setV v
        (((s.closeFull v).v v).finish (((s.closeFull v).v v).retire y k npc undo) ((s.closeFull v).debugging v))) := by
  obtain ⟨h1, h2, h3⟩ := h
  rw [State.issueVertex_eq] at hb
  simp only [State.instr, h1, hm, hb, State.causeOf, h3, h2, lowerCause, Vertex.finish]
  rfl

/-- No cause is the lower of two only where neither is one. -/
theorem lowerCause_none {a b : Option (TrapCause × Nat × Nat)} (h : lowerCause a b = none) : a = none ∧ b = none := by
  cases a <;> cases b <;> simp only [lowerCause, and_self, reduceCtorEq] at h ⊢
  split at h <;> cases h

/-- Where no common cause stops an instruction, its word is not malformed. -/
theorem State.malformed_of_clean {s : State} {v : Vtx} {k : IMeta} {bad : Bool} (h : s.commonCause v k bad = none) :
    s.malformed v bad = false := by
  obtain ⟨_, h⟩ := lowerCause_none h
  obtain ⟨_, h⟩ := lowerCause_none h
  obtain ⟨h, _⟩ := lowerCause_none h
  cases hm : s.malformed v bad
  · rfl
  · simp [hm] at h

/-- An instruction whose body traps. -/
theorem State.instr_trap {s : State} {v : Vtx} {m : Vertex → IMeta} {body : Vertex → IRes} {post : State → State}
    {k : IMeta} {c : TrapCause} {u a : Nat}
    (h : MayIssue s v k) (hm : m ((s.closeFull v).v v) = k)
    (hb : body (s.issueVertex v k.words) = .trap c u a) :
    s.instr v m false body post = (s.closeFull v).trapInstr v k (c, u, a) := by
  obtain ⟨h1, h2, h3⟩ := h
  rw [State.issueVertex_eq] at hb
  simp only [State.instr, h1, hm, hb, State.causeOf, h3, h2, lowerCause, State.malformed_of_clean h3]
  rfl

theorem Vertex.debugAfter_core (x : Vertex) (n : Nat) : (x.debugAfter n).core = x.core := by
  unfold Vertex.debugAfter; split <;> (try split) <;> rfl

theorem Vertex.debugAfter_eq (x : Vertex) (n : Nat) : x.debugAfter n = { x with dbg := (x.debugAfter n).dbg } := by
  unfold Vertex.debugAfter; split <;> (try split) <;> rfl

theorem Vertex.finish_eq (x z : Vertex) (d : Bool) : x.finish z d = { z with dbg := (x.finish z d).dbg } := by
  unfold Vertex.finish; split
  · exact Vertex.debugAfter_eq _ _
  · rfl

@[simp] theorem Vertex.finish_core (x z : Vertex) (d : Bool) : (x.finish z d).core = z.core := by rw [Vertex.finish_eq]

@[simp] theorem Vertex.finish_false (x z : Vertex) : x.finish z false = z := rfl

/-- Retirement: the registers. -/
@[simp] theorem Vertex.retire_core (x0 x : Vertex) (m : IMeta) (npc : Option Word) (undo : List Host.Cell) :
    (x0.retire x m npc undo).core =
      { x.core with
        pc := npc.getD (x0.core.pc + BitVec.ofNat 32 (4 * m.words)), count := x0.countAfter m,
        retired := x.core.retired + 1 } := rfl

/-- Retirement leaves everything but the registers and the memory of the last issue. -/
theorem Vertex.retire_rest (x0 x : Vertex) (m : IMeta) (npc : Option Word) (undo : List Host.Cell) :
    x0.retire x m npc undo =
      { x with core := (x0.retire x m npc undo).core, last := (x0.retire x m npc undo).last } := rfl

end Sys2Proof.Machine
end

