-- ==== Sys2Proof/Laws/Memory.lean ====
section
/-! SUPPORT. The laws of memory: a read after a write, what a write leaves alone, and that every memory operation keeps the
canonical form (notes/assumptions/3.md). -/

namespace Sys2Proof.Machine

/-! ### Keys above an address -/

theorem Memory.above_nil (a : Nat) : Memory.above a [] = true := rfl

theorem Memory.above_cons (a : Nat) (c : Host.Cell) (m : List Host.Cell) :
    Memory.above a (c :: m) = true ↔ a < c.1 ∧ Memory.above a m = true := by
  simp [Memory.above]

theorem Memory.above_trans {a b : Nat} {m : List Host.Cell} (h : a ≤ b) (hm : Memory.above b m = true) :
    Memory.above a m = true := by
  simp only [Memory.above, List.all_eq_true, decide_eq_true_eq] at hm ⊢
  exact fun c hc => Nat.lt_of_le_of_lt h (hm c hc)

theorem Memory.above_append (a : Nat) (l m : List Host.Cell) :
    Memory.above a (l ++ m) = (Memory.above a l && Memory.above a m) := by
  simp [Memory.above]

theorem Memory.wf_cons (a : Nat) (x : Byte) (m : List Host.Cell) :
    Memory.wf ((a, x) :: m) = true ↔ x ≠ Memory.default ∧ Memory.above a m = true ∧ Memory.wf m = true := by
  simp [Memory.wf, and_assoc]

/-- An address below every key reads as the default. -/
theorem Memory.read_above {a b : Nat} {m : List Host.Cell} (h : Memory.above a m = true) (hb : b ≤ a) :
    Memory.read m b = Memory.default := by
  induction m with
  | nil => rfl
  | cons c m ih =>
    obtain ⟨h1, h2⟩ := (Memory.above_cons a c m).1 h
    simp only [Memory.read]
    rw [if_neg (by omega)]
    exact ih h2

/-! ### Reads after a write -/

theorem Memory.read_write_same {m : List Host.Cell} (h : Memory.wf m = true) (a : Nat) (x : Byte) :
    Memory.read (Memory.write m a x) a = x := by
  induction m with
  | nil => unfold Memory.write; split <;> simp_all [Memory.read]
  | cons c m ih =>
    obtain ⟨k, b⟩ := c
    obtain ⟨h1, h2, h3⟩ := (Memory.wf_cons k b m).1 h
    unfold Memory.write
    split
    · split
      · next hk hx =>
        simp only [Memory.read]
        rw [if_neg (by omega), Memory.read_above h2 (by omega), hx]
      · simp [Memory.read]
    · split
      · split
        · next hk hx => rw [Memory.read_above h2 (by omega), hx]
        · simp [Memory.read]
      · next h4 h5 =>
        simp only [Memory.read]
        rw [if_neg (by omega)]
        exact ih h3

theorem Memory.read_write_other (m : List Host.Cell) {a b : Nat} (x : Byte) (h : b ≠ a) :
    Memory.read (Memory.write m a x) b = Memory.read m b := by
  induction m with
  | nil => unfold Memory.write; split <;> simp [Memory.read, Ne.symm h]
  | cons c m ih =>
    obtain ⟨k, y⟩ := c
    unfold Memory.write
    split
    · split <;> simp [Memory.read, Ne.symm h]
    · split
      · next h1 h2 => subst h2; split <;> simp [Memory.read, Ne.symm h]
      · simp only [Memory.read, ih]

/-! ### The canonical form -/

theorem Memory.above_write {a k : Nat} {m : List Host.Cell} (x : Byte) (h : Memory.above k m = true) (hk : k < a) :
    Memory.above k (Memory.write m a x) = true := by
  induction m with
  | nil => unfold Memory.write; split <;> simp [Memory.above, hk]
  | cons c m ih =>
    obtain ⟨j, y⟩ := c
    obtain ⟨h1, h2⟩ := (Memory.above_cons k (j, y) m).1 h
    unfold Memory.write
    split
    · split
      · exact h
      · exact (Memory.above_cons _ _ _).2 ⟨hk, h⟩
    · split
      · split
        · exact h2
        · exact (Memory.above_cons _ _ _).2 ⟨hk, h2⟩
      · exact (Memory.above_cons _ _ _).2 ⟨h1, ih h2⟩

theorem Memory.wf_write {m : List Host.Cell} (h : Memory.wf m = true) (a : Nat) (x : Byte) :
    Memory.wf (Memory.write m a x) = true := by
  induction m with
  | nil => unfold Memory.write; split <;> simp_all [Memory.wf, Memory.above]
  | cons c m ih =>
    obtain ⟨k, b⟩ := c
    obtain ⟨h1, h2, h3⟩ := (Memory.wf_cons k b m).1 h
    unfold Memory.write
    split
    · next hk =>
      split
      · exact h
      · next hx =>
        have h4 := (Memory.above_cons a (k, b) m).2 ⟨hk, Memory.above_trans (by omega) h2⟩
        exact (Memory.wf_cons _ _ _).2 ⟨hx, h4, h⟩
    · split
      · next hk =>
        subst hk
        split
        · exact h3
        · next hx => exact (Memory.wf_cons _ _ _).2 ⟨hx, h2, h3⟩
      · exact (Memory.wf_cons _ _ _).2 ⟨h1, Memory.above_write x h2 (by omega), ih h3⟩

theorem Memory.wf_put {m : List Host.Cell} (h : Memory.wf m = true) (a : Nat) (l : List Byte) :
    Memory.wf (Memory.put m a l) = true := by
  induction l generalizing m a with
  | nil => exact h
  | cons b bs ih => exact ih (Memory.wf_write h a b) (a + 1)

theorem Memory.wf_store {m : List Host.Cell} (h : Memory.wf m = true) (a n x : Nat) :
    Memory.wf (Memory.store m a n x) = true := Memory.wf_put h a _

theorem Memory.wf_foldl_write (l : List Host.Cell) {m : List Host.Cell} (h : Memory.wf m = true) :
    Memory.wf (l.foldl (fun m c => Memory.write m c.1 c.2) m) = true := by
  induction l generalizing m with
  | nil => exact h
  | cons c l ih => exact ih (Memory.wf_write h c.1 c.2)

theorem Memory.wf_ofCells (l : List Host.Cell) : Memory.wf (Memory.ofCells l) = true :=
  Memory.wf_foldl_write l rfl

theorem Memory.above_filter {a : Nat} {m : List Host.Cell} (p : Host.Cell → Bool) (h : Memory.above a m = true) :
    Memory.above a (m.filter p) = true := by
  simp only [Memory.above, List.all_eq_true, decide_eq_true_eq] at h ⊢
  exact fun c hc => h c (List.mem_filter.1 hc).1

theorem Memory.wf_filter {m : List Host.Cell} (p : Host.Cell → Bool) (h : Memory.wf m = true) :
    Memory.wf (m.filter p) = true := by
  induction m with
  | nil => rfl
  | cons c m ih =>
    obtain ⟨k, b⟩ := c
    obtain ⟨h1, h2, h3⟩ := (Memory.wf_cons k b m).1 h
    simp only [List.filter_cons]
    split
    · exact (Memory.wf_cons _ _ _).2 ⟨h1, Memory.above_filter p h2, ih h3⟩
    · exact ih h3

theorem Memory.wf_append {l m : List Host.Cell} (hl : Memory.wf l = true) (hm : Memory.wf m = true)
    (h : ∀ c ∈ l, Memory.above c.1 m = true) : Memory.wf (l ++ m) = true := by
  induction l with
  | nil => exact hm
  | cons c l ih =>
    obtain ⟨k, b⟩ := c
    obtain ⟨h1, h2, h3⟩ := (Memory.wf_cons k b l).1 hl
    have h4 := h (k, b) List.mem_cons_self
    have h5 : Memory.above k (l ++ m) = true := by
      rw [Memory.above_append]; simp [h2, h4]
    exact (Memory.wf_cons _ _ _).2 ⟨h1, h5, ih h3 (fun c hc => h c (List.mem_cons_of_mem _ hc))⟩

theorem Memory.wf_copyRange {src dst : List Host.Cell} (hs : Memory.wf src = true) (hd : Memory.wf dst = true)
    (a n : Nat) : Memory.wf (Memory.copyRange src dst a n) = true := by
  have above_of : ∀ (k : Nat) (m : List Host.Cell), (∀ c ∈ m, k < c.1) → Memory.above k m = true := by
    intro k m hm; simpa [Memory.above] using hm
  refine Memory.wf_append (Memory.wf_append (Memory.wf_filter _ hd) (Memory.wf_filter _ hs) ?_)
    (Memory.wf_filter _ hd) ?_
  · intro c hc
    refine above_of _ _ fun e he => ?_
    simp only [List.mem_filter, Memory.range, decide_eq_true_eq, Bool.and_eq_true] at hc he
    omega
  · intro c hc
    refine above_of _ _ fun e he => ?_
    simp only [List.mem_append, List.mem_filter, Memory.range, decide_eq_true_eq, Bool.and_eq_true] at hc he
    omega

/-! ### Stores -/

theorem Memory.read_put_other (l : List Byte) (m : List Host.Cell) {a b : Nat} (h : b < a ∨ a + l.length ≤ b) :
    Memory.read (Memory.put m a l) b = Memory.read m b := by
  induction l generalizing m a with
  | nil => rfl
  | cons x l ih =>
    simp only [List.length_cons] at h
    simp only [Memory.put]
    rw [ih _ (by omega), Memory.read_write_other _ _ (by omega)]

theorem Memory.read_put_same (l : List Byte) {m : List Host.Cell} (hm : Memory.wf m = true) (a i : Nat)
    (h : i < l.length) : Memory.read (Memory.put m a l) (a + i) = l[i] := by
  induction l generalizing m a i with
  | nil => simp at h
  | cons x l ih =>
    simp only [Memory.put]
    cases i with
    | zero =>
      rw [Memory.read_put_other _ _ (by omega)]
      simpa using Memory.read_write_same hm a x
    | succ i =>
      have := ih (Memory.wf_write hm a x) (a + 1) i (by simpa using h)
      simpa [Nat.add_assoc, Nat.add_comm 1 i] using this

/-! ### The memories of a vertex -/

theorem VMem.wf_cells {m : VMem} (h : m.wf) (r : Region) : Memory.wf (m.cells r) = true := by
  obtain ⟨h1, h2, h3, h4, h5, h6⟩ := h
  cases r <;> simp only [VMem.cells] <;> (try split) <;> assumption

theorem VMem.wf_setCells {m : VMem} (h : m.wf) (r : Region) {c : List Host.Cell} (hc : Memory.wf c = true) :
    (m.setCells r c).wf := by
  obtain ⟨h1, h2, h3, h4, h5, h6⟩ := h
  cases r <;> simp only [VMem.setCells] <;> (try split) <;> exact ⟨by assumption, by assumption, by assumption, by assumption, by assumption, by assumption⟩

theorem VMem.wf_setTransmit {m : VMem} (h : m.wf) {c : List Host.Cell} (hc : Memory.wf c = true) :
    (m.setTransmit c).wf := by
  obtain ⟨h1, h2, h3, h4, h5, h6⟩ := h
  simp only [VMem.setTransmit]; split <;> exact ⟨by assumption, by assumption, by assumption, by assumption, by assumption, by assumption⟩

theorem VMem.wf_transmit {m : VMem} (h : m.wf) : Memory.wf m.transmit = true := by
  obtain ⟨h1, h2, h3, h4, h5, h6⟩ := h
  simp only [VMem.transmit]; split <;> assumption

theorem VMem.wf_correct {m : VMem} (h : m.wf) (r : Region) (a : Nat) : (m.correct r a).wf := h

theorem VMem.wf_store {m : VMem} (h : m.wf) (r : Region) (a n x : Nat) : (m.store r a n x).wf := by
  unfold VMem.store
  refine VMem.wf_setCells ?_ r (Memory.wf_store (VMem.wf_cells h r) a n x)
  split <;> exact h

theorem VMem.wf_reset : VMem.reset.wf := ⟨rfl, rfl, rfl, rfl, rfl, rfl⟩

/-- Every memory of the module right after reset is in canonical form. -/
theorem State.memWf_reset : State.reset.memWf := ⟨fun v => by cases v <;> exact VMem.wf_reset, rfl⟩

end Sys2Proof.Machine
end

