-- ==== Sys2Proof/Laws/Permanent.lean ====
section
/-! SUPPORT. What nearly every function of the model leaves as it is: the queue, the time, the fuses, the OTP, the index of the attestation key and
SEQ, as one value `perm`, with one lemma per function. -/

namespace Sys2Proof.Machine

/-- What most functions of the model leave. -/
structure Permanent where
  pending : List Instr
  nt : Nat
  fuses : Tri (List Repair)
  fusesSh : List Repair
  otp : Otp
  hssidx : Nat
  seq : Nat

def State.perm (s : State) : Permanent := ⟨s.pending, s.nt, s.fuses, s.fusesSh, s.upd.otp, s.upd.hssidx, s.recorder.seq⟩

@[simp] theorem State.perm_fold (s : State) :
    Permanent.mk s.pending s.nt s.fuses s.fusesSh s.upd.otp s.upd.hssidx s.recorder.seq = s.perm := rfl

@[simp] theorem State.perm_mk {a0 a1 a2 a3 a4 a5 a6 a7 a8 a9 a10 a11 a12 a13 a14 a15 a16 a17 a18 a19 a20 a21 a22 a23 a24 a25 a26 a27 a28 a29 a30 a31 a32 a33 a34 a35 a36 a37 a38 a39 a40 a41 a42 a43 a44 a45 a46 a47 a48 a49 a50 a51 a52 a53 a54 a55 a56 a57} : State.perm (State.mk a0 a1 a2 a3 a4 a5 a6 a7 a8 a9 a10 a11 a12 a13 a14 a15 a16 a17 a18 a19 a20 a21 a22 a23 a24 a25 a26 a27 a28 a29 a30 a31 a32 a33 a34 a35 a36 a37 a38 a39 a40 a41 a42 a43 a44 a45 a46 a47 a48 a49 a50 a51 a52 a53 a54 a55 a56 a57) =
    ⟨a0, a8, a25, a26, Update.otp a34, Update.hssidx a34, Recorder.seq a33⟩ := rfl

@[simp] theorem perm_ite {c : Prop} [Decidable c] (s t : State) : (if c then s else t).perm = if c then s.perm else t.perm := by
  split <;> rfl

theorem perm_foldl {α : Type} (f : State → α → State) (l : List α) (s : State) (h : ∀ t a, (f t a).perm = t.perm) :
    (l.foldl f s).perm = s.perm := by
  induction l generalizing s with
  | nil => rfl
  | cons a l ih => rw [List.foldl_cons, ih, h]

/-! ### The recorder keeps SEQ -/

@[simp] theorem Recorder.program_seq (r : Recorder) (x : Fold) : (r.program x).seq = r.seq := by
  rfl
theorem Recorder.foldl_program_seq (l : List Fold) (r : Recorder) : (l.foldl Recorder.program r).seq = r.seq := by
  induction l generalizing r with
  | nil => rfl
  | cons a l ih => rw [List.foldl_cons, ih, Recorder.program_seq]
@[simp] theorem Recorder.settle_seq (r : Recorder) : r.settle.seq = r.seq := by
  simp only [Recorder.settle]; split
  · rfl
  · exact Recorder.foldl_program_seq _ _
@[simp] theorem Recorder.thaw_seq (r : Recorder) : r.thaw.seq = r.seq := by
  simp [Recorder.thaw]
theorem Recorder.foldl_close_seq (l : List Fold) (r : Recorder) (h : ∀ (r : Recorder) (f : Fold), (r.close f).seq = r.seq) :
    (l.foldl Recorder.close r).seq = r.seq := by
  induction l generalizing r with
  | nil => rfl
  | cons a l ih => rw [List.foldl_cons, ih, h]
@[simp] theorem Recorder.close_seq (r : Recorder) (f : Fold) : (r.close f).seq = r.seq := by
  simp only [Recorder.close]; split <;> rfl
@[simp] theorem Recorder.closeAll_seq (r : Recorder) (l : List Fold) : (r.closeAll l).seq = r.seq :=
  Recorder.foldl_close_seq l r Recorder.close_seq
@[simp] theorem Recorder.again_seq (r : Recorder) (f : Fold) : (r.again f).seq = r.seq := by
  simp only [Recorder.again]; split <;> simp
@[simp] theorem Recorder.room_seq (r : Recorder) : r.room.seq = r.seq := by
  unfold Recorder.room; repeat' split
  all_goals simp
@[simp] theorem Recorder.enter_seq (r : Recorder) (x : Rec) (d : Bool) (w : Option Nat) : (r.enter x d w).seq = r.seq := by
  simp only [Recorder.enter]; split <;> simp
@[simp] theorem Recorder.form_seq (r : Recorder) (x : Rec) (d : Bool) (w : Option Nat) : (r.form x d w).seq = r.seq := by
  simp only [Recorder.form]; split <;> simp
@[simp] theorem Recorder.walk_seq (r : Recorder) : r.walk.seq = r.seq := by
  simp only [Recorder.walk]; repeat' split
  all_goals rfl
@[simp] theorem Recorder.firstDelivery_seq (r : Recorder) (f : Nat) : (r.firstDelivery f).seq = r.seq := by
  simp only [Recorder.firstDelivery]; split <;> rfl
@[simp] theorem Recorder.openSector_seq (r : Recorder) : r.openSector.seq = r.seq := rfl
@[simp] theorem Recorder.addSentinel_seq (r : Recorder) (a b : Nat) : (r.addSentinel a b).seq = r.seq := rfl
@[simp] theorem Recorder.eraseAhead_seq (r : Recorder) : r.eraseAhead.seq = r.seq := rfl

theorem Recorder.unlessFailed_seq (r : Recorder) (f : Recorder → Recorder) (h : (f r).seq = r.seq) :
    (r.unlessFailed f).seq = r.seq := by
  simp only [Recorder.unlessFailed]; split <;> simp [h]

@[simp] theorem Recorder.openUnlessFailed_seq (r : Recorder) : (r.unlessFailed Recorder.openSector).seq = r.seq :=
  r.unlessFailed_seq _ rfl

@[simp] theorem Recorder.eraseUnlessFailed_seq (r : Recorder) : (r.unlessFailed Recorder.eraseAhead).seq = r.seq :=
  r.unlessFailed_seq _ rfl

@[simp] theorem Recorder.retire_seq (r : Recorder) (a b : Nat) : (r.retire a b).seq = r.seq := by
  simp only [Recorder.retire]; split <;> simp
@[simp] theorem Recorder.place_seq (r : Recorder) (q : QRec) : (r.place q).seq = r.seq := by
  simp only [Recorder.place]; split <;> simp
@[simp] theorem Recorder.tear_seq (r : Recorder) (q : QRec) : (r.tear q).seq = r.seq := by
  simp [Recorder.tear, Recorder.write]
@[simp] theorem Recorder.supplyBack_seq (r : Recorder) : r.supplyBack.seq = r.seq := by
  simp only [Recorder.supplyBack]; split <;> simp
@[simp] theorem Recorder.fall_seq (r : Recorder) (q : QRec) (l : List QRec) : (r.fall q l).seq = r.seq := rfl
@[simp] theorem Recorder.freeze_seq (r : Recorder) (n : Sess) (a : Nat) : (r.freeze n a).seq = r.seq := rfl
@[simp] theorem Recorder.powerUp_seq (r : Recorder) (b : Bool) : (r.powerUp b).seq = r.seq := by
  simp only [Recorder.powerUp]; split <;> simp

/-! ### Each function -/

@[simp] theorem State.modUpd_perm (s : State) (f : Update → Update) (h : (f s.upd).otp = s.upd.otp)
    (h2 : (f s.upd).hssidx = s.upd.hssidx) : (s.modUpd f).perm = s.perm := by
  simp only [State.modUpd, State.perm, h, h2]

@[simp] theorem State.modRec_perm (s : State) (f : Recorder → Recorder) (h : (f s.recorder).seq = s.recorder.seq) :
    (s.modRec f).perm = s.perm := by
  simp only [State.modRec, State.perm, h]

@[simp] theorem State.setV_perm (s : State) (v : Vtx) (x : Vertex) : (State.setV s v x).perm = s.perm := by
  simp [State.setV]

@[simp] theorem State.modV_perm (s : State) (v : Vtx) (f : Vertex → Vertex) : (State.modV s v f).perm = s.perm := by
  simp [State.modV]

@[simp] theorem State.modAll_perm (s : State) (f : Vtx → Vertex → Vertex) : (State.modAll s f).perm = s.perm := by
  simp [State.modAll]

@[simp] theorem State.modCyc_perm (s : State) (f : Cyc → Cyc) : (State.modCyc s f).perm = s.perm := by
  simp [State.modCyc]

@[simp] theorem State.modCen_perm (s : State) (f : Cen → Cen) : (State.modCen s f).perm = s.perm := by
  simp [State.modCen]

@[simp] theorem State.modTtb_perm (s : State) (f : Ttb → Ttb) : (State.modTtb s f).perm = s.perm := by
  simp [State.modTtb]

@[simp] theorem State.modNtm_perm (s : State) (f : Ntm → Ntm) : (State.modNtm s f).perm = s.perm := by
  simp [State.modNtm]

@[simp] theorem State.modNic_perm (s : State) (f : Nic → Nic) : (State.modNic s f).perm = s.perm := by
  simp [State.modNic]

@[simp] theorem State.recBody_perm (s : State) (t : RecType) (body : List Byte) : (State.recBody s t body).perm = s.perm := by
  simp [State.recBody]

@[simp] theorem State.record_perm (s : State) (t : RecType) (a1 : Nat) (a2 : Nat) (a3 : Nat) : (State.record s t a1 a2 a3).perm = s.perm := by
  simp [State.record]

@[simp] theorem State.recOwn_perm (s : State) (v : Vtx) (t : RecType) (body : List Byte) : (State.recOwn s v t body).perm = s.perm := by
  simp [State.recOwn]

@[simp] theorem State.emit_perm (s : State) (o : Out) : (State.emit s o).perm = s.perm := by
  simp [State.emit]

@[simp] theorem State.sendChord_perm (s : State) (f : ChordFrame) : (State.sendChord s f).perm = s.perm := by
  simp [State.sendChord]

@[simp] theorem State.modSio_perm (s : State) (f : Sio → Sio) : (State.modSio s f).perm = s.perm := by
  simp [State.modSio]

@[simp] theorem State.ioFault_perm (s : State) (group : Nat) (kind : Nat) (chan : Nat) (val : Nat) : (State.ioFault s group kind chan val).perm = s.perm := by
  simp [State.ioFault]

@[simp] theorem State.ioClear_perm (s : State) (group : Nat) (kind : Nat) (chan : Nat) (val : Nat) : (State.ioClear s group kind chan val).perm = s.perm := by
  simp [State.ioClear]

@[simp] theorem State.outputsFault_perm (s : State) (kind : Nat) (val : Nat) : (State.outputsFault s kind val).perm = s.perm := by
  simp [State.outputsFault]

@[simp] theorem State.outputsClear_perm (s : State) (kind : Nat) (val : Nat) : (State.outputsClear s kind val).perm = s.perm := by
  simp [State.outputsClear]

@[simp] theorem State.drive_perm (s : State) : (State.drive s).perm = s.perm := by
  simp [State.drive]

@[simp] theorem State.outputsMode_perm (s : State) : (State.outputsMode s).perm = s.perm := by
  simp [State.outputsMode]

@[simp] theorem State.sioFailRecords_perm (s : State) : (State.sioFailRecords s).perm = s.perm := by
  simp [State.sioFailRecords]

@[simp] theorem State.modBst_perm (s : State) (f : Bst → Bst) : (State.modBst s f).perm = s.perm := by
  simp [State.modBst]

@[simp] theorem State.modPtb_perm (s : State) (f : Ptb → Ptb) : (State.modPtb s f).perm = s.perm := by
  simp [State.modPtb]

@[simp] theorem State.modChd_perm (s : State) (f : Chd → Chd) : (State.modChd s f).perm = s.perm := by
  simp [State.modChd]

@[simp] theorem State.modPair_perm (s : State) (f : PairSt2 → PairSt2) : (State.modPair s f).perm = s.perm := by
  simp [State.modPair]

@[simp] theorem State.endSlices_perm (s : State) : (State.endSlices s).perm = s.perm := by
  simp [State.endSlices]

@[simp] theorem State.sioFail_perm (s : State) : (State.sioFail s).perm = s.perm := by
  simp [State.sioFail]

@[simp] theorem State.ptbClear_perm (s : State) : (State.ptbClear s).perm = s.perm := by
  simp [State.ptbClear]

@[simp] theorem State.cutSet_perm (s : State) : (State.cutSet s).perm = s.perm := by
  simp only [State.cutSet]; repeat' split
  all_goals simp

@[simp] theorem State.serviceRequest_perm (s : State) (p : Nat → Bool) : (State.serviceRequest s p).perm = s.perm := by
  simp only [State.serviceRequest]
  exact perm_foldl _ _ _ (fun t r => State.modBst_perm t _)

@[simp] theorem State.abdicate_perm (s : State) : (State.abdicate s).perm = s.perm := by
  simp [State.abdicate]

@[simp] theorem State.journal_perm (s : State) (f : Journal → Journal) : (State.journal s f).perm = s.perm := by
  simp [State.journal]

@[simp] theorem State.probationHalt_perm (s : State) : (State.probationHalt s).perm = s.perm := by
  simp [State.probationHalt]

@[simp] theorem State.haltEffects_perm (s : State) : (State.haltEffects s).perm = s.perm := by
  simp [State.haltEffects]

@[simp] theorem State.pairMode_perm (s : State) (was : Mode) : (State.pairMode s was).perm = s.perm := by
  simp [State.pairMode]

@[simp] theorem State.setMode_perm (s : State) (m : Mode) (c : MCause) : (State.setMode s m c).perm = s.perm := by
  simp [State.setMode]

@[simp] theorem State.rejoinFail_perm (s : State) (reason : Nat) : (State.rejoinFail s reason).perm = s.perm := by
  unfold State.rejoinFail; repeat' split
  all_goals first | rfl | simp | simp_all

@[simp] theorem State.halt_perm (s : State) (c : MCause) : (State.halt s c).perm = s.perm := by
  simp [State.halt]

@[simp] theorem State.noMajority_perm (s : State) (typ : Nat) (seq : Nat) : (State.noMajority s typ seq).perm = s.perm := by
  simp [State.noMajority]

@[simp] theorem State.cancelWithdraw_perm (s : State) : (State.cancelWithdraw s).perm = s.perm := by
  unfold State.cancelWithdraw; repeat' split
  all_goals first | rfl | simp | simp_all

@[simp] theorem State.takeOut_perm (s : State) (v : Vtx) (c : XCause) (typ : Nat) (seq : Nat) (deciders : Nat) : (State.takeOut s v c typ seq deciders).perm = s.perm := by
  simp [State.takeOut]

@[simp] theorem State.exclude_perm (s : State) (v : Vtx) (c : XCause) (typ : Nat) (seq : Nat) (deciders : Nat) : (State.exclude s v c typ seq deciders).perm = s.perm := by
  simp [State.exclude]

@[simp] theorem State.sendEntry_perm (s : State) (v : Vtx) (e : Entry) : (State.sendEntry s v e).perm = s.perm := by
  simp [State.sendEntry]

@[simp] theorem State.selfFault_perm (s : State) (v : Vtx) (c : XCause) : (State.selfFault s v c).perm = s.perm := by
  simp [State.selfFault]

@[simp] theorem State.trapOutcome_perm (s : State) (v : Vtx) (c : TrapCause) (task : Nat) (pc : Word) : (State.trapOutcome s v c task pc).perm = s.perm := by
  simp [State.trapOutcome]

@[simp] theorem State.raiseTrap_perm (s : State) (v : Vtx) (c : TrapCause) (user : Nat) (addr : Nat) (pc : Word) (count : Nat) : (State.raiseTrap s v c user addr pc count).perm = s.perm := by
  simp [State.raiseTrap]

@[simp] theorem State.badRegister_perm (s : State) (v : Vtx) (a : Nat) : (State.badRegister s v a).perm = s.perm := by
  simp [State.badRegister]

@[simp] theorem State.closeFull_perm (s : State) (v : Vtx) : (State.closeFull s v).perm = s.perm := by
  simp [State.closeFull]

@[simp] theorem State.phase0Store_perm (s : State) (v : Vtx) (n : Nat) (a : Nat) (val : Nat) : (State.phase0Store s v n a val).perm = s.perm := by
  simp [State.phase0Store]

@[simp] theorem State.trapInstr_perm (s : State) (v : Vtx) (m : IMeta) (c : TrapCause × Nat × Nat) : (State.trapInstr s v m c).perm = s.perm := by
  simp only [State.trapInstr]
  split <;> simp

@[simp] theorem State.instr_perm (s0 : State) (v : Vtx) (m : Vertex → IMeta) (bad : Bool) (body : Vertex → IRes) (post : State → State) (hpost : ∀ t, (post t).perm = t.perm) : (State.instr s0 v m bad body post).perm = s0.perm := by
  simp only [State.instr]
  split
  · rfl
  · split
    · simp
    · split <;> simp [hpost]

@[simp] theorem State.run_perm (s : State) (v : Vtx) (m : Vertex → IMeta) (bad : Bool) (body : Vertex → IRes) : (State.run s v m bad body).perm = s.perm := by
  simp [State.run]

@[simp] theorem State.runReg_perm (s : State) (v : Vtx) (m : IMeta) (bad : Bool) (d : BitVec 4) (val : Vertex → Word) : (State.runReg s v m bad d val).perm = s.perm := by
  simp [State.runReg]

@[simp] theorem State.runAlu_perm (s : State) (v : Vtx) (m : IMeta) (bad : Bool) (d : BitVec 4) (f : Vertex → Alu) : (State.runAlu s v m bad d f).perm = s.perm := by
  simp [State.runAlu]

@[simp] theorem State.runAlu64_perm (s : State) (v : Vtx) (m : IMeta) (bad : Bool) (d : BitVec 4) (f : Vertex → Alu64) : (State.runAlu64 s v m bad d f).perm = s.perm := by
  simp [State.runAlu64]

@[simp] theorem State.runFlags_perm (s : State) (v : Vtx) (m : IMeta) (bad : Bool) (f : Vertex → Flags) : (State.runFlags s v m bad f).perm = s.perm := by
  simp [State.runFlags]

@[simp] theorem State.pulseInput_perm (s : State) (k : Nat) (i : Nat) (cur : Nat) : (State.pulseInput s k i cur).perm = s.perm := by
  simp [State.pulseInput]

@[simp] theorem State.qsFault_perm (s : State) (n : Nat) (k : QsKind) (val : Nat) : (State.qsFault s n k val).perm = s.perm := by
  simp [State.qsFault]

@[simp] theorem State.qsLatch_perm (s : State) (n : Nat) (k : QsKind) (val : Nat) : (State.qsLatch s n k val).perm = s.perm := by
  simp [State.qsLatch]

@[simp] theorem State.qaClears_perm (s : State) (rst : Nat) (a : Nat) (b : Nat) : (State.qaClears s rst a b).perm = s.perm := by
  simp [State.qaClears, perm_foldl]

@[simp] theorem State.shadowDiff_perm (s : State) (a : Nat) (b : Nat) : (State.shadowDiff s a b).perm = s.perm := by
  simp [State.shadowDiff]

@[simp] theorem State.commitOutputs_perm (s : State) (u : Vtx) (w : Vtx) : (State.commitOutputs s u w).perm = s.perm := by
  simp [State.commitOutputs]

@[simp] theorem State.watchdogTrip_perm (s : State) : (State.watchdogTrip s).perm = s.perm := by
  simp [State.watchdogTrip]

@[simp] theorem State.supplyWarnRec_perm (s : State) (volt : Nat) : (State.supplyWarnRec s volt).perm = s.perm := by
  simp [State.supplyWarnRec]

@[simp] theorem State.recBy_perm (s : State) (v : Vtx) (t : RecType) (a1 : Nat) (a2 : Nat) (a3 : Nat) : (State.recBy s v t a1 a2 a3).perm = s.perm := by
  simp [State.recBy]

@[simp] theorem State.addVote_perm (s : State) (v : Vtx) (addr : Nat) (val : Word) : (State.addVote s v addr val).perm = s.perm := by
  simp [State.addVote]

@[simp] theorem State.voted_perm (s : State) (v : Vtx) (addr : Nat) (val : Word) (f : State → State) (hf : ∀ t, (f t).perm = t.perm) : (State.voted s v addr val f).perm = s.perm := by
  simp only [State.voted]
  split
  · rfl
  · split <;> simp [hf]

@[simp] theorem State.writeRefused_perm (s : State) (v : Vtx) (addr : Nat) : (State.writeRefused s v addr).perm = s.perm := by
  simp [State.writeRefused]

@[simp] theorem State.sealRefused_perm (s : State) (v : Vtx) (addr : Nat) : (State.sealRefused s v addr).perm = s.perm := by
  simp [State.sealRefused]

@[simp] theorem State.portFault_perm (s : State) (p : Port) : (State.portFault s p).perm = s.perm := by
  unfold State.portFault; repeat' split
  all_goals first | rfl | simp | simp_all

@[simp] theorem State.k3mFail_perm (s : State) : (State.k3mFail s).perm = s.perm := by
  simp [State.k3mFail]

@[simp] theorem State.syncLost_perm (s : State) (n : Net) : (State.syncLost s n).perm = s.perm := by
  simp [State.syncLost]

@[simp] theorem State.modEngine_perm (s : State) (v : Vtx) (b : Nat) (f : Engine → Engine) : (State.modEngine s v b f).perm = s.perm := by
  simp [State.modEngine]

@[simp] theorem State.pieceFails_perm (s : State) (chip : Vtx) (b : Nat) : (State.pieceFails s chip b).perm = s.perm := by
  simp [State.pieceFails]

@[simp] theorem State.pmctlWrite_perm (s : State) (v : Vtx) (val : Word) : (State.pmctlWrite s v val).perm = s.perm := by
  simp [State.pmctlWrite]

@[simp] theorem State.marchRequests_perm (s : State) : (State.marchRequests s).perm = s.perm := by
  simp [State.marchRequests]

@[simp] theorem ifClr_perm (val : Word) (s t : State) (h : t.perm = s.perm) : (ifClr val s t).perm = s.perm := by
  simp [ifClr, h]

@[simp] theorem State.memCtl_perm (s : State) (v : Vtx) : (State.memCtl s v).perm = s.perm := by
  simp only [State.memCtl]
  rw [State.voted_perm] <;> intros <;> simp

@[simp] theorem State.memDoneWrite_perm (s : State) (v : Vtx) (val : Word) : (State.memDoneWrite s v val).perm = s.perm := by
  simp only [State.memDoneWrite]
  rw [State.voted_perm] <;> intros <;> simp

@[simp] theorem State.fuseResult_perm (s : State) (v : Vtx) (done : Bool) : (State.fuseResult s v done).perm = s.perm := by
  simp [State.fuseResult]

@[simp] theorem State.sliceFails_perm (s : State) (n : Nat) : (State.sliceFails s n).perm = s.perm := by
  simp [State.sliceFails]

@[simp] theorem State.bstCtl_perm (s : State) (v : Vtx) : (State.bstCtl s v).perm = s.perm := by
  simp [State.bstCtl]

@[simp] theorem State.ptbSet_perm (s : State) (v : Vtx) (off : BitVec 12) (val : Word) : (State.ptbSet s v off val).perm = s.perm := by
  simp [State.ptbSet]

@[simp] theorem State.ptbBoundary_perm (s : State) : (State.ptbBoundary s).perm = s.perm := by
  simp [State.ptbBoundary]

@[simp] theorem State.k3mRec_perm (s : State) (source : Nat) (t : RecType) (body : List Byte) : (State.k3mRec s source t body).perm = s.perm := by
  simp [State.k3mRec]

@[simp] theorem State.recRec_perm (s : State) (t : RecType) (a1 : Nat) (a2 : Nat) (a3 : Nat) : (State.recRec s t a1 a2 a3).perm = s.perm := by
  simp [State.recRec]

@[simp] theorem State.updRec_perm (s : State) (code : Nat) (a1 : Nat) (a2 : Nat) (a3 : Nat) : (State.updRec s code a1 a2 a3).perm = s.perm := by
  simp [State.updRec]

@[simp] theorem State.takeRecords_perm (s : State) : (State.takeRecords s).perm = s.perm := by
  simp [State.takeRecords]

@[simp] theorem State.holdOverflow_perm (s : State) : (State.holdOverflow s).perm = s.perm := by
  simp [State.holdOverflow]

@[simp] theorem State.thaw_perm (s : State) : (State.thaw s).perm = s.perm := by
  simp [State.thaw]

@[simp] theorem State.evrCtl_perm (s : State) (v : Vtx) : (State.evrCtl s v).perm = s.perm := by
  simp [State.evrCtl]

@[simp] theorem State.sentinelClear_perm (s : State) : (State.sentinelClear s).perm = s.perm := by
  simp [State.sentinelClear]

@[simp] theorem State.latch_perm (s : State) : (State.latch s).perm = s.perm := by
  simp [State.latch]

@[simp] theorem State.deliver_perm (s : State) (f : Nat) (start : Nat) : (State.deliver s f start).perm = s.perm := by
  simp [State.deliver, State.modAll]

@[simp] theorem State.babbleOn_perm (s : State) (n : Net) : (State.babbleOn s n).perm = s.perm := by
  simp [State.babbleOn]

@[simp] theorem State.sendOn_perm (s : State) (n : Net) (f : Frame) : (State.sendOn s n f).perm = s.perm := by
  unfold State.sendOn; repeat' split
  all_goals first | rfl | simp | simp_all

@[simp] theorem State.sendSlot_perm (s : State) (n : Net) (f : Frame) (dur : Nat) : (State.sendSlot s n f dur).perm = s.perm := by
  simp [State.sendSlot]

@[simp] theorem State.dropQueue_perm (s : State) (n : Nat) : (State.dropQueue s n).perm = s.perm := by
  simp [State.dropQueue]

@[simp] theorem State.queuePtp_perm (s : State) (m : TxPtp) : (State.queuePtp s m).perm = s.perm := by
  simp [State.queuePtp]

@[simp] theorem State.portEcc_perm (s : State) (v : Vtx) (bad : Bool) : (State.portEcc s v bad).perm = s.perm := by
  simp [State.portEcc]

@[simp] theorem State.meetBusy_perm (s : State) (v : Vtx) (n : Nat) : (State.meetBusy s v n).perm = s.perm := by
  simp [State.meetBusy]

@[simp] theorem State.outMismatch_perm (s : State) (rod : Nat) (slot : Nat) : (State.outMismatch s rod slot).perm = s.perm := by
  simp [State.outMismatch]

@[simp] theorem State.enterQueue_perm (s : State) (e : TxEvent) : (State.enterQueue s e).perm = s.perm := by
  simp [State.enterQueue]

@[simp] theorem State.queueEvent_perm (s : State) (e : TxEvent) : (State.queueEvent s e).perm = s.perm := by
  simp [State.queueEvent]

@[simp] theorem State.laterFrames_perm (s : State) : (State.laterFrames s).perm = s.perm := by
  simp [State.laterFrames, perm_foldl]

@[simp] theorem State.sendWaiting_perm (s : State) (n : Net) (w : Waiting) : (State.sendWaiting s n w).perm = s.perm := by
  unfold State.sendWaiting; repeat' split
  all_goals first | rfl | simp | simp_all

@[simp] theorem State.sendLate_perm (s : State) (n : Net) (w : Waiting) (ns : Nat) : (State.sendLate s n w ns).perm = s.perm := by
  simp only [State.sendLate]
  split
  · simp
  · rw [State.babbleOn_perm]
    split <;> rw [← State.sendWaiting_perm s n w] <;> rfl

@[simp] theorem State.heardPartner_perm (s : State) (mode : Nat) (strength : Nat) : (State.heardPartner s mode strength).perm = s.perm := by
  simp [State.heardPartner]

@[simp] theorem State.evidence_perm (s : State) (mode : Nat) : (State.evidence s mode).perm = s.perm := by
  simp [State.evidence]

@[simp] theorem State.partnerStatus_perm (s : State) (f : Frame) : (State.partnerStatus s f).perm = s.perm := by
  unfold State.partnerStatus; repeat' split
  all_goals first | rfl | simp | simp_all

@[simp] theorem State.splitBrain_perm (s : State) : (State.splitBrain s).perm = s.perm := by
  simp [State.splitBrain]

@[simp] theorem State.forwardOut_perm (s : State) (p : Port) (f : AnyFrame) (ns : Nat) : (State.forwardOut s p f ns).perm = s.perm := by
  unfold State.forwardOut; repeat' split
  all_goals first | rfl | simp | simp_all

@[simp] theorem State.busEnter_perm (s : State) (b : BusState) : (State.busEnter s b).perm = s.perm := by
  simp [State.busEnter]

@[simp] theorem State.integrated_perm (s : State) (rank : Nat) : (State.integrated s rank).perm = s.perm := by
  simp [State.integrated]

@[simp] theorem State.loseTime_perm (s : State) : (State.loseTime s).perm = s.perm := by
  unfold State.loseTime; repeat' split
  all_goals first | rfl | simp | simp_all

@[simp] theorem State.coldYield_perm (s : State) (rank : Nat) : (State.coldYield s rank).perm = s.perm := by
  simp [State.coldYield]

@[simp] theorem State.integrateFrame_perm (s : State) (consistent : Bool) (cold : Bool) (settles : Bool) (rank : Option Nat) : (State.integrateFrame s consistent cold settles rank).perm = s.perm := by
  unfold State.integrateFrame
  cases consistent
  all_goals
    dsimp only
    repeat' split
    all_goals simp

@[simp] theorem State.countErr_perm (s : State) (n : Net) (f : ErrCnt → ErrCnt) : (State.countErr s n f).perm = s.perm := by
  simp [State.countErr]

@[simp] theorem State.acceptEvent_perm (s : State) (ch : Channel) (r : RxFrame) : (State.acceptEvent s ch r).perm = s.perm := by
  simp [State.acceptEvent]

@[simp] theorem State.acceptMgmt_perm (s : State) (f : Frame) : (State.acceptMgmt s f).perm = s.perm := by
  simp [State.acceptMgmt]

@[simp] theorem State.acceptFrame_perm (s : State) (role : FrameRole) (f : Frame) (fromX : Bool) (fromY : Bool) (at_ : Nat) : (State.acceptFrame s role f fromX fromY at_).perm = s.perm := by
  unfold State.acceptFrame; repeat' split
  all_goals first | rfl | simp | simp_all

@[simp] theorem State.netDisagree_perm (s : State) (f : Frame) : (State.netDisagree s f).perm = s.perm := by
  simp [State.netDisagree]

@[simp] theorem State.decideFrame_perm (s : State) (f : Frame) (x : Bool) (y : Bool) (acc : Bool) : (State.decideFrame s f x y acc).perm = s.perm := by
  simp [State.decideFrame]

@[simp] theorem State.countSingle_perm (s : State) (n : Net) : (State.countSingle s n).perm = s.perm := by
  simp [State.countSingle]

@[simp] theorem State.acceptSingle_perm (s : State) (o : OpenCopy) : (State.acceptSingle s o).perm = s.perm := by
  simp [State.acceptSingle]

@[simp] theorem State.combine_perm (s : State) (n : Net) (f : Frame) (role : FrameRole) : (State.combine s n f role).perm = s.perm := by
  unfold State.combine; repeat' split
  all_goals first | rfl | simp | simp_all

@[simp] theorem State.closeWindows_perm (s : State) : (State.closeWindows s).perm = s.perm := by
  simp [State.closeWindows, perm_foldl]

@[simp] theorem State.guardPulse_perm (s : State) (n : Net) (off : Int) : (State.guardPulse s n off).perm = s.perm := by
  simp [State.guardPulse]

@[simp] theorem State.guardMiss_perm (s : State) (n : Net) : (State.guardMiss s n).perm = s.perm := by
  simp [State.guardMiss]

@[simp] theorem State.babbleNote_perm (s : State) (n : Net) : (State.babbleNote s n).perm = s.perm := by
  simp only [State.babbleNote]
  split <;> split <;> first | rfl | simp

@[simp] theorem State.cutForward_perm (s : State) (p : Port) (n : Net) (f : AnyFrame) (ns : Nat) : (State.cutForward s p n f ns).perm = s.perm := by
  simp only [State.cutForward]
  split <;> simp

@[simp] theorem State.sendCold_perm (s : State) : (State.sendCold s).perm = s.perm := by
  simp [State.sendCold]

@[simp] theorem State.enterColdstart_perm (s : State) : (State.enterColdstart s).perm = s.perm := by
  simp [State.enterColdstart]

@[simp] theorem State.ltExpiry_perm (s : State) : (State.ltExpiry s).perm = s.perm := by
  simp [State.ltExpiry]

@[simp] theorem State.coldEnd_perm (s : State) : (State.coldEnd s).perm = s.perm := by
  simp [State.coldEnd]

@[simp] theorem State.enterReset_perm (s : State) : (State.enterReset s).perm = s.perm := by
  simp [State.enterReset]

@[simp] theorem State.lastDelivery_perm (s : State) : (State.lastDelivery s).perm = s.perm := by
  simp [State.lastDelivery]

@[simp] theorem State.endDebug_perm (s : State) (v : Vtx) : (State.endDebug s v).perm = s.perm := by
  simp [State.endDebug]

@[simp] theorem State.endDebugs_perm (s : State) : (State.endDebugs s).perm = s.perm := by
  simp [State.endDebugs, perm_foldl]

@[simp] theorem State.tuningCleared_perm (s : State) : (State.tuningCleared s).perm = s.perm := by
  simp [State.tuningCleared]

@[simp] theorem State.setArea_perm (s : State) (n : Nat) (g : Stg) (b : List Byte) : (State.setArea s n g b).perm = s.perm := by
  simp [State.setArea]

@[simp] theorem State.clearArea_perm (s : State) (n : Nat) : (State.clearArea s n).perm = s.perm := by
  simp [State.clearArea]

@[simp] theorem State.patchDiscarded_perm (s : State) (b : List Byte) (why : Nat) (item : Nat) : (State.patchDiscarded s b why item).perm = s.perm := by
  simp [State.patchDiscarded]

@[simp] theorem State.paramDiscarded_perm (s : State) (b : List Byte) (why : Nat) : (State.paramDiscarded s b why).perm = s.perm := by
  simp [State.paramDiscarded]

@[simp] theorem State.discard_perm (s : State) (n : Nat) (why : Nat) : (State.discard s n why).perm = s.perm := by
  unfold State.discard; repeat' split
  all_goals first | rfl | simp | simp_all

@[simp] theorem State.staleList_perm (s : State) : (State.staleList s).perm = s.perm := by
  simp [State.staleList]

@[simp] theorem State.keepWithdrawn_perm (s : State) : (State.keepWithdrawn s).perm = s.perm := by
  simp [State.keepWithdrawn]

@[simp] theorem State.eccTrap_perm (s : State) (v : Vtx) (a : Nat) : (State.eccTrap s v a).perm = s.perm := by
  simp [State.eccTrap]

@[simp] theorem State.modRunning_perm (s : State) (v : Vtx) (f : Vertex → Vertex) : (State.modRunning s v f).perm = s.perm := by
  simp [State.modRunning]

@[simp] theorem State.localCleared_perm (s : State) : (State.localCleared s).perm = s.perm := by
  simp [State.localCleared]

@[simp] theorem State.restart_perm (s : State) : (State.restart s).perm = s.perm := by
  simp [State.restart]

@[simp] theorem State.activateReset_perm (s : State) : (State.activateReset s).perm = s.perm := by
  simp [State.activateReset]

@[simp] theorem State.respond_perm (s : State) (c : Chan) (code : Nat) (tag : BitVec 16) (r : Res) (body : List Byte) : (State.respond s c code tag r body).perm = s.perm := by
  simp [State.respond]

@[simp] theorem Update.setSess_otp (u : Update) (n : Sess) (x : Option Session) : (u.setSess n x).otp = u.otp := by cases n <;> rfl
@[simp] theorem Update.setSess_hssidx (u : Update) (n : Sess) (x : Option Session) : (u.setSess n x).hssidx = u.hssidx := by
  cases n <;> rfl
@[simp] theorem Update.setLock_otp (u : Update) (r : Role) (l : Lock) : (u.setLock r l).otp = u.otp := rfl
@[simp] theorem Update.setLock_hssidx (u : Update) (r : Role) (l : Lock) : (u.setLock r l).hssidx = u.hssidx := rfl

@[simp] theorem State.touchSess_perm (s : State) (n : Sess) : (State.touchSess s n).perm = s.perm := by
  simp [State.touchSess]

@[simp] theorem State.changeLog_perm (s : State) (role : Nat) (chan : Nat) (code : Nat) (sess : Nat) (item : Nat) (r : Res) : (State.changeLog s role chan code sess item r).perm = s.perm := by
  simp [State.changeLog]

@[simp] theorem State.answer_perm (s : State) (n : Sess) (code : Nat) (tag : BitVec 16) (item : Nat) (r : Res) : (State.answer s n code tag item r).perm = s.perm := by
  simp [State.answer]

@[simp] theorem State.request_perm (s : State) (n : Sess) (code : Nat) (tag : BitVec 16) (item : Nat) (r : Res) (f : State → State) (hf : ∀ t, (f t).perm = t.perm) : (State.request s n code tag item r f).perm = s.perm := by
  simp only [State.request]
  split
  · rfl
  · split <;> simp [hf]

@[simp] theorem State.query_perm (s : State) (n : Sess) (code : Nat) (tag : BitVec 16) (r : Res) (body : List Byte) (f : State → State) (hf : ∀ t, (f t).perm = t.perm) : (State.query s n code tag r body f).perm = s.perm := by
  simp only [State.query]
  split
  · rfl
  · split <;> simp [hf]

@[simp] theorem State.dropDownload_perm (s : State) (why : Nat) : (State.dropDownload s why).perm = s.perm := by
  simp [State.dropDownload]

@[simp] theorem State.closeSess_perm (s : State) (n : Sess) : (State.closeSess s n).perm = s.perm := by
  simp only [State.closeSess]
  rw [State.modUpd_perm _ _ (by simp) (by simp)]
  repeat' split
  all_goals simp

@[simp] theorem State.loginFails_perm (s : State) (r : Role) : (State.loginFails s r).perm = s.perm := by
  rw [State.loginFails, State.modUpd_perm _ _ rfl rfl]
  simp

@[simp] theorem State.placeItem_perm (s : State) (chan : Nat) (role : Nat) (kind : Nat) (cmd : Word) (body : List Byte) : (State.placeItem s chan role kind cmd body).perm = s.perm := by
  simp [State.placeItem]

@[simp] theorem State.postItem_perm (s : State) : (State.postItem s).perm = s.perm := rfl

@[simp] theorem State.writeHstat_perm (s : State) (ready : Bool) : (State.writeHstat s ready).perm = s.perm := by
  simp [State.writeHstat]

@[simp] theorem State.modPtp_perm (s : State) (f : Ptp → Ptp) : (State.modPtp s f).perm = s.perm := by
  simp [State.modPtp]

@[simp] theorem State.ignoreProfile_perm (s : State) : (State.ignoreProfile s).perm = s.perm := by
  simp [State.ignoreProfile]

@[simp] theorem State.clockState_perm (s : State) (c : ClkState) : (State.clockState s c).perm = s.perm := by
  simp [State.clockState]

@[simp] theorem State.setRate_perm (s : State) (r : Int) : (State.setRate s r).perm = s.perm := by
  simp [State.setRate]

@[simp] theorem State.showMaster_perm (s : State) (id : Long) (cls : Nat) (prio1 : Nat) (prio2 : Nat) (steps : Nat) : (State.showMaster s id cls prio1 prio2 steps).perm = s.perm := by
  simp [State.showMaster]

@[simp] theorem State.selectMaster_perm (s : State) (m : MasterInfo) : (State.selectMaster s m).perm = s.perm := by
  unfold State.selectMaster; repeat' split
  all_goals first | rfl | simp | simp_all

@[simp] theorem State.becomeMaster_perm (s : State) : (State.becomeMaster s).perm = s.perm := by
  simp [State.becomeMaster]

@[simp] theorem State.timeAcquired_perm (s : State) : (State.timeAcquired s).perm = s.perm := by
  simp [State.timeAcquired]

@[simp] theorem State.betterMaster_perm (s : State) (c : Long) : (State.betterMaster s c).perm = s.perm := by
  simp [State.betterMaster]

@[simp] theorem State.announce_perm (s : State) (m : MasterInfo) : (State.announce s m).perm = s.perm := by
  unfold State.announce; repeat' split
  all_goals first | rfl | simp | simp_all

@[simp] theorem State.keepUtc_perm (s : State) (c : Long) (u : Int) : (State.keepUtc s c u).perm = s.perm := by
  simp [State.keepUtc]

@[simp] theorem State.beginChoice_perm (s : State) (m : MasterInfo) : (State.beginChoice s m).perm = s.perm := by
  simp [State.beginChoice]

@[simp] theorem State.netDiff_perm (s : State) (n : Net) : (State.netDiff s n).perm = s.perm := by
  unfold State.netDiff; repeat' split
  all_goals first | rfl | simp | simp_all

@[simp] theorem State.stepClock_perm (s : State) (n : Net) (origin : Nat) (corr : Int) : (State.stepClock s n origin corr).perm = s.perm := by
  simp [State.stepClock]

@[simp] theorem State.servo_perm (s : State) (base : Int) : (State.servo s base).perm = s.perm := by
  simp [State.servo]

@[simp] theorem State.timeJump_perm (s : State) (prev : Option Int) (off : Int) : (State.timeJump s prev off).perm = s.perm := by
  simp [State.timeJump]

@[simp] theorem State.syncUsed_perm (s : State) (n : Net) (origin : Nat) (corr : Int) (off : Int) (prev : Option Int) : (State.syncUsed s n origin corr off prev).perm = s.perm := by
  unfold State.syncUsed; repeat' split
  all_goals first | rfl | simp | simp_all

@[simp] theorem State.measureRate_perm (s : State) (n : Net) (origin : Nat) (corr : Int) : (State.measureRate s n origin corr).perm = s.perm := by
  simp [State.measureRate]

@[simp] theorem State.sync_perm (s : State) (n : Net) (origin : Nat) (corr : Int) : (State.sync s n origin corr).perm = s.perm := by
  simp [State.sync]

@[simp] theorem State.firstPath_perm (s : State) (n : Net) (d : Nat) (pd0 : Nat) : (State.firstPath s n d pd0).perm = s.perm := by
  simp [State.firstPath]

@[simp] theorem State.storeEdge_perm (s : State) (e : EdgeEntry) : (State.storeEdge s e).perm = s.perm := by
  simp [State.storeEdge]

@[simp] theorem State.takeEdge_perm (s : State) (copies : Tri EdgeEntry) : (State.takeEdge s copies).perm = s.perm := by
  unfold State.takeEdge
  dsimp only
  repeat' split
  all_goals simp

@[simp] theorem State.stage_perm (s : State) (n : Nat) (target : Nat) (b : List Byte) : (State.stage s n target b).perm = s.perm := by
  simp [State.stage]

@[simp] theorem State.copySet_perm (s : State) (n : Nat) (kind : Nat) : (State.copySet s n kind).perm = s.perm := by
  simp [State.copySet]

@[simp] theorem State.copyOne_perm (s : State) (n : Nat) (v : Vtx) (b : List Byte) : (State.copyOne s n v b).perm = s.perm := by
  simp [State.copyOne, perm_foldl]

@[simp] theorem State.makeCopies_perm (s : State) : (State.makeCopies s).perm = s.perm := by
  simp [State.makeCopies, perm_foldl]

@[simp] theorem State.setStore_perm (s : State) (v : Vtx) (n : Nat) (a : Nat) (val : Nat) : (State.setStore s v n a val).perm = s.perm := by
  simp only [State.setStore]
  repeat' split
  all_goals simp

@[simp] theorem State.tuneStore_perm (s : State) (v : Vtx) (k : Nat) (t : Tunable) (val : Nat) : (State.tuneStore s v k t val).perm = s.perm := by
  simp [State.tuneStore]

@[simp] theorem State.tuneOne_perm (s : State) (h : AppHeader) (v : Vtx) : (State.tuneOne s h v).perm = s.perm := by
  simp only [State.tuneOne, State.modRunning_perm]
  exact perm_foldl _ _ _ (fun t i => State.tuneStore_perm t v i.item (tunableOf h i) i.value)

@[simp] theorem State.applyPatch_perm (s : State) (h : AppHeader) (b : List Byte) : (State.applyPatch s h b).perm = s.perm := by
  simp [State.applyPatch, perm_foldl]

@[simp] theorem State.patchDue_perm (s : State) : (State.patchDue s).perm = s.perm := by
  unfold State.patchDue; repeat' split
  all_goals first | rfl | simp | simp_all

@[simp] theorem State.renewClears_perm (s : State) (p : IoParams) : (State.renewClears s p).perm = s.perm := by
  unfold State.renewClears
  dsimp only
  refine perm_foldl _ _ _ (fun t k => ?_)
  rw [perm_foldl]
  · simp
  · intro u i
    simp

@[simp] theorem State.ioDue_perm (s : State) : (State.ioDue s).perm = s.perm := by
  unfold State.ioDue; repeat' split
  all_goals first | rfl | simp | simp_all

@[simp] theorem State.requestMode_perm (s : State) (m : Mode) (c : MCause) (w : Word) : (State.requestMode s m c w).perm = s.perm := by
  simp [State.requestMode]

@[simp] theorem takeIf_perm (good : Bool) (r : Res) (s t : State) (h : t.perm = s.perm) : (takeIf good r s t).2.perm = s.perm := by
  unfold takeIf; split
  · exact h
  · rfl
theorem taken_ite_perm {c : Prop} [Decidable c] (a b : Taken) : (if c then a else b).2.perm = if c then a.2.perm else b.2.perm := by
  split <;> rfl

@[simp] theorem State.takeWithdraw_perm (s : State) (v : Vtx) (w : Word) : (State.takeWithdraw s v w).2.perm = s.perm := by
  unfold State.takeWithdraw; repeat' split
  all_goals first | rfl | simp | simp_all

@[simp] theorem State.takeDebug_perm (s : State) (v : Vtx) (ends : Bool) : (State.takeDebug s v ends).2.perm = s.perm := by
  unfold State.takeDebug; repeat' split
  all_goals first | rfl | simp | simp_all

@[simp] theorem State.takeRejoin_perm (s : State) (v : Vtx) (w : Word) : (State.takeRejoin s v w).2.perm = s.perm := by
  unfold State.takeRejoin; repeat' split
  all_goals first | rfl | simp | simp_all

@[simp] theorem State.takeHandover_perm (s : State) (w : Word) : (State.takeHandover s w).2.perm = s.perm := by
  unfold State.takeHandover; repeat' split
  all_goals first | rfl | simp | simp_all

@[simp] theorem State.stagePatch_perm (s : State) : (State.stagePatch s).2.perm = s.perm := by
  simp only [State.stagePatch, taken_ite_perm]
  repeat' split
  all_goals first | rfl | simp

@[simp] theorem State.stageIo_perm (s : State) : (State.stageIo s).2.perm = s.perm := by
  simp only [State.stageIo, taken_ite_perm]
  repeat' split
  all_goals first | rfl | simp

@[simp] theorem State.takeSchedule_perm (s : State) : (State.takeSchedule s).2.perm = s.perm := by
  simp only [State.takeSchedule, taken_ite_perm]
  repeat' split
  all_goals first | rfl | simp

@[simp] theorem State.runCmd_perm (s : State) (c : Cmd) (arg : Nat) (w : Word) : (State.runCmd s c arg w).2.perm = s.perm := by
  unfold State.runCmd
  dsimp only
  repeat' split
  all_goals first | rfl | simp

@[simp] theorem State.checkCmd_perm (s : State) (w : Word) : (State.checkCmd s w).2.perm = s.perm := by
  unfold State.checkCmd; repeat' split
  all_goals first | rfl | simp | simp_all

@[simp] theorem State.cmdRec_perm (s : State) (w : Word) (r : Res) : (State.cmdRec s w r).perm = s.perm := by
  simp [State.cmdRec]

@[simp] theorem State.finishCmd_perm (q : Taken) (w : Word) : (State.finishCmd q w).perm = q.2.perm := by
  unfold State.finishCmd
  dsimp only
  split <;> simp

@[simp] theorem State.takeCommand_perm (s : State) (w : Word) : (State.takeCommand s w).perm = s.perm := by
  unfold State.takeCommand
  repeat' split
  all_goals first | rfl | simp

@[simp] theorem State.takeFirmware_perm (s : State) (w : Word) : (State.takeFirmware s w).perm = s.perm := by
  simp only [State.takeFirmware]
  repeat' split
  all_goals first | rfl | simp

@[simp] theorem State.firmware_perm (s : State) : (State.firmware s).perm = s.perm := by
  simp [State.firmware]

@[simp] theorem State.timerInstr_perm (s : State) (v : Vtx) (f : FmtI) (w : Nat) (kind : Nat) (stp : Nat → Nat → Nat → Bool → TimerSlot → TimerSlot) : (State.timerInstr s v f w kind stp).perm = s.perm := by
  simp [State.timerInstr]

@[simp] theorem State.edgeInstr_perm (s : State) (v : Vtx) (f : FmtM) (w : Nat) (q : Bool → Bool → Bool) : (State.edgeInstr s v f w q).perm = s.perm := by
  simp [State.edgeInstr]

@[simp] theorem State.latInstr_perm (s : State) (v : Vtx) (f : FmtR) (bad : Bool) (wait : Vertex → Nat) (trap : Vertex → Bool) (words : Vertex → List Nat) (op : Vertex → LatRes) :
    (State.latInstr s v f bad wait trap words op).perm = s.perm := by
  simp [State.latInstr]

@[simp] theorem State.lreqInstr_perm (s : State) (v : Vtx) (f : FmtR) : (State.lreqInstr s v f).perm = s.perm := by
  simp [State.lreqInstr]

@[simp] theorem State.lrelInstr_perm (s : State) (v : Vtx) (f : FmtR) : (State.lrelInstr s v f).perm = s.perm := by
  simp [State.lrelInstr]

@[simp] theorem State.writeLaunch_perm (s : State) (v : Vtx) (f : OwnWrites → OwnWrites) : (State.writeLaunch s v f).perm = s.perm := by
  simp [State.writeLaunch]

@[simp] theorem State.writeLout_perm (s : State) (v : Vtx) (val : Word) : (State.writeLout s v val).perm = s.perm := by
  simp [State.writeLout]

@[simp] theorem State.ttbCtl_perm (s : State) (v : Vtx) : (State.ttbCtl s v).perm = s.perm := by
  simp [State.ttbCtl]

@[simp] theorem State.ttbFlagWrite_perm (s : State) (v : Vtx) (val : Word) : (State.ttbFlagWrite s v val).perm = s.perm := by
  simp [State.ttbFlagWrite]

@[simp] theorem State.ntmCtl_perm (s : State) (v : Vtx) : (State.ntmCtl s v).perm = s.perm := by
  simp [State.ntmCtl]

@[simp] theorem State.ntmFlagWrite_perm (s : State) (v : Vtx) (val : Word) : (State.ntmFlagWrite s v val).perm = s.perm := by
  simp [State.ntmFlagWrite]

@[simp] theorem State.sioCtl_perm (s : State) (v : Vtx) : (State.sioCtl s v).perm = s.perm := by
  simp [State.sioCtl]

@[simp] theorem State.chdCtl_perm (s : State) (v : Vtx) : (State.chdCtl s v).perm = s.perm := by
  simp [State.chdCtl]

@[simp] theorem State.writeCyc_perm (s : State) (v : Vtx) (off : Nat) (val : Word) : (State.writeCyc s v off val).perm = s.perm := by
  unfold State.writeCyc; repeat' split
  all_goals first | rfl | simp | simp_all

@[simp] theorem State.writeNtm_perm (s : State) (v : Vtx) (off : Nat) (val : Word) : (State.writeNtm s v off val).perm = s.perm := by
  unfold State.writeNtm
  repeat' split
  all_goals simp

@[simp] theorem State.debugStart_perm (s : State) (v : Vtx) (one : Bool) : (State.debugStart s v one).perm = s.perm := by
  simp only [State.debugStart]
  split <;> simp

@[simp] theorem State.debugGo_perm (s : State) (v : Vtx) (one : Bool) : (State.debugGo s v one).perm = s.perm := by
  simp [State.debugGo]

@[simp] theorem State.writeDbg_perm (s : State) (v : Vtx) (off : Nat) (val : Word) : (State.writeDbg s v off val).perm = s.perm := by
  unfold State.writeDbg; repeat' split
  all_goals first | rfl | simp | simp_all

@[simp] theorem State.writeMbox_perm (s : State) (off : Nat) (val : Word) : (State.writeMbox s off val).perm = s.perm := by
  simp only [State.writeMbox, perm_ite]
  split
  · split <;> rfl
  · split
    · rfl
    · rw [perm_ite]
      by_cases c : 0x800 ≤ off ∧ off % 4 = 0 ∧ (!s.mbox.post) = true
      · rw [if_pos c, State.perm_mk, State.perm_fold]
      · rw [if_neg c]

@[simp] theorem State.writeRecn_perm (s : State) (val : Word) : (State.writeRecn s val).perm = s.perm := by
  have h1 : ∀ (b : Bool) (t : State) (f : Recorder → Recorder), (f t.recorder).seq = t.recorder.seq →
      (if b = true then t.modRec f else t).perm = t.perm := by
    intro b t f h; split <;> simp [h]
  simp only [State.writeRecn]
  repeat' split
  all_goals simp [Recorder.freeze]

@[simp] theorem State.hwinClear_perm (s : State) : (State.hwinClear s).perm = s.perm := by
  simp [State.hwinClear]

@[simp] theorem State.scrubShared_perm (s : State) (p : Nat × Nat → Bool) : (State.scrubShared s p).perm = s.perm := by
  unfold State.scrubShared; split <;> rfl

@[simp] theorem State.windowStore_perm (s : State) (a n x : Nat) : (State.windowStore s a n x).perm = s.perm := by
  simp only [State.windowStore, State.perm_mk]
  exact State.scrubShared_perm s _

@[simp] theorem State.busError_perm (s : State) (a : Nat) : (State.busError s a).perm = s.perm := by
  simp [State.busError]

@[simp] theorem State.k3mWrite_perm (s : State) (a : Nat) (val : Word) : (State.k3mWrite s a val).perm = s.perm := by
  unfold State.k3mWrite
  repeat' split
  all_goals first | rfl | simp

@[simp] theorem State.modMem_perm (s : State) (f : VMem → VMem) : (State.modMem s f).perm = s.perm := by
  simp [State.modMem]

@[simp] theorem State.freezeSlot_perm (s : State) (n : Nat) (b : Binding) (l : List (Nat × SlotDesc)) : (State.freezeSlot s n b l).perm = s.perm := by
  unfold State.freezeSlot; repeat' split
  all_goals first | rfl | simp | simp_all

@[simp] theorem State.freezeEvent_perm (s : State) (n : Nat) (b : Binding) : (State.freezeEvent s n b).perm = s.perm := by
  simp [State.freezeEvent]

@[simp] theorem State.freezeLocal_perm (s : State) (b : Binding) (good : Tri Bool) : (State.freezeLocal s b good).perm = s.perm := by
  simp [State.freezeLocal]

@[simp] theorem State.freezeEdge_perm (s : State) (b : Binding) : (State.freezeEdge s b).perm = s.perm := by
  simp [State.freezeEdge]

@[simp] theorem State.freezeBinding_perm (s : State) (h : AppHeader) (good : Tri Bool) (n : Nat) (b : Binding) : (State.freezeBinding s h good n b).perm = s.perm := by
  unfold State.freezeBinding; repeat' split
  all_goals first | rfl | simp | simp_all

@[simp] theorem State.freezeInputs_perm (s : State) (tasks : List Nat) (good : Tri Bool) : (State.freezeInputs s tasks good).perm = s.perm := by
  unfold State.freezeInputs; repeat' split
  all_goals first | rfl | simp [perm_foldl] | simp_all [perm_foldl]

@[simp] theorem State.sendChunks_perm (s : State) (img img1 img2 : List Byte) (n : Nat) : (State.sendChunks s img img1 img2 n).perm = s.perm := by
  simp [State.sendChunks, perm_foldl]

@[simp] theorem State.readMirror_perm (s : State) (l : List Vtx) : (State.readMirror s l).perm = s.perm := by
  simp [State.readMirror, perm_foldl]

@[simp] theorem State.abandonBad_perm (s : State) (l : List Vtx) : (State.abandonBad s l).perm = s.perm := by
  simp only [State.abandonBad, State.modChd_perm]
  refine perm_foldl _ _ _ (fun t v => ?_)
  split <;> first | rfl | simp

@[simp] theorem State.sendImages_perm (s : State) (u : Vtx) (w : Vtx) : (State.sendImages s u w).perm = s.perm := by
  simp only [State.sendImages]
  repeat' split
  all_goals simp

@[simp] theorem State.sendSet_perm (s0 : State) (u : Vtx) (w : Vtx) : (State.sendSet s0 u w).perm = s0.perm := by
  simp only [State.sendSet]
  split <;> simp

@[simp] theorem State.applyTuning_perm (s : State) (v : Vtx) (b : List Byte) (l : List Tunable) : (State.applyTuning s v b l).perm = s.perm := by
  simp only [State.applyTuning, State.modRunning_perm]
  refine perm_foldl _ _ _ (fun t p => ?_)
  simp

@[simp] theorem State.streamStaging_perm (s : State) (v : Vtx) (g : List Byte) : (State.streamStaging s v g).perm = s.perm := by
  simp [State.streamStaging, perm_foldl]

@[simp] theorem State.writeLattice_perm (s : State) (v : Vtx) (b : List Byte) : (State.writeLattice s v b).perm = s.perm := by
  simp only [State.writeLattice]
  rw [perm_foldl _ _ _ (fun t i => State.phase0Store_perm t v 4 (routeAddr i + 4) _)]
  rw [perm_foldl]
  · simp
  · intro t i; simp

@[simp] theorem State.applyLattice_perm (s : State) (v : Vtx) (b : List Byte) : (State.applyLattice s v b).perm = s.perm := by
  simp only [State.applyLattice]
  repeat' split
  all_goals simp

@[simp] theorem State.applyRegions_perm (s : State) (v : Vtx) (a2 : List (Nat × Nat)) (a3 : List Byte) : (State.applyRegions s v a2 a3).perm = s.perm := by
  induction a2 generalizing s a3 with
  | nil => rfl
  | cons p l ih =>
    rw [State.applyRegions, ih]
    exact perm_foldl _ _ _ (fun _ _ => by simp)

@[simp] theorem State.applySet_perm (s : State) (v : Vtx) : (State.applySet s v).perm = s.perm := by
  simp [State.applySet]

@[simp] theorem State.takeStaging_perm (s : State) (b : List Byte) : (State.takeStaging s b).perm = s.perm := by
  simp [State.takeStaging]

@[simp] theorem State.applyAll_perm (s : State) (r : RxSet) : (State.applyAll s r).perm = s.perm := by
  simp only [State.applyAll, State.modChd_perm, State.takeStaging_perm]
  rw [perm_foldl _ _ _ (fun t v => State.applySet_perm t v), State.modAll_perm]
  refine perm_foldl _ _ _ (fun t v => ?_)
  split <;> first | rfl | simp

@[simp] theorem State.setAtBoundary_perm (s : State) (f : Nat) : (State.setAtBoundary s f).1.perm = s.perm := by
  simp only [State.setAtBoundary]
  repeat' split
  all_goals simp

@[simp] theorem State.chordErr_perm (s : State) (l : Link) : (State.chordErr s l).perm = s.perm := by
  simp [State.chordErr]

@[simp] theorem State.seniorConflict_perm (s : State) (build : Nat) (mid : Nat) : (State.seniorConflict s build mid).perm = s.perm := by
  simp [State.seniorConflict]

@[simp] theorem State.buildMismatch_perm (s : State) (b : Beat) : (State.buildMismatch s b).perm = s.perm := by
  simp [State.buildMismatch]

@[simp] theorem State.joinHandover_perm (s : State) (b : Nat) : (State.joinHandover s b).perm = s.perm := by
  unfold State.joinHandover; repeat' split
  all_goals first | rfl | simp | simp_all

@[simp] theorem State.nowReady_perm (s : State) : (State.nowReady s).perm = s.perm := by
  unfold State.nowReady; repeat' split
  all_goals first | rfl | simp | simp_all

@[simp] theorem State.judgeHandover_perm (s : State) (b : Nat) : (State.judgeHandover s b).perm = s.perm := by
  unfold State.judgeHandover
  dsimp only
  repeat' split
  all_goals first | rfl | simp

@[simp] theorem State.handoverBits_perm (s : State) (b : Beat) : (State.handoverBits s b).perm = s.perm := by
  simp [State.handoverBits]

@[simp] theorem State.abdicated_perm (s : State) : (State.abdicated s).perm = s.perm := by
  simp [State.abdicated]

@[simp] theorem State.acceptBeat_perm (s : State) (b : Beat) : (State.acceptBeat s b).perm = s.perm := by
  simp [State.acceptBeat]

@[simp] theorem State.becomeActive_perm (s : State) (m : MCause) (cause : Nat) : (State.becomeActive s m cause).perm = s.perm := by
  simp [State.becomeActive]

@[simp] theorem State.homeReturn_perm (s : State) : (State.homeReturn s).perm = s.perm := by
  simp [State.homeReturn]

@[simp] theorem State.readPosition_perm (s : State) (j : Tri J6Sample) : (State.readPosition s j).perm = s.perm := by
  unfold State.readPosition
  rw [perm_foldl]
  · rfl
  · intro t a; split <;> simp

@[simp] theorem State.modSeals_perm (s : State) (f : Seals → Seals) : (State.modSeals s f).perm = s.perm := by
  simp [State.modSeals]

@[simp] theorem State.countSeal_perm (s : State) (k : Nat) : (State.countSeal s k).perm = s.perm := by
  simp [State.countSeal]

@[simp] theorem State.sealChange_perm (s : State) (k : Nat) : (State.sealChange s k).perm = s.perm := by
  unfold State.sealChange; repeat' split
  all_goals first | rfl | simp | simp_all

@[simp] theorem State.sealDisagree_perm (s : State) (k : Nat) : (State.sealDisagree s k).perm = s.perm := by
  simp [State.sealDisagree]

@[simp] theorem State.readSeals_perm (s : State) (r : Tri (BitVec 4)) : (State.readSeals s r).perm = s.perm := by
  simp [State.readSeals, perm_foldl]

@[simp] theorem State.setSeals_perm (s : State) (r : Tri (BitVec 4)) : (State.setSeals s r).perm = s.perm := by
  simp only [State.setSeals]
  rw [perm_foldl]
  · simp
  · intro t a; split <;> simp

@[simp] theorem State.mailboxCopy_perm (s : State) : (State.mailboxCopy s).perm = s.perm := by
  simp [State.mailboxCopy]

@[simp] theorem State.k3mLive_perm (s : State) (g : Nat) : (State.k3mLive s g).perm = s.perm := by
  simp [State.k3mLive]

@[simp] theorem State.endOfCycle_perm (s0 : State) (v : Vtx) : (State.endOfCycle s0 v).perm = s0.perm := by
  simp [State.endOfCycle, perm_foldl]

@[simp] theorem State.clockTrap_perm (s : State) (v : Vtx) (c : TrapCause) (count : Nat) : (State.clockTrap s v c count).perm = s.perm := by
  unfold State.clockTrap
  dsimp only
  split <;> simp

@[simp] theorem State.latchShadows_perm (s : State) : (State.latchShadows s).perm = s.perm := by
  simp [State.latchShadows]

@[simp] theorem State.phase2Vertex_perm (s : State) (v : Vtx) : (State.phase2Vertex s v).perm = s.perm := by
  unfold State.phase2Vertex
  dsimp only
  repeat' split
  all_goals first | rfl | simp

@[simp] theorem State.modSlice_perm (s : State) (y : Vtx) (f : Slice → Slice) : (State.modSlice s y f).perm = s.perm := by
  simp [State.modSlice]

@[simp] theorem State.sliceNoMaj_perm (s : State) (y : Vtx) (typ : Nat) (seq : Nat) : (State.sliceNoMaj s y typ seq).perm = s.perm := by
  simp [State.sliceNoMaj]

@[simp] theorem State.sliceDrop_perm (s : State) (y v : Vtx) (c : XCause) (typ seq : Nat) : (State.sliceDrop s y v c typ seq).perm = s.perm := by
  simp only [State.sliceDrop]
  repeat' split
  all_goals simp

@[simp] theorem State.sliceExclude_perm (s : State) (y : Vtx) (v : Vtx) (c : XCause) (typ : Nat) (seq : Nat) : (State.sliceExclude s y v c typ seq).perm = s.perm := by
  simp [State.sliceExclude]

@[simp] theorem State.sendVrd_perm (s : State) (y : Vtx) : (State.sendVrd s y).perm = s.perm := by
  simp [State.sendVrd]

@[simp] theorem State.sendKey_perm (s : State) (y : Vtx) (verdict : Nat) : (State.sendKey s y verdict).perm = s.perm := by
  simp [State.sendKey]

@[simp] theorem State.keyDue_perm (s : State) (y : Vtx) : (State.keyDue s y).perm = s.perm := by
  unfold State.keyDue; repeat' split
  all_goals first | rfl | simp | simp_all

@[simp] theorem State.acceptEntry_perm (s : State) (y : Vtx) (blind : Bool) (ms : List Vtx) (e : Entry) : (State.acceptEntry s y blind ms e).perm = s.perm := by
  unfold State.acceptEntry
  dsimp only
  repeat' split
  all_goals first | rfl | simp

@[simp] theorem State.outvoted_perm (s : State) (y v x : Vtx) (d : Long) (seq : Nat) : (State.outvoted s y v x d seq).perm = s.perm := by
  simp only [State.outvoted]
  split <;> simp

theorem State.splitVerdict_perm (s : State) (y u v : Vtx) (a b : Entry) (t : State) (h : s.splitVerdict y u v a b = some t) :
    t.perm = s.perm := by
  unfold State.splitVerdict at h
  repeat' split at h
  all_goals first
    | (simp only [Option.some.injEq] at h; subst h; simp; done)
    | cases h

theorem State.decideOne_perm (s : State) (y : Vtx) (blind : Bool) (t : State) (h : s.decideOne y blind = some t) : t.perm = s.perm := by
  unfold State.decideOne at h
  dsimp only at h
  repeat' split at h
  all_goals first
    | exact State.splitVerdict_perm _ _ _ _ _ _ _ h
    | (simp only [Option.some.injEq] at h; subst h; simp; done)
    | cases h

@[simp] theorem State.decideAll_perm (s : State) (y : Vtx) (blind : Bool) (a2 : Nat) : (State.decideAll s y blind a2).perm = s.perm := by
  induction a2 generalizing s with
  | zero => rfl
  | succ n ih =>
    rw [State.decideAll]
    split
    · rename_i t h; rw [ih, State.decideOne_perm s y blind t h]
    · rfl

@[simp] theorem State.decideSlice_perm (s : State) (y : Vtx) (blind : Bool) : (State.decideSlice s y blind).perm = s.perm := by
  simp [State.decideSlice]

@[simp] theorem State.takeVrd_perm (s : State) (y x : Vtx) (blind : Bool) (e : Entry) : (State.takeVrd s y x blind e).perm = s.perm := by
  simp [State.takeVrd]

@[simp] theorem State.verdictLimit_perm (s : State) (y : Vtx) : (State.verdictLimit s y).perm = s.perm := by
  simp only [State.verdictLimit]
  split <;> simp

@[simp] theorem State.compareTrial_perm (s : State) (y : Vtx) (r : Vtx) : (State.compareTrial s y r).perm = s.perm := by
  simp [State.compareTrial]

@[simp] theorem State.trialCheck_perm (s : State) (y : Vtx) : (State.trialCheck s y).perm = s.perm := by
  unfold State.trialCheck; repeat' split
  all_goals first | rfl | simp | simp_all

@[simp] theorem State.skewCheck_perm (s : State) (y : Vtx) : (State.skewCheck s y).perm = s.perm := by
  unfold State.skewCheck; repeat' split
  all_goals first | rfl | simp | simp_all

@[simp] theorem State.takeEntry_perm (s : State) (y : Vtx) (x : Vtx) (blind : Bool) (e : Entry) : (State.takeEntry s y x blind e).perm = s.perm := by
  simp only [State.takeEntry]
  repeat' split
  all_goals simp

@[simp] theorem State.takeTrial_perm (s : State) (y : Vtx) (x : Vtx) (e : Entry) : (State.takeTrial s y x e).perm = s.perm := by
  simp only [State.takeTrial]
  repeat' split
  all_goals simp

@[simp] theorem State.excludeLate_perm (s : State) (y : Vtx) (n : Nat) : (State.excludeLate s y n).perm = s.perm := by
  simp [State.excludeLate, perm_foldl]

@[simp] theorem State.flushWd_perm (s : State) : (State.flushWd s).perm = s.perm := by
  unfold State.flushWd
  refine perm_foldl _ _ _ (fun t v => ?_)
  repeat' split
  all_goals simp

@[simp] theorem State.trialLate_perm (s : State) (n : Nat) : (State.trialLate s n).perm = s.perm := by
  unfold State.trialLate; repeat' split
  all_goals first | rfl | simp | simp_all

@[simp] theorem State.loadInitial_perm (s : State) : s.loadInitial.perm = s.perm := by
  unfold State.loadInitial
  split
  · rfl
  · dsimp only
    rw [State.perm_mk, State.perm_fold, State.clearArea_perm, State.clearArea_perm, State.clearArea_perm, State.modAll_perm]

@[simp] theorem State.soloStart_perm (s : State) : (State.soloStart s).perm = s.perm := by
  simp [State.soloStart]

@[simp] theorem State.modRejoin_perm (s : State) (f : Rejoin → Rejoin) : (State.modRejoin s f).perm = s.perm := by
  simp [State.modRejoin]

@[simp] theorem State.rejoinStep_perm (s : State) (k : Nat) : (State.rejoinStep s k).perm = s.perm := by
  simp [State.rejoinStep]

@[simp] theorem State.rejoinNext_perm (s : State) (k : Nat) : (State.rejoinNext s k).perm = s.perm := by
  simp [State.rejoinNext]

@[simp] theorem State.copyPages_perm (s : State) (u : Vtx) (v : Vtx) (l : List Nat) : (State.copyPages s u v l).perm = s.perm := by
  simp [State.copyPages]

@[simp] theorem State.copyBulk_perm (s : State) (u : Vtx) (v : Vtx) : (State.copyBulk s u v).perm = s.perm := by
  simp [State.copyBulk]

@[simp] theorem State.copyFinal_perm (s : State) (u : Vtx) (v : Vtx) (pages : List Nat) : (State.copyFinal s u v pages).perm = s.perm := by
  simp [State.copyFinal]

@[simp] theorem State.copyRound_perm (s : State) (u : Vtx) (v : Vtx) : (State.copyRound s u v).perm = s.perm := by
  simp [State.copyRound]

@[simp] theorem State.copyShare_perm (s : State) (u : Vtx) (v : Vtx) : (State.copyShare s u v).perm = s.perm := by
  simp [State.copyShare]

@[simp] theorem State.rejoinClear_perm (s : State) : (State.rejoinClear s).perm = s.perm := by
  simp [State.rejoinClear]

@[simp] theorem State.rejoinStart_perm (s : State) : (State.rejoinStart s).perm = s.perm := by
  simp [State.rejoinStart]

@[simp] theorem State.rejoinMark_perm (s : State) : (State.rejoinMark s).perm = s.perm := by
  unfold State.rejoinMark; repeat' split
  all_goals first | rfl | simp | simp_all

@[simp] theorem State.rejoinEnter_perm (s : State) (k : Nat) : (State.rejoinEnter s k).perm = s.perm := by
  simp [State.rejoinEnter]

@[simp] theorem State.readmit_perm (s : State) (v : Vtx) : (State.readmit s v).perm = s.perm := by
  simp [State.readmit]

@[simp] theorem State.rejoinCount_perm (s : State) : (State.rejoinCount s).perm = s.perm := by
  simp [State.rejoinCount]

@[simp] theorem State.rejoinLimit_perm (s : State) : (State.rejoinLimit s).perm = s.perm := by
  simp [State.rejoinLimit]

@[simp] theorem State.rejoinBoundary_perm (s0 : State) : (State.rejoinBoundary s0).perm = s0.perm := by
  simp only [State.rejoinBoundary]
  repeat' split
  all_goals simp

@[simp] theorem State.coldRods_perm (s : State) : (State.coldRods s).perm = s.perm := by
  simp only [State.coldRods]
  repeat' split
  all_goals simp

@[simp] theorem State.takeoverDue_perm (s : State) : (State.takeoverDue s).perm = s.perm := by
  unfold State.takeoverDue; repeat' split
  all_goals first | rfl | simp | simp_all

@[simp] theorem State.yieldDue_perm (s : State) : (State.yieldDue s).perm = s.perm := by
  simp [State.yieldDue]

@[simp] theorem State.rodWork_perm (s : State) : (State.rodWork s).perm = s.perm := by
  simp [State.rodWork]

@[simp] theorem State.countClean_perm (s : State) : (State.countClean s).perm = s.perm := by
  simp [State.countClean]

@[simp] theorem State.lastFields_perm (s : State) : (State.lastFields s).perm = s.perm := by
  simp [State.lastFields]

@[simp] theorem State.openVertices_perm (s : State) : (State.openVertices s).perm = s.perm := by
  simp [State.openVertices]

@[simp] theorem State.openFurlong_perm (s : State) : (State.openFurlong s).perm = s.perm := by
  simp [State.openFurlong]

@[simp] theorem State.superviseClocks_perm (s : State) (n : Tri Nat) : (State.superviseClocks s n).perm = s.perm := by
  simp [State.superviseClocks, perm_foldl]

@[simp] theorem State.positionIsolate_perm (s : State) : (State.positionIsolate s).perm = s.perm := by
  simp [State.positionIsolate]

@[simp] theorem State.dropChange_perm (s : State) : (State.dropChange s).perm = s.perm := by
  unfold State.dropChange; repeat' split
  all_goals first | rfl | simp | simp_all

@[simp] theorem State.commandedChange_perm (s : State) : (State.commandedChange s).perm = s.perm := by
  unfold State.commandedChange; repeat' split
  all_goals first | rfl | simp | simp_all

@[simp] theorem State.busBoundary_perm (s : State) : (State.busBoundary s).perm = s.perm := by
  unfold State.busBoundary
  dsimp only
  repeat' split
  all_goals simp

@[simp] theorem State.isolatedDone_perm (s : State) : (State.isolatedDone s).perm = s.perm := by
  simp [State.isolatedDone]

@[simp] theorem State.startRule_perm (s : State) : (State.startRule s).perm = s.perm := by
  unfold State.startRule; repeat' split
  all_goals first | rfl | simp | simp_all

@[simp] theorem State.resyncBoundary_perm (s : State) (applied : Bool) : (State.resyncBoundary s applied).perm = s.perm := by
  simp [State.resyncBoundary]

@[simp] theorem State.cancelHandover_perm (s : State) : (State.cancelHandover s).perm = s.perm := by
  simp [State.cancelHandover]

@[simp] theorem State.toStandby_perm (s : State) (c : MCause) : (State.toStandby s c).perm = s.perm := by
  simp [State.toStandby]

@[simp] theorem State.yieldBoundary_perm (s : State) : (State.yieldBoundary s).perm = s.perm := by
  simp only [State.yieldBoundary]
  repeat' split
  all_goals simp

@[simp] theorem State.pairBoundary_perm (s : State) : (State.pairBoundary s).perm = s.perm := by
  simp [State.pairBoundary]

@[simp] theorem State.ownChange_perm (s : State) (applied : Bool) : (State.ownChange s applied).perm = s.perm := by
  unfold State.ownChange; repeat' split
  all_goals first | rfl | simp | simp_all

@[simp] theorem State.boundaryModes_perm (s : State) (applied halted : Bool) : (State.boundaryModes s applied halted).perm = s.perm := by
  unfold State.boundaryModes; repeat' split
  all_goals first | rfl | simp | simp_all

@[simp] theorem State.judgePosition_perm (s : State) : (State.judgePosition s).perm = s.perm := by
  simp [State.judgePosition]

@[simp] theorem State.withdrawBoundary_perm (s : State) : (State.withdrawBoundary s).perm = s.perm := by
  unfold State.withdrawBoundary; repeat' split
  all_goals first | rfl | simp | simp_all

@[simp] theorem State.patchBoundary_perm (s : State) (applied : Bool) (before : Mode) : (State.patchBoundary s applied before).perm = s.perm := by
  simp [State.patchBoundary]

@[simp] theorem State.activationDue_perm (s : State) : (State.activationDue s).perm = s.perm := by
  simp [State.activationDue]

@[simp] theorem State.stagedBoundary_perm (s : State) (applied : Bool) (before : Mode) : (State.stagedBoundary s applied before).perm = s.perm := by
  simp [State.stagedBoundary]

@[simp] theorem State.homeSeconds_perm (s : State) (formed : Bool) (applied : Bool) : (State.homeSeconds s formed applied).perm = s.perm := by
  simp [State.homeSeconds]

@[simp] theorem State.boundaryFields_perm (s : State) : (State.boundaryFields s).perm = s.perm := by
  unfold State.boundaryFields; repeat' split
  all_goals first | rfl | simp | simp_all

@[simp] theorem State.boundaryLinks_perm (s : State) (good : Tri Bool) : (State.boundaryLinks s good).perm = s.perm := by
  unfold State.boundaryLinks
  dsimp only
  split <;> simp

@[simp] theorem State.boundarySupply_perm (s : State) (b : BoundaryIn) : (State.boundarySupply s b).perm = s.perm := by
  simp [State.boundarySupply]

@[simp] theorem State.clearHeard_perm (s : State) : (State.clearHeard s).perm = s.perm := by
  simp [State.clearHeard]

@[simp] theorem State.release_perm (s : State) (good : Tri Bool) : (State.release s good).perm = s.perm := by
  simp [State.release]

@[simp] theorem State.phaseZeroEnd_perm (s : State) (b : BoundaryIn) : (State.phaseZeroEnd s b).perm = s.perm := by
  simp [State.phaseZeroEnd]

@[simp] theorem State.wrongHandover_perm (s : State) : (State.wrongHandover s).perm = s.perm := by
  unfold State.wrongHandover; repeat' split
  all_goals first | rfl | simp | simp_all

@[simp] theorem State.phaseZero_perm (s : State) (b : BoundaryIn) (formed : Bool) (before : Mode) : (State.phaseZero s b formed before).perm = s.perm := by
  simp [State.phaseZero]

@[simp] theorem State.furlongBoundary_perm (s : State) (b : BoundaryIn) : (State.furlongBoundary s b).perm = s.perm := by
  simp [State.furlongBoundary]

@[simp] theorem State.modHwin_perm (s : State) (f : HostWin → HostWin) : (State.modHwin s f).perm = s.perm := by
  simp [State.modHwin]

@[simp] theorem State.j7Serve_perm (s : State) (m : Message) : (State.j7Serve s m).1.perm = s.perm := by
  unfold State.j7Serve; repeat' split
  all_goals first | rfl | simp | simp_all

@[simp] theorem State.modKey_perm (s : State) (r : Receiver) (f : KeyRx → KeyRx) : (State.modKey s r f).perm = s.perm := by
  unfold State.modKey; repeat' split
  all_goals first | rfl | simp | simp_all

@[simp] theorem State.queueFrames_perm (s : State) (c : Channel) (l : List (List Word × List Word × List Word)) (launch : Option Nat) : (State.queueFrames s c l launch).perm = s.perm := by
  simp [State.queueFrames, perm_foldl]

@[simp] theorem State.suppressFrames_perm (s : State) (n : Nat) : (State.suppressFrames s n).perm = s.perm := by
  simp [State.suppressFrames]

@[simp] theorem State.scrubTx_perm (s : State) (v : Vtx) (l : List Nat) : (State.scrubTx s v l).perm = s.perm := by
  simp [State.scrubTx]

@[simp] theorem State.readTx_perm (s : State) (vs : List Vtx) (l : List Nat) : (State.readTx s vs l).perm = s.perm := by
  simp [State.readTx, perm_foldl]

@[simp] theorem State.commitChannel_perm (s : State) (u w : Vtx) (c : Channel) (b : Binding) (told : Bool) : (State.commitChannel s u w c b told).perm = s.perm := by
  unfold State.commitChannel
  dsimp only
  repeat' split
  all_goals simp

@[simp] theorem State.commitChannels_perm (s : State) (u w : Vtx) (told : List Nat) (l : List (Channel × Binding)) : (State.commitChannels s u w told l).perm = s.perm := by
  induction l generalizing s told with
  | nil => rfl
  | cons p l ih => rw [State.commitChannels, ih, State.commitChannel_perm]

@[simp] theorem State.commitEvents_perm (s : State) (u : Vtx) (w : Vtx) (tasks : Nat) : (State.commitEvents s u w tasks).perm = s.perm := by
  simp [State.commitEvents]

@[simp] theorem State.commitNt_perm (s : State) (u : Vtx) (w : Vtx) (word : BitVec 48) : (State.commitNt s u w word).perm = s.perm := by
  simp [State.commitNt]

@[simp] theorem State.commit_perm (s : State) (r : Receiver) (u : Vtx) (w : Vtx) (word : BitVec 48) : (State.commit s r u w word).perm = s.perm := by
  unfold State.commit; repeat' split
  all_goals first | rfl | simp | simp_all

@[simp] theorem State.takeKey_perm (s : State) (r : Receiver) (ok : Bool) (w : BitVec 48) : (State.takeKey s r ok w).perm = s.perm := by
  unfold State.takeKey
  dsimp only
  repeat' split
  all_goals first | rfl | simp

@[simp] theorem State.formCommit_perm (s : State) (r : Receiver) : (State.formCommit s r).perm = s.perm := by
  unfold State.formCommit
  dsimp only
  split <;> simp

@[simp] theorem State.minorities_perm (s : State) (r : Receiver) (n : Nat) : (State.minorities s r n).perm = s.perm := by
  simp [State.minorities, perm_foldl]

@[simp] theorem State.missedCommit_perm (s : State) : (State.missedCommit s).perm = s.perm := by
  simp [State.missedCommit]

@[simp] theorem State.loadInstr_perm (s : State) (v : Vtx) (f : LoadForm) (signed : Bool) (busy : Bool) (n : Nat) (w : Nat) : (State.loadInstr s v f signed busy n w).perm = s.perm := by
  simp [State.loadInstr]

@[simp] theorem State.modSupply_perm (s : State) (f : Supply → Supply) : (State.modSupply s f).perm = s.perm := by
  simp [State.modSupply]

theorem State.later_perm (s : State) (d : Nat) (f : State → State) (h : ∀ t, (f t).perm = t.perm) :
    (State.later s d f).perm = s.perm := by
  have e := h { s with nt := s.nt + d, clock := s.clock.advance s.blk.ntm.rate d }
  simp only [State.perm, Permanent.mk.injEq] at e
  obtain ⟨a, -, b, c, d, e, f⟩ := e
  simp only [State.later, State.perm, a, b, c, d, e, f]

@[simp] theorem State.supplyBack_perm (s : State) : (State.supplyBack s).perm = s.perm := by
  have h : (if s.supply.bothLost = true then s.recorder.supplyBack else s.recorder).seq = s.recorder.seq := by
    split <;> simp
  simp only [State.supplyBack]
  split
  · rw [State.perm_mk, h]; rfl
  · rfl

@[simp] theorem State.k3mPowerLoss_perm (s : State) : (State.k3mPowerLoss s).perm = s.perm := by
  unfold State.k3mPowerLoss; repeat' split
  all_goals first | rfl | simp | simp_all

@[simp] theorem State.restartK3m_perm (s : State) : (State.restartK3m s).perm = s.perm := by
  simp [State.restartK3m]

@[simp] theorem State.fresh_perm (s : State) : (State.fresh s).perm = s.perm := by
  simp [State.fresh]

@[simp] theorem State.powerUpK3m_perm (s : State) (p : PowerOnIn) : (State.powerUpK3m s p).perm = s.perm := by
  simp only [State.powerUpK3m]
  rw [State.modUpd_perm _ _ rfl rfl, State.dropDownload_perm, State.perm_mk, State.perm_fold, State.modRec_perm _ _ rfl]
  have h0 : (s.modRec (fun r => if p.aoLost = true then (r.powerUp p.norOk).aoRestore else r.powerUp p.norOk)).perm = s.perm :=
    State.modRec_perm _ _ (by split <;> simp [Recorder.aoRestore])
  repeat' split
  all_goals first | exact h0 | simp [Recorder.aoRestore]

@[simp] theorem State.stillWithdrawn_perm (s : State) (w : Tri Bool) : (State.stillWithdrawn s w).perm = s.perm := by
  simp [State.stillWithdrawn]

@[simp] theorem State.showMode_perm (s : State) : (State.showMode s).perm = s.perm := by
  simp [State.showMode]

@[simp] theorem State.tornJournal_perm (s : State) (p : PowerOnIn) : (State.tornJournal s p).perm = s.perm := by
  simp only [State.tornJournal]
  split <;> simp

@[simp] theorem State.stepOne_perm (s : State) (p : PowerOnIn) : (State.stepOne s p).perm = s.perm := by
  have h : ∀ (t : State) (w : HostWin), ({ t with hwin := w } : State).perm = t.perm := fun _ _ => rfl
  simp only [State.stepOne, State.showMode_perm]
  split <;> simp [h]

@[simp] theorem State.repairRecords_perm (s : State) (v : Option Vtx) (l : List Repair) : (State.repairRecords s v l).perm = s.perm := by
  unfold State.repairRecords; repeat' split
  all_goals first | rfl | simp [perm_foldl] | simp_all [perm_foldl]

@[simp] theorem State.marchAll_perm (s : State) (l : List MarchFail) : (State.marchAll s l).perm = s.perm := by
  simp [State.marchAll, perm_foldl]

@[simp] theorem State.rejected_perm (s : State) (bank : Nat) (reason : Nat) (build : Nat) : (State.rejected s bank reason build).perm = s.perm := by
  simp [State.rejected]

@[simp] theorem State.revert_perm (s : State) (cause : Nat) : (State.revert s cause).perm = s.perm := by
  simp only [State.revert, State.updRec_perm]
  rw [State.modUpd_perm _ _ rfl rfl, State.journal_perm]

@[simp] theorem State.takeFlag_perm (s : State) : (State.takeFlag s).perm = s.perm := by
  unfold State.takeFlag; repeat' split
  all_goals first | rfl | simp | simp_all

@[simp] theorem State.bootArmed_perm (s : State) : (State.bootArmed s).perm = s.perm := by
  simp [State.bootArmed]

@[simp] theorem State.blockWrites_perm (s : State) (first : Nat) (last : Nat) : (State.blockWrites s first last).perm = s.perm := by
  simp [State.blockWrites, perm_foldl]

@[simp] theorem Update.setBank_otp (u : Update) (k : Nat) (l : Option LoadSet) : (u.setBank k l).otp = u.otp := by
  unfold Update.setBank; split <;> rfl
@[simp] theorem Update.setBank_hssidx (u : Update) (k : Nat) (l : Option LoadSet) : (u.setBank k l).hssidx = u.hssidx := by
  unfold Update.setBank; split <;> rfl

@[simp] theorem State.bootCopying_perm (s : State) (resumed : Bool) (bad : Option Nat) : (State.bootCopying s resumed bad).perm = s.perm := by
  simp only [State.bootCopying]
  repeat' split
  all_goals simp

@[simp] theorem State.settingsRule_perm (s : State) (schema : Nat) : (State.settingsRule s schema).perm = s.perm := by
  simp [State.settingsRule]

@[simp] theorem State.bootCopied_perm (s : State) : (State.bootCopied s).perm = s.perm := by
  simp [State.bootCopied]

@[simp] theorem State.bootFault_perm (s : State) : (State.bootFault s).perm = s.perm := by
  simp [State.bootFault]

@[simp] theorem State.bootVerify_perm (s : State) : (State.bootVerify s).1.perm = s.perm := by
  simp only [State.bootVerify]
  repeat' split
  all_goals simp

@[simp] theorem State.stepThree_perm (s : State) (copyFail : Option Nat) : (State.stepThree s copyFail).1.perm = s.perm := by
  simp [State.stepThree]

@[simp] theorem State.takeLoad_perm (s : State) (c : Content) (sched : Tri (List Nat)) : (State.takeLoad s c sched).perm = s.perm := by
  simp [State.takeLoad]

@[simp] theorem State.stepFour_perm (s : State) (sched : Tri (List Nat)) : (State.stepFour s sched).1.perm = s.perm := by
  simp only [State.stepFour]
  repeat' split
  all_goals simp

@[simp] theorem State.stepFive_perm (s : State) (p : PowerOnIn) : (State.stepFive s p).perm = s.perm := by
  simp only [State.stepFive]
  repeat' split
  all_goals simp

@[simp] theorem State.atStep_perm (s : State) (n : Nat) : (State.atStep s n).perm = s.perm := by
  simp [State.atStep]

@[simp] theorem State.stepFourVoted_perm (s : State) (p : PowerOnIn) : (State.stepFourVoted s p).1.perm = s.perm := by
  simp only [State.stepFourVoted]
  repeat' split
  all_goals simp

@[simp] theorem State.stepsFourFive_perm (s : State) (p : PowerOnIn) : (State.stepsFourFive s p).perm = s.perm := by
  simp only [State.stepsFourFive]
  split <;> simp

@[simp] theorem State.powerDown_perm (s : State) : (State.powerDown s).perm = s.perm := by
  simp [State.powerDown]

theorem State.stepThreeCut_perm (s : State) (c : PowerCut) (t : State) (h : s.stepThreeCut c = some t) : t.perm = s.perm := by
  unfold State.stepThreeCut at h
  dsimp only at h
  repeat' split at h
  all_goals first
    | (simp only [Option.some.injEq] at h; subst h; simp; done)
    | cases h

theorem State.cutAt_perm (s : State) (p : PowerOnIn) (t : State) (h : s.cutAt p = some t) : t.perm = s.perm := by
  obtain ⟨c, -, hc⟩ := Option.bind_eq_some_iff.mp h
  exact State.stepThreeCut_perm s c t hc

@[simp] theorem State.stepsThreeOn_perm (s : State) (p : PowerOnIn) : (State.stepsThreeOn s p).perm = s.perm := by
  simp only [State.stepsThreeOn]
  split
  · rename_i t h; rw [State.powerDown_perm, State.cutAt_perm _ p t h, State.atStep_perm]
  · repeat' split
    all_goals simp

@[simp] theorem State.stepsTwoOn_perm (s : State) (p : PowerOnIn) : (State.stepsTwoOn s p).perm = s.perm := by
  simp [State.stepsTwoOn]

@[simp] theorem State.runSbool_perm (s : State) (v : Vtx) (m : IMeta) (bad : Bool) (d : BitVec 4) (valid : Vertex → Bool) (val : Vertex → Word) (z : Vertex → Bool) : (State.runSbool s v m bad d valid val z).perm = s.perm := by
  simp [State.runSbool]

@[simp] theorem State.runS2_perm (s : State) (v : Vtx) (f : FmtR) (op : Bool → Bool → Bool) : (State.runS2 s v f op).perm = s.perm := by
  simp [State.runS2]

@[simp] theorem State.runP2_perm (s : State) (v : Vtx) (f : FmtR) (op : Bool → Bool → Bool) : (State.runP2 s v f op).perm = s.perm := by
  simp [State.runP2]

end Sys2Proof.Machine
end

