-- ==== Sys2Proof/Laws/Results.lean ====
section
/-! SUPPORT. What the shared runners of the register instructions leave: one law for each shape of result. -/

namespace Sys2Proof.Machine

/-! ### Registers -/

@[simp] theorem Core.reg_setReg_same (c : Core) (d : BitVec 4) (x : Word) : (c.setReg d x).reg d = x := by
  simp [Core.reg, Core.setReg]

theorem Core.reg_setReg_other (c : Core) {d r : BitVec 4} (x : Word) (h : r ≠ d) : (c.setReg d x).reg r = c.reg r := by
  have : d.toNat ≠ r.toNat := fun e => h (BitVec.eq_of_toNat_eq e).symm
  simp [Core.reg, Core.setReg, this]

/-- A record enters the stream; a page may be marked; nothing else changes. -/
theorem Vertex.feed_eq (x : Vertex) (r : SigRec) :
    x.feed r = { x with core := { x.core with stream := r :: x.core.stream }, dirty := (x.feed r).dirty } := by
  unfold Vertex.feed
  cases r.page with
  | none => rfl
  | some p => by_cases h : (x.marking && !x.dirty.contains p) = true <;> simp only [h] <;> rfl

@[simp] theorem Vertex.feed_core (x : Vertex) (r : SigRec) :
    (x.feed r).core = { x.core with stream := r :: x.core.stream } := by rw [Vertex.feed_eq]

@[simp] theorem Vertex.feed_reg (x : Vertex) (n : Nat) (val : Word) :
    x.feed (.reg n val) = { x with core := { x.core with stream := .reg n val :: x.core.stream } } := rfl

@[simp] theorem Vertex.feed_loadLocal (x : Vertex) (n : Nat) :
    x.feed (.loadLocal n) = { x with core := { x.core with stream := .loadLocal n :: x.core.stream } } := rfl

@[simp] theorem Vertex.reg_setReg_same (x : Vertex) (d : BitVec 4) (val : Word) : (x.setReg d val).reg d = val := by
  simp [Vertex.setReg, Vertex.reg, Core.reg, Core.setReg]

theorem Vertex.reg_setReg_other (x : Vertex) {d r : BitVec 4} (val : Word) (h : r ≠ d) :
    (x.setReg d val).reg r = x.reg r := Core.reg_setReg_other x.core val h

/-! ### Instructions with one register result -/

/-- The law of an instruction that writes one register and the flags. -/
theorem State.run_writesRegOn {s : State} {v : Vtx} {m : Vertex → IMeta} {body : Vertex → IRes} {k : IMeta} {x : Vertex}
    {d : BitVec 4} {val : Word} {fl : Flags} {undo : List Host.Cell}
    (h : MayIssue s v k) (hm : m ((s.closeFull v).v v) = k) (hx : x.core = (s.issueVertex v k.words).core)
    (hb : body (s.issueVertex v k.words) = .done ((x.setReg d val).setFlags fl) none undo) :
    WritesRegOn x s (s.run v m false body) v k d val fl (.reg d.toNat val) := by
  have e := State.instr_done (post := id) h hm hb
  have hc : ((s.closeFull v).v v).core.pc = (s.issueVertex v k.words).core.pc := by
    rw [State.issueVertex_core]
  unfold State.run
  rw [e]
  refine ⟨⟨?_, ?_, ?_, ?_⟩, ⟨?_, ?_, ?_⟩, ?_, ?_, ?_, ?_⟩
  · simp [State.issueState_setV]
  · simp [State.nextPc, hc]
  · simp
  · simp [Vertex.setFlags, Vertex.setReg, Core.setReg, ← hx]
  · simp only [id, State.v_setV]
    rw [Vertex.finish_eq, Vertex.retire_rest]
    rfl
  · simp [Core.plain, Vertex.setFlags, Vertex.setReg, Core.setReg]
  · intro hd
    simp only [id, State.v_setV, hd, Vertex.finish_false]
    rfl
  · simp only [id, State.v_setV, Vertex.reg, Vertex.finish_core]
    exact Core.reg_setReg_same x.core d val
  · intro r hr
    simp only [id, State.v_setV, Vertex.reg, Vertex.finish_core]
    exact Core.reg_setReg_other x.core val hr
  · simp [Vertex.setFlags]
  · simp [Vertex.setFlags, Vertex.setReg, Core.setReg]

/-- The law of an instruction that writes flags alone. -/
theorem State.run_writesFlags {s : State} {v : Vtx} {m : Vertex → IMeta} {body : Vertex → IRes} {k : IMeta}
    {fl : Flags} {undo : List Host.Cell}
    (h : MayIssue s v k) (hm : m ((s.closeFull v).v v) = k)
    (hb : body (s.issueVertex v k.words) = .done ((s.issueVertex v k.words).setFlags fl) none undo) :
    WritesFlags s (s.run v m false body) v k fl := by
  have e := State.instr_done (post := id) h hm hb
  have hc : ((s.closeFull v).v v).core.pc = (s.issueVertex v k.words).core.pc := by
    rw [State.issueVertex_core]
  unfold State.run
  rw [e]
  refine ⟨⟨?_, ?_, ?_, ?_⟩, ⟨?_, ?_, ?_⟩, ?_, ?_, ?_⟩
  · simp [State.issueState_setV]
  · simp [State.nextPc, hc]
  · simp
  · simp [Vertex.setFlags]
  · simp only [id, State.v_setV]
    rw [Vertex.finish_eq, Vertex.retire_rest]
    rfl
  · simp [Core.plain, Vertex.setFlags]
  · intro hd
    simp only [id, State.v_setV, hd, Vertex.finish_false]
    rfl
  · simp [Vertex.setFlags]
  · simp [Vertex.setFlags]
  · simp [Vertex.setFlags]

end Sys2Proof.Machine
end

