-- ==== Sys2Proof/Laws/Steps.lean ====
section
/-! SUPPORT. What each command leaves of the values of Permanent.lean: one lemma per command, and for those that burn, program or count, that
they only add. -/

namespace Sys2Proof.Machine

/-- Those values after a command. -/
def permOf (o : Host.Outcome State Fault Refusal) : Option Permanent :=
  match o with
  | .next t => some t.perm
  | .fault _ => none
  | .refused _ => none

@[simp] theorem permOf_ok (s : State) : permOf (ok s) = some s.perm := rfl

@[simp] theorem permOf_ite {c : Prop} [Decidable c] (a b : Host.Outcome State Fault Refusal) :
    permOf (if c then a else b) = if c then permOf a else permOf b := by
  split <;> rfl

theorem State.chordReject_perm (s : State) (l : Link) (kind : BitVec 8) (mid : Word) (f : ChordFrame) (t : State)
    (h : s.chordReject l kind mid f = some t) : t.perm = s.perm := by
  unfold State.chordReject at h
  dsimp only at h
  repeat' split at h
  all_goals first
    | (simp only [Option.some.injEq] at h; subst h; simp; done)
    | cases h

@[simp] theorem State.countUnused_perm (s : State) (f : AnyFrame) : (s.countUnused f).perm = s.perm := by
  unfold State.countUnused; split <;> simp

@[simp] theorem State.fetchSlot_perm (s : State) (u w : Vtx) (rod slot : Nat) (l : List Nat) (busy : Tri Nat) :
    (s.fetchSlot u w rod slot l busy).perm = s.perm := by
  simp [State.fetchSlot, perm_foldl]

@[simp] theorem State.afterK3mRead_perm (s : State) (a : Nat) : (s.afterK3mRead a).perm = s.perm := by
  unfold State.afterK3mRead; repeat' split
  all_goals first | rfl | simp

/-! ### Each command -/

theorem execNop_perm (v : Vtx) (f : FmtN) (s : State) : permOf (execNop v f s) = some s.perm := by
  simp [execNop]

theorem execTrap_perm (v : Vtx) (f : FmtN) (s : State) : permOf (execTrap v f s) = some s.perm := by
  simp [execTrap]

theorem execEvt_perm (v : Vtx) (f : FmtI) (s : State) : permOf (execEvt v f s) = some s.perm := by
  simp [execEvt]

theorem execRdtcw_perm (v : Vtx) (f : FmtR) (s : State) : permOf (execRdtcw v f s) = some s.perm := by
  simp [execRdtcw]

theorem execWrtcw_perm (v : Vtx) (f : FmtR) (s : State) : permOf (execWrtcw v f s) = some s.perm := by
  simp [execWrtcw]

theorem execMov_perm (v : Vtx) (f : FmtR) (s : State) : permOf (execMov v f s) = some s.perm := by
  simp [execMov]

theorem execMovi_perm (v : Vtx) (f : FmtI) (s : State) : permOf (execMovi v f s) = some s.perm := by
  simp [execMovi]

theorem execMovis_perm (v : Vtx) (f : FmtI) (s : State) : permOf (execMovis v f s) = some s.perm := by
  simp [execMovis]

theorem execMovhi_perm (v : Vtx) (f : FmtI) (s : State) : permOf (execMovhi v f s) = some s.perm := by
  simp [execMovhi]

theorem execMovx_perm (v : Vtx) (f : FmtX) (s : State) : permOf (execMovx v f s) = some s.perm := by
  simp [execMovx]

theorem execSel_perm (v : Vtx) (f : FmtR) (s : State) : permOf (execSel v f s) = some s.perm := by
  simp [execSel]

theorem execAdds_perm (v : Vtx) (f : FmtR) (s : State) : permOf (execAdds v f s) = some s.perm := by
  simp [execAdds]

theorem execAddu_perm (v : Vtx) (f : FmtR) (s : State) : permOf (execAddu v f s) = some s.perm := by
  simp [execAddu]

theorem execSubs_perm (v : Vtx) (f : FmtR) (s : State) : permOf (execSubs v f s) = some s.perm := by
  simp [execSubs]

theorem execSubu_perm (v : Vtx) (f : FmtR) (s : State) : permOf (execSubu v f s) = some s.perm := by
  simp [execSubu]

theorem execMuls_perm (v : Vtx) (f : FmtR) (s : State) : permOf (execMuls v f s) = some s.perm := by
  simp [execMuls]

theorem execMulu_perm (v : Vtx) (f : FmtR) (s : State) : permOf (execMulu v f s) = some s.perm := by
  simp [execMulu]

theorem execDivs_perm (v : Vtx) (f : FmtR) (s : State) : permOf (execDivs v f s) = some s.perm := by
  simp [execDivs]

theorem execDivu_perm (v : Vtx) (f : FmtR) (s : State) : permOf (execDivu v f s) = some s.perm := by
  simp [execDivu]

theorem execRems_perm (v : Vtx) (f : FmtR) (s : State) : permOf (execRems v f s) = some s.perm := by
  simp [execRems]

theorem execRemu_perm (v : Vtx) (f : FmtR) (s : State) : permOf (execRemu v f s) = some s.perm := by
  simp [execRemu]

theorem execNegs_perm (v : Vtx) (f : FmtR) (s : State) : permOf (execNegs v f s) = some s.perm := by
  simp [execNegs]

theorem execAbss_perm (v : Vtx) (f : FmtR) (s : State) : permOf (execAbss v f s) = some s.perm := by
  simp [execAbss]

theorem execAddl_perm (v : Vtx) (f : FmtR) (s : State) : permOf (execAddl v f s) = some s.perm := by
  simp [execAddl]

theorem execSubl_perm (v : Vtx) (f : FmtR) (s : State) : permOf (execSubl v f s) = some s.perm := by
  simp [execSubl]

theorem execAddsi_perm (v : Vtx) (f : FmtI) (s : State) : permOf (execAddsi v f s) = some s.perm := by
  simp [execAddsi]

theorem execClassChange_perm (dt : Nat) (input : Fin 32) (before : List Nat) (cur : Nat) (s0 : State) : permOf (execClassChange dt input before cur s0) = some (s0.elapse dt).perm := by
  unfold execClassChange
  dsimp only
  repeat' split
  all_goals first | rfl | simp

theorem execIoTick_perm (dt : Nat) (s0 : State) : permOf (execIoTick dt s0) = some (s0.elapse dt).perm := by
  simp only [execIoTick]
  split
  · rfl
  · simp only [permOf_ok, Option.some.injEq]
    rw [State.modSio_perm]
    exact perm_foldl _ _ _ (fun _ _ => by simp)

theorem execDiscrepancyLatch_perm (dt : Nat) (pair : Fin 16) (s0 : State) : permOf (execDiscrepancyLatch dt pair s0) = some (s0.elapse dt).perm := by
  simp [execDiscrepancyLatch]

theorem execInputFaultLatch_perm (dt : Nat) (input : Fin 32) (cur : Nat) (s0 : State) : permOf (execInputFaultLatch dt input cur s0) = some (s0.elapse dt).perm := by
  simp [execInputFaultLatch]

theorem execInputLatchClear_perm (dt : Nat) (input : Fin 32) (s0 : State) : permOf (execInputLatchClear dt input s0) = some (s0.elapse dt).perm := by
  unfold execInputLatchClear; dsimp only; repeat' split
  all_goals first | rfl | simp | simp_all

theorem execTwohandTimeout_perm (dt : Nat) (pair : Fin 16) (s0 : State) : permOf (execTwohandTimeout dt pair s0) = some (s0.elapse dt).perm := by
  unfold execTwohandTimeout; dsimp only; repeat' split
  all_goals first | rfl | simp | simp_all

theorem execTpPulseStart_perm (dt : Nat) (tp : Fin 4) (s0 : State) : permOf (execTpPulseStart dt tp s0) = some (s0.elapse dt).perm := by
  unfold execTpPulseStart
  dsimp only
  repeat' split
  all_goals first | rfl | simp

theorem execTpPulseCheck_perm (dt : Nat) (tp : Fin 4) (currents : List Nat) (s0 : State) : permOf (execTpPulseCheck dt tp currents s0) = some (s0.elapse dt).perm := by
  simp only [execTpPulseCheck]
  repeat' split
  · rfl
  · rfl
  · rfl
  · simp only [permOf_ok, Option.some.injEq]
    rw [State.modSio_perm]
    exact perm_foldl _ _ _ (fun _ _ => by simp)

theorem execTpOverload_perm (dt : Nat) (tp : Fin 4) (cur : Nat) (us : Nat) (s0 : State) : permOf (execTpOverload dt tp cur us s0) = some (s0.elapse dt).perm := by
  unfold execTpOverload; dsimp only; repeat' split
  all_goals first | rfl | simp | simp_all

theorem execQsOvercurrent_perm (dt : Nat) (n : Fin 16) (cur : Nat) (us : Nat) (s0 : State) : permOf (execQsOvercurrent dt n cur us s0) = some (s0.elapse dt).perm := by
  simp [execQsOvercurrent]

theorem execQsOpenLoad_perm (dt : Nat) (n : Fin 16) (cur : Nat) (us : Nat) (s0 : State) : permOf (execQsOpenLoad dt n cur us s0) = some (s0.elapse dt).perm := by
  simp [execQsOpenLoad]

theorem execQsStuckOn_perm (dt : Nat) (n : Fin 16) (plus minus supply : Nat) (s0 : State) : permOf (execQsStuckOn dt n plus minus supply s0) = some (s0.elapse dt).perm := by
  simp [execQsStuckOn]

theorem execQaReadback_perm (dt : Nat) (j : Fin 8) (readOn : Bool) (us : Nat) (volt : Nat) (s0 : State) : permOf (execQaReadback dt j readOn us volt s0) = some (s0.elapse dt).perm := by
  simp [execQaReadback]

theorem execOutputTestSlot_perm (dt : Nat) (k : Fin 32) (s0 : State) : permOf (execOutputTestSlot dt k s0) = some (s0.elapse dt).perm := by
  unfold execOutputTestSlot; dsimp only; repeat' split
  all_goals first | rfl | simp | simp_all

theorem execOutputTestReading_perm (dt : Nat) (supply plus minus : Nat) (s0 : State) : permOf (execOutputTestReading dt supply plus minus s0) = some (s0.elapse dt).perm := by
  unfold execOutputTestReading; dsimp only; repeat' split
  all_goals first | rfl | simp | simp_all

theorem execOutputTestTimeout_perm (dt : Nat) (volt : Nat) (s0 : State) : permOf (execOutputTestTimeout dt volt s0) = some (s0.elapse dt).perm := by
  unfold execOutputTestTimeout; dsimp only; repeat' split
  all_goals first | rfl | simp | simp_all

theorem execOutputTestRepeat_perm (dt : Nat) (s0 : State) : permOf (execOutputTestRepeat dt s0) = some (s0.elapse dt).perm := by
  unfold execOutputTestRepeat; dsimp only; repeat' split
  all_goals first | rfl | simp | simp_all

theorem execLatchResetTestEnd_perm (dt : Nat) (n : Fin 16) (hs ls : TermReading) (s0 : State) : permOf (execLatchResetTestEnd dt n hs ls s0) = some (s0.elapse dt).perm := by
  simp only [execLatchResetTestEnd]
  repeat' split
  all_goals simp only [permOf_ok, Option.some.injEq]
  all_goals simp [perm_foldl]

theorem execTpRestoreEnd_perm (dt : Nat) (tp : Fin 4) (cur : Nat) (us : Nat) (s0 : State) : permOf (execTpRestoreEnd dt tp cur us s0) = some (s0.elapse dt).perm := by
  unfold execTpRestoreEnd; dsimp only; repeat' split
  all_goals first | rfl | simp | simp_all

theorem execWatchdogTrip_perm (dt : Nat) (oscNs : Nat) (s0 : State) : permOf (execWatchdogTrip dt oscNs s0) = some (s0.elapse dt).perm := by
  simp [execWatchdogTrip]

theorem execSupplyWarn_perm (dt : Nat) (volt : Nat) (s0 : State) : permOf (execSupplyWarn dt volt s0) = some (s0.elapse dt).perm := by
  simp [execSupplyWarn]

theorem execSupplyWarnClear_perm (dt : Nat) (s0 : State) : permOf (execSupplyWarnClear dt s0) = some (s0.elapse dt).perm := by
  simp [execSupplyWarnClear]

theorem execSupplyLost_perm (dt : Nat) (volt : Nat) (run : Nat) (s0 : State) : permOf (execSupplyLost dt volt run s0) = some (s0.elapse dt).perm := by
  simp [execSupplyLost]

theorem execSupplyLostClear_perm (dt : Nat) (s0 : State) : permOf (execSupplyLostClear dt s0) = some (s0.elapse dt).perm := by
  simp [execSupplyLostClear]

theorem execSioFail_perm (dt : Nat) (s0 : State) : permOf (execSioFail dt s0) = some (s0.elapse dt).perm := by
  simp [execSioFail]

theorem execPreservingPiece_perm (dt : Nat) (chip : Vtx) (bank : Fin 8) (s0 : State) : permOf (execPreservingPiece dt chip bank s0) = some (s0.elapse dt).perm := by
  simp [execPreservingPiece]

theorem execPieceComplete_perm (dt : Nat) (chip : Vtx) (bank : Fin 8) (r : TestResult) (word : Nat) (bit : Nat) (s0 : State) : permOf (execPieceComplete dt chip bank r word bit s0) = some (s0.elapse dt).perm := by
  unfold execPieceComplete; dsimp only; repeat' split
  all_goals first | rfl | simp | simp_all

theorem execPmctlReq_perm (v : Vtx) (val : Word) (s : State) : permOf (execPmctlReq v val s) = some s.perm := by
  simp [execPmctlReq]

theorem execMemCtlClr_perm (v : Vtx) (s : State) : permOf (execMemCtlClr v s) = some s.perm := by
  simp [execMemCtlClr]

theorem execMemDoneClear_perm (v : Vtx) (val : Word) (s : State) : permOf (execMemDoneClear v val s) = some s.perm := by
  simp [execMemDoneClear]

theorem execSliceStart_perm (dt : Nat) (n : Nat) (s0 : State) : permOf (execSliceStart dt n s0) = some (s0.elapse dt).perm := by
  simp [execSliceStart]

theorem execSliceAbandon_perm (dt : Nat) (n : Nat) (s0 : State) : permOf (execSliceAbandon dt n s0) = some (s0.elapse dt).perm := by
  simp [execSliceAbandon]

theorem execSliceComplete_perm (dt : Nat) (n : Nat) (r : TestResult) (s0 : State) : permOf (execSliceComplete dt n r s0) = some (s0.elapse dt).perm := by
  simp [execSliceComplete]

theorem execSelftestOverdue_perm (dt : Nat) (n : Nat) (s0 : State) : permOf (execSelftestOverdue dt n s0) = some (s0.elapse dt).perm := by
  unfold execSelftestOverdue; dsimp only; repeat' split
  all_goals first | rfl | simp | simp_all

theorem execBstCtlClr_perm (v : Vtx) (s : State) : permOf (execBstCtlClr v s) = some s.perm := by
  simp [execBstCtlClr]

theorem execPtbWrite_perm (v : Vtx) (off : BitVec 12) (val : Word) (s : State) : permOf (execPtbWrite v off val s) = some s.perm := by
  simp [execPtbWrite]

theorem execRecordForm_perm (dt : Nat) (s0 : State) : permOf (execRecordForm dt s0) = some (s0.elapse dt).perm := by
  simp only [execRecordForm]
  repeat' split
  all_goals first | rfl | skip
  simp only [permOf_ok, Option.some.injEq]
  rw [State.modRec_perm]
  simp

theorem execFoldTimeout_perm (dt : Nat) (s0 : State) : permOf (execFoldTimeout dt s0) = some (s0.elapse dt).perm := by
  simp [execFoldTimeout]

theorem execSectorEraseEnd_perm (dt : Nat) (okay : Bool) (s0 : State) : permOf (execSectorEraseEnd dt okay s0) = some (s0.elapse dt).perm := by
  simp only [execSectorEraseEnd]
  repeat' split
  all_goals first | rfl | skip
  refine congrArg some ?_
  rw [State.recRec_perm]
  refine State.modRec_perm _ _ ?_
  rw [Recorder.unlessFailed_seq]
  · simp
  · split <;> simp

theorem execCounterSave_perm (dt : Nat) (s0 : State) : permOf (execCounterSave dt s0) = some (s0.elapse dt).perm := by
  simp [execCounterSave]

theorem execFreezeTimeout_perm (dt : Nat) (s0 : State) : permOf (execFreezeTimeout dt s0) = some (s0.elapse dt).perm := by
  simp [execFreezeTimeout]

theorem execEvrCtlClr_perm (v : Vtx) (s : State) : permOf (execEvrCtlClr v s) = some s.perm := by
  simp [execEvrCtlClr]

theorem execRecnCtlClr_perm (s : State) : permOf (execRecnCtlClr s) = some s.perm := by
  simp [execRecnCtlClr]

theorem execSentinelClear_perm (s : State) : permOf (execSentinelClear s) = some s.perm := by
  simp [execSentinelClear]

theorem execSlotFetch_perm (dt : Nat) (rod : Nat) (slot : Nat) (busy : Tri Nat) (s0 : State) : permOf (execSlotFetch dt rod slot busy s0) = some (s0.elapse dt).perm := by
  unfold execSlotFetch; dsimp only; repeat' split
  all_goals first | rfl | simp | simp_all

theorem execSlotTransmit_perm (dt : Nat) (rod : Nat) (slot : Nat) (s0 : State) : permOf (execSlotTransmit dt rod slot s0) = some (s0.elapse dt).perm := by
  unfold execSlotTransmit; dsimp only; repeat' split
  all_goals first | rfl | simp | simp_all

theorem execStatusTransmit_perm (dt : Nat) (rod : Nat) (slot : Nat) (s0 : State) : permOf (execStatusTransmit dt rod slot s0) = some (s0.elapse dt).perm := by
  unfold execStatusTransmit; dsimp only; repeat' split
  all_goals first | rfl | simp | simp_all

theorem execArbWindowStart_perm (dt : Nat) (net : Net) (s0 : State) : permOf (execArbWindowStart dt net s0) = some (s0.elapse dt).perm := by
  simp [execArbWindowStart]

theorem execArbSend_perm (dt : Nat) (net : Net) (idle : Nat) (len : Nat) (s0 : State) : permOf (execArbSend dt net idle len s0) = some (s0.elapse dt).perm := by
  unfold execArbSend; dsimp only; repeat' split
  all_goals first | rfl | simp | simp_all

theorem execEventCopyExpiry_perm (dt : Nat) (net : Net) (queue : Nat) (s0 : State) : permOf (execEventCopyExpiry dt net queue s0) = some (s0.elapse dt).perm := by
  simp [execEventCopyExpiry]

theorem execLaunchTimeReached_perm (dt : Nat) (queue : Nat) (s0 : State) : permOf (execLaunchTimeReached dt queue s0) = some (s0.elapse dt).perm := by
  simp [execLaunchTimeReached]

theorem execFrameForward_perm (dt : Nat) (port : Port) (busy : Bool) (f : AnyFrame) (s0 : State) : permOf (execFrameForward dt port busy f s0) = some (s0.elapse dt).perm := by
  unfold execFrameForward; dsimp only; repeat' split
  all_goals first | rfl | simp | simp_all

theorem execPassThroughRelease_perm (dt : Nat) (port : Port) (s0 : State) : permOf (execPassThroughRelease dt port s0) = some (s0.elapse dt).perm := by
  unfold execPassThroughRelease; dsimp only; repeat' split
  all_goals first | rfl | simp | simp_all

theorem execFrameCopyReceive_perm (dt : Nat) (net : Net) (pre : Nat) (f : Frame) (s0 : State) : permOf (execFrameCopyReceive dt net pre f s0) = some (s0.elapse dt).perm := by
  unfold execFrameCopyReceive; dsimp only; repeat' split
  all_goals first | rfl | simp | simp_all

theorem execCombineWindowExpiry_perm (dt : Nat) (src : BitVec 16) (rodslot : BitVec 16) (seq : Word) (s0 : State) : permOf (execCombineWindowExpiry dt src rodslot seq s0) = some (s0.elapse dt).perm := by
  unfold execCombineWindowExpiry; dsimp only; repeat' split
  all_goals first | rfl | simp | simp_all

theorem execOccurrenceDue_perm (dt : Nat) (desc : Nat) (s0 : State) : permOf (execOccurrenceDue dt desc s0) = some (s0.elapse dt).perm := by
  unfold execOccurrenceDue; dsimp only; repeat' split
  all_goals first | rfl | simp | simp_all

theorem execLinkChange_perm (dt : Nat) (port : Port) (e : LinkEvent) (s0 : State) : permOf (execLinkChange dt port e s0) = some (s0.elapse dt).perm := by
  unfold execLinkChange; dsimp only; repeat' split
  all_goals first | rfl | simp | simp_all

theorem execGuardianBoundaryPulse_perm (dt : Nat) (net : Net) (off : Int) (s0 : State) : permOf (execGuardianBoundaryPulse dt net off s0) = some (s0.elapse dt).perm := by
  simp [execGuardianBoundaryPulse]

theorem execGuardianWindowExpiry_perm (dt : Nat) (net : Net) (s0 : State) : permOf (execGuardianWindowExpiry dt net s0) = some (s0.elapse dt).perm := by
  simp [execGuardianWindowExpiry]

theorem execBabble_perm (dt : Nat) (net : Net) (s0 : State) : permOf (execBabble dt net s0) = some (s0.elapse dt).perm := by
  simp [execBabble]

theorem execColdstartLtExpiry_perm (dt : Nat) (s0 : State) : permOf (execColdstartLtExpiry dt s0) = some (s0.elapse dt).perm := by
  simp [execColdstartLtExpiry]

theorem execColdstartEnd_perm (dt : Nat) (s0 : State) : permOf (execColdstartEnd dt s0) = some (s0.elapse dt).perm := by
  simp [execColdstartEnd]

theorem execSessionOpen_perm (dt : Nat) (s0 : State) : permOf (execSessionOpen dt s0) = some (s0.elapse dt).perm := by
  unfold execSessionOpen; dsimp only; repeat' split
  all_goals first | rfl | simp | simp_all

theorem execSessionIdleTimeout_perm (dt : Nat) (n : Sess) (s0 : State) : permOf (execSessionIdleTimeout dt n s0) = some (s0.elapse dt).perm := by
  unfold execSessionIdleTimeout; dsimp only; repeat' split
  all_goals first | rfl | simp | simp_all

theorem execSessionEnd_perm (dt : Nat) (n : Sess) (s0 : State) : permOf (execSessionEnd dt n s0) = some (s0.elapse dt).perm := by
  simp [execSessionEnd]

theorem execDlStart_perm (dt : Nat) (n : Sess) (tag : BitVec 16) (length : Nat) (man : Manifest) (s0 : State) : permOf (execDlStart dt n tag length man s0) = some (s0.elapse dt).perm := by
  simp [execDlStart]

theorem execDlData_perm (dt : Nat) (n : Sess) (tag : BitVec 16) (off : Nat) (data : List Byte) (s0 : State) : permOf (execDlData dt n tag off data s0) = some (s0.elapse dt).perm := by
  simp [execDlData]

theorem execDlEnd_perm (dt : Nat) (n : Sess) (tag : BitVec 16) (got : LoadSet) (s0 : State) : permOf (execDlEnd dt n tag got s0) = some (s0.elapse dt).perm := by
  simp [execDlEnd]

theorem execDownloadCheckEnd_perm (dt : Nat) (s0 : State) : permOf (execDownloadCheckEnd dt s0) = some (s0.elapse dt).perm := by
  unfold execDownloadCheckEnd; dsimp only; repeat' split
  all_goals first | rfl | simp | simp_all

theorem execDlAbort_perm (dt : Nat) (n : Sess) (tag : BitVec 16) (s0 : State) : permOf (execDlAbort dt n tag s0) = some (s0.elapse dt).perm := by
  simp [execDlAbort]

theorem execUpdmAbort_perm (dt : Nat) (s0 : State) : permOf (execUpdmAbort dt s0) = some (s0.elapse dt).perm := by
  simp [execUpdmAbort]

theorem execLogin_perm (dt : Nat) (n : Sess) (tag : BitVec 16) (r : Role) (pw : List Byte) (s0 : State) : permOf (execLogin dt n tag r pw s0) = some (s0.elapse dt).perm := by
  simp [execLogin]

theorem execLockoutExpiry_perm (dt : Nat) (r : Role) (s0 : State) : permOf (execLockoutExpiry dt r s0) = some (s0.elapse dt).perm := by
  unfold execLockoutExpiry; dsimp only; repeat' split
  all_goals first | rfl | simp | simp_all

theorem execLogout_perm (dt : Nat) (n : Sess) (tag : BitVec 16) (s0 : State) : permOf (execLogout dt n tag s0) = some (s0.elapse dt).perm := by
  simp [execLogout]

theorem execSetpw_perm (dt : Nat) (n : Sess) (tag : BitVec 16) (r : Role) (pw : List Byte) (salt : BitVec 128) (s0 : State) : permOf (execSetpw dt n tag r pw salt s0) = some (s0.elapse dt).perm := by
  simp [execSetpw]

theorem execClearpw_perm (dt : Nat) (n : Sess) (tag : BitVec 16) (s0 : State) : permOf (execClearpw dt n tag s0) = some (s0.elapse dt).perm := by
  simp [execClearpw]

theorem execInfo_perm (dt : Nat) (n : Sess) (tag : BitVec 16) (s0 : State) : permOf (execInfo dt n tag s0) = some (s0.elapse dt).perm := by
  simp [execInfo]

theorem execFreeze_perm (dt : Nat) (n : Sess) (tag : BitVec 16) (s0 : State) : permOf (execFreeze dt n tag s0) = some (s0.elapse dt).perm := by
  exact congrArg some (State.request_perm _ _ _ _ _ _ _ (fun t => by split <;> first | rfl | simp))

theorem execRead_perm (dt : Nat) (n : Sess) (tag : BitVec 16) (fromSeq : Nat) (max : Nat) (s0 : State) : permOf (execRead dt n tag fromSeq max s0) = some (s0.elapse dt).perm := by
  simp [execRead]

theorem execReadsent_perm (dt : Nat) (n : Sess) (tag : BitVec 16) (s0 : State) : permOf (execReadsent dt n tag s0) = some (s0.elapse dt).perm := by
  simp [execReadsent]

theorem execThaw_perm (dt : Nat) (n : Sess) (tag : BitVec 16) (s0 : State) : permOf (execThaw dt n tag s0) = some (s0.elapse dt).perm := by
  simp [execThaw]

theorem execMailboxItem_perm (dt : Nat) (n : Sess) (tag : BitVec 16) (kind : Nat) (cmd : Word) (body : List Byte) (s0 : State) : permOf (execMailboxItem dt n tag kind cmd body s0) = some (s0.elapse dt).perm := by
  simp [execMailboxItem]

theorem execMbctlPost_perm (dt : Nat) (s0 : State) : permOf (execMbctlPost dt s0) = some (s0.elapse dt).perm := by
  unfold execMbctlPost; repeat' split
  all_goals first | rfl | simp | simp_all

theorem execLocalAct_perm (dt : Nat) (n : Sess) (tag : BitVec 16) (s0 : State) : permOf (execLocalAct dt n tag s0) = some (s0.elapse dt).perm := by
  simp [execLocalAct]

theorem execSetting_perm (dt : Nat) (n : Sess) (tag : BitVec 16) (id : Nat) (value : Word) (s0 : State) : permOf (execSetting dt n tag id value s0) = some (s0.elapse dt).perm := by
  simp [execSetting]

theorem execProbationFaultRestart_perm (dt : Nat) (s0 : State) : permOf (execProbationFaultRestart dt s0) = some (s0.elapse dt).perm := by
  unfold execProbationFaultRestart; dsimp only; repeat' split
  all_goals first | rfl | simp | simp_all

theorem execK3mWatchdogRestart_perm (dt : Nat) (s0 : State) : permOf (execK3mWatchdogRestart dt s0) = some (s0.elapse dt).perm := by
  refine congrArg some ?_
  rw [State.dropDownload_perm, State.k3mRec_perm, State.modUpd_perm _ _ rfl rfl, State.perm_mk, State.perm_fold, State.modRec_perm]
  exact Recorder.settle_seq _

theorem execAnnounceReceive_perm (dt : Nat) (_net : Net) (h : PtpHdr) (clockId : Long) (prio1 : Nat) (cls : Nat) (acc : Nat) (var : Nat) (prio2 : Nat) (steps : Nat) (s0 : State) : permOf (execAnnounceReceive dt _net h clockId prio1 cls acc var prio2 steps s0) = some (s0.elapse dt).perm := by
  unfold execAnnounceReceive; dsimp only; repeat' split
  all_goals first | rfl | simp | simp_all

theorem execAnnounceReceiptTimeout_perm (dt : Nat) (s0 : State) : permOf (execAnnounceReceiptTimeout dt s0) = some (s0.elapse dt).perm := by
  unfold execAnnounceReceiptTimeout; dsimp only; repeat' split
  all_goals first | rfl | simp | simp_all

theorem execWaitMasterTimeout_perm (dt : Nat) (s0 : State) : permOf (execWaitMasterTimeout dt s0) = some (s0.elapse dt).perm := by
  unfold execWaitMasterTimeout; dsimp only; repeat' split
  all_goals first | rfl | simp | simp_all

theorem execSyncReceive_perm (dt : Nat) (net : Net) (h : PtpHdr) (clockId : Long) (origin : Nat) (corr : Int) (s0 : State) : permOf (execSyncReceive dt net h clockId origin corr s0) = some (s0.elapse dt).perm := by
  simp [execSyncReceive]

theorem execSyncTimeout_perm (dt : Nat) (s0 : State) : permOf (execSyncTimeout dt s0) = some (s0.elapse dt).perm := by
  unfold execSyncTimeout; dsimp only; repeat' split
  all_goals first | rfl | simp | simp_all

theorem execDelayReqSend_perm (dt : Nat) (s0 : State) : permOf (execDelayReqSend dt s0) = some (s0.elapse dt).perm := by
  unfold execDelayReqSend; dsimp only; repeat' split
  all_goals first | rfl | simp | simp_all

theorem execDelayReqReceive_perm (dt : Nat) (net : Net) (h : PtpHdr) (clockId : Long) (seqId : Nat) (corr : Int) (s0 : State) : permOf (execDelayReqReceive dt net h clockId seqId corr s0) = some (s0.elapse dt).perm := by
  unfold execDelayReqReceive; dsimp only; repeat' split
  all_goals first | rfl | simp | simp_all

theorem execDelayRespReceive_perm (dt : Nat) (net : Net) (h : PtpHdr) (clockId : Long) (reqId : Long) (seqId : Nat) (receive : Nat) (corr : Int) (s0 : State) : permOf (execDelayRespReceive dt net h clockId reqId seqId receive corr s0) = some (s0.elapse dt).perm := by
  unfold execDelayRespReceive; dsimp only; repeat' split
  all_goals first | rfl | simp | simp_all

theorem execMasterSyncSend_perm (dt : Nat) (s0 : State) : permOf (execMasterSyncSend dt s0) = some (s0.elapse dt).perm := by
  unfold execMasterSyncSend; dsimp only; repeat' split
  all_goals first | rfl | simp | simp_all

theorem execMasterAnnounceSend_perm (dt : Nat) (s0 : State) : permOf (execMasterAnnounceSend dt s0) = some (s0.elapse dt).perm := by
  unfold execMasterAnnounceSend; dsimp only; repeat' split
  all_goals first | rfl | simp | simp_all

theorem execTimeStore_perm (dt : Nat) (s0 : State) : permOf (execTimeStore dt s0) = some (s0.elapse dt).perm := by
  unfold execTimeStore; dsimp only; repeat' split
  all_goals first | rfl | simp | simp_all

theorem execInputEdgeEntry_perm (dt : Nat) (copies : EdgeCopies) (s0 : State) : permOf (execInputEdgeEntry dt copies s0) = some (s0.elapse dt).perm := by
  unfold execInputEdgeEntry; dsimp only; repeat' split
  all_goals first | rfl | simp | simp_all

theorem execRestart_perm (arg : BitVec 8) (tag : BitVec 16) (s : State) : permOf (execRestart arg tag s) = some s.perm := by
  simp [execRestart]

theorem execEnterMaint_perm (arg : BitVec 8) (tag : BitVec 16) (s : State) : permOf (execEnterMaint arg tag s) = some s.perm := by
  simp [execEnterMaint]

theorem execEndMaint_perm (arg : BitVec 8) (tag : BitVec 16) (s : State) : permOf (execEndMaint arg tag s) = some s.perm := by
  simp [execEndMaint]

theorem execWithdraw_perm (arg : BitVec 8) (tag : BitVec 16) (s : State) : permOf (execWithdraw arg tag s) = some s.perm := by
  simp [execWithdraw]

theorem execDebug_perm (arg : BitVec 8) (tag : BitVec 16) (s : State) : permOf (execDebug arg tag s) = some s.perm := by
  simp [execDebug]

theorem execDebugEnd_perm (arg : BitVec 8) (tag : BitVec 16) (s : State) : permOf (execDebugEnd arg tag s) = some s.perm := by
  simp [execDebugEnd]

theorem execRejoin_perm (arg : BitVec 8) (tag : BitVec 16) (s : State) : permOf (execRejoin arg tag s) = some s.perm := by
  simp [execRejoin]

theorem execHandover_perm (arg : BitVec 8) (tag : BitVec 16) (s : State) : permOf (execHandover arg tag s) = some s.perm := by
  simp [execHandover]

theorem execStagePatch_perm (_arg : BitVec 8) (tag : BitVec 16) (s : State) : permOf (execStagePatch _arg tag s) = some s.perm := by
  simp [execStagePatch]

theorem execStageIoParam_perm (_arg : BitVec 8) (tag : BitVec 16) (s : State) : permOf (execStageIoParam _arg tag s) = some s.perm := by
  simp [execStageIoParam]

theorem execScheduleAct_perm (arg : BitVec 8) (tag : BitVec 16) (s : State) : permOf (execScheduleAct arg tag s) = some s.perm := by
  simp [execScheduleAct]

theorem execConfirm_perm (arg : BitVec 8) (tag : BitVec 16) (s : State) : permOf (execConfirm arg tag s) = some s.perm := by
  simp [execConfirm]

theorem execCancelStage_perm (arg : BitVec 8) (tag : BitVec 16) (s : State) : permOf (execCancelStage arg tag s) = some s.perm := by
  simp [execCancelStage]

theorem execFuseBurn_perm (arg : BitVec 8) (tag : BitVec 16) (s : State) : permOf (execFuseBurn arg tag s) = some s.perm := by
  simp [execFuseBurn]

theorem execCmp_perm (v : Vtx) (f : FmtR) (s : State) : permOf (execCmp v f s) = some s.perm := by
  simp [execCmp]

theorem execCmpi_perm (v : Vtx) (f : FmtI) (s : State) : permOf (execCmpi v f s) = some s.perm := by
  simp [execCmpi]

theorem execCmpl_perm (v : Vtx) (f : FmtR) (s : State) : permOf (execCmpl v f s) = some s.perm := by
  simp [execCmpl]

theorem execTst_perm (v : Vtx) (f : FmtR) (s : State) : permOf (execTst v f s) = some s.perm := by
  simp [execTst]

theorem execB_perm (v : Vtx) (f : FmtB) (s : State) : permOf (execB v f s) = some s.perm := by
  simp [execB]

theorem execLoopn_perm (v : Vtx) (f : FmtL) (s : State) : permOf (execLoopn v f s) = some s.perm := by
  simp [execLoopn]

theorem execLend_perm (v : Vtx) (f : FmtN) (s : State) : permOf (execLend v f s) = some s.perm := by
  simp [execLend]

theorem execCallfb_perm (v : Vtx) (f : FmtC) (w : Nat) (s : State) : permOf (execCallfb v f w s) = some s.perm := by
  simp [execCallfb]

theorem execRetfb_perm (v : Vtx) (f : FmtN) (w : Nat) (s : State) : permOf (execRetfb v f w s) = some s.perm := by
  simp [execRetfb]

theorem execTon_perm (v : Vtx) (f : FmtI) (w : Nat) (s : State) : permOf (execTon v f w s) = some s.perm := by
  simp [execTon]

theorem execTof_perm (v : Vtx) (f : FmtI) (w : Nat) (s : State) : permOf (execTof v f w s) = some s.perm := by
  simp [execTof]

theorem execTp_perm (v : Vtx) (f : FmtI) (w : Nat) (s : State) : permOf (execTp v f w s) = some s.perm := by
  simp [execTp]

theorem execRtrig_perm (v : Vtx) (f : FmtM) (w : Nat) (s : State) : permOf (execRtrig v f w s) = some s.perm := by
  simp [execRtrig]

theorem execFtrig_perm (v : Vtx) (f : FmtM) (w : Nat) (s : State) : permOf (execFtrig v f w s) = some s.perm := by
  simp [execFtrig]

theorem execRxslot_perm (v : Vtx) (f : FmtS) (w : Nat) (busy : Bool) (s : State) : permOf (execRxslot v f w busy s) = some s.perm := by
  simp [execRxslot]

theorem execTxslot_perm (v : Vtx) (f : FmtS) (w : Nat) (s : State) : permOf (execTxslot v f w s) = some s.perm := by
  simp [execTxslot]

theorem execAge_perm (v : Vtx) (f : FmtI) (s : State) : permOf (execAge v f s) = some s.perm := by
  simp [execAge]

theorem execLatticePass_perm (dt : Nat) (v : Vtx) (wait : Nat) (s : State) : permOf (execLatticePass dt v wait s) = some (s.elapse dt).perm := by
  unfold execLatticePass; dsimp only; repeat' split
  all_goals first | rfl | simp | simp_all

theorem execLatticeOverrun_perm (dt : Nat) (v : Vtx) (s : State) : permOf (execLatticeOverrun dt v s) = some (s.elapse dt).perm := by
  simp [execLatticeOverrun]

theorem execQuery_perm (v : Vtx) (f : FmtR) (s : State) : permOf (execQuery v f s) = some s.perm := by
  simp [execQuery]

theorem execCommand_perm (v : Vtx) (f : FmtR) (s : State) : permOf (execCommand v f s) = some s.perm := by
  simp [execCommand]

theorem execAlStart_perm (v : Vtx) (f : FmtR) (s : State) : permOf (execAlStart v f s) = some s.perm := by
  simp [execAlStart]

theorem execAlStop_perm (v : Vtx) (f : FmtR) (s : State) : permOf (execAlStop v f s) = some s.perm := by
  simp [execAlStop]

theorem execLresv_perm (v : Vtx) (f : FmtR) (s : State) : permOf (execLresv v f s) = some s.perm := by
  simp [execLresv]

theorem execLrelRoute_perm (v : Vtx) (f : FmtR) (s : State) : permOf (execLrelRoute v f s) = some s.perm := by
  simp [execLrelRoute]

theorem execLrelElement_perm (v : Vtx) (f : FmtR) (s : State) : permOf (execLrelElement v f s) = some s.perm := by
  simp [execLrelElement]

theorem execLstat_perm (v : Vtx) (f : FmtR) (s : State) : permOf (execLstat v f s) = some s.perm := by
  simp [execLstat]

theorem execLoutWrite_perm (v : Vtx) (val : Word) (s : State) : permOf (execLoutWrite v val s) = some s.perm := by
  simp [execLoutWrite]

theorem execTuseClr_perm (v : Vtx) (k : Fin 8) (s : State) : permOf (execTuseClr v k s) = some s.perm := by
  simp [execTuseClr]

theorem execLatCtlClr_perm (v : Vtx) (s : State) : permOf (execLatCtlClr v s) = some s.perm := by
  simp [execLatCtlClr]

theorem execCenCtlClr_perm (v : Vtx) (s : State) : permOf (execCenCtlClr v s) = some s.perm := by
  simp [execCenCtlClr]

theorem execTtbCtlClr_perm (v : Vtx) (s : State) : permOf (execTtbCtlClr v s) = some s.perm := by
  simp [execTtbCtlClr]

theorem execTtbFlagClear_perm (v : Vtx) (val : Word) (s : State) : permOf (execTtbFlagClear v val s) = some s.perm := by
  simp [execTtbFlagClear]

theorem execNtmCtlClr_perm (v : Vtx) (s : State) : permOf (execNtmCtlClr v s) = some s.perm := by
  simp [execNtmCtlClr]

theorem execNtmFlagClear_perm (v : Vtx) (val : Word) (s : State) : permOf (execNtmFlagClear v val s) = some s.perm := by
  simp [execNtmFlagClear]

theorem execSioCtlClr_perm (v : Vtx) (s : State) : permOf (execSioCtlClr v s) = some s.perm := by
  simp [execSioCtlClr]

theorem execChdCtlClr_perm (v : Vtx) (s : State) : permOf (execChdCtlClr v s) = some s.perm := by
  simp [execChdCtlClr]

theorem execDctlRun_perm (v : Vtx) (s : State) : permOf (execDctlRun v s) = some s.perm := by
  simp [execDctlRun]

theorem execDctlStep_perm (v : Vtx) (s : State) : permOf (execDctlStep v s) = some s.perm := by
  simp [execDctlStep]

theorem execHwinCtlClr_perm (s : State) : permOf (execHwinCtlClr s) = some s.perm := by
  simp [execHwinCtlClr]

theorem execHeartbeatSend_perm (dt : Nat) (s0 : State) : permOf (execHeartbeatSend dt s0) = some (s0.elapse dt).perm := by
  simp [execHeartbeatSend]

theorem execHeartbeatReceive_perm (dt : Nat) (l : Link) (pre : Nat) (f : ChordFrame) (s0 : State) : permOf (execHeartbeatReceive dt l pre f s0) = some (s0.elapse dt).perm := by
  simp only [execHeartbeatReceive]
  split
  · rfl
  · split
    · rename_i t h; exact congrArg some (State.chordReject_perm _ _ _ _ _ t h)
    · split
      · simp
      · refine congrArg some ?_
        rw [State.later_perm _ _ _ (fun t => by simp)]
        simp

theorem execChordDown_perm (dt : Nat) (l : Link) (s0 : State) : permOf (execChordDown dt l s0) = some (s0.elapse dt).perm := by
  simp [execChordDown]

theorem execMdataReceive_perm (dt : Nat) (l : Link) (f : ChordFrame) (s0 : State) : permOf (execMdataReceive dt l f s0) = some (s0.elapse dt).perm := by
  simp only [execMdataReceive]
  split
  · rfl
  · split
    · rename_i t h; exact congrArg some (State.chordReject_perm _ _ _ _ _ t h)
    · repeat' split
      all_goals simp

theorem execMcommitReceive_perm (dt : Nat) (l : Link) (f : ChordFrame) (s0 : State) : permOf (execMcommitReceive dt l f s0) = some (s0.elapse dt).perm := by
  simp only [execMcommitReceive]
  split
  · rfl
  · split
    · rename_i t h; exact congrArg some (State.chordReject_perm _ _ _ _ _ t h)
    · repeat' split
      all_goals simp

theorem execMirrorCutoff_perm (dt : Nat) (s0 : State) : permOf (execMirrorCutoff dt s0) = some (s0.elapse dt).perm := by
  unfold execMirrorCutoff; dsimp only; repeat' split
  all_goals first | rfl | simp | simp_all

theorem execTakeoverDecision_perm (dt : Nat) (s0 : State) : permOf (execTakeoverDecision dt s0) = some (s0.elapse dt).perm := by
  simp [execTakeoverDecision]

theorem execTakeover_perm (dt : Nat) (s0 : State) : permOf (execTakeover dt s0) = some (s0.elapse dt).perm := by
  unfold execTakeover; dsimp only; repeat' split
  all_goals first | rfl | simp | simp_all

theorem execYieldStop_perm (dt : Nat) (s0 : State) : permOf (execYieldStop dt s0) = some (s0.elapse dt).perm := by
  unfold execYieldStop; dsimp only; repeat' split
  all_goals first | rfl | simp | simp_all

theorem execHomeEligible_perm (dt : Nat) (s0 : State) : permOf (execHomeEligible dt s0) = some (s0.elapse dt).perm := by
  simp [execHomeEligible]

theorem execSealStateChange_perm (dt : Nat) (sw : Fin 4) (s0 : State) : permOf (execSealStateChange dt sw s0) = some (s0.elapse dt).perm := by
  simp [execSealStateChange]

theorem execSealDisagree_perm (dt : Nat) (sw : Fin 4) (s0 : State) : permOf (execSealDisagree dt sw s0) = some (s0.elapse dt).perm := by
  simp [execSealDisagree]

@[simp] theorem State.mirrorPoll_perm (s : State) : (State.mirrorPoll s).perm = s.perm := by
  unfold State.mirrorPoll
  split
  · rfl
  · rw [State.showMode_perm, State.perm_mk, State.perm_fold]

@[simp] theorem State.sealWatch_perm (s : State) : (State.sealWatch s).perm = s.perm := by
  unfold State.sealWatch; split <;> simp

theorem execMailboxPoll_perm (dt : Nat) (r : Tri (BitVec 4)) (s0 : State) : permOf (execMailboxPoll dt r s0) = some (s0.elapse dt).perm := by
  unfold execMailboxPoll
  dsimp only
  rw [permOf_ite, permOf_ok, permOf_ok, State.sealWatch_perm, State.mirrorPoll_perm, State.firmware_perm, State.readSeals_perm, State.mailboxCopy_perm]
  exact ite_self _

theorem execTaskStart_perm (v : Vtx) (s0 : State) : permOf (execTaskStart v s0) = some s0.perm := by
  unfold execTaskStart; dsimp only; repeat' split
  all_goals first | rfl | simp | simp_all

theorem execBudgetTrap_perm (v : Vtx) (stall : Nat) (s : State) : permOf (execBudgetTrap v stall s) = some s.perm := by
  simp [execBudgetTrap]

theorem execStrideClose_perm (v : Vtx) (s : State) : permOf (execStrideClose v s) = some s.perm := by
  simp [execStrideClose]

theorem execPhase2Start_perm (dt : Nat) (s : State) : permOf (execPhase2Start dt s) = some (s.elapse dt).perm := by
  simp only [execPhase2Start]
  split
  · simp only [permOf_ok, Option.some.injEq]
    rw [perm_foldl]
    · rfl
    · intro t a; simp
  · rfl

theorem execCentroidEntry_perm (dt : Nat) (slice : Vtx) (sender : Vtx) (err : LinkErr) (s0 : State) : permOf (execCentroidEntry dt slice sender err s0) = some (s0.elapse dt).perm := by
  unfold execCentroidEntry
  generalize s0.elapse dt = s
  dsimp only
  repeat' split
  all_goals simp

theorem execWEnd_perm (dt : Nat) (s0 : State) : permOf (execWEnd dt s0) = some (s0.elapse dt).perm := by
  simp only [execWEnd]
  split
  · simp only [permOf_ok, Option.some.injEq]
    rw [perm_foldl]
    · simp
    · intro t a; split <;> simp
  · rfl

theorem execVrdLimit_perm (dt : Nat) (s0 : State) : permOf (execVrdLimit dt s0) = some (s0.elapse dt).perm := by
  simp only [execVrdLimit]
  split
  · simp only [permOf_ok, Option.some.injEq]
    rw [perm_foldl]
    · simp
    · intro t a; split <;> simp
  · rfl

theorem execRejoinCopySlack_perm (dt : Nat) (s0 : State) : permOf (execRejoinCopySlack dt s0) = some (s0.elapse dt).perm := by
  unfold execRejoinCopySlack; dsimp only; repeat' split
  all_goals first | rfl | simp | simp_all

theorem execRejoinSelfTestEnd_perm (dt : Nat) (testOk : Bool) (checkOk : Bool) (s0 : State) : permOf (execRejoinSelfTestEnd dt testOk checkOk s0) = some (s0.elapse dt).perm := by
  unfold execRejoinSelfTestEnd; dsimp only; repeat' split
  all_goals first | rfl | simp | simp_all

theorem execRodBoundary_perm (dt : Nat) (s0 : State) : permOf (execRodBoundary dt s0) = some (s0.elapse dt).perm := by
  simp [execRodBoundary]

theorem execFurlongBoundary_perm (dt : Nat) (b : BoundaryIn) (s0 : State) : permOf (execFurlongBoundary dt b s0) = some (s0.elapse dt).perm := by
  simp [execFurlongBoundary]

theorem execIsolatedCleanCount_perm (dt : Nat) (s0 : State) : permOf (execIsolatedCleanCount dt s0) = some (s0.elapse dt).perm := by
  unfold execIsolatedCleanCount; dsimp only; repeat' split
  all_goals first | rfl | simp | simp_all

theorem execResyncWaitExpiry_perm (dt : Nat) (s0 : State) : permOf (execResyncWaitExpiry dt s0) = some (s0.elapse dt).perm := by
  unfold execResyncWaitExpiry; dsimp only; repeat' split
  all_goals first | rfl | simp | simp_all

theorem execTimeWait_perm (dt : Nat) (s0 : State) : permOf (execTimeWait dt s0) = some (s0.elapse dt).perm := by
  unfold execTimeWait; dsimp only; repeat' split
  all_goals first | rfl | simp | simp_all

theorem execHostAccess_perm (dt : Nat) (wr : Bool) (ha : BitVec 15) (data : BitVec 16) (c : Collide) (s0 : State) : permOf (execHostAccess dt wr ha data c s0) = some (s0.elapse dt).perm := by
  simp [execHostAccess]

theorem execHostGo_perm (dt : Nat) (s0 : State) : permOf (execHostGo dt s0) = some (s0.elapse dt).perm := by
  simp [execHostGo]

theorem execHostResponse_perm (dt : Nat) (s0 : State) : permOf (execHostResponse dt s0) = some (s0.elapse dt).perm := by
  unfold execHostResponse; dsimp only; repeat' split
  all_goals first | rfl | simp | simp_all

theorem execHostAck_perm (dt : Nat) (s0 : State) : permOf (execHostAck dt s0) = some (s0.elapse dt).perm := by
  simp [execHostAck]

theorem execKeyWord_perm (dt : Nat) (rx : Receiver) (manchesterOk : Bool) (word : KeyEnds) (s0 : State) : permOf (execKeyWord dt rx manchesterOk word s0) = some (s0.elapse dt).perm := by
  unfold execKeyWord
  dsimp only
  split
  · rfl
  · simp [perm_foldl]

theorem execBankCopyBack_perm (dt : Nat) (s0 : State) : permOf (execBankCopyBack dt s0) = some (s0.elapse dt).perm := by
  simp only [execBankCopyBack]
  split
  · simp [perm_foldl]
  · rfl

theorem execPhase2End_perm (dt : Nat) (s0 : State) : permOf (execPhase2End dt s0) = some (s0.elapse dt).perm := by
  simp [execPhase2End]

theorem execLdb_perm (v : Vtx) (f : LoadForm) (w : Nat) (busy : Bool) (s : State) : permOf (execLdb v f w busy s) = some s.perm := by
  simp [execLdb]

theorem execLdbs_perm (v : Vtx) (f : LoadForm) (w : Nat) (busy : Bool) (s : State) : permOf (execLdbs v f w busy s) = some s.perm := by
  simp [execLdbs]

theorem execLdh_perm (v : Vtx) (f : LoadForm) (w : Nat) (busy : Bool) (s : State) : permOf (execLdh v f w busy s) = some s.perm := by
  simp [execLdh]

theorem execLdhs_perm (v : Vtx) (f : LoadForm) (w : Nat) (busy : Bool) (s : State) : permOf (execLdhs v f w busy s) = some s.perm := by
  simp [execLdhs]

theorem execLdw_perm (v : Vtx) (f : LoadForm) (w : Nat) (busy : Bool) (s : State) : permOf (execLdw v f w busy s) = some s.perm := by
  simp [execLdw]

theorem execLdd_perm (v : Vtx) (f : LoadForm) (w : Nat) (busy : Bool) (s : State) : permOf (execLdd v f w busy s) = some s.perm := by
  simp [execLdd]

theorem execAnd_perm (v : Vtx) (f : FmtR) (s : State) : permOf (execAnd v f s) = some s.perm := by
  simp [execAnd]

theorem execOr_perm (v : Vtx) (f : FmtR) (s : State) : permOf (execOr v f s) = some s.perm := by
  simp [execOr]

theorem execXor_perm (v : Vtx) (f : FmtR) (s : State) : permOf (execXor v f s) = some s.perm := by
  simp [execXor]

theorem execNot_perm (v : Vtx) (f : FmtR) (s : State) : permOf (execNot v f s) = some s.perm := by
  simp [execNot]

theorem execAndi_perm (v : Vtx) (f : FmtI) (s : State) : permOf (execAndi v f s) = some s.perm := by
  simp [execAndi]

theorem execOri_perm (v : Vtx) (f : FmtI) (s : State) : permOf (execOri v f s) = some s.perm := by
  simp [execOri]

theorem execXori_perm (v : Vtx) (f : FmtI) (s : State) : permOf (execXori v f s) = some s.perm := by
  simp [execXori]

theorem execShl_perm (v : Vtx) (f : FmtR) (s : State) : permOf (execShl v f s) = some s.perm := by
  simp [execShl]

theorem execShr_perm (v : Vtx) (f : FmtR) (s : State) : permOf (execShr v f s) = some s.perm := by
  simp [execShr]

theorem execSar_perm (v : Vtx) (f : FmtR) (s : State) : permOf (execSar v f s) = some s.perm := by
  simp [execSar]

theorem execRor_perm (v : Vtx) (f : FmtR) (s : State) : permOf (execRor v f s) = some s.perm := by
  simp [execRor]

theorem execBtst_perm (v : Vtx) (f : FmtI) (s : State) : permOf (execBtst v f s) = some s.perm := by
  simp [execBtst]

theorem execBset_perm (v : Vtx) (f : FmtI) (s : State) : permOf (execBset v f s) = some s.perm := by
  simp [execBset]

theorem execBclr_perm (v : Vtx) (f : FmtI) (s : State) : permOf (execBclr v f s) = some s.perm := by
  simp [execBclr]

theorem execBext_perm (v : Vtx) (f : FmtI) (s : State) : permOf (execBext v f s) = some s.perm := by
  simp [execBext]

theorem execBins_perm (v : Vtx) (f : FmtI) (s : State) : permOf (execBins v f s) = some s.perm := by
  simp [execBins]

theorem execSupplyInput_perm (dt : Nat) (p : Pwr) (volt : Nat) (overUs : Nat) (s0 : State) : permOf (execSupplyInput dt p volt overUs s0) = some (s0.elapse dt).perm := by
  unfold execSupplyInput; dsimp only; repeat' split
  all_goals first | rfl | simp | simp_all

theorem execBothInputsLost_perm (dt : Nat) (s0 : State) : permOf (execBothInputsLost dt s0) = some (s0.elapse dt).perm := by
  simp [execBothInputsLost]

theorem execPowerDownReset_perm (dt : Nat) (store : Nat) (s0 : State) : permOf (execPowerDownReset dt store s0) = some (s0.elapse dt).perm := by
  simp [execPowerDownReset]

theorem execResetRelease_perm (dt : Nat) (s0 : State) : permOf (execResetRelease dt s0) = some (s0.elapse dt).perm := by
  simp [execResetRelease]

theorem execPowerOn_perm (dt : Nat) (p : PowerOnIn) (s0 : State) : permOf (execPowerOn dt p s0) = some (s0.elapse dt).perm := by
  simp [execPowerOn]

theorem execSand_perm (v : Vtx) (f : FmtR) (s : State) : permOf (execSand v f s) = some s.perm := by
  simp [execSand]

theorem execSor_perm (v : Vtx) (f : FmtR) (s : State) : permOf (execSor v f s) = some s.perm := by
  simp [execSor]

theorem execSxor_perm (v : Vtx) (f : FmtR) (s : State) : permOf (execSxor v f s) = some s.perm := by
  simp [execSxor]

theorem execSnot_perm (v : Vtx) (f : FmtR) (s : State) : permOf (execSnot v f s) = some s.perm := by
  simp [execSnot]

theorem execStst_perm (v : Vtx) (f : FmtR) (s : State) : permOf (execStst v f s) = some s.perm := by
  simp [execStst]

theorem execSfromb_perm (v : Vtx) (f : FmtR) (s : State) : permOf (execSfromb v f s) = some s.perm := by
  simp [execSfromb]

theorem execStob_perm (v : Vtx) (f : FmtR) (s : State) : permOf (execStob v f s) = some s.perm := by
  simp [execStob]

theorem execSget_perm (v : Vtx) (f : FmtI) (s : State) : permOf (execSget v f s) = some s.perm := by
  simp [execSget]

theorem execSput_perm (v : Vtx) (f : FmtI) (s : State) : permOf (execSput v f s) = some s.perm := by
  simp [execSput]

theorem execSandp_perm (v : Vtx) (f : FmtR) (s : State) : permOf (execSandp v f s) = some s.perm := by
  simp [execSandp]

theorem execSorp_perm (v : Vtx) (f : FmtR) (s : State) : permOf (execSorp v f s) = some s.perm := by
  simp [execSorp]

theorem execSall_perm (v : Vtx) (f : FmtR) (s : State) : permOf (execSall v f s) = some s.perm := by
  simp [execSall]

/-! ### What a step may add to -/

/-- `t` comes after `s` with the same commands waiting. -/
def Grows (s t : State) : Prop := Later s t ∧ t.pending = s.pending

theorem Grows.of_perm {s t : State} (h : t.perm = s.perm) : Grows s t := by
  simp only [State.perm, Permanent.mk.injEq] at h
  obtain ⟨h1, h2, h3, h4, h5, h6, h7⟩ := h
  refine ⟨⟨by omega, by rw [h5], by rw [h5], by rw [h5], ?_, Nat.le_of_eq (by rw [h5]), by omega, by omega, ?_, ?_⟩, h1⟩
  · rw [h5]; exact fun _ h => h
  · rw [h3]; exact fun _ _ h => h
  · rw [h4]; exact fun _ h => h

theorem Grows.trans {s t u : State} (h : Grows s t) (g : Grows t u) : Grows s u :=
  ⟨⟨Nat.le_trans h.1.time g.1.time, g.1.vendor.trans h.1.vendor, g.1.variant.trans h.1.variant, g.1.serial.trans h.1.serial,
    fun r a => g.1.operator r (h.1.operator r a), Nat.le_trans h.1.svn g.1.svn, Nat.le_trans h.1.hssidx g.1.hssidx,
    Nat.le_trans h.1.seq g.1.seq, fun v e a => g.1.fuses v e (h.1.fuses v e a), fun e a => g.1.fusesSh e (h.1.fusesSh e a)⟩,
    g.2.trans h.2⟩

theorem Grows.refl {s : State} : Grows s s := .of_perm (by rfl)

theorem Grows.perm_left {s t u : State} (h : Grows s t) (g : u.perm = t.perm) : Grows s u := h.trans (.of_perm g)

theorem Grows.elapse (s : State) (dt : Nat) : Grows s (s.elapse dt) := by
  refine ⟨⟨Nat.le_add_right _ _, ?_, ?_, ?_, fun r h => ?_, Nat.le_of_eq ?_, Nat.le_of_eq ?_, Nat.le_refl _, fun _ _ h => h,
    fun _ h => h⟩, rfl⟩
  all_goals
    simp only [State.elapse, Update.elapse]
    split <;> first | rfl | exact h

theorem Grows.burn (s : State) (v : Vtx) (b : Nat) (ok : Bool) : Grows s (s.burn v b ok).1 := by
  unfold State.burn
  dsimp only
  split
  · exact .refl
  · refine .perm_left (t := if ownBank b = true then _ else _) ?_ (perm_foldl _ _ _ (fun t a => by split <;> simp))
    split
    · refine ⟨⟨Nat.le_refl _, rfl, rfl, rfl, fun _ h => h, Nat.le_refl _, Nat.le_refl _, Nat.le_refl _,
        fun u e h => ?_, fun _ h => h⟩, rfl⟩
      by_cases hu : u = v
      · subst hu; simp [h]
      · rw [Tri.get_set_other _ _ hu]; exact h
    · exact ⟨⟨Nat.le_refl _, rfl, rfl, rfl, fun _ h => h, Nat.le_refl _, Nat.le_refl _, Nat.le_refl _,
        fun _ _ h => h, fun e h => List.mem_append_left _ h⟩, rfl⟩

theorem Grows.voted (s : State) (v : Vtx) (a : Nat) (val : Word) (f : State → State) (h : ∀ t, Grows t (f t)) :
    Grows s (s.voted v a val f) := by
  simp only [State.voted]
  repeat' split
  · exact .refl
  · exact Grows.trans (.of_perm (by simp)) (h _)
  · exact .of_perm (by simp)

theorem Grows.fuseWrite (s : State) (v : Vtx) (val : Word) (ok : Bool) : Grows s (s.fuseWrite v val ok) := by
  unfold State.fuseWrite
  dsimp only
  repeat' split
  · exact .of_perm (by simp)
  · refine Grows.trans ?_ ((Grows.burn _ v _ ok).perm_left (State.fuseResult_perm ..))
    exact .of_perm rfl
  · exact .of_perm rfl
  all_goals
    first
    | exact .of_perm rfl
    | refine Grows.perm_left (t := State.voted _ v _ val _) ?_ rfl
      refine Grows.trans ?_ (Grows.voted _ _ _ _ _ (fun t => ?_))
      · exact .of_perm rfl
      exact (Grows.burn _ v _ ok).perm_left (perm_foldl _ _ _ (fun t a => by simp))

theorem Grows.writeMem (s : State) (v : Vtx) (off : Nat) (val : Word) : Grows s (s.writeMem v off val) := by
  unfold State.writeMem
  split
  · exact .of_perm (by simp)
  · exact .of_perm (by simp)
  · exact .fuseWrite ..
  · exact .of_perm (by simp)
  · exact .refl

theorem Grows.writeReg (s : State) (v : Vtx) (a : Nat) (val : Word) : Grows s (s.writeReg v a val) := by
  unfold State.writeReg
  dsimp only
  split
  case h_8 => exact .writeMem ..
  all_goals
    repeat' split
    all_goals exact .of_perm (by simp)

theorem Grows.instr (s : State) (v : Vtx) (m : Vertex → IMeta) (bad : Bool) (body : Vertex → IRes) (post : State → State)
    (h : ∀ t, Grows t (post t)) : Grows s (s.instr v m bad body post) := by
  simp only [State.instr]
  split
  · exact .refl
  · split
    · exact .of_perm (by simp)
    · split
      · exact .of_perm (by simp)
      · exact .of_perm (by simp)
      · exact Grows.trans (.of_perm (by simp)) (h _)

theorem Grows.storeInstr (s : State) (v : Vtx) (f : StoreForm) (n w : Nat) : Grows s (s.storeInstr v f n w) := by
  simp only [State.storeInstr]
  split
  · exact .refl
  · refine .instr _ _ _ _ _ _ (fun t => ?_)
    unfold State.storePost
    split
    · exact .writeReg ..
    · exact .refl

theorem Grows.modUpd (s : State) (f : Update → Update) (h1 : (f s.upd).otp.vendor = s.upd.otp.vendor)
    (h2 : (f s.upd).otp.variant = s.upd.otp.variant) (h3 : (f s.upd).otp.serial = s.upd.otp.serial)
    (h4 : ∀ r, s.upd.otp.operator = some r → (f s.upd).otp.operator = some r) (h5 : s.upd.otp.svn ≤ (f s.upd).otp.svn)
    (h6 : s.upd.hssidx ≤ (f s.upd).hssidx) : Grows s (s.modUpd f) :=
  ⟨⟨Nat.le_refl _, h1, h2, h3, h4, h5, h6, Nat.le_refl _, fun _ _ h => h, fun _ h => h⟩, rfl⟩

theorem Grows.modRec (s : State) (f : Recorder → Recorder) (h : s.recorder.seq ≤ (f s.recorder).seq) : Grows s (s.modRec f) :=
  ⟨⟨Nat.le_refl _, rfl, rfl, rfl, fun _ h => h, Nat.le_refl _, Nat.le_refl _, h, fun _ _ h => h, fun _ h => h⟩, rfl⟩

@[simp] theorem State.updRec_otp (s : State) (a b c d : Nat) : (s.updRec a b c d).upd.otp = s.upd.otp := by
  unfold State.updRec State.k3mRec; split <;> rfl

theorem State.otp_of_perm {s t : State} (h : t.perm = s.perm) : t.upd.otp = s.upd.otp := congrArg Permanent.otp h

theorem Grows.endProbation (s : State) (cause : Nat) : Grows s (s.endProbation cause) := by
  unfold State.endProbation
  dsimp only
  have h : (((s.journal (fun j => { j with state := .idle, clean := s.upd.clean })).modUpd (fun u =>
      { u with retained := none, commanded := none })).updRec 0x0A08 cause 0 0).perm = s.perm := by
    simp
  split
  · split
    · rename_i l _ c
      refine Grows.trans (.of_perm (by simp)) (.modUpd _ _ rfl rfl rfl (fun _ h => h) ?_ (Nat.le_refl _))
      rw [State.updRec_otp, State.otp_of_perm h]
      exact Nat.le_of_lt c.2
    · exact .of_perm h
  · exact .of_perm h

theorem Grows.request (s : State) (n : Sess) (code : Nat) (tag : BitVec 16) (item : Nat) (r : Res) (f : State → State)
    (h : r = .accepted → ∀ t, t.perm = s.perm → Grows t (f t)) : Grows s (s.request n code tag item r f) := by
  simp only [State.request]
  split
  · exact .refl
  · split
    · rename_i a
      exact ((Grows.of_perm (State.touchSess_perm s n)).trans (h a _ (State.touchSess_perm s n))).perm_left (by simp)
    · exact .of_perm (by simp)

theorem Grows.query (s : State) (n : Sess) (code : Nat) (tag : BitVec 16) (r : Res) (body : List Byte) (f : State → State)
    (h : ∀ t, Grows t (f t)) : Grows s (s.query n code tag r body f) := by
  simp only [State.query]
  split
  · exact .refl
  · split
    · exact ((Grows.of_perm (State.touchSess_perm s n)).trans (h _)).perm_left (by simp)
    · exact .of_perm (by simp)

/-- The command ends in a state that comes after `s`. -/
def EndsAfter (s : State) (o : Host.Outcome State Fault Refusal) : Prop := ∃ t, o = .next t ∧ Grows s t

theorem EndsAfter.ok {s t : State} (h : Grows s t) : EndsAfter s (ok t) := ⟨t, rfl, h⟩

theorem EndsAfter.of_permOf {s : State} {o : Host.Outcome State Fault Refusal} (h : permOf o = some s.perm) : EndsAfter s o := by
  cases o with
  | next t => exact ⟨t, rfl, .of_perm (Option.some.inj h)⟩
  | fault _ => cases h
  | refused _ => cases h

theorem EndsAfter.of_elapse {s : State} {dt : Nat} {o : Host.Outcome State Fault Refusal} (h : EndsAfter (s.elapse dt) o) :
    EndsAfter s o := by
  obtain ⟨t, e, g⟩ := h
  exact ⟨t, e, (Grows.elapse s dt).trans g⟩

theorem execFusectlBurn_after (v : Vtx) (val : Word) (ok_ : Bool) (s : State) : EndsAfter s (execFusectlBurn v val ok_ s) :=
  .ok (.fuseWrite ..)

theorem execStb_after (v : Vtx) (f : StoreForm) (w : Nat) (s : State) : EndsAfter s (execStb v f w s) := .ok (.storeInstr ..)
theorem execSth_after (v : Vtx) (f : StoreForm) (w : Nat) (s : State) : EndsAfter s (execSth v f w s) := .ok (.storeInstr ..)
theorem execStw_after (v : Vtx) (f : StoreForm) (w : Nat) (s : State) : EndsAfter s (execStw v f w s) := .ok (.storeInstr ..)
theorem execStd_after (v : Vtx) (f : StoreForm) (w : Nat) (s : State) : EndsAfter s (execStd v f w s) := .ok (.storeInstr ..)

theorem execRegisterWrite_after (who : Writer) (a val : Word) (s : State) : EndsAfter s (execRegisterWrite who a val s) := by
  unfold execRegisterWrite
  split
  · refine .ok ?_
    split
    · exact .writeReg ..
    · exact .of_perm (by simp)
  · exact .ok (.of_perm (by split <;> simp))
  · exact .ok (.of_perm (by split <;> simp))

theorem execProbationCleanEnd_after (dt : Nat) (s : State) : EndsAfter s (execProbationCleanEnd dt s) := by
  refine .of_elapse (dt := dt) ?_
  unfold execProbationCleanEnd
  dsimp only
  split
  · exact .ok (.endProbation ..)
  · exact .ok .refl

theorem execAttest_after (dt : Nat) (n : Sess) (tag : BitVec 16) (nonce : BitVec 256) (s : State) :
    EndsAfter s (execAttest dt n tag nonce s) := by
  refine .of_elapse (dt := dt) (.ok (.query _ _ _ _ _ _ _ (fun t => ?_)))
  refine Grows.trans ?_ (.modUpd _ _ rfl rfl rfl (fun _ h => h) (Nat.le_refl _) (Nat.le_succ _))
  exact .of_perm (by simp)

theorem execOtpOperator_after (dt : Nat) (n : Sess) (tag : BitVec 16) (h1 h2 h3 h4 : BitVec 384) (s : State) :
    EndsAfter s (execOtpOperator dt n tag h1 h2 h3 h4 s) := by
  refine .of_elapse (dt := dt) (.ok (.request _ _ _ _ _ _ _ (fun a t h => ?_)))
  refine Grows.trans ?_ (.modUpd _ _ rfl rfl rfl (fun r hr => ?_) (Nat.le_refl _) (Nat.le_refl _))
  · exact .of_perm (by simp)
  · rw [State.updRec_otp, State.otp_of_perm h] at hr
    unfold State.otpRes at a
    rw [hr] at a
    simp only [Option.isSome_some, if_true] at a
    repeat' split at a
    all_goals cases a

theorem execStatusMirrorIntake_after (dt : Nat) (s : State) : EndsAfter s (execStatusMirrorIntake dt s) := by
  refine .of_elapse (dt := dt) ?_
  unfold execStatusMirrorIntake
  generalize s.elapse dt = u
  dsimp only
  have h : ∀ (c : Bool) (w : State), w.perm = u.perm → Grows u (if c = true then w.endProbation 1 else w) := by
    intro c w hw
    split
    · exact Grows.trans (.of_perm hw) (.endProbation ..)
    · exact .of_perm hw
  split
  · exact .ok .refl
  · split
    · exact .ok .refl
    · have e : ∀ (x : State) (g : Update → Update) (k : Mbox) (b : Bool), (g x.upd).otp = x.upd.otp →
          (g x.upd).hssidx = x.upd.hssidx → (({ x.modUpd g with mbox := k } : State).writeHstat b).perm = x.perm := by
        intro x g k b h1 h2
        rw [State.writeHstat_perm, State.perm_mk, State.perm_fold, State.modUpd_perm _ _ h1 h2]
      refine .ok (Grows.perm_left (h _ _ ?_) (e _ _ _ _ rfl rfl))
      split <;> simp

theorem execRecordCommit_after (dt : Nat) (o : NorOutcome) (s : State) : EndsAfter s (execRecordCommit dt o s) := by
  refine .of_elapse (dt := dt) ?_
  unfold execRecordCommit
  generalize s.elapse dt = u
  dsimp only
  generalize ht : u.modRec (fun r => { r with wrote := if u.boundaries = true then some u.fnum else r.wrote }) = t
  have h : t.perm = u.perm := by rw [← ht]; rfl
  have g : ∀ {w : State}, Grows t w → Grows u w := fun k => (Grows.of_perm h).trans k
  split
  · exact .ok .refl
  · split
    · exact .ok .refl
    · split
      · exact .ok (g (.of_perm (by rw [State.holdOverflow_perm]; exact State.modRec_perm _ _ rfl)))
      · split
        · refine .ok (g (Grows.perm_left (.modRec _ _ ?_) (State.holdOverflow_perm _)))
          exact Nat.le_succ _
        · refine .ok (g (.of_perm ?_))
          rw [State.recRec_perm]
          refine State.modRec_perm _ _ ?_
          rw [Recorder.unlessFailed_seq] <;> simp
        · exact .ok (g (.of_perm (by simp)))
        · exact .ok (g (.of_perm (by simp)))

end Sys2Proof.Machine
end

