-- ==== Sys2Proof/Tests/Slice0.lean ====
section
/-! SUPPORT. Tests of the model: ill-formed commands that are refused, results that the spec states for single steps, and for
every statement of Certificates/Slice0/Obligations.lean concrete states that meet its hypotheses, at the ends of their ranges. -/

set_option maxRecDepth 8000
set_option Elab.async false

open Sys2Proof Sys2Proof.Machine

namespace Sys2Proof.Tests

/-! ### Ill-formed commands are refused -/

/-- A PTP header, a Swisko frame, a chord frame and an edge entry, in order. -/
def ptp0 : PtpHdr := ⟨0, 5, 6, 0, 0, 1, -3, false, false, 0, 0⟩
def frame0 : Frame := ⟨true, 0x1234, 5, 1, 1, 0x0203, 0, 3, 0, 0, 0, [], 0, 0, 6⟩
def chord0 : ChordFrame := ⟨true, 0x88B5, 1, 1, 0x0203, 0, 0, 32, 0, List.replicate 32 0, 0, 0⟩
def edge0 : EdgeEntry := ⟨0, 31, 3, 0, 65535, false, List.replicate 56 0⟩
def power0 : PowerOnIn :=
  ⟨false, false, false, true, [], [], true, none, Tri.all false, Tri.all 0, Tri.all ⟨0, 0, 0⟩, Tri.all [], false, none, Tri.all 0⟩
def copies0 : EdgeCopies := ⟨List.replicate 56 0, Tri.all none⟩
def bound0 : BoundaryIn := ⟨Tri.all ⟨0, 0, 0⟩, Tri.all 0, Tri.all 0, Tri.all true, 2400, 0⟩

theorem smoke_well_formed :
    (Instr.powerOn 1 power0).wf = true ∧ (Instr.furlongBoundary 1 { bound0 with volt := 4095 }).wf = true ∧
      (Instr.slotTransmit 1 39 255).wf = true ∧ (Instr.eventCopyExpiry 1 .X 63).wf = true ∧
      (Instr.frameCopyReceive 1 .X 0 frame0).wf = true ∧ (Instr.inputEdgeEntry 1 copies0).wf = true ∧
      (Instr.sliceStart 1 68).wf = true ∧ (Instr.syncReceive 1 .X ptp0 0 0 0).wf = true := by decide

theorem smoke_power_on_refused :
    (Instr.powerOn 1 { power0 with march := [⟨0, .A, 524288, 0⟩] }).wf = false ∧
      (Instr.powerOn 1 { power0 with march := [⟨8, .A, 0, 0⟩] }).wf = false ∧
      (Instr.powerOn 1 { power0 with march := [⟨0, .A, 0, 72⟩] }).wf = false ∧
      (Instr.powerOn 1 { power0 with again := [8] }).wf = false := by decide

theorem smoke_boundary_refused : (Instr.furlongBoundary 1 { bound0 with volt := 4096 }).wf = false := by decide

theorem smoke_slots_refused :
    (Instr.slotFetch 1 40 0 (Tri.all 0)).wf = false ∧ (Instr.slotFetch 1 0 256 (Tri.all 0)).wf = false ∧
      (Instr.slotTransmit 1 40 0).wf = false ∧ (Instr.statusTransmit 1 0 256).wf = false ∧
      (Instr.eventCopyExpiry 1 .X 64).wf = false ∧ (Instr.launchTimeReached 1 64).wf = false := by decide

theorem smoke_frames_refused :
    (Instr.frameForward 1 .X1 false (.swisko { frame0 with vid := 4096 })).wf = false ∧
      (Instr.frameForward 1 .X1 false (.swisko { frame0 with hop := 64 })).wf = false ∧
      (Instr.frameForward 1 .X1 false (.swisko { frame0 with pcp := 8 })).wf = false ∧
      (Instr.frameForward 1 .X1 false (.swisko { frame0 with plen := 256 })).wf = false ∧
      (Instr.frameCopyReceive 1 .X 0 { frame0 with payload := List.replicate 256 0 }).wf = false ∧
      (Instr.frameForward 1 .X1 false (.ptp true (.other { ptp0 with sdo := 16 }))).wf = false ∧
      (Instr.frameForward 1 .X1 false (.ptp true (.delayReq ptp0 0 65536 0))).wf = false := by decide

theorem smoke_clock_messages_refused :
    (Instr.syncReceive 1 .X { ptp0 with vid := 4096 } 0 0 0).wf = false ∧
      (Instr.syncReceive 1 .X { ptp0 with pcp := 8 } 0 0 0).wf = false ∧
      (Instr.syncReceive 1 .X { ptp0 with domain := 256 } 0 0 0).wf = false ∧
      (Instr.syncReceive 1 .X { ptp0 with minor := 16 } 0 0 0).wf = false ∧
      (Instr.announceReceive 1 .X ptp0 0 256 0 0 0 0 0).wf = false ∧
      (Instr.announceReceive 1 .X ptp0 0 0 256 0 0 0 0).wf = false ∧
      (Instr.announceReceive 1 .X ptp0 0 0 0 256 0 0 0).wf = false ∧
      (Instr.announceReceive 1 .X ptp0 0 0 0 0 65536 0 0).wf = false ∧
      (Instr.announceReceive 1 .X ptp0 0 0 0 0 0 256 0).wf = false ∧
      (Instr.announceReceive 1 .X ptp0 0 0 0 0 0 0 65536).wf = false ∧
      (Instr.delayReqReceive 1 .X ptp0 0 65536 0).wf = false ∧
      (Instr.delayRespReceive 1 .X ptp0 0 0 65536 0 0).wf = false := by decide

theorem smoke_edges_refused :
    (Instr.inputEdgeEntry 1 { copies0 with damaged := ⟨some { edge0 with input := 32 }, none, none⟩ }).wf = false ∧
      (Instr.inputEdgeEntry 1 { copies0 with damaged := ⟨none, some { edge0 with newClass := 4 }, none⟩ }).wf = false ∧
      (Instr.inputEdgeEntry 1 { copies0 with damaged := ⟨none, none, some { edge0 with oldClass := 4 }⟩ }).wf = false ∧
      (Instr.inputEdgeEntry 1 { copies0 with damaged := Tri.all (some { edge0 with eseq := 65536 }) }).wf = false ∧
      (Instr.inputEdgeEntry 1 { copies0 with current := List.replicate 57 0 }).wf = false ∧
      (Instr.inputEdgeEntry 1 { copies0 with current := List.replicate 56 65536 }).wf = false := by decide

theorem smoke_key_words_refused :
    (Instr.keyWord 1 .nt true ⟨0, [(true, 0), (true, 0), (true, 0)]⟩).wf = false ∧
      (Instr.keyWord 1 .nt true ⟨0, [(true, 0), (true, 0)]⟩).wf = true := by decide

theorem smoke_lengths_refused :
    (Instr.heartbeatReceive 1 .C1 0 { chord0 with payload := List.replicate 1025 0 }).wf = false ∧
      (Instr.mdataReceive 1 .C1 { chord0 with payload := List.replicate 1025 0 }).wf = false ∧
      (Instr.mcommitReceive 1 .C1 { chord0 with payload := List.replicate 1025 0 }).wf = false ∧
      (Instr.mailboxItem 1 .s0 0 1 0 (List.replicate 2033 0)).wf = false := by decide

theorem smoke_chunks_refused :
    (Instr.dlData 1 .s0 0 0 (List.replicate 65536 0)).wf = false ∧ (Instr.dlData 1 .s0 0 0 [1, 2]).wf = true := by
  refine ⟨?_, by decide⟩
  rw [Instr.wf, List.length_replicate]
  decide

theorem smoke_slices_refused :
    (Instr.sliceStart 1 69).wf = false ∧ (Instr.sliceAbandon 1 69).wf = false ∧
      (Instr.sliceComplete 1 69 ⟨0, 0, 0⟩).wf = false ∧ (Instr.selftestOverdue 1 69).wf = false := by decide

/-! ### Concrete states -/

/-- A task that may use the whole instance region and has a budget of 1 000 000 clocks. -/
def task0 : TaskDecl := ⟨true, 0, 0, 1000000, 0, 0, 0x01000000, 0, 1000, 1000, 1000⟩

/-- The position of the module, its partner's, and a matrix of three slots. -/
def posA : Position := ⟨1, 2, true⟩
def posB : Position := ⟨1, 3, false⟩
def seg0 : Segment :=
  ⟨2, true, [⟨posB, 11, 8, true⟩, ⟨posA, 10, 8, true⟩, ⟨{ posA with senior := false }, 12, 8, false⟩]⟩
/-- The descriptors: slot 4, which the position sends, slot 5, in which it receives, and its STATUS slot 6. -/
def desc0 : SlotDesc := ⟨4, 20, 0, 0, 4, posA, true, false, 0, 2, 0, 0⟩
def desc1 : SlotDesc := ⟨5, 20, 0, 0, 4, posB, true, false, 0, 1, 3, 1⟩
def desc2 : SlotDesc := ⟨6, 20, 0, 0, 4, posA, true, true, 0, 0, 0, 0xFFF⟩

/-- The words of a descriptor (Table 8.5). -/
def wordsOfDesc (d : SlotDesc) : DescWords :=
  ⟨w32 (d.slot + 2 ^ 8 * d.dur + 2 ^ 13 * d.rep + 2 ^ 16 * d.base + 2 ^ 24 * d.plen),
    w32 (d.owner.area + 2 ^ 8 * d.owner.pos + 2 ^ 12 * bit d.owner.senior + 2 ^ 13 * bit d.pairspec + 2 ^ 14 * bit d.status +
      2 ^ 16 * d.queue + 2 ^ 22 * d.dir + 2 ^ 24 * d.agedw), w32 d.bind⟩
def tDescs : List DescWords := [desc0, desc1, desc2].map wordsOfDesc

def tMatrix : Matrix :=
  { etype := 0x1234, vid := 5, pcp := 6, area := 1, pos := 2, arbres := 50, descs := tDescs, segX := seg0, segY := seg0,
    timeNodes := [⟨77, true, 1, 2, 10, 20⟩], channels := [], queues := List.replicate 64 ⟨0, 4⟩ }
theorem test_descriptor_words : tMatrix.slots = [desc0, desc1, desc2] ∧ tDescs.all DescWords.formed = true := by decide
def tBindings : List Binding := [⟨100, 101, 4, 0, true⟩, ⟨10, 11, 4, 0, false⟩]
def tHdr : AppHeader :=
  { build := 1, solo := false, mI := 1, mT := 0, mE := 0, tasks := List.replicate 8 task0, bindings := tBindings,
    tunables := [], inputDecl := [], mirror := [], localBind := 0xFFF, edgeBind := 0xFFF, emax := 0,
    home := ⟨false, false, 0, 0⟩, jumpth := some 100, launchQueues := false, edgeCapture := false }
def tContent : Content :=
  { profile := .acre, mid := 9, hdr := tHdr, code := [], inst := [], imgIn := [], imgOut := [], blocks := [], frames := [],
    timers := [], edges := [], term := [], elem := [], nelems := 0, nroutes := 0, matrix := tMatrix, io := noParams, checks := Tri.all 0 }

/-- A module of profile ACRE on the bus in mode `m`, in furlong 100 025, with the set above loaded and every seal switch on. -/
def base (m : Mode) : State :=
  let s := State.reset
  { s with
    inReset := false, boundaries := true, loaded := some tContent, nt := 1000000000000, clock := ⟨1000, 250000000, 5⟩,
    start := { s.start with step := 9, acquired := true },
    blk := { s.blk with
      cyc := { s.blk.cyc with mode := m, tasks := List.replicate 8 task0, profile := some .acre, fnum := 100025, sw1 := true,
                              sw2 := true, sw3 := true, sw4 := true },
      ttb := { s.blk.ttb with matrix := some tMatrix, pos := some posA, state := .integrated, up := [true, true, true, true],
                              mid := 9 } },
    nic := { s.nic with occ := List.replicate 3 ⟨none, false, false⟩, seen := List.replicate 3 ⟨[], []⟩ },
    guard := ⟨⟨some tDescs, true, 0, false⟩, ⟨some tDescs, true, 0, false⟩⟩ }

/-- Values at the ends of the ranges, in W0 to W15: truth values FALSE 1 and TRUE 2, packed words of each, the largest and the
smallest signed word, shift counts 31 to 33, and the bases of regions. -/
def regs0 : Vector Word 16 :=
  #v[0, 1, 2, 0x7FFFFFFF, 0x80000000, 0xFFFFFFFF, 0x55555555, 0xAAAAAAAA, 31, 32, 33, 0x01000000, 0x02000000, 0x01C00000,
    0x01800000, 0x00AB1234]

/-- A NOP at the first two words of the code region (opcode 16#01, R117): the commands bring their own fields. -/
def nops : List Host.Cell := Memory.store [] 0x10000 8 0x0100000001000000

/-- Vertex B runs task 0 at 16#0001_0000 with these registers and the flags `f`. -/
def cpuF (f : Flags) : State :=
  let s := base .active
  s.modV .B (fun x => { x with
    cur := some 0,
    mem := { x.mem with code := nops },
    core := { x.core with w := regs0, pc := 0x10000#32, ib := 0x01000000#32, xb := 0x02000000#32, kb := 0x01700000#32,
                          fl := f } })

/-- With every flag clear. -/
def cpu : State := cpuF ⟨false, false, false, false, false⟩

/-- The state after a command. -/
def after (o : Host.Outcome State Fault Refusal) : State := match o with | .next t => t | _ => State.reset

/-- The checks of MayIssue, to be decided. -/
def issues (s : State) (v : Vtx) (m : IMeta) : Bool :=
  s.executing v && !((s.closeFull v).debugging v && ((s.closeFull v).v v).atBreak) &&
    ((s.closeFull v).commonCause v m false).isNone

theorem mayIssue_iff {s : State} {v : Vtx} {m : IMeta} : MayIssue s v m ↔ issues s v m = true := by
  simp only [issues, Bool.and_eq_true, Bool.not_eq_true', Option.isNone_iff_eq_none]
  exact ⟨fun h => ⟨⟨h.runs, h.free⟩, h.clean⟩, fun h => ⟨h.1.1, h.1.2, h.2⟩⟩

/-- The canonical form of the memories of a vertex, to be decided. -/
theorem memWf_iff {m : VMem} : m.wf ↔
    (Memory.wf m.code && Memory.wf m.inst && Memory.wf m.imgIn && Memory.wf m.out0 && Memory.wf m.out1 &&
      Memory.wf m.term) = true := by
  simp only [VMem.wf, Bool.and_eq_true, and_assoc]

/-- The conditions of a trap, to be decided. -/
def trapsOk (s : State) (v : Vtx) (c : TrapCause) : Bool :=
  s.inService v && !s.debugging v && !s.trial v && decide (s.traps = []) && decide (c ≠ .budget)

theorem mayTrap_iff {s : State} {v : Vtx} {c : TrapCause} : MayTrapOut s v c ↔ trapsOk s v c = true := by
  simp only [trapsOk, Bool.and_eq_true, Bool.not_eq_true', decide_eq_true_eq]
  exact ⟨fun h => ⟨⟨⟨⟨h.inService, h.task⟩, h.trial⟩, h.first⟩, h.notBudget⟩, fun h => ⟨h.1.1.1.1, h.1.1.1.2, h.1.1.2, h.1.2, h.2⟩⟩

/-- The bytes of a timer slot, to be decided. -/
theorem holdsTimer_iff {m : List Host.Cell} {a : Nat} {q : TimerSlot} : HoldsTimer m a q ↔
    (numberAt m a 4 = q.start ∧ numberAt m (a + 4) 4 = q.et ∧ numberAt m (a + 8) 4 = q.pt ∧ numberAt m (a + 12) 1 = q.state ∧
      numberAt m (a + 13) 1 = q.kind ∧ numberAt m (a + 14) 1 = q.inprev ∧
      BitVec.ofNat 8 (numberAt m (a + 15) 1) =
        BitVec.ofNat 8 q.state ^^^ BitVec.ofNat 8 q.kind ^^^ BitVec.ofNat 8 q.inprev ^^^ 0xFF#8) :=
  ⟨fun h => ⟨h.start, h.et, h.pt, h.state, h.kind, h.inprev, h.chk⟩, fun ⟨a, b, c, d, e, f, g⟩ => ⟨a, b, c, d, e, f, g⟩⟩

/-- An access reaches a target, to be decided. -/
def reaches (o : Except TrapCause Target) (q : Target) : Bool := match o with | .ok p => decide (p = q) | .error _ => false

theorem reaches_iff {o : Except TrapCause Target} {q : Target} : o = .ok q ↔ reaches o q = true := by
  cases o <;> simp [reaches]

/-! ### Witnesses: instructions

Each theorem gives, for the clauses of the statement that it names in order, concrete operands that meet the hypotheses. -/

theorem wit_moves :
    MayIssue cpu .B (metaU 1) ∧ MayIssue cpu .B (metaA (rbit 3) (rbit 15) 0 0 1) ∧
      MayIssue cpu .B (metaA 0 (rbit 15) 0 0 1) ∧ MayIssue cpu .B (metaA (rbit 15) (rbit 15) 0 0 1) ∧
      MayIssue cpu .B { cls := .U, cyc := 2, words := 2 } ∧
      MayIssue cpu .B (metaA (rbit 3 ||| rbit 4) (rbit 15) (condFlags 13) 0 1) ∧
      (0xD00#12).extractLsb' 0 8 = 0#8 ∧ (0xD00#12).extractLsb' 8 4 = 13#4 := by
  simp only [mayIssue_iff]; decide +kernel

theorem wit_sizes : HasSize 0x000 32 ∧ HasSize 0x400 16 ∧ HasSize 0x800 8 := by
  refine ⟨.inl ⟨rfl, rfl⟩, .inr (.inl ⟨rfl, rfl⟩), .inr (.inr ⟨rfl, rfl⟩)⟩

theorem wit_arithmetic :
    MayIssue cpu .B { cls := .A, cyc := 1, rr := rbit 3 ||| rbit 4, rw := rbit 15, fw := fZNCV } ∧
      MayIssue cpu .B { cls := .U, cyc := 3, rr := rbit 3 ||| rbit 4, rw := rbit 15, fw := fZNCV } ∧
      MayIssue cpu .B (metaA (rbit 4) (rbit 0) 0 fZNCV 1) := by
  simp only [mayIssue_iff]; decide +kernel

theorem wit_division :
    MayIssue cpu .B { cls := .U, cyc := 34, rr := rbit 4 ||| rbit 5, rw := rbit 15, fw := fZNCV } ∧
      readAs false 32 ((cpu.issueVertex .B 1).reg 5) ≠ 0 ∧ readAs false 16 ((cpu.issueVertex .B 1).reg 5) ≠ 0 ∧
      readAs false 8 ((cpu.issueVertex .B 1).reg 5) ≠ 0 := by
  simp only [mayIssue_iff]; decide +kernel

theorem wit_long : MayIssue cpu .B (metaU 2) ∧ (4#4).getLsbD 0 = false ∧ (2#4).getLsbD 0 = false := by
  simp only [mayIssue_iff]; decide +kernel

theorem wit_logic :
    MayIssue cpu .B (metaA (rbit 3 ||| rbit 4) (rbit 15) 0 fZN 1) ∧ MayIssue cpu .B (metaA (rbit 3) (rbit 15) 0 fZN 1) ∧
      MayIssue cpu .B (metaA (rbit 3 ||| rbit 15) (rbit 15) 0 fZN 1) ∧ MayIssue cpu .B (metaA (rbit 3) 0 0 fZ 1) ∧
      (31#16).toNat < 32 ∧ (0x3E0#16).toNat < 1024 ∧ (0x3E0#16).toNat % 32 + ((0x3E0#16).toNat / 32 % 32 + 1) ≤ 32 := by
  simp only [mayIssue_iff]; decide +kernel

/-- A count in a register (W10 = 33) and as an immediate (31). -/
theorem wit_shifts :
    MayIssue cpu .B (metaA (rbit 4 ||| rbit 10) (rbit 15) 0 fZNC 1) ∧ MayIssue cpu .B (metaA (rbit 4) (rbit 15) 0 fZNC 1) ∧
      (0x81F#12).extractLsb' 5 6 = 0#6 ∧ (0x81F#12).getLsbD 11 = true ∧ (0x000#12).extractLsb' 0 5 = 0#5 := by
  simp only [mayIssue_iff]; decide +kernel

/-- W1 holds FALSE, W2 TRUE, W6 sixteen times FALSE and W7 sixteen times TRUE. -/
theorem wit_sbool :
    MayIssue cpu .B (metaA (rbit 1 ||| rbit 2) (rbit 15) 0 fZ 1) ∧ MayIssue cpu .B (metaA (rbit 1) (rbit 15) 0 fZ 1) ∧
      MayIssue cpu .B (metaA (rbit 2) 0 0 fZ 1) ∧ MayIssue cpu .B (metaA (rbit 6 ||| rbit 7) (rbit 15) 0 fZ 2) ∧
      MayIssue cpu .B (metaA (rbit 7) (rbit 15) 0 fZ 2) ∧ MayIssue cpu .B (metaA (rbit 2 ||| rbit 6) (rbit 6) 0 fZ 1) ∧
      Codes ((cpu.issueVertex .B 1).reg 1) false ∧ Codes ((cpu.issueVertex .B 1).reg 2) true ∧
      (∀ j, j < 16 → CodesAt ((cpu.issueVertex .B 1).reg 6) j false) ∧
      (∀ j, j < 16 → CodesAt ((cpu.issueVertex .B 1).reg 7) j true) := by
  simp only [mayIssue_iff, Codes, CodesAt]; decide +kernel

theorem wit_compares :
    MayIssue cpu .B (metaA (rbit 4 ||| rbit 5) 0 0 fZNCV 1) ∧ MayIssue cpu .B (metaA (rbit 4 ||| rbit 5) 0 0 fZN 1) ∧
      MayIssue cpu .B (metaA (rbit 4) 0 0 fZNCV 1) := by
  simp only [mayIssue_iff]; decide +kernel

/-- A branch always, to the first word of the code region behind it and to the last word of the region, and one that is not taken. -/
theorem wit_branches :
    (∀ p ∈ [(0x10000, 0), (0x3FFFF8, 0), (0x10000, 0xFBFFE)],
      0x00010000 ≤ (w32 p.1 + 4 + BitVec.ofNat 32 (4 * (BitVec.ofNat 20 p.2).toNat)).toNat ∧
        (w32 p.1 + 4 + BitVec.ofNat 32 (4 * (BitVec.ofNat 20 p.2).toNat)).toNat < 0x00400000) ∧
      condHolds 0 (cpu.issueVertex .B 1).core.fl = true ∧ condHolds 1 (cpu.issueVertex .B 1).core.fl = false ∧
      MayIssue cpu .B { cls := .B, cyc := 3, fr := condFlags 14 } ∧
      MayIssue cpu .B { cls := .B, cyc := 1, fr := condFlags 0 } := by
  simp only [mayIssue_iff]; decide +kernel

/-- Vertex B with `n` loops open, of which the innermost has `k` passes left. -/
def looping (n k : Nat) : State :=
  cpu.modV .B (fun x => { x with core := { x.core with loops := List.replicate n ⟨0x10100#32, k, 7, true, 3⟩ } })

theorem wit_loops :
    MayIssue (looping 15 1) .B (metaU 2) ∧ (cpu.issueVertex .B 1).core.loops.length ≠ 16 ∧
      ((looping 15 1).issueVertex .B 1).core.loops.length ≠ 16 ∧
      (∀ k ∈ [1, 2], MayIssue (looping 16 k) .B (metaU 1) ∧
        ((looping 16 k).issueVertex .B 1).core.loops = ⟨0x10100#32, k, 7, true, 3⟩ :: List.replicate 15 ⟨0x10100#32, k, 7, true, 3⟩ ∧
        ((looping 16 k).issueVertex .B 1).core.loops.length ≠ ((looping 16 k).issueVertex .B 1).core.eloops) := by
  simp only [mayIssue_iff]; decide +kernel

/-- Block 1 stands at address 16 with its entry, its constants and its checksum; its frame bears the mark of the block; the caller is
at depth `n` of task 7. -/
def calling (n : Nat) : State :=
  cpu.modV .B (fun x => { x with
    cur := some 7,
    core := { x.core with depth := n, task := 7 },
    mem := { x.mem with
      code := Memory.store (Memory.store (Memory.store nops 16 4 0x20000) 20 4 0x120) 24 4 0xABCD5678,
      inst := Memory.store [] 0x01000000 4 0x56780001 } })

theorem wit_calls : ∀ n ∈ [0, 510],
    MayIssue (calling n) .B { cls := .U, cyc := 14, words := 2 } ∧ ((calling n).v .B).mem.wf ∧
      (let x := (calling n).issueVertex .B 2
       x.core.ib.toNat % 16 = 0 ∧ 0x01000000 ≤ x.core.ib.toNat ∧ x.core.ib.toNat < 0x01600000 ∧ x.core.xb.toNat % 16 = 0 ∧
         0x02000000 ≤ x.core.xb.toNat ∧ x.core.xb.toNat < 0x02040000 ∧ x.core.depth < 511 ∧ x.core.task < 8 ∧
         x.mem.load .inst x.core.ib.toNat 4 = x.mem.load .code 24 4 % 0x10000 * 0x10000 + 1 ∧ x.mem.ecc = []) := by
  simp only [mayIssue_iff, memWf_iff]; decide +kernel

theorem wit_returns :
    MayIssue (calling 511) .B (metaU 14) ∧ MayIssue (calling 1) .B (metaU 10) ∧ MayIssue (calling 0) .B (metaU 4) ∧
      ((calling 0).closeFull .B).debugging .B = false ∧ ((calling 1).issueVertex .B 1).mem.ecc = [] ∧
      ((calling 1).issueVertex .B 1).core.loops.length ≤ ((calling 1).issueVertex .B 1).core.eloops := by
  simp only [mayIssue_iff]; decide +kernel

/-- A count of 0, a 17th entry, and a LEND outside every loop. -/
theorem wit_loop_traps :
    MayTrapOut ((looping 16 1).closeFull .B) .B .opcode ∧ MayTrapOut ((looping 16 1).closeFull .B) .B .loop ∧
      MayIssue (looping 16 1) .B (metaU 2) ∧ ((looping 16 1).issueVertex .B 1).core.loops.length = 16 ∧
      MayTrapOut (cpu.closeFull .B) .B .loop ∧ MayIssue cpu .B (metaU 1) ∧
      (cpu.issueVertex .B 1).core.loops.length = (cpu.issueVertex .B 1).core.eloops := by
  simp only [mayIssue_iff, mayTrap_iff]; decide +kernel

/-- W0 holds 0 at every size and no truth value. -/
theorem wit_traps :
    (∀ c ∈ [TrapCause.trap, .divzero, .sbool, .opcode], MayTrapOut (cpu.closeFull .B) .B c) ∧
      MayIssue cpu .B (metaU 1) ∧
      MayIssue cpu .B { cls := .U, cyc := 34, rr := rbit 3 ||| rbit 0, rw := rbit 15, fw := fZNCV } ∧
      MayIssue cpu .B (metaA (rbit 0 ||| rbit 1) (rbit 15) 0 fZ 1) ∧
      MayIssue cpu .B { cls := .A, cyc := 1, rr := rbit 3 ||| rbit 4, rw := rbit 15, fw := fZNCV } ∧
      readAs false 32 ((cpu.issueVertex .B 1).reg 0) = 0 ∧ (cpu.issueVertex .B 1).reg 0 ≠ 1 ∧
      (cpu.issueVertex .B 1).reg 0 ≠ 2 ∧ (0xC00#12).extractLsb' 10 2 = 3#2 := by
  simp only [mayIssue_iff, mayTrap_iff]; decide +kernel

/-- Vertex B with `n` events waiting. -/
def eventful (n : Nat) : State := cpu.modV .B (fun x => { x with events := List.replicate n ⟨0, 0, 0, 0, 0⟩ })

theorem wit_events :
    (∀ n ∈ [0, 31, 32], MayIssue (eventful n) .B (metaU 6)) ∧ ((eventful 31).issueVertex .B 1).events.length < 32 ∧
      32 ≤ ((eventful 32).issueVertex .B 1).events.length := by
  simp only [mayIssue_iff]; decide +kernel

/-- Task 0 has input words 0 to 7 and output words 8 to 15, and the memories of vertex B hold a few bytes, with one correctable
error in each. -/
def memo : State :=
  let s := cpu.modV .B (fun x => { x with mem := { x.mem with
    inst := Memory.store [] 0x01000000 8 0x8899AABBCCDDEEFF, imgIn := Memory.store [] 0x02000000 8 0x0102030485868788,
    out0 := Memory.store [] 0x02000020 8 0x1112131495969798, out1 := Memory.store [] 0x02000020 8 0x2122232425262728,
    ecc1 := [0x01000000, 0x02000000] } })
  { s with blk := { s.blk with cyc := { s.blk.cyc with
    tasks := List.replicate 8 { task0 with inBase := 0, inSize := 2, outBase := 2, outSize := 2 } } } }

/-- The instance form at the first and the last address of the frames, the constant form, the image form in both areas, and the global
form. -/
theorem wit_loads :
    MayIssue memo .B { cls := .M, cyc := 4, rr := 0, rw := rbit 15 } ∧ MayIssue memo .B { cls := .U, cyc := 8, rr := 0, rw := rbit 15 } ∧
      MayIssue memo .B { cls := .U, cyc := 4, rr := rbit 11, rw := rbit 15 } ∧
      MayIssue memo .B { cls := .M, cyc := 2, rr := 0, rw := rpair 14 } ∧ (14#4).getLsbD 0 = false ∧
      memo.loadTarget .B (.inst ⟨15, 0⟩) 4 (memo.issueVertex .B 1) = .ok (.mem .inst 0x01000000) ∧
      memo.loadTarget .B (.inst ⟨14, 0xFFFF8#20⟩) 8 (memo.issueVertex .B 1) = .ok (.mem .inst 0x010FFFF8) ∧
      memo.loadTarget .B (.const ⟨15, 0xEFFFF#20⟩) 1 (memo.issueVertex .B 1) = .ok (.mem .inst 0x017EFFFF) ∧
      memo.loadTarget .B (.image ⟨15, 2⟩) 2 (memo.issueVertex .B 1) = .ok (.mem .imgIn 0x02000002) ∧
      memo.loadTarget .B (.image ⟨15, 0x20#20⟩) 4 (memo.issueVertex .B 1) = .ok (.mem .imgOut 0x02000020) ∧
      memo.loadTarget .B (.glob ⟨15, 11, 4⟩) 4 (memo.issueVertex .B 1) = .ok (.mem .inst 0x01000004) ∧
      (memo.issueVertex .B 1).mem.bad .inst 0x01000000 = false ∧ (memo.issueVertex .B 1).mem.bad .imgIn 0x02000002 = false := by
  simp only [mayIssue_iff, reaches_iff]; decide +kernel

/-- The image addresses of the third clause: the first of the region, and the last. -/
theorem wit_loads_region :
    0x02000000 ≤ (memo.v .B).core.xb.toNat ∧
      ((memo.v .B).core.xb + (0x3FFFF#20).zeroExtend 32).toNat < 0x02040000 := by decide +kernel

theorem wit_stores :
    MayIssue memo .B { cls := .M, cyc := 4, rr := 0 ||| rbit 5 } ∧ MayIssue memo .B { cls := .M, cyc := 1, rr := 0 ||| rpair 4 } ∧
      MayIssue memo .B { cls := .U, cyc := 8, rr := rbit 12 ||| rbit 5 } ∧ (memo.v .B).mem.wf ∧ (4#4).getLsbD 0 = false ∧
      memo.storeTarget .B (.inst ⟨5, 3⟩) 1 (memo.issueVertex .B 1) = .ok (.mem .inst 0x01000003) ∧
      memo.storeTarget .B (.inst ⟨4, 8⟩) 8 (memo.issueVertex .B 1) = .ok (.mem .inst 0x01000008) ∧
      memo.storeTarget .B (.image ⟨5, 0x20#20⟩) 2 (memo.issueVertex .B 1) = .ok (.mem .imgOut 0x02000020) ∧
      memo.storeTarget .B (.glob ⟨5, 12, 0x3C⟩) 4 (memo.issueVertex .B 1) = .ok (.mem .imgOut 0x0200003C) ∧
      (memo.issueVertex .B 1).mem.bad .inst 0x01000000 = false ∧ (memo.issueVertex .B 1).mem.bad .imgOut 0x02000020 = false := by
  simp only [mayIssue_iff, memWf_iff, reaches_iff]; decide +kernel

/-- W14 points to the window that sets bits of the frames, W13 to the one that clears them. -/
theorem wit_alias_stores :
    MayIssue memo .B { cls := .U, cyc := 5, rr := rbit 14 ||| rbit 5 } ∧ MayIssue memo .B { cls := .U, cyc := 3, rr := rbit 13 ||| rbit 5 } ∧
      memo.storeTarget .B (.glob ⟨5, 14, 4⟩) 4 (memo.issueVertex .B 1) = .ok (.setBits .inst 0x01400004) ∧
      memo.storeTarget .B (.glob ⟨5, 13, 8⟩) 4 (memo.issueVertex .B 1) = .ok (.clearBits .inst 0x01400008) ∧
      (memo.v .B).mem.wf ∧ (memo.issueVertex .B 1).mem.bad .inst 0x01400004 = false ∧
      (memo.issueVertex .B 1).mem.bad .inst 0x01400008 = false := by
  simp only [mayIssue_iff, memWf_iff, reaches_iff]; decide +kernel

/-- Binding 0 transmits and binding 1 receives, four words each for task 0: their first and last words. -/
theorem wit_slots :
    memo.binding 0 = some ⟨100, 101, 4, 0, true⟩ ∧ memo.binding 1 = some ⟨10, 11, 4, 0, false⟩ ∧
      (memo.issueVertex .B 1).core.task = 0 ∧ MayIssue memo .B (metaU 4) ∧ MayIssue memo .B (metaU 16) ∧
      MayIssue memo .B (metaU 2) ∧ (memo.v .B).mem.wf ∧ (memo.issueVertex .B 1).mem.bad .imgIn 0x02000028 = false ∧
      (memo.issueVertex .B 1).mem.bad .imgIn 0x0200002C = false ∧ (memo.issueVertex .B 1).mem.bad .imgIn 0x02000038 = false ∧
      (memo.issueVertex .B 1).mem.bad .imgOut 0x02000194 = false ∧ (memo.issueVertex .B 1).mem.bad .imgOut 0x020001A0 = false := by
  simp only [mayIssue_iff, memWf_iff]; decide +kernel

/-- The immediate form with the largest limit, and the register form with W15. -/
theorem wit_age :
    MayIssue cpu .B (metaA (rbit 15) (rbit 0) 0 (fC ||| fS) 1) ∧ MayIssue cpu .B (metaA (rbit 15 ||| rbit 15) (rbit 0) 0 (fC ||| fS) 1) ∧
      (0x00FF#16).extractLsb' 8 7 = 0#7 ∧ (0x00FF#16).getLsbD 15 = false ∧ (0x8F00#16).getLsbD 15 = true ∧
      (0x8F00#16).extractLsb' 12 3 = 0#3 ∧ (0x8F00#16).extractLsb' 0 8 = 0#8 ∧ (0x8F00#16).extractLsb' 8 4 = 15#4 := by
  simp only [mayIssue_iff]; decide +kernel

/-- The third and fourth words of a timer slot with kind `k`, state `st` and previous input `inp` (Table 5.1), with PT 0. -/
def slotHigh (k st inp : Nat) : Nat :=
  2 ^ 32 * st + 2 ^ 40 * k + 2 ^ 48 * inp +
    2 ^ 56 * (BitVec.ofNat 8 st ^^^ BitVec.ofNat 8 k ^^^ BitVec.ofNat 8 inp ^^^ 0xFF#8).toNat

/-- Such a slot at the first frame address, started `gone` furlongs ago. -/
def slotIn (k st inp gone : Nat) : State :=
  cpu.modV .B (fun x =>
    { x with mem := (x.mem.store .inst 0x01000000 8 (100025 - gone)).store .inst 0x01000008 8 (slotHigh k st inp) })

/-- The slot as a record. -/
def slotAs (k st inp gone : Nat) : TimerSlot := ⟨100025 - gone, 0, 0, st, k, inp, 0⟩

/-- Every kind in every state of its table, with either previous input for TP. W1 is an input that is TRUE, W0 one that is FALSE and a
preset of 0, and W2 a preset of 2 ms: it is over after three furlongs of 10 ms and not after none. -/
theorem wit_timers :
    (∀ q ∈ [(1, 0x3C, 0), (1, 0x5A, 0), (1, 0xA5, 0), (2, 0x3C, 0), (2, 0x5A, 0), (2, 0xC3, 0), (3, 0x3C, 0), (3, 0x3C, 1),
        (3, 0x5A, 1), (3, 0xA5, 1)], ∀ gone ∈ [0, 3],
      MayIssue (slotIn q.1 q.2.1 q.2.2 gone) .B (metaU 8) ∧ ((slotIn q.1 q.2.1 q.2.2 gone).v .B).mem.wf ∧
        ((slotIn q.1 q.2.1 q.2.2 gone).issueVertex .B 1).mem.ecc = [] ∧
        HoldsTimer ((slotIn q.1 q.2.1 q.2.2 gone).issueVertex .B 1).mem.inst 0x01000000 (slotAs q.1 q.2.1 q.2.2 gone)) ∧
      ((cpu.issueVertex .B 1).core.ib + BitVec.ofNat 32 (16 * 0)).toNat = 0x01000000 ∧ 0x01000000 < mirrorBase cpu.profile ∧
      cpu.furlongOf .B = 100025 ∧ 1000 * 2 ≤ 3 * furlongUs cpu.profile ∧ ¬ 1000 * 2 ≤ 0 * furlongUs cpu.profile ∧
      ((cpu.issueVertex .B 1).reg 1).getLsbD 0 = true ∧ ((cpu.issueVertex .B 1).reg 0).getLsbD 0 = false ∧
      ((cpu.issueVertex .B 1).reg 2).toInt.toNat = 2 ∧ ((cpu.issueVertex .B 1).reg 0).toInt.toNat = 0 := by
  simp only [mayIssue_iff, memWf_iff, holdsTimer_iff]; decide +kernel

/-- A byte at the first frame address that holds either code. -/
def edgeIn (prev : Bool) : State :=
  cpu.modV .B (fun x => { x with mem := x.mem.store .inst 0x01000000 1 (if prev then 2 else 1) })

theorem wit_edges : ∀ prev ∈ [false, true],
    MayIssue (edgeIn prev) .B (metaU 3) ∧ MayIssue (edgeIn prev) .B (metaU 5) ∧
      Memory.read ((edgeIn prev).issueVertex .B 1).mem.inst 0x01000000 = (if prev then 2 else 1) ∧
      ((edgeIn prev).issueVertex .B 1).mem.bad .inst 0x01000000 = false ∧ 0x01000000 < mirrorBase (edgeIn prev).profile := by
  simp only [mayIssue_iff]; decide +kernel

/-- An element of kind `k` in detected state `st`, commanded to 1, with its locks. -/
def elemOf (k : ElemKind) (st : Nat) (owner : Option Nat) (al : Bool) : Elem :=
  ⟨⟨k, 10, 0⟩, st, 0, false, false, false, 1, 0, owner, 100000#32, al⟩

/-- The reserved route of `rails`. -/
def route2 (eng : Bool) : Route :=
  ⟨⟨[⟨5, 1, .path⟩, ⟨4, 1, .path⟩, ⟨2, 1, .approach⟩], [], 0x4002, 0⟩, 2, .reserved, eng, 0, false⟩

/-- Element 0 is the entry signal of routes 0 and 1 in state `sig`, 1 and 3 are points, 2 a section, 4 a crossing of route 2, 5 a signal
whose approach-lock time has expired, the entry of route 2. Route 0 is free and can be set, route 1 is free and fails, route 2 is
reserved, engaged if `eng`. -/
def rails (sig : Nat) (eng : Bool) : State :=
  let free (d : RouteDecl) (b : Bool) : Route := ⟨d, notEvaluated, .free, false, 0, b⟩
  cpu.modV .B (fun x => { x with lat := { x.lat with
    passDone := true,
    elems := [elemOf .signal 1 none true, elemOf .point 1 none false, elemOf .sect 2 none false, elemOf .point 1 none false,
      elemOf .crossing 1 (some 2) false, elemOf .signal sig (some 2) (!eng)],
    routes := [free ⟨[⟨0, 1, .path⟩, ⟨1, 2, .path⟩, ⟨3, 1, .flank⟩], [], 0x4000, 0⟩ true,
      free ⟨[⟨0, 1, .path⟩, ⟨4, 2, .path⟩], [], 0x4001, 0⟩ true,
      route2 eng] } })

/-- With the registers set to the operands `a` (W1) and `b` (W2). -/
def railsWith (sig : Nat) (eng : Bool) (a b : Word) : State :=
  (rails sig eng).modV .B (fun x => { x with core := (x.core.setReg 1 a).setReg 2 b })

theorem wit_lattice_requests :
    ((rails 1 false).issueVertex .B 1).mem.ecc = [] ∧
    ((rails 1 false).v .B).lat.passDone = true ∧ MayIssue (rails 1 false) .B (metaU 8) ∧ MayIssue (rails 1 false) .B (metaU 12) ∧
      ((rails 1 false).v .B).lat.routes.length = 3 ∧
      (((rails 1 false).v .B).lat.elems.map (fun e => (e.decl.kind, e.owner, e.share, e.cstate, e.alst))) =
        [(.signal, none, 0, 1, true), (.point, none, 0, 1, false), (.sect, none, 0, 1, false), (.point, none, 0, 1, false),
          (.crossing, some 2, 0, 1, false), (.signal, some 2, 0, 1, true)] := by
  simp only [mayIssue_iff]; decide +kernel

/-- Route 0 passes, route 1 fails at the crossing that route 2 holds, route 2 is not free. -/
theorem wit_reservation :
    ((rails 1 false).issueVertex .B 1).mem.ecc = [] ∧ (∀ k ∈ [0, 1, 2], MayIssue (railsWith 1 false (w32 k) 0) .B
      (metaU (4 + ((railsWith 1 false (w32 k) 0).issueVertex .B 1).lat.lresvWait (w32 k)))) ∧
      (((rails 1 false).v .B).lat.routes.map (fun r => (r.rstate, ((rails 1 false).v .B).lat.failure r.decl, r.settable))) =
        [(.free, none, true), (.free, some (5, 1, 4), true), (.reserved, some (5, 0, 5), false)] := by
  simp only [mayIssue_iff]; decide +kernel

/-- Route 2 releases as a whole or its crossing alone; with the signal not at stop; and engaged, with an approach that is not clear and no
approach-lock time. -/
theorem wit_release :
    (∀ p ∈ [(0, 0xFFFFFFFF), (2, 0xFFFFFFFF), (2, 4), (2, 5)],
      MayIssue (railsWith 1 false (w32 p.1) (w32 p.2)) .B
        (metaU (4 + ((railsWith 1 false (w32 p.1) (w32 p.2)).issueVertex .B 1).lat.lrelWait (w32 p.1) (w32 p.2)))) ∧
      (let l := ((rails 1 false).v .B).lat
       l.routes[2]? = some (route2 false) ∧ (l.heldTerms 2 (route2 false)).map (fun p => (p.1.elem, p.2)) = [(5, 0), (4, 1)] ∧
         l.elems[(route2 false).decl.entry]? = some (elemOf .signal 1 (some 2) true) ∧
         (elemOf .signal 1 (some 2) true).valid = true ∧ (elemOf .signal 1 (some 2) true).expired 100025 = true) ∧
      (let l := ((rails 2 true).v .B).lat
       l.routes[2]? = some (route2 true) ∧ l.approachClear (route2 true).decl = false ∧
         (elemOf .signal 2 (some 2) false).expired 100025 = false) := by
  simp only [mayIssue_iff]; decide +kernel

/-! ### Witnesses: power-on, boundaries, seals -/

/-- Power-on with everything in order, in reset. -/
def pon : PowerOnIn := { power0 with hpres := true, aoLost := true, seals := Tri.all 0xF }

/-- The analogue self-test fails; it passes and no set verifies, because the NOR is empty. Clauses 3 and 4 need a set whose
signatures verify: that the opaque verifiers accept one is no fact of the model, so their witness is the premise beside it. -/
theorem wit_power_on :
    State.reset.inReset = true ∧ State.reset.supply.held = false ∧ pon.cold = false ∧
      ((((State.reset.elapse 10).stepOne pon).atStep 2).marchAll pon.march).marchHolds pon.march pon.again = true ∧
      ((((((State.reset.elapse 10).stepOne pon).atStep 2).marchAll pon.march).atStep 3).stepThree pon.copyFail).2 = false ∧
      ((((((State.reset.elapse 10).stepOne pon).atStep 2).marchAll pon.march).atStep 3).stepThree pon.copyFail).1.commissions
        (Tri.all true) = true := by decide +kernel

/-- Power fails again while an armed set is verified, and while a copy goes on. -/
theorem wit_power_on_cut :
    ∀ p ∈ [(JState.armed, PowerCut.staging), (.copying, .block 0)],
      let s := { State.reset with upd := { State.reset.upd with
        staging := some ⟨⟨0x4B334D31, 1, 0, 4, 5, 1, 3, true, 8192, [], 0, 0, 0, [], 0, 0, 0, 0, 0, 0, 0, []⟩, [], [], tContent⟩,
        sstate := .checked, slots := ⟨some { Journal.initial with state := p.1 }, none⟩ } }
      let q := { pon with cut := some p.2 }
      s.inReset = true ∧ s.supply.held = false ∧
        ((((((s.elapse 10).stepOne q).atStep 2).marchAll q.march).atStep 2).marchHolds q.march q.again = true) ∧
        (((((s.elapse 10).stepOne q).atStep 2).marchAll q.march |>.atStep 3).cutAt q).isSome = true := by decide +kernel

/-- The readings that step 5 chooses between: a plug of the senior position 2 of area 1, which owns slots, and one without parity. -/
theorem wit_power_on_position :
    ((base .active).readPosition (Tri.all ⟨0x1201, 0, 0⟩)).ownedPosition = some posA ∧
      ((base .active).readPosition (Tri.all ⟨0, 0, 0⟩)).ownedPosition = none := by decide +kernel

/-- `ns` nanoseconds into the furlong, one NT clock later. -/
def inF (ns : Nat) (m : Mode) : State := { base m with clock := ⟨1000, 250000000 + ns - 8, 0⟩ }

theorem wit_boundary :
    (inF 10000000 .active).start.acquired = true ∧ (inF 10000000 .active).inReset = false ∧
      (∀ ns ∈ [10000000, 10000007], ((inF ns .active).elapse 1).onGrid (furlongNs (inF ns .active).profile) 0 = true) ∧
      (inF 10000000 .active).boundaries = true ∧
      (inF 10000000 .active).fnum + 1 ≤ ((inF 10000000 .active).elapse 1).time / furlongNs (inF 10000000 .active).profile := by
  decide +kernel

theorem wit_boundary_waits :
    (∀ ns ∈ [9999999, 10000008], ((inF ns .active).elapse 1).onGrid (furlongNs (inF ns .active).profile) 0 = false) ∧
      (∀ ns ∈ [249999, 250008], ((inF ns .active).elapse 1).onGrid (rodNs (inF ns .active).profile) 0 = false) ∧
      State.reset.start.acquired = false ∧ State.reset.boundaries = false ∧ State.reset.inReset = true ∧
      (base .active).mode ≠ .isolated ∧ (base .active).mode ≠ .resync ∧ (base .active).inReset = false := by decide +kernel

/-- Rods 1 and 39, with a takeover and a yield 20 µs old; the 16th clean furlong; a wait of 2 s, with no partner heard and with one that is
not ACTIVE; the third minute. -/
theorem wit_boundary_commands :
    (∀ ns ∈ [250000, 39 * 250000 + 7],
      let s := inF ns .standby
      (s.elapse 1).onGrid (rodNs s.profile) 0 = true ∧ (s.elapse 1).rod ≠ 0 ∧ s.boundaries = true ∧ s.inReset = false ∧
        s.nic.rodAt ≠ some (s.elapse 1).nt ∧ s.blk.ttb.state = .integrated ∧ s.nic.csPend = none ∧ s.nic.txLater = [] ∧
        s.pair.decided = none ∧ s.pair.yieldAt = none ∧ s.mode = .standby ∧ s.pair.noTakeover = false ∧
        2500 ≤ (s.elapse 1).nt - (1000000000001 - 2500)) ∧
      (inF 250000 .active).mode = .active ∧
      (let s := { base .isolated with clean := 15, keyNt := { (base .isolated).keyNt with pair := some (.A, .B) },
                                      keySi := { (base .isolated).keySi with pair := some (.A, .C) } }
       s.mode = .isolated ∧ s.r478 = false ∧ s.strength = 3 ∧ s.keyNt.pair ≠ none ∧ s.keySi.pair ≠ none ∧ 15 ≤ s.clean) ∧
      (let s := { base .resync with resyncF := 100025 - 200, clock := ⟨1000, 250000000, 0⟩ }
       s.mode = .resync ∧ s.resyncF * furlongNs s.profile + 2000000000 ≤ (s.elapse 0).time ∧ s.blk.chd.conflict = false ∧
         s.blk.chd.buildmm = false ∧ (s.elapse 0).within s.pair.heardAt twoSeconds = false ∧ s.blk.chd.pmode ≠ 4) ∧
      (let s := { base .start with start := { (base .start).start with step := 6, waitFrom := 1000000000000, waits := 2 } }
       s.start.step = 6 ∧ s.inReset = false ∧
         7500000000 * (s.start.waits + 1) ≤ (s.elapse 22500000000).nt - s.start.waitFrom ∧ s.inService .A = true ∧
         (s.v .A).recs.length < 64) := by decide +kernel

/-- Every switch has been read on at 4 readings, or differently at 100. -/
def sealState (r : Tri (BitVec 4)) (post : Bool) : State :=
  let s := base .start
  { s with
    boundaries := false, mbox := { s.mbox with post := post },
    blk := { s.blk with
      cyc := { s.blk.cyc with sw1 := false },
      seals := { s.blk.seals with reads := r, run := [4, 4, 4, 4], oddRun := [100, 100, 100, 100] } } }

theorem wit_seals :
    (∀ k, k < 4 → majority ((sealState (Tri.all 0xF) false).sealReads k) = some true ∧
      4 ≤ (sealState (Tri.all 0xF) false).blk.seals.run.getD k 0 ∧
      100 ≤ (sealState ⟨1, 2, 3⟩ true).blk.seals.oddRun.getD k 0 ∧ (sealState ⟨1, 2, 3⟩ true).blk.seals.done.getD k false = false) ∧
      (sealState ⟨1, 2, 3⟩ true).boundaries = false ∧ (sealState ⟨1, 2, 3⟩ true).inReset = false ∧
      (sealState ⟨1, 2, 3⟩ true).mode = .start ∧ (sealState ⟨1, 2, 3⟩ true).start.polled = none ∧ (sealState ⟨1, 2, 3⟩ true).inService .A = true ∧
      ((sealState ⟨1, 2, 3⟩ true).v .A).recs.length < 64 := by decide +kernel

/-! ### Witnesses: passes, tasks, phase 2 -/

/-- The pass is due at E_max and before it, and at E_max it has overrun. -/
theorem wit_passes :
    emaxNs Profile.acre = 1500000 ∧
      (∀ ns ∈ [8, 1500000], ((inF ns .active).elapse 1).runsApp .B = true ∧ (((inF ns .active).elapse 1).v .B).lat.passDone = false ∧
        (inF ns .active).boundaries = true ∧ ((inF ns .active).elapse 1).inFurlong = ns ∧
        (((inF ns .active).elapse 1).v .B).mem.ecc = []) ∧
      (inF 1500000 .active).overran = Tri.all false ∧ (inF 1500000 .active).trial .B = false ∧
      (inF 1500000 .active).inService .B = true ∧
      ({ inF 1500000 .active with overran := ⟨true, false, false⟩ }).overran ≠ Tri.all false := by decide +kernel

/-- Vertex B with tasks 2 and 3 to run; with task 0 running and `n` instructions retired. -/
def tasked (n : Nat) : State :=
  (base .active).modV .B (fun x => { x with cur := some 0, core := { x.core with retired := n }, strideNo := 4097 })

theorem wit_tasks :
    (let s := (base .active).modV .B (fun x => { x with todo := [2, 3] })
     s.canStart .B = true ∧ (s.v .B).todo = [2, 3] ∧ s.blk.cyc.tasks[2]? = some task0 ∧ (s.v .B).mem.ecc = []) ∧
      (tasked 0).executing .B = true ∧ ((tasked 0).v .B).core.count + 1000000 ≤ (tasked 0).budget ((tasked 0).v .B) ∧
      (tasked 0).budget ((tasked 0).v .B) < ((tasked 0).v .B).core.count + 1000001 ∧ (tasked 0).debugging .B = false ∧
      (tasked 0).trial .B = false ∧ (tasked 0).traps = [] ∧ (tasked 0).inService .B = true ∧ (tasked 256).runsApp .B = true ∧
      (tasked 256).debugging .B = false ∧ 256 ≤ ((tasked 256).v .B).core.retired ∧ ((tasked 255).v .B).core.retired < 256 := by
  decide +kernel

/-- Task 0 has output words 16 to 23 and was released; a last stride of 100 instructions is open. -/
def phaseTwo : State :=
  let s := (inF 6500000 .active).modAll (fun _ x => { x with released := [0], core := { x.core with retired := 100 } })
  { s with blk := { s.blk with cyc := { s.blk.cyc with tasks := List.replicate 8 { task0 with outBase := 4, outSize := 2 } } } }

theorem wit_phase_two :
    phaseTwo.boundaries = true ∧ (phaseTwo.elapse 1).phase = 2 ∧ phaseTwo.p2 = false ∧
      ∀ v ∈ [Vtx.A, .B, .C], phaseTwo.runsApp v = true ∧ (phaseTwo.v v).cur = none ∧ (phaseTwo.v v).todo = [] ∧
        (phaseTwo.v v).core.retired < 256 ∧ (phaseTwo.v v).lat.held = [] ∧ phaseTwo.imgAddrs (phaseTwo.v v).released ≠ [] ∧
        ∀ a ∈ phaseTwo.imgAddrs (phaseTwo.v v).released, (phaseTwo.v v).mem.bad .imgOut a = false := by decide +kernel

/-- Slice A at the image words, with entry `e` of vertex B on its way and what waits from A and C. -/
def entryState (e : Entry) (qa qc : List Entry) : State :=
  let s := { inF 6600000 .active with p2 := true }
  let feed (x : Vtx) (next : Nat) (q : List Entry) (s : State) : State :=
    s.modSlice .A (fun l => { l with feed := l.feed.set x { l.feed.get x with stage := 3, next := next, queue := q }, imgPrev := some 77 })
  { feed .A 8 qa (feed .C 8 qc (feed .B 7 [] s)) with links := s.links.set .B ((s.links.get .B).set .A [e]) }

/-- The checks of MayTake, to be decided. -/
theorem mayTake_of {s : State} {y x : Vtx} {e : Entry} {rest : List Entry}
    (h : (decide ((s.links.get x).get y = e :: rest ∧ s.strength = 3 ∧ (s.v y).slice.excl = Tri.all false ∧
      (s.v y).slice.noMaj = false ∧ (s.mode ≠ .start ∧ s.mode ≠ .isolated ∧ s.mode ≠ .halt) ∧ s.blk.cen.rejVtx = none ∧
      ((s.v y).slice.feed.get x).queue = [] ∧ ((s.v y).slice.feed.get x).vrd = none)) = true) : MayTake s y x e rest := by
  obtain ⟨a, b, c, d, e, f, g, i⟩ := of_decide_eq_true h
  exact ⟨a, b, c, d, e, f, g, i⟩

theorem wit_entries_out_of_sequence :
    MayTake (entryState ⟨.img, 9, 5⟩ [] []) .A .B ⟨.img, 9, 5⟩ [] ∧
      (((entryState ⟨.img, 9, 5⟩ [] []).v .A).slice.feed.get .B).align ⟨.img, 9, 5⟩ = none ∧
      ((base .active).links.get .B).get .A = [] :=
  ⟨mayTake_of (by decide +kernel), by decide +kernel⟩

theorem wit_entries_in_sequence :
    MayTake (entryState ⟨.img, 7, 5⟩ [] []) .A .B ⟨.img, 7, 5⟩ [] ∧
      MayTake (entryState ⟨.img, 7, 5⟩ [⟨.img, 7, 5⟩] [⟨.img, 7, 5⟩]) .A .B ⟨.img, 7, 5⟩ [] ∧
      MayTake (entryState ⟨.img, 7, 5⟩ [⟨.img, 7, 6⟩] [⟨.img, 7, 6⟩]) .A .B ⟨.img, 7, 5⟩ [] ∧
      ((((entryState ⟨.img, 7, 5⟩ [] []).v .A).slice.feed.get .B).align ⟨.img, 7, 5⟩).isSome = true ∧
      Entry.ofBits (Entry.bits ⟨.img, 7, 5⟩ ^^^ 0) = ⟨.img, 7, 5⟩ :=
  ⟨mayTake_of (by decide +kernel), mayTake_of (by decide +kernel), mayTake_of (by decide +kernel), by decide +kernel⟩

/-- WD of vertex B, which slice C has excluded already: slice A is the last of the two others. -/
theorem wit_withdrawals :
    let s := (entryState (wdEntry (.trap .trap)) [] []).modSlice .C (fun l => { l with excl := l.excl.set .B true })
    MayTake s .A .B (wdEntry (.trap .trap)) [] ∧ (wdEntry (.trap .trap)).typ = .wd ∧ (wdEntry (.trap .trap)).seq = 0 ∧
      (∀ z ∈ [Vtx.A, .B, .C], ((s.v .A).slice.feed.get z).queue = []) ∧ (s.v .C).slice.excl.get .B = true ∧ Vtx.A ≠ Vtx.B :=
  ⟨mayTake_of (by decide +kernel), by decide +kernel⟩

/-- `ns` into phase 2 with every sender at `stage` for every slice. -/
def late (ns stage : Nat) : State :=
  let s := { inF (26 * 250000 + ns) .active with p2 := true, p2End := false }
  s.modAll (fun _ x => { x with slice := { x.slice with feed :=
    ⟨{ x.slice.feed.a with stage := stage }, { x.slice.feed.b with stage := stage }, { x.slice.feed.c with stage := stage }⟩ } })

theorem wit_late :
    ∀ st ∈ [3, 4, 5], (late 400000 st).boundaries = true ∧ (late 400000 st).p2 = true ∧ ((late 400000 st).elapse 1).phase = 2 ∧
      (late 400000 st).appMode = true ∧ (late 400000 st).blk.cen.rejVtx = none ∧
      wEndNs (late 400000 st).profile ≤ ((late 400000 st).elapse 1).inPhase2 ∧
      vrdNs (late 450000 st).profile ≤ ((late 450000 st).elapse 1).inPhase2 ∧ ((late 450000 st).elapse 1).phase = 2 ∧
      (late 400000 st).inService .A = true ∧ .B ∈ (late 400000 st).members .A ∧
      ((late 400000 st).v .A).slice.vrdSent = false ∧
      (((late 400000 st).v .A).slice.feed.get .B).stage = st ∧ (((late 400000 st).v .A).slice.feed.get .B).queue = [] := by
  decide +kernel

/-- The same with everything received but the stages of vertex B, of which the slices of the two others have seen `stage`, and with the
verdict `n`. -/
def lateOnly (ns stage : Nat) (n : Option Nat) : State :=
  (late ns 5).modAll (fun v x => { x with slice := { x.slice with
    verdict := n, feed := if v = .B then x.slice.feed else { x.slice.feed with b := { x.slice.feed.b with stage := stage } } } })

/-- Stages 3 and 4 are late at W_END and at VRD_LIMIT for the slices of A and C alone. -/
theorem wit_one_late : OneLate (lateOnly 400000 3 none) .B 4 ∧ OneLate (lateOnly 450000 4 none) .B 5 := by
  refine ⟨⟨by decide +kernel, by decide +kernel, ?_, ?_, ?_, ?_, ?_, ?_⟩,
    ⟨by decide +kernel, by decide +kernel, ?_, ?_, ?_, ?_, ?_, ?_⟩⟩
  all_goals first
    | (intro y; cases y <;> decide +kernel)
    | (intro y h; cases y <;> first | exact absurd rfl h | decide +kernel)
    | (intro y z h; cases y <;> cases z <;> first | exact absurd rfl h | decide +kernel)
    | (intro y a b h k; cases y <;> cases a <;> cases b <;> first | exact absurd rfl h | exact absurd rfl k | decide +kernel)

/-- Vertex B late at strength 2; everything received, with the verdict to exclude vertex B and with one of no majority, at the last key
instant and 1 µs after it. -/
theorem wit_late_others :
    (∀ n ∈ [4, 5], let s := (lateOnly 450000 (n - 1) none).modCen (fun c => { c with excl := ⟨false, false, true⟩ })
      s.strength = 2 ∧ s.mode ≠ .isolated ∧ s.inService .A = true ∧ .B ∈ s.members .A ∧
        ((s.v .A).slice.feed.get .B).stage < n ∧ ∀ z ∈ [Vtx.A, .B, .C], (s.v z).slice.noMaj = false) ∧
      (∀ ns ∈ [450000, 451000], ∀ n ∈ [2, 8], let s := lateOnly ns 5 (some n)
        ∀ y ∈ [Vtx.A, .B, .C], s.inService y = true ∧ (s.v y).slice.verdict = some n ∧ testB n 3 = decide (n = 8) ∧
          (s.v y).slice.keySent = false ∧ (s.v y).slice.checkFail = false ∧ (s.v y).slice.noMaj = false ∧
          (s.v y).stopped = false ∧ decide ((s.elapse 1).inPhase2 ≤ lastKeyNs (s.elapse 1).profile) = decide (ns = 450000) ∧
          ∀ x ∈ [Vtx.A, .B, .C], 5 ≤ ((s.v y).slice.feed.get x).stage ∧ ((s.v y).slice.feed.get x).queue = []) := by
  decide +kernel

/-- The receiver of the network chip holds what `h` says. -/
def keyState (h : List HeldKey) : State :=
  let s := { inF (26 * 250000 + 200000) .active with p2 := true, p2End := false }
  s.modKey .nt (fun k => { k with held := h, pair := none })

/-- The key word of vertex B for this furlong, and vertex A's, exactly 100 µs old. -/
def wordB : BitVec 48 := keyWordOf .B 0 100025 3 77
def heldA : HeldKey := ⟨.A, keyWordOf .A 0 100025 3 77, 1000000000001 - 12500⟩
def heldB : HeldKey := ⟨.B, wordB, 5⟩

theorem wit_keys :
    (keyState []).boundaries = true ∧ ((keyState []).elapse 1).phase = 2 ∧ ((inF 0 .active).elapse 1).phase ≠ 2 ∧
      ((keyState []).keyRx .nt).ignores false wordB = true ∧ ((keyState []).keyRx .nt).ignores true wordB = false ∧
      keySrc wordB = some .B ∧ (wordB.extractLsb' 24 8).toNat = (keyState []).fnum % 256 ∧
      ((keyState []).keyRx .nt).held = [] ∧ ((keyState [heldA]).keyRx .nt).held = [heldA] ∧ heldA.src ≠ .B ∧
      ((keyState [heldA]).keyRx .nt).pair = none ∧ keyBits heldA.word = keyBits wordB ∧
      ((keyState [heldA]).elapse 1).nt - heldA.endAt = 12500 ∧ ((keyState [heldA]).keyRx .nt).ignores true wordB = false ∧
      ((keyState [heldB]).keyRx .nt).held = [heldB] ∧ heldA.endAt < ((keyState []).elapse 1).nt ∧
      heldB.endAt < ((keyState []).elapse 1).nt ∧ (wordB.extractLsb' 24 8).toNat ≠ ({ keyState [] with blk :=
        { (keyState []).blk with cyc := { (keyState []).blk.cyc with fnum := 100026 } } } : State).fnum % 256 := by decide +kernel

theorem wit_commits :
    (let s := { base .active with nic := { (base .active).nic with lastCommit := some 5, copied := false } }
     s.nic.lastCommit ≠ none ∧ s.nic.copied = false ∧ ∀ v ∈ [Vtx.A, .B, .C], (s.v v).mem.ecc = [] ∧
       ∀ a ∈ s.imgAddrs (List.range 8), (s.v v).mem.txBad a = false) ∧
      (let s := { inF (28 * 250000) .active with p2 := true, p2End := false }
       s.boundaries = true ∧ s.p2End = false ∧ (s.elapse 1).phase = 3) ∧
      (∀ n ∈ [1, 2], let s := (base .active).modSio (fun x => { x with commits := true, nocommit := n })
        s.blk.sio.commits = true ∧ s.blk.sio.wdt = false ∧ s.blk.sio.nocommit = n) ∧
      2 * furlongNs (base .active).profile + 1000000 = 21000000 := by decide +kernel

/-! ### Witnesses: the bus -/

/-- 100 µs into the furlong, with the committing pair A and C. -/
def bus : State :=
  { inF 100000 .active with nic := { (base .active).nic with pair := some (.A, .C), lastCommit := some 100024 } }

/-- Vertex C's transmit bank differs in the first payload word of the slot. -/
def busDiffers : State :=
  bus.modV .C (fun x => { x with mem := x.mem.setTransmit [(0x02000000 + 4 * 101, 9)] })

/-- `ns` into the furlong, one NT clock later. -/
def busAt (ns : Nat) : State := { bus with clock := ⟨1000, 250000000 + ns - 8, 0⟩ }

/-- 1 µs before slot 4 of rod 0 of the next furlong, with banks that agree and banks that differ. -/
theorem wit_slot_fetch :
    (∀ ns ∈ [9999000, 9999007], ((busAt ns).elapse 1).atSlot tMatrix 0 4 (-1000) = true) ∧
      bus.blk.ttb.matrix = some tMatrix ∧ bus.blk.ttb.pos = some posA ∧ bus.nic.pair = some (.A, .C) ∧ bus.loaded = some tContent ∧
      descAt tMatrix 0 4 = some (0, desc0) ∧ tContent.hdr.bindings[desc0.bind]? = some ⟨100, 101, 4, 0, true⟩ ∧
      descDir posA desc0 = 2 ∧ desc0.status = false ∧ desc0.bind ≠ 0xFFF ∧ bus.sending = true ∧ bus.soonActive = true ∧
      bus.commandsRun = true ∧ bus.nic.lastCommit = some 100024 ∧
      (∀ v ∈ [Vtx.A, .B, .C], ∀ k ∈ bindAddrs ⟨100, 101, 4, 0, true⟩ 4, (bus.v v).mem.txBad k = false) ∧
      (∀ k ∈ bindAddrs ⟨100, 101, 4, 0, true⟩ 4, (bus.v .A).mem.txWord k = (bus.v .C).mem.txWord k) ∧
      (∃ k ∈ bindAddrs ⟨100, 101, 4, 0, true⟩ 4, (busDiffers.v .A).mem.txWord k ≠ (busDiffers.v .C).mem.txWord k) := by
  decide +kernel

/-- A slot that was fetched, with the payload `p`, at its TS. -/
def fetchedBus (p : Option (List Word)) : State :=
  { busAt 250 with nic := { bus.nic with fetched := some ⟨0, 4, p, [1, 2, 3, 4], [1, 2, 3, 4], false, true⟩ } }

theorem wit_slot_transmit :
    (fetchedBus none).mode = .active ∧ (fetchedBus none).commandsRun = true ∧ (fetchedBus (some [1, 2, 3, 4])).maySend .X = true ∧
      ((fetchedBus none).elapse 1).atSlot tMatrix 0 4 250 = true ∧
      (fetchedBus (some [1, 2, 3, 4])).maySend .Y = true ∧ (fetchedBus (some [1, 2, 3, 4])).slotDelay .X = 0 ∧
      (fetchedBus (some [1, 2, 3, 4])).slotDelay .Y = 0 ∧
      (let u := (fetchedBus (some [1, 2, 3, 4])).elapse 1
       u.permits .X u.time (u.time + 8 * frameBytes 4) = true ∧ u.permits .Y u.time (u.time + 8 * frameBytes 4) = true) ∧
      (fetchedBus none).inService .A = true ∧ ((fetchedBus none).v .A).recs.length < 64 := by
  decide +kernel

/-- The STATUS slot, in ACTIVE and in HALT. -/
theorem wit_status :
    descAt tMatrix 0 6 = some (2, desc2) ∧ descDir posA desc2 = 2 ∧ desc2.status = true ∧ 1 ≤ desc2.plen ∧
      ∀ m ∈ [Mode.active, .halt],
        let s := { base m with clock := ⟨1000, 250000000 + 20250 - 8, 0⟩ }
        let u := s.elapse 1
        s.sending = true ∧ 0 = desc2.base ∧ s.maySend .X = true ∧ s.maySend .Y = true ∧ s.slotDelay .X = 0 ∧ s.slotDelay .Y = 0 ∧
          u.atSlot tMatrix 0 6 250 = true ∧ u.permits .X u.time (u.time + 8 * frameBytes 4) = true ∧
          u.permits .Y u.time (u.time + 8 * frameBytes 4) = true := by
  decide +kernel

/-- The STATUS slot with the babbling transmitter of network Y cut, network X free. -/
theorem wit_babble_note :
    let s := { (base .active).modTtb (fun b => { b with babble := b.babble.set .Y true }) with clock := ⟨1000, 250000000 + 20250 - 8, 0⟩ }
    let u := s.elapse 1
    s.sending = true ∧ s.mode ≠ .halt ∧ Net.X ≠ Net.Y ∧ s.blk.ttb.babble.get .Y = true ∧ s.maySend .X = true ∧ s.slotDelay .X = 0 ∧
      u.atSlot tMatrix 0 6 250 = true ∧ u.permits .X u.time (u.time + 8 * frameBytes 4) = true := by
  decide +kernel

/-- An event frame of 3 words for queue 50 with its time stamp, launch time and networks. -/
def evt0 (ts : Nat) (l : Option Nat) : TxEvent := ⟨50, 7, [1, 2, 3], ts, 0, l, true, true, 100024, [1, 2, 3], [1, 2, 3]⟩
def busNow : Nat := (bus.elapse 1).time

/-- A countdown of 5 on network X with an event frame waiting, `ns` into rod 0. -/
def arbState (ns : Nat) : State :=
  { bus with
    clock := ⟨1000, 250000000 + ns - 8, 0⟩,
    nic := { bus.nic with countdown := ⟨some 5, none⟩, txEvents := [evt0 busNow none] } }

theorem wit_arbitration :
    ((arbState 100000).elapse 1).inArb = true ∧ (arbState 100000).nic.countdown.get .X = some 5 ∧ 4 < 5 ∧ 5 ≤ 5 ∧
      (arbState 100000).blk.ttb.matrix = some tMatrix ∧
      ((arbState 100000).elapse 1).nextWaiting .X = some (.event (evt0 busNow none)) ∧
      ((arbState 100000).elapse 1).inRodNs + 8 * frameBytes 3 + 8 * (arbState 100000).arbres ≤ arbEnd (arbState 100000).profile ∧ ((arbState 100000).elapse 1).slotDelay .X = 0 ∧
      ((arbState 248999).elapse 1).inArb = true ∧
      ((arbState 248999).elapse 1).nextWaiting .X = some (.event (evt0 busNow none)) ∧
      arbEnd (arbState 248999).profile < ((arbState 248999).elapse 1).inRodNs + 8 * frameBytes 3 + 8 * (arbState 248999).arbres := by
  decide +kernel

/-- Copies exactly 2 × L old and 1 ns younger; launch times reached and not. -/
theorem wit_copies_expire :
    bus.blk.ttb.qdrop[50]? = some 0 ∧ (busNow + 0 < (evt0 (busNow - 2 * furlongNs .acre + 1) none).ts + 2 * furlongNs .acre) ∧
      (evt0 (busNow - 2 * furlongNs .acre) none).ts + 2 * furlongNs .acre ≤ busNow ∧
      (evt0 busNow (some busNow)).launch = some busNow ∧ bus.nic.countdown.get .X = none ∧ (bus.elapse 1).inArb = true := by
  decide +kernel

/-- A command frame of the partner with two hops left. -/
def hopFrame : Frame := ⟨true, 0x1234, 5, 0x10, kSlot, posB.src, rodslotOf 3 5, 2, 4, 0, 0, [1, 2, 3, 4], 0, 0, 6⟩

theorem wit_forwarding :
    (∀ p ∈ [(Port.X1, Net.X), (.X2, .X), (.Y1, .Y), (.Y2, .Y)], portNet p.1 = some p.2 ∧ bus.portUp p.1 = true ∧
      bus.portUp (otherPort p.1) = true ∧ bus.cutNet p.2 = false ∧ bus.nic.buffered (otherPort p.1) = false ∧
      ({ bus with nic := { bus.nic with pass := [(otherPort p.1, .swisko hopFrame, 7)] } }).nic.buffered (otherPort p.1) = true) ∧
      bus.inReset = false ∧ hopFrame.etype = bus.etype ∧ ({ hopFrame with etype := 1 }).etype ≠ bus.etype ∧ hopFrame.hop ≠ 0 ∧
      hopFrame.src ≠ bus.ownSrc ∧ hopFrame.fcsOk = true := by decide +kernel

/-- A buffered frame 240 ns, 400 ns and 408 ns old, and one in the own slot 4 at any age. -/
theorem wit_release_of_the_buffer :
    (∀ k ∈ [30, 50], 240 ≤ 8 * (((busAt 15000).elapse 1).nt - (1000000000001 - k)) ∧
      8 * (((busAt 15000).elapse 1).nt - (1000000000001 - k)) ≤ 400) ∧
      (let u := (busAt 15000).elapse 1
       400 < 8 * (u.nt - (1000000000001 - 51)) ∧ u.permits .X u.time (u.time + 8 * frameBytes 4) = false) ∧
      (let u := (busAt 250).elapse 1
       400 < 8 * (u.nt - (1000000000001 - 51)) ∧ u.permits .X u.time (u.time + 8 * frameBytes 4) = true) ∧ bus.cutNet .X = false := by
  decide +kernel

/-- The frame that descriptor 1 awaits in rod 0, and the instant at which its preamble is due. -/
def rxFurlong : Nat := bus.time / furlongNs .acre
def rxFrame : Frame :=
  ({ hopFrame with
     rodslot := rodslotOf 0 5, seq := w32 (rodCount rxFurlong 0),
     ts := BitVec.ofNat 64 (slotTs tMatrix .acre rxFurlong 0 5), hop := 3 } : Frame).coded 9
def rxOther : Frame := ({ rxFrame with payload := [9, 9, 9, 9] } : Frame).coded 9
def rxPre : Nat := slotTs tMatrix .acre rxFurlong 0 5 + 100

theorem wit_copies :
    bus.inReset = false ∧ rxFrame.src ≠ posA.src ∧ stepOne tMatrix rxFrame = true ∧ bus.nic.openCopies = [] ∧
      ({ rxFrame with code1 := rxFrame.code1 + 1 }).codesOk bus.blk.ttb.mid = false ∧ rxFrame.codesOk bus.blk.ttb.mid = true ∧
      stepFour tMatrix bus.profile rxFrame rxPre = true ∧ stepFive tMatrix bus.profile .X rxFrame rxPre = true ∧
      bus.blk.ttb.state = .integrated ∧ rxFrame.kind = kSlot ∧ roleOf tMatrix posA .X rxFrame = .rx 1 ∧ bus.nic.decided = [] ∧
      sameFrame rxFrame rxFrame = true ∧ sameFrame rxOther rxFrame = true ∧ sameCopy bus.blk.ttb.mid rxFrame rxFrame = true ∧
      sameCopy bus.blk.ttb.mid rxOther rxFrame = false ∧ bus.nic.seen[1]? = some ⟨[], []⟩ := by decide +kernel

/-- It can enter its binding, also behind one of an earlier rod, and its window has closed. -/
theorem wit_enters :
    desc1.bind ≠ 0xFFF ∧ bus.queueHeld desc1.queue = false ∧
      bus.nic.slotUnits tMatrix desc1.queue + frameUnits rxFrame.plen ≤ bus.depthOf desc1.queue ∧
      bus.nic.rxBind.find? (fun q => q.1 == desc1.bind) = none ∧
      newer rxFrame.seq (rxFrame.seq - 1) = true ∧
      (let s := { bus with nic := { bus.nic with openCopies := [⟨rxFrame, .X, 1000000000001, none⟩] } }
       s.nic.openCopies = [⟨rxFrame, .X, 1000000000001, none⟩] ∧ 1000000000001 ≤ (s.elapse 1).nt) := by decide +kernel

/-- The receive occurrence of descriptor 1 at rod 3 of its furlong is due. -/
theorem wit_occurrences :
    (let s := inF 800000 .active
     s.nic.openCopies = [] ∧ s.nic.occ[1]? = some ⟨none, false, false⟩ ∧ s.nic.seen[1]? = some ⟨[], []⟩ ∧
       (∃ d, d = desc1 ∧ tMatrix.slots[1]? = some d ∧
         ((s.elapse 1).lastDue tMatrix d).isSome = true ∧ descDir posA d = 1)) := by
  refine ⟨by decide +kernel, by decide +kernel, by decide +kernel, _, rfl, by decide +kernel⟩

/-- A guardian of network X with its reference and `n` missed windows. -/
def guarded (ref : Bool) (n : Nat) : State := { bus with guard := bus.guard.set .X ⟨some tDescs, ref, n, false⟩ }

theorem wit_guardians :
    (∀ p ∈ [Port.X1, .X2, .Y1, .Y2], portNet p ≠ none ∧ p ∉ bus.nic.heldDown) ∧ bus.boundaries = true ∧
      ((guarded false 0).guard.get .X).cut = false ∧ ((guarded false 0).guard.get .X).reference = false ∧
      (∀ n ∈ [0, 1, 2], ((guarded true n).guard.get .X).reference = true ∧ ((guarded true n).guard.get .X).misses = n) ∧
      bus.cutNet .X = false ∧
      (∀ ns ∈ [8, 10500, 19500], let u := (busAt ns).elapse 1
       u.permits .X u.time u.time = true) ∧
      (∀ ns ∈ [10508, 15000, 19492], let u := (busAt ns).elapse 1
       (busAt ns).cutNet .X = false ∧ u.permits .X u.time u.time = false) ∧
      bus.inService .A = true ∧ (bus.v .A).recs.length < 64 := by decide +kernel

theorem wit_coldstart :
    (let s := bus.modTtb (fun b => { b with state := .listen, count := 90 })
     s.blk.ttb.state = .listen ∧ s.nic.integBy = none ∧ s.coldCapable = true ∧ s.lt ≤ s.blk.ttb.count) ∧
      (let s := ({ bus with nic := { bus.nic with csRod := 80 } }).modTtb (fun b => { b with state := .coldstart })
       s.blk.ttb.state = .coldstart ∧ 80 ≤ s.nic.csRod ∧ s.inService .A = true ∧ (s.v .A).recs.length < 64) := by decide +kernel

/-! ### Witnesses: network time -/

/-- The clock in state `c` with the memory `p`, and two time-capable nodes in the matrix. -/
def clk (c : ClkState) (p : Ptp) : State :=
  { inF 100000 .active with
    ptp := p,
    blk := { (base .active).blk with
      ntm := { (base .active).blk.ntm with state := c, gmcap := true },
      ttb := { (base .active).blk.ttb with
        matrix := some { tMatrix with timeNodes := [⟨77, true, 1, 2, 10, 20⟩, ⟨78, true, 1, 2, 10, 20⟩] } } } }

/-- Node 77 as the selected master, last heard at `a`. -/
def mast (a : Nat) : Ptp := { Ptp.reset with selected := some ⟨77, 1, 248, 0xFE, 0xFFFF, 2, 0, a⟩ }

theorem wit_clock_profile :
    (clk .wait (mast 0)).ptpOk ((clk .wait (mast 0)).ptpHdr 5) (-3) = false ∧
      (clk .wait (mast 0)).ptpOk ((clk .wait (mast 0)).ptpHdr 5) (-2) = false ∧
      (clk .wait (mast 0)).ptpOk ((clk .wait (mast 0)).ptpHdr 5) 0 = false ∧
      (clk .wait (mast 0)).ptpOk ((clk .wait (mast 0)).ptpHdr (-3)) (-3) = true ∧
      (clk .wait (mast 0)).ptpOk ((clk .wait (mast 0)).ptpHdr (-2)) (-2) = true ∧
      (clk .wait (mast 0)).ptpOk ((clk .wait (mast 0)).ptpHdr 0) 0 = true := by decide +kernel

/-- Whatever the module's own identity is, one of two nodes of the matrix is another, and so is one of two others. -/
theorem wit_announce :
    (∃ id, id ≠ (clk .wait Ptp.reset).clockId ∧ (∃ n, (clk .wait Ptp.reset).timeNode id = some n) ∧
      (clk .wait Ptp.reset).ptp.isSelected id = false) ∧
      (∃ id, id ≠ (clk .wait Ptp.reset).clockId ∧ (clk .wait Ptp.reset).timeNode id = none) ∧
      (clk .wait Ptp.reset).ptpOk ((clk .wait Ptp.reset).ptpHdr (-2)) (-2) = true ∧ (clk .wait Ptp.reset).timeRuns = true ∧
      ((clk .wait Ptp.reset).elapse 1).otherFull 61 1 = false ∧ (clk .wait Ptp.reset).blk.ntm.state = .wait := by
  refine ⟨?_, ?_, by decide +kernel⟩
  · by_cases h : (clk .wait Ptp.reset).clockId = 77
    · exact ⟨78, by rw [h]; decide, ⟨⟨78, true, 1, 2, 10, 20⟩, by decide +kernel⟩, by decide +kernel⟩
    · exact ⟨77, fun e => h e.symm, ⟨⟨77, true, 1, 2, 10, 20⟩, by decide +kernel⟩, by decide +kernel⟩
  · by_cases h : (clk .wait Ptp.reset).clockId = 79
    · exact ⟨80, by rw [h]; decide, by decide +kernel⟩
    · exact ⟨79, fun e => h e.symm, by decide +kernel⟩

/-- Offsets of 1 000 ns and 1 001 ns, first and again. -/
theorem wit_sync :
    (clk .locking (mast 0)).ptp.isSelected 77 = true ∧ (clk .locking (mast 0)).ptp.stepped = false ∧
      (∀ c ∈ [ClkState.locking, .locked], (clk c (mast 0)).ptpOk ((clk c (mast 0)).ptpHdr (-3)) (-3) = true ∧
        (clk c (mast 0)).timeRuns = true ∧ ((clk c (mast 0)).elapse 1).otherFull 60 1 = false) ∧
      (clk .locking (mast 0)).blk.ntm.state = .locking ∧
      (∀ d ∈ [1000, 1001], (((clk .locked (mast 0)).elapse 1).time : Int) -
        ((((clk .locked (mast 0)).elapse 1).time - d - (clk .locked (mast 0)).pathDelay .X : Nat) : Int) - 0 / 65536 -
          (clk .locked (mast 0)).pathDelay .X = d) ∧
      (clk .locked (mast 0)).blk.ntm.state = .locked ∧ (clk .locked (mast 0)).ptp.overRun = 0 ∧
      1 ≤ (clk .locked { mast 0 with overRun := 1 }).ptp.overRun ∧ (clk .locked (mast 0)).blk.ntm.rate.natAbs ≤ 109951163 ∧
      (clk .master Ptp.reset).blk.ntm.state = .master := by decide +kernel

theorem wit_delay :
    (let s := clk .locked { mast 0 with reqSent := ⟨some (9, 1000), none⟩, msd := ⟨some 40, none⟩ }
     let h : PtpHdr := { s.ptpHdr 0 with port := 1 }
     s.ptpOk h 0 = true ∧ (s.elapse 1).otherFull 60 1 = false ∧ s.ptp.isSelected 77 = true ∧
       s.ptp.reqSent.get (netOfPort h.port) = some (9, 1000) ∧ s.ptp.msd.get (netOfPort h.port) = some 40 ∧
       s.timeNode 77 = some ⟨77, true, 1, 2, 10, 20⟩) ∧
      (let s := clk .master Ptp.reset
       s.ptpOk (s.ptpHdr 0) 0 = true ∧ (s.elapse 1).otherFull 60 1 = false ∧ s.blk.ntm.state = .master) := by decide +kernel

/-- 1 000 000 000 000 NT clocks have passed when a command comes after one more; every interval ends then or one clock later. -/
theorem wit_clock_timers :
    (let s := clk .locked { mast 0 with lastReq := some 999875000001 }
     s.blk.ntm.state = .locked ∧ (s.elapse 1).otherFull 60 1 = false ∧ s.ptp.lastReq = some 999875000001 ∧
       (s.elapse 1).nt - 999875000001 = 125000000) ∧
      (let s := clk .master { Ptp.reset with lastMSync := some 5, lastMAnn := some 6 }
       s.blk.ntm.state = .master ∧ s.blk.ttb.state = .integrated ∧ (s.elapse 1).otherFull 60 1 = false ∧
         (s.elapse 1).otherFull 61 1 = false ∧ s.ptp.lastMSync = some 5 ∧ s.ptp.lastMAnn = some 6 ∧
         15625000 ≤ (s.elapse 1).nt - 5 ∧ 31250000 ≤ (s.elapse 1).nt - 6) ∧
      (∀ a ∈ [1000000000001 - 46875000, 1000000000002 - 46875000],
        let s := clk .locked { mast 0 with enteredAt := 7, lastSync := ⟨some a, some 7⟩ }
        s.ptp.lastSync = ⟨some a, some 7⟩ ∧ s.ptp.enteredAt ≤ max a 7 ∧
          (46875000 ≤ (s.elapse 1).nt - max a 7 ∨ (s.elapse 1).nt - max a 7 < 46875000)) ∧
      (∀ a ∈ [1000000000001 - 93750000, 1000000000002 - 93750000], ∀ late ∈ [false, true],
        let s := clk .locked { mast a with timedOut := late, candidate := late }
        (s.ptp.selected.map MasterInfo.at_) = some a ∧ s.ptp.timedOut = late ∧ s.ptp.candidate = late ∧
          ((s.elapse 1).nt - a = 93750000 ∨ (s.elapse 1).nt - a < 93750000)) ∧
      (let s := { clk .wait Ptp.reset with start := { (base .active).start with step := 6, acquired := false } }
       s.blk.ntm.state = .wait ∧ s.blk.ntm.gmcap = true ∧ s.timeRuns = true ∧ s.start.acquired = false ∧ s.start.step = 6 ∧
         250000000 ≤ (s.elapse 1).nt - s.ptp.enteredAt) ∧
      (∀ a ∈ [none, some (1000000000001 - 125000000), some (1000000000002 - 125000000)],
        let s := { clk .master Ptp.reset with k3m := { (base .active).k3m with storedAt := a } }
        (s.elapse 1).wallOk = true ∧ s.k3m.failed = false ∧ s.k3m.storedAt = a ∧
          ∀ b, a = some b → ((s.elapse 1).nt - b = 125000000 ∨ (s.elapse 1).nt - b = 124999999)) := by
  refine ⟨by decide +kernel, by decide +kernel, by decide +kernel, by decide +kernel, by decide +kernel, ?_⟩
  intro a h
  simp only [List.mem_cons, List.not_mem_nil, or_false] at h
  obtain rfl | rfl | rfl := h
  · exact ⟨by decide +kernel, by decide +kernel, rfl, fun _ h => nomatch h⟩
  · exact ⟨by decide +kernel, by decide +kernel, rfl, fun b h => by cases h; decide +kernel⟩
  · exact ⟨by decide +kernel, by decide +kernel, rfl, fun b h => by cases h; decide +kernel⟩

/-- The edge FIFO with `n` entries, before and at its limit, and a change that the chip has dated `d` ns before the next clock. -/
def edges (n d : Nat) : State :=
  { bus with
    edge := { bus.edge with entries := List.replicate n edge0 },
    blk := { bus.blk with sio := { bus.blk.sio with edges := [{ edge0 with time := (bus.elapse 1).time - d }] } } }

theorem wit_input_edges :
    bus.blk.sio.edges = [] ∧ bus.strength = 3 ∧
      (∀ d ∈ [38999, 39000], ((edges 0 d).blk.sio.edges.map (fun e => ((edges 0 d).elapse 1).time - e.time)) = [d]) ∧
      copies0.damaged = Tri.all none ∧ (edges 4095 39000).edge.entries.length < 4096 ∧
      4096 ≤ (edges 4096 39000).edge.entries.length ∧ (bus.v .A).recs.length < 64 ∧
      ({ copies0 with damaged := ⟨none, none, some { edge0 with input := 9 }⟩ } : EdgeCopies).damaged =
        ⟨none, none, some { edge0 with input := 9 }⟩ ∧ (∀ e : EdgeEntry, e.input ≠ 9 → { edge0 with input := 9 } ≠ e) := by
  refine ⟨by decide +kernel, by decide +kernel, by decide +kernel, by decide +kernel, by decide +kernel, by decide +kernel,
    by decide +kernel, rfl, ?_⟩
  rintro e h rfl
  exact h rfl

/-! ### Witnesses: local inputs and outputs -/

/-- Parameters: pairs 0 to 2 of kinds 1 to 3, pair 3 of the second kind of 3, pair 4 with a reset input, pair 5 unused. -/
def ioParams : IoParams :=
  { seq := 3,
    pairs := [⟨1, 0, 1, 10, 0⟩, ⟨2, 0, 1, 10, 0⟩, ⟨3, 0, 1, 10, 0⟩, ⟨3, 2, 3, 10, 0⟩, ⟨4, 0, 0, 10, 5⟩, ⟨0, 0, 0, 10, 0⟩] ++
      List.replicate 10 ⟨1, 0, 1, 10, 0⟩,
    imin := List.replicate 16 5, qasafe := [0, 1, 2, 0, 1, 2, 0, 0] }

/-- The safe I/O chip with these parameters, changed by `f`. -/
def io (f : Sio → Sio) : State := (inF 300000 .active).modSio (fun x => f { x with params := ioParams, entered := true, commits := true })

/-- The same on a whole millisecond, one NT clock later. -/
def ticking (f : Sio → Sio) : State := { io f with clock := ⟨1000, 250999992, 0⟩ }

/-- The chip ticks at the clock that comes next. -/
def ticked (f : Sio → Sio) : State := ticking (fun x => f { x with lastTick := some 1000000000001 })

theorem wit_sized : Sized (io id).blk.sio := by unfold Sized; decide +kernel

/-- The first and the last input, about to enter OPEN, with the capture on and barred by a test pulse; the chip at a tick; a pair in
discrepancy with both channels safe and with one. -/
theorem wit_inputs :
    (∀ b ∈ [40, 100], classOf b = classOf 40) ∧ classOf 40 ≠ classOf 39 ∧ classRun [40, 41, 42, 100, 39] = none ∧
      classRun [40, 40, 40, 40] = none ∧
      ((io id).elapse 1).inputHeld 0 = false ∧ ((io id).elapse 1).inputHeld 31 = false ∧
      ((io id).blk.sio.input 0).cls ≠ classOf 40 ∧ ((io id).blk.sio.input 31).cls ≠ classOf 40 ∧
      ((io id).elapse 1).captures 0 cClosed cOpen = true ∧
      (let s := io (fun x => { x with tps := modNth x.tps 3 (fun q => { q with pulseAt := some 999999962001 }) })
       (s.elapse 1).captures 0 cClosed cBreak = false ∧ (s.elapse 1).captures 0 cClosed cOpen = true ∧
         (s.elapse 1).inputHeld 0 = false) ∧
      (io id).blk.sio.fail = false ∧ ((ticking id).elapse 1).tickDue = true ∧ (ticking id).blk.sio.fail = false ∧
      ((io id).elapse 1).tickDue = false ∧ (io (fun x => { x with fail := true })).blk.sio.fail = true ∧
      ((io id).blk.sio.cfg 0).func ≠ 0 ∧ ((io id).blk.sio.cfg 15).func ≠ 0 ∧ ((io id).blk.sio.pair 0).disc = false ∧
      (io id).blk.sio.inHand 0 = false ∧
      (let f := fun (x : Sio) => { x with
         pairs := modNth x.pairs 0 (fun p => { p with disc := true }),
         inputs := x.inputs.zipIdx.map (fun (y, i) => { y with cls := permClass (x.func i) i ^^^ 1 }) }
       ((ticking f).elapse 1).tickDue = true ∧ ((ticking f).blk.sio.pair 0).disc = true ∧
         (ticking f).blk.sio.bothSafe 1000000000001 0 = true ∧ ((ticking f).blk.sio.discClearing 1000000000001) = [0]) ∧
      (let f := fun (x : Sio) => { x with pairs := modNth x.pairs 0 (fun p => { p with disc := true }) }
       ((ticking f).blk.sio.pair 0).disc = true ∧ (ticking f).blk.sio.bothSafe 1000000000001 0 = false) := by decide +kernel

/-- At a tick: ten ticks of discrepancy at pairs 0 and 2 (a two-hand pair); 20 bad samples in classes 1 and 0; a latch that may clear; 501
ticks. -/
theorem wit_input_latches :
    (∀ p ∈ [0, 2], let s := ticked (fun x => { x with pairs := x.pairs.map (fun p => { p with count := 10 }) })
      (s.elapse 1).atTick = true ∧ s.blk.sio.fail = false ∧ (s.blk.sio.cfg p).func ≠ 0 ∧
        (s.blk.sio.pair p).count = (s.blk.sio.cfg p).dt ∧ (s.blk.sio.pair p).disc = false ∧ (s.elapse 1).supplyLow = false) ∧
      (io id).blk.sio.inHand 2 = true ∧ (io id).blk.sio.inHand 0 = false ∧
      (∀ c ∈ [0, 1], let s := ticked (fun x => { x with inputs := x.inputs.map (fun y => { y with cls := c, bad := 20 }) })
        (s.elapse 1).atTick = true ∧ s.blk.sio.func 0 ≠ 0 ∧ 20 ≤ (s.blk.sio.input 0).bad ∧ (s.blk.sio.input 0).cls = c ∧
          s.blk.sio.contact 0 = true ∧ (s.blk.sio.input 0).brk.set = false ∧ (s.blk.sio.input 0).inter.set = false) ∧
      (let s := ticked (fun x => { x with inputs := x.inputs.zipIdx.map (fun (y, i) =>
         { y with cls := permClass (x.func i) i ^^^ 1, brk := ⟨true, 1000, 2⟩ }) })
       let nt := (s.elapse 1).nt
       ∃ i, i < 32 ∧ s.blk.sio.mayClear nt i (s.blk.sio.input i).brk = true ∧
         s.blk.sio.mayClear nt i (s.blk.sio.input i).inter = false ∧ s.blk.sio.mayClear nt i (s.blk.sio.input i).cross = false) ∧
      (let s := ticked (fun x => { x with pairs := modNth x.pairs 2 (fun p => { p with hand := .one true 501 }) })
       (s.elapse 1).atTick = true ∧ (s.blk.sio.pair 2).hand = .one true 501 ∧ s.blk.sio.handBase 2 = true) := by decide +kernel

/-- Input 0, of the first kind of pair, with both channels safe and a latch that two checks have passed: it meets R316 after 1000 ticks and
not after 999. -/
theorem wit_latch_clears :
    (let s := ticked (fun x => { x with inputs := x.inputs.map (fun y => { y with cls := cOpen }) })
     LatchClears s.blk.sio (s.elapse 1).nt 0 ⟨true, 1000, 2⟩ ∧ ¬ LatchClears s.blk.sio (s.elapse 1).nt 0 ⟨true, 999, 2⟩ ∧
       ¬ LatchClears s.blk.sio (s.elapse 1).nt 0 ⟨false, 1000, 2⟩) := by
  have h : (ticked (fun x => { x with inputs := x.inputs.map (fun y => { y with cls := cOpen }) })).blk.sio.func 0 = 1 := by
    decide +kernel
  simp only [LatchClears, PairSafe, h]
  decide +kernel

/-- The first and the last TP output at the start of their pulses; a pulse 150 µs and 151 µs less a clock old; an input that failed the pulse
before; a pulse that was not checked; a restored output. -/
theorem wit_test_pulses :
    (∀ k ∈ [0, 3],
      (let s := { io id with clock := ⟨1000, 250000 + 2000000 * k - 8, 0⟩ }
       s.blk.sio.tps[k]? = some ⟨false, false, none, none, false⟩ ∧ (s.elapse 1).pulseDue k = true ∧
         ((io id).elapse 1).pulseDue k = false) ∧
        (∀ a ∈ [1000000000001 - 18750, 1000000000001 - 18874],
          let q : TpSt := ⟨false, false, none, some a, false⟩
          let s := io (fun x => { x with tps := x.tps.map (fun _ => q),
                                         inputs := x.inputs.map (fun y => { y with cls := 3, xfail := [true, true, true, true] }) })
          s.blk.sio.tps[k]? = some q ∧ 18750 ≤ (s.elapse 1).nt - a ∧ (s.elapse 1).nt - a < 18875 ∧ (s.elapse 1).supplyLow = false ∧
            s.blk.sio.pulseApplies 0 = true ∧ s.blk.sio.pulseApplies 11 = false ∧ (s.blk.sio.input 0).xfail.getD k false = true ∧
            s.blk.sio.pulsePass 0 k (if k = 0 then 20 else 0) = false ∧ (s.blk.sio.input 0).cross.set = false ∧
            s.blk.sio.fail = false) ∧
        (let q : TpSt := ⟨false, true, some (1000000000001 - 125000), none, false⟩
         (io (fun x => { x with tps := x.tps.map (fun _ => q) })).blk.sio.tps[k]? = some q ∧ q.restored 1000000000001 = true ∧
           q.restored 1000000000000 = false)) := by
  decide +kernel

/-- The first and the last test slot; every kind of test, with its expected reading; a test 20 µs and 300 µs old; a repeat; a reset test 600 µs
old; the levels at 24 V. -/
theorem wit_output_tests :
    (∀ k ∈ [0, 31], let s := { io id with clock := ⟨1000, 31250000 * k - 8, 0⟩ }
      let z := { io id with clock := ⟨999, 999999992, 0⟩ }
      let u := if k = 0 then z.elapse 1 else s.elapse 1
      u.onGrid 31250000 0 = true ∧ u.testSlot % 32 = k ∧ (io id).blk.sio.lastSlot ≠ some u.testSlot) ∧
      levelOf 2400 1601 = .high ∧ levelOf 2400 1600 = .mid ∧ levelOf 2400 800 = .mid ∧ levelOf 2400 799 = .low ∧
      (∀ a ∈ [1000000000001 - 2500, 1000000000001 - 37500],
        ∀ q ∈ [OutTest.mk 15 true true a, ⟨15, true, false, a⟩, ⟨15, false, true, a⟩, ⟨15, false, false, a⟩],
        let s := io (fun x => { x with tests := some q })
        s.blk.sio.tests = some q ∧ 2500 ≤ (s.elapse 1).nt - q.at_ ∧ (s.elapse 1).nt - q.at_ ≤ 37500 ∧
          (s.blk.sio.out q.n).faults.has q.fault = false ∧
          (q.expected .low .low || q.expected .low .high || q.expected .high .low || q.expected .high .high) = true) ∧
      (let s := { io (fun x => { x with repeats := [⟨5, true, 100024⟩] }) with clock := ⟨1000, 250250000 - 8, 0⟩ }
       s.blk.sio.repeats = [⟨5, true, 100024⟩] ∧ (s.elapse 1).repeatDue ⟨5, true, 100024⟩ = true ∧ s.blk.sio.tests = none) ∧
      (∀ n ∈ [0, 15], ((io (fun x => { x with qs := x.qs.map (fun q =>
        { q with resetAt := some (1000000000001 - 75000) }) })).blk.sio.out n).resetRuns 1000000000001 = true) := by
  decide +kernel

theorem wit_output_faults :
    (∀ n ∈ [0, 15], ((io id).blk.sio.out n).faults = .none ∧ ((io id).blk.sio.out n).on = false ∧ (io id).blk.sio.testing n = false ∧
      levelOf 2400 1601 = .high ∧ levelOf 2400 799 = .low ∧
      (let s := io (fun x => { x with qs := x.qs.map (fun q => { q with on := true }) })
       (s.blk.sio.out n).on = true ∧ 0 < s.blk.sio.imin n)) ∧
      (∀ j ∈ [0, 7], ((io id).blk.sio.aux j).latched = false) := by decide +kernel

theorem wit_supply :
    (∀ f ∈ [none, some 100025], (io (fun x => { x with warnFurl := f })).blk.sio.warnFurl = f ∧ (io id).fnum = 100025) ∧
      ((io (fun x => { x with lastWarn := some 7 })).elapse 1).supplyGood = true ∧ (io id).blk.sio.lost = false ∧
      (io (fun x => { x with lost := true })).blk.sio.lost = true ∧
      ((io id).v .A).recs.length + 4 ≤ 64 ∧ (io id).inService .A = true := by decide +kernel

/-! ### Witnesses: the pair -/

/-- A module of a pair in mode `m`, with two mirror chunks. -/
def paired (m : Mode) : State :=
  ((inF 100000 m).modCyc (fun c => { c with senior := true })).modChd (fun x => { x with bytes := 2000, nchunk := 2, up := (true, true) })

/-- A heartbeat of the partner in mode `mode` with the flags `fl` and the set `build`, at 25 µs exactly. -/
def beat (mode fl build : Nat) : ChordFrame :=
  let s := (paired .standby).elapse 1
  let ts := s.time / 25000 * 25000
  let f : ChordFrame :=
    { fcsOk := true, etype := s.etype, verf := 0x10, kind := kHeartbeat, src := srcBase s.ownSrc, seq := w32 (ts / 25000), idx := 0,
      len := 32, ts := BitVec.ofNat 64 ts,
      payload := [BitVec.ofNat 8 mode, 3, BitVec.ofNat 8 fl, 0] ++ beBytes 4 5 ++ beBytes 4 0 ++ beBytes 4 6 ++ beBytes 6 7 ++ [0, 0] ++
        beBytes 4 build ++ beBytes 4 9,
      code1 := 0, code2 := 0 }
  f.coded 0

theorem wit_heartbeats :
    (∀ m ∈ [Mode.resync, .standby, .active], (paired m).mode = m ∧ (paired m).pair.silent = false ∧ (paired m).boundaries = true ∧
      (paired m).inReset = false ∧ ((paired m).elapse 1).onGrid 25000 0 = true) ∧
      ((paired .standby).elapse 1).chordOn .C1 = true ∧
      (∀ f ∈ [beat 4 0 1, beat 4 0 2], ((paired .standby).elapse 1).chordReject .C1 kHeartbeat 0 f = none ∧
        ((paired .standby).pair.link .C1).stepFour (f.ts.toNat + 100 + ((paired .standby).elapse 1).chordLate .C1) f = true) ∧
      ((paired .standby).pair.link .C1).stepFour ((beat 4 0 1).ts.toNat + 100 + ((paired .standby).elapse 1).chordLate .C1)
        (({ beat 4 0 1 with seq := (beat 4 0 1).seq + 1 } : ChordFrame).coded 0) = false ∧
      ((paired .standby).elapse 1).chordReject .C1 kHeartbeat 0
        (({ beat 4 0 1 with seq := (beat 4 0 1).seq + 1 } : ChordFrame).coded 0) = none ∧
      ((paired .standby).modTtb (fun b => { b with mid := 9 })).sameSet (beatOf (beat 4 0 1).payload) = true ∧
      ((paired .standby).modTtb (fun b => { b with mid := 9 })).sameSet (beatOf (beat 4 0 2).payload) = false ∧
      (beatOf (beat 4 0 1).payload).mode = 4 ∧ testB (beatOf (beat 4 0 1).payload).flags 1 = false ∧
      linkOf (paired .standby).blk.chd.up .C1 = true ∧ ((paired .standby).pair.link .C1).lastAt = none := by decide +kernel

/-- A frame of the partner of kind `k` with chunk `i`. -/
def mirrorFrame (k : BitVec 8) (i : Nat) (p : List Byte) : ChordFrame :=
  let s := (paired .standby).elapse 1
  ({ s.setFrame k i s.time p with src := srcBase s.ownSrc } : ChordFrame).coded s.blk.ttb.mid

/-- The last chunk of the set of this furlong, one of another furlong, and the commit frame with and without the right values. -/
theorem wit_mirror :
    (let s := paired .standby
     let u := s.elapse 1
     let f := mirrorFrame kMdata 1 (List.replicate 16 7)
     let g := ({ f with seq := f.seq + 1 } : ChordFrame).coded s.blk.ttb.mid
     let c := mirrorFrame kMcommit 2 u.mcommitPayload
     let d := mirrorFrame kMcommit 2 (List.replicate 16 9)
     u.chordOn .C1 = true ∧ u.chordReject .C1 kMdata s.blk.ttb.mid f = none ∧ u.inTime .C1 f = true ∧
       (s.rxSet f.seq).chunks.contains f.idx.toNat = false ∧ f.idx.toNat < s.blk.chd.nchunk ∧
       u.chordReject .C1 kMdata s.blk.ttb.mid g = none ∧ u.inTime .C1 g = false ∧
       u.chordReject .C1 kMcommit s.blk.ttb.mid c = none ∧ u.inTime .C1 c = true ∧ s.mcommitOk c.payload = true ∧
       u.chordReject .C1 kMcommit s.blk.ttb.mid d = none ∧ u.inTime .C1 d = true ∧ s.mcommitOk d.payload = false) ∧
      (∀ d ∈ [1000000000001, 1000000000002],
        let s := { inF 9980000 .active with pair := { (base .active).pair with tx := some ⟨7, d⟩ } }
        (s.pair.tx.map TxSet.doneAt) = some d ∧ (s.elapse 1).furlongStart (s.fnum + 1) ≤ (s.elapse 1).time + 20000 ∧
          (s.elapse 1).nt = 1000000000001) := by decide +kernel

/-- Silence; a takeover decided exactly 20 µs ago and one clock later; a yield; the window of the home return. -/
theorem wit_takeover :
    ({ paired .standby with pair := { (paired .standby).pair with evidActive := some 5 } }.elapse 1).silence = true ∧
      (∀ a ∈ [1000000000001 - 2500, 1000000000002 - 2500], ∀ ns ∈ [250000, 250007, 249999],
        let s := { paired .standby with
          pair := { (paired .standby).pair with decided := some (a, 2) }, clock := ⟨1000, 250000000 + ns - 8, 0⟩ }
        s.pair.decided = some (a, 2) ∧ s.mode = .standby ∧ s.pair.noTakeover = false ∧
          ((s.elapse 1).nt - a = 2500 ∨ (s.elapse 1).nt - a < 2500) ∧ (s.elapse 1).atRod = decide (250000 ≤ ns)) ∧
      (let s := { paired .active with
         pair := { (paired .active).pair with yieldAt := some 5 }, clock := ⟨1000, 250250000 - 8, 0⟩ }
       s.pair.yieldAt = some 5 ∧ s.mode = .active ∧ 2500 ≤ (s.elapse 1).nt - 5 ∧ (s.elapse 1).atRod = true) ∧
      (let s := (paired .standby).modChd (fun x =>
         { x with home := ⟨true, true, 1000, 10⟩, secs := 86400, pmode := 4, pstr := 3 })
       s.homeEligible = true ∧ s.boundaries = true ∧ s.inWindow = true ∧ s.pair.target = none ∧ s.pair.tries < 16 ∧ s.strength = 3) := by
  decide +kernel

/-! ### Witnesses: supply, tests -/

/-- The reset of the power-down with no input left, and one input that keeps it away. -/
theorem wit_power_down :
    ({ paired .active with supply := ⟨⟨false, false, 0⟩, ⟨false, false, 0⟩, true, false⟩ } : State).supply.any = false ∧
      (paired .active).supply.any = true := by decide +kernel

/-- 32.00 V and 34.00 V are the limits; both inputs lost; a present input for 100 ms while the module is held. -/
theorem wit_power :
    (∀ p ∈ [Pwr.a, .b], ((paired .active).supply.input p).disconnected = false ∧ ((paired .active).supply.input p).present = true ∧
      ({ paired .active with supply := ((paired .active).supply.setInput p ⟨false, false, 7⟩) }.supply.input p).present = false) ∧
      (paired .active).supply.held = false ∧
      (let s := { paired .active with supply := ⟨⟨false, false, 0⟩, ⟨false, false, 0⟩, false, false⟩ }
       s.supply.any = false ∧ s.supply.bothLost = false ∧ s.k3m.failed = false) ∧
      (let s := { paired .active with supply := ⟨⟨true, false, 1000000000001 - 12500000⟩, ⟨false, false, 0⟩, true, true⟩ }
       s.supply.held = true ∧ (s.elapse 1).supply.a.steady (s.elapse 1).nt = true) := by decide +kernel

/-- In the slack of the furlong. -/
def slack (m : Mode) : State := inF 7100000 m

theorem wit_march :
    (∀ b ∈ [0, 4, 5, 7], let s := (slack .active).modEngine .B b (fun e => { e with req := BitVec.ofNat 8 (2 ^ b) })
      (s.engine .B b).run = none ∧ (s.engine .B b).bank = some b ∧ (s.elapse 1).marchWaits .B = false ∧
        (s.elapse 1).slackFree = true ∧ (s.elapse 1).fitsSlack (pieceNs b) 10000 = true) ∧
      (∀ b ∈ [0, 4, 5, 6, 7], let s := (slack .active).modEngine .B b (fun e => { e with run := some ⟨b, 5, false, ⟨0, 0, 0⟩⟩ })
        (s.engine .B b).run = some ⟨b, 5, false, ⟨0, 0, 0⟩⟩ ∧ s.blk.cen.rejVtx = none ∧ s.inService .B = true ∧ s.trial .B = false ∧
          s.mode ≠ .halt) := by
  decide +kernel

/-- It is the turn of the pieces, and it is not when the recorder has written in this furlong. -/
theorem wit_march_turn :
    (slack .active).ordinaryTurn = true ∧ (slack .active).backToBack .B = false ∧
      ({ slack .active with recorder := { (slack .active).recorder with wrote := some 100025 } }).ordinaryTurn = false := by
  decide +kernel

/-- The result of a fault-free march passes, one with another count fails, and so does a piece whose save met an error. -/
theorem wit_march_passes (b : Nat) :
    (PieceRun.mk b 5 false ⟨0, 0, 0⟩).passes ⟨marchSig, 11264, 0xC3A5⟩ = true ∧
      (PieceRun.mk b 5 false ⟨0, 0, 0⟩).passes ⟨marchSig, 11263, 0xC3A5⟩ = false ∧
      (PieceRun.mk b 5 true ⟨0, 0, 0⟩).passes ⟨marchSig, 11264, 0xC3A5⟩ = false := by
  simp [PieceRun.passes, pieceCount, completeWord]

/-- The first and the last slice start; slices run; a slice passes, fails first, and fails again. -/
theorem wit_slices :
    (∀ n ∈ [0, 68], let s := (slack .active).modBst (fun b => { b with next := n })
      (s.elapse 1).fitsSlack sliceNs 0 = true ∧ (s.elapse 1).mirrorSent = true ∧ (s.elapse 1).sliceMayStart n = true ∧ (s.blk.bst.slice n).due s.fnum = false) ∧
      (∀ n ∈ [0, 47, 68], let s := (slack .active).modBst (fun b =>
          { b with slices := modNth b.slices n (fun x => { x with reserved := true, markF := 0 }) })
        (s.elapse 1).sliceMayStart n = true ∧ (s.blk.bst.slice n).due s.fnum = true ∧ (s.elapse 1).sliceMayStart 1 = false) ∧
      (∀ n ∈ [0, 47, 57, 64], sliceYields n = true) ∧
      (∀ n ∈ [0, 55, 56, 57, 64, 65, 67], ∀ again ∈ [false, true],
        let s := (slack .active).modBst (fun b =>
          { b with running := [⟨n, false, 5⟩], slices := modNth b.slices n (fun x => { x with retry := again }) })
        s.blk.bst.running = [⟨n, false, 5⟩] ∧ (s.blk.bst.slice n).retry = again ∧ (s.blk.bst.slices[n]?).isSome = true ∧
          s.blk.sio.fail = false ∧ s.mode ≠ .halt) ∧
      (∀ n ∈ [0, 68], n < 69 ∧ 1250000000 ≤ ((slack .active).elapse 1).nt - ((slack .active).blk.bst.slice n).doneNt ∧
        ((slack .active).blk.bst.slice n).late = false) := by
  decide +kernel

/-- A slice that yields and one in its reserved slot; a result 50 µs after the start and one clock later; the instants at which services ask. -/
theorem wit_slices_end :
    (∀ n ∈ [0, 57, 64], ∀ r ∈ [false, true],
      let s := (slack .active).modBst (fun b => { b with running := [⟨n, r, 5⟩] })
      sliceYields n = true ∧ (∃ q ∈ s.blk.bst.running, q.n = n ∧ q.reserved = r)) ∧
      (∀ a ∈ [1000000000001 - 6250, 1000000000001 - 6251], ∀ n ∈ [0, 68],
        let s := (slack .active).modBst (fun b => { b with running := [⟨n, false, a⟩] })
        (∃ q ∈ s.blk.bst.running, q.n = n) ∧
          decide ((s.elapse 1).nt - a ≤ 6250) = decide (a = 1000000000001 - 6250) ∧ 2 ≤ s.serving.length) ∧
      ((io id).blk.sio.input 0).cls ≠ classOf 40 ∧ (io id).blk.sio.feed 0 = 0 ∧
      (let s := { io id with clock := ⟨1000, 250000 - 8, 0⟩ }
       s.blk.sio.tps[0]? = some ⟨false, false, none, none, false⟩ ∧ (s.elapse 1).pulseDue 0 = true) := by
  decide +kernel

/-- Any other count fails, and the signature that the slice must give passes. -/
theorem wit_slice_results (n : Nat) :
    slicePasses n ⟨Config.sliceSig n, Config.sliceCount n + 1, 0xC3A5⟩ = false ∧
      slicePasses n ⟨Config.sliceSig n, Config.sliceCount n, 0xC3A5⟩ = true := by
  simp [slicePasses, completeWord]

/-- Soft repairs of bank 4 to burn, with room in the fuses and with none; PTB in MAINTENANCE with SW4 on and off. -/
theorem wit_test_registers :
    (let s := { base .commission with repairs := Tri.all [⟨4, false, false, 3⟩] }
     s.mode = .commission ∧ (0xC#32).getLsbD 3 = true ∧ ((0xC#32).extractLsb' 0 3).toNat = 4 ∧ (s.toBurn .B 4).length = 1 ∧
       (s.toBurn .B 4).length ≤ s.fusesLeft .B 4 ∧
       (let t := { s with fuses := s.fuses.set .B (List.replicate 16 ⟨4, true, true, 4⟩) }
        t.fusesLeft .B 4 < (t.toBurn .B 4).length)) ∧
      (0xD#32).getLsbD 3 = true ∧ ((0xD#32).extractLsb' 0 3).toNat = 5 ∧
      (∀ l ∈ [[], [Vtx.B], [Vtx.B, .C]],
        let s := { base .commission with repairsSh := [⟨5, false, false, 3⟩], votes := if l = [] then [] else [(0x08007018, 0xD#32, l)] }
        s.voters 0x08007018 0xD = l ∧ s.inService .A = true ∧ s.inService .B = true ∧ s.inService .C = true ∧
          (s.toBurn .A 5).length ≤ s.fusesLeft .A 5) ∧
      (base .active).mode ≠ .commission ∧ (base .active).mode ≠ .maintenance ∧ (base .maintenance).blk.cyc.sw4 = true ∧
      ((base .maintenance).modCyc (fun c => { c with sw4 := false })).blk.cyc.sw4 = false := by decide +kernel

/-! ### Witnesses: the recorder -/

def rec0 (n : Nat) : Rec := ⟨.update n, 0x40, [1, 2, 3]⟩
def fold0 (n : Nat) : Fold := ⟨.update n, 0x40, n, [1, 2, 3], 5, 7, 100 * n, 0⟩

/-- The recorder in the slack, 1 000 units into its operating time, changed by `f`. -/
def recState (m : Mode) (f : Recorder → Recorder) : State :=
  { slack m with recorder := f { (slack m).recorder with seq := 7, optime := 1000 } }

/-- A record of an open fold, one of none with 511 and with 512 waiting. -/
theorem wit_record_form :
    (let s := recState .active (fun r => { r with folds := [fold0 1, fold0 2], formQ := [(rec0 2, false, none)] })
     s.recorder.formQ = [(rec0 2, false, none)] ∧ s.k3m.failed = false ∧
       ({ (s.elapse 1).recorder with formQ := [] }).foldOf (rec0 2) = some (fold0 2) ∧ (fold0 2).rept + 1 < 65534) ∧
      (∀ n ∈ [511, 512],
        let s := recState .active (fun r => { r with
          folds := [fold0 1], formQ := [(rec0 2, false, none)], queue := List.replicate n ⟨1, none, rec0 1, false, false, 5, 0, none⟩ })
        (s.elapse 1).recorder.queue.length = n ∧ (s.elapse 1).recorder.folds.length < 64 ∧
          ∀ f ∈ (s.elapse 1).recorder.folds, f.typ = (rec0 2).typ → f.source ≠ (rec0 2).source) := by decide +kernel

/-- The record that ends the sector exactly. -/
theorem wit_record_commit :
    (let q : QRec := ⟨1, some (3, 4), rec0 1, false, false, 5, 0, none⟩
     let s := recState .active (fun r => { r with queue := [q], pos := 131072 - (rec0 1).len })
     s.recorder.queue = [q] ∧ s.recorder.frozen = none ∧ s.k3m.failed = false ∧ s.supply.bothLost = false ∧ (s.elapse 1).recorderTurn = true ∧
       s.recorder.logfail = false ∧ s.recorder.overflow = 0 ∧ (s.elapse 1).recorder.pos + q.r.len = 131072) ∧
      (recState .active (fun r => { r with frozen := some .s0 })).recorder.frozen ≠ none ∧
      (let s := recState .active (fun r => { r with erasing := true })
       s.recorder.erasing = true ∧ s.recorder.frozen = none ∧ s.recorder.logfail = false) := by decide +kernel

/-- The first record of all and one that does not fit the rest of its sector; without boundaries; in LOG_FAIL; during a hold of the NOR. -/
theorem wit_record_commit_others :
    let q : QRec := ⟨1, some (3, 4), rec0 1, false, false, 5, 0, none⟩
    (∀ p ∈ [0, 131073 - (rec0 1).len],
      let s := recState .active (fun r => { r with queue := [q], pos := p })
      (s.elapse 1).recorder.pos = 0 ∨ 131072 < (s.elapse 1).recorder.pos + q.r.len) ∧
      (let s := { recState .commission (fun r => { r with queue := [q] }) with boundaries := false }
       s.recorder.queue = [q] ∧ s.recorder.frozen = none ∧ s.k3m.failed = false ∧ s.supply.bothLost = false ∧ s.boundaries = false) ∧
      (let s := recState .active (fun r => { r with queue := [q], logfail := true })
       s.recorder.logfail = true ∧ s.recorder.overflow = 0 ∧ (s.elapse 1).recorderTurn = true) ∧
      (recState .active id).recorder.norHold = false := by decide +kernel

theorem wit_recorder_services :
    (let s := { recState .active id with k3m := { (slack .active).k3m with waiting := some 33, serving := Tri.all true } }
     s.k3m.waiting = some 33 ∧ s.k3m.failed = false) ∧
      (let s := recState .active (fun r => { r with saveNt := 1000000000001 - 1250000000 })
       (s.elapse 1).nt - s.recorder.saveNt = 1250000000 ∧ s.upd.onProbation = false) ∧
      (recState .active (fun r => { r with intake := some 100000 })).recorder.intake = some 100000 ∧
      (recState .active id).recorder.intake = none ∧ (recState .active id).upd.sstate ≠ .loading ∧
      (let s := recState .active (fun r => { r with frozen := some .s0, frozenNt := 1000000000001 - 75000000000 })
       s.recorder.frozen ≠ none ∧ (s.elapse 1).nt - s.recorder.frozenNt = 75000000000 ∧ s.recorder.overflow = 0) ∧
      (recState .commission id).mode = .commission ∧ (recState .active id).mode ≠ .commission ∧
      (recState .active id).recorder.norHold = false ∧ (recState .active id).k3m.failed = false := by decide +kernel

/-! ### Witnesses: service -/

/-- Session S0 is open with role `r`, last heard at `a`. -/
def sess (m : Mode) (r : Option Role) (a : Nat) : State :=
  { recState m id with
    upd := (recState m id).upd.setSess .s0 (some ⟨r, a⟩),
    mirror := (recState m id).mirror.map (fun q => { q with blk := (recState m id).blk }) }

theorem wit_sessions :
    (recState .active id).upd.s0 = none ∧ (sess .active none 5).upd.s0 ≠ none ∧ (sess .active none 5).upd.s1 = none ∧
      ((sess .active none 5).upd.setSess .s1 (some ⟨none, 5⟩)).s1 ≠ none ∧
      (∀ a ∈ [1000000000001 - 112500000000, 1000000000002 - 112500000000], (sess .active none a).upd.sess .s0 = some ⟨none, a⟩ ∧
        (((sess .active none a).elapse 1).nt - a = 112500000000 ∨ ((sess .active none a).elapse 1).nt - a < 112500000000)) ∧
      (let s := { sess .active none 5 with upd := { (sess .active none 5).upd with dlSess := some .s0, sstate := .loading } }
       s.upd.dlSess = some .s0 ∧ s.upd.sstate = .loading) ∧
      (let s := { sess .active none 5 with upd := (sess .active none 5).upd.setLock .admin ⟨6, some 1000000000001⟩ }
       (s.upd.lock .admin).until_ = some 1000000000001 ∧ (s.elapse 1).nt = 1000000000001 ∧ s.locked .admin = true) ∧
      (sess .active none 5).open_ .s0 = true ∧ (recState .active id).open_ .s0 = false ∧
      ((sess .active none 5).elapse 1).locked .admin = false ∧ (sess .active none 5).upd.pwOk .admin [] = false ∧
      (sess .active none 5).upd.locks.length = 4 ∧ (sess .commission none 5).mode = .commission ∧
      (sess .commission none 5).blk.cyc.sw3 = true ∧ (sess .commission none 5).blk.cyc.sw4 = true := by decide +kernel

/-- The right password: the hash is no number of the model, the stored one is its own. -/
theorem wit_login (pw : List Byte) (salt : BitVec 128) :
    ({ (sess .active none 5).upd with pws := [(.admin, ⟨salt, Config.argon2id pw salt⟩)] }).pwOk .admin pw = true := by
  simp [Update.pwOk, Update.pw]

/-- The first administrator's password of 12 characters is accepted in COMMISSION, one of 11 is not. -/
theorem wit_setpw :
    (sess .commission none 5).setpwRes .s0 .admin (List.replicate 12 1) = .accepted ∧
      (sess .commission none 5).setpwRes .s0 .admin (List.replicate 11 1) = .badParam := by decide +kernel

def log0 (k : Nat) : LogRec := ⟨⟨k, none, rec0 k, false, false, 5, 0, none⟩, k, none, none, 0, 0, 0xA5⟩

/-- The recorder holds SEQ 3 to 6 and is frozen for `f`. -/
def logged (f : Option Sess) : State :=
  { sess .active none 5 with recorder := { (recState .active id).recorder with log := [log0 3, log0 4, log0 5, log0 6], frozen := f } }

theorem wit_recorder_reads :
    (logged none).open_ .s0 = true ∧ 6 < (logged none).recorder.seq ∧ ((logged none).elapse 1).recorder.oldest ≤ 3 ∧
      (logged none).recorder.seq ≤ 7 ∧ 1 ≤ (logged none).recorder.seq ∧ (logged none).recorder.frozen = none ∧
      (logged (some .s1)).recorder.frozen = some .s1 ∧ Sess.s1 ≠ Sess.s0 ∧ (logged (some .s0)).recorder.frozen = some .s0 := by
  decide +kernel

/-- A manifest of a set of 8 192 bytes that raises the SVN to 3. -/
def man0 : Manifest :=
  { magic := 0x4B334D31, format := 1, ncomp := 0, build := 4, mid := 5, schema := 1, svn := 3, raise := true, length := 8192, comp := [],
    opkE := 0, opkL := 0, osigE := 0, osigL := [], vMagic := 0, fwver := 0, bodyLen := 0, bodyDig := 0, vpkE := 0, vpkL := 0, vsigE := 0,
    vsigL := [] }
def set0 : LoadSet := ⟨man0, [], [], tContent⟩

/-- A download by session S0 of which `pos` bytes have arrived. -/
def loading (pos : Nat) : State :=
  let s := sess .active (some .maintainer) 5
  { s with upd := { s.upd with sstate := .loading, dlSess := some .s0, dlMan := some man0, dlLen := 8192, dlPos := pos } }

theorem wit_downloads :
    (loading 4096).open_ .s0 = true ∧ (sess .active (some .maintainer) 5).dlStartRes .s0 8192 man0 = .accepted ∧
      (sess .active (some .maintainer) 5).dlStartRes .s0 8193 man0 = .badParam ∧ (loading 4096).dlDataRes .s0 4096 4096 = .accepted ∧
      (loading 4096).dlDataRes .s0 4096 4097 = .badParam ∧ (loading 8192).dlEndRes .s0 = .accepted ∧
      (loading 8191).dlEndRes .s0 = .notReady ∧ (loading 4096).hasRole .s0 .maintainer false = true ∧ (loading 4096).upd.sstate = .loading ∧
      ({ (loading 4096).upd with sstate := .loaded, staging := some set0 }).staging = some set0 := by decide +kernel

/-- The area holds a checked set; the administrator's session in COMMISSION. -/
def checked (m : Mode) : State :=
  let s := sess m (some .admin) 5
  { s with upd := { s.upd with sstate := .checked, staging := some set0, otp := { s.upd.otp with vendor := some (1, 2) } } }

theorem wit_requests :
    (checked .active).open_ .s0 = true ∧ (checked .active).hasRole .s0 .maintainer false = true ∧ (1#32).extractLsb' 0 8 ≠ 12#8 ∧
      (checked .active).itemRes true 1 1 [] = .accepted ∧ (checked .active).itemRes true 5 1 [] = .badParam ∧
      (checked .commission).localActRes .s0 = .accepted ∧ (checked .commission).upd.staging = some set0 ∧
      (checked .commission).upd.slots.cur.jseq.toNat + 1 < 2 ^ 32 ∧ (checked .active).mode ≠ .commission ∧
      (checked .commission).mode = .commission ∧ 3 ≤ (checked .commission).roleOf .s0 ∧
      ((checked .active).elapse 1).attestReady = true ∧
      ({ checked .active with upd := { (checked .active).upd with lastAttest := some 1000000000000 } }.elapse 1).attestReady = false ∧
      (checked .commission).otpRes .s0 1 2 = .accepted ∧ (checked .commission).otpRes .s0 1 3 ≠ .accepted := by decide +kernel

/-- A probation of 86 400 clean seconds with the set above ACTIVE, 1 s after an entry to HALT. -/
def probing : State :=
  let s := recState .active id
  { s with upd := { s.upd with
    clean := 86400, bank0 := some set0, slots := ⟨some { Journal.initial with state := .probation }, none⟩,
    haltNt := some (1000000000001 - 125000000) } }

theorem wit_probation :
    probing.upd.onProbation = true ∧ probing.k3m.failed = false ∧ 86400 ≤ probing.upd.clean ∧
      probing.upd.slots.cur.jseq.toNat + 1 < 2 ^ 32 ∧ (probing.upd.active.map (fun l => (l.man.raise, l.man.svn))) = some (true, 3) ∧
      probing.upd.haltNt = some (1000000000001 - 125000000) ∧ (probing.elapse 1).nt - (1000000000001 - 125000000) = 125000000 := by
  decide +kernel

/-- The mirror of the furlong of a CONFIRM, of an earlier and of a later one. -/
theorem wit_confirm :
    ∀ f ∈ [100023, 100024, 100025],
      let s := { probing with upd := { probing.upd with commanded := some 100024 }, k3m := { probing.k3m with waiting := some f } }
      s.k3m.waiting = some f ∧ s.k3m.failed = false ∧ s.upd.commanded = some 100024 ∧ s.upd.onProbation = true ∧
        s.upd.slots.cur.jseq.toNat + 1 < 2 ^ 32 := by decide +kernel

/-- The host window with its enable and RSPRDY, and the request `r`. -/
def window (en ready : Bool) (r : Option (List Byte)) : State :=
  { base .active with hwin := { (base .active).hwin with
    en := en, request := r, mem := if ready then Memory.store [] 0 2 1 else Memory.store [] 0x12 2 0x100 } }

theorem wit_host_window :
    (∀ r ∈ [none, some (beBytes 4 0 ++ beBytes 2 0x10 ++ beBytes 2 9)], Memory.wf (window true false r).hwin.mem = true ∧
      (window true false r).j7Up = true ∧ (window true false r).hwin.request = r) ∧
      (window false false none).hwin.en = false ∧ ({ window true false none with inReset := true }).j7Up = false ∧
      (window true false none).hwin.ready = false ∧ Memory.wf (window true true none).hwin.mem = true ∧
      (window true true none).hwin.ready = true ∧ (window true true none).j7Up = true ∧ Collide.read ≠ Collide.write ∧
      (window true false none).hwin.owed = none ∧ (window true false none).shEcc = ⟨[], []⟩ ∧
      (let s := { window true false none with hwin := { (window true false none).hwin with owed := some 2 } }
       s.hwin.owed = some (2 * (8#15).toNat / 8) ∧ s.j7Up = true) := by
  decide +kernel

/-! ### Witnesses: commands, registers, the rejoin -/

theorem mayCommand_base (m : Mode) : MayCommand (base m) := ⟨rfl, rfl, rfl⟩

/-- The module with vertex `v` excluded and withdrawn, its channel open when `d`. -/
def excluding (m : Mode) (v : Vtx) (d : Bool) : State :=
  (base m).modCen (fun c => { c with
    excl := (Tri.all false).set v true, withdrawn := (Tri.all false).set v true, debugged := (Tri.all false).set v d })

theorem mayCommand_excluding (m : Mode) (v : Vtx) (d : Bool) : MayCommand (excluding m v d) := ⟨rfl, rfl, rfl⟩

/-- A partner that sends SREP and was heard of 10 clocks ago. -/
def partnered (m : Mode) : State :=
  let s := base m
  { s with pair := { s.pair with heardAt := some (s.nt - 10) },
           blk := { s.blk with chd := { s.blk.chd with pstr := 3, pmode := if m = .active then 3 else 4 } } }

/-- The module in ISOLATED for a cause. -/
def isolatedBy (c : MCause) : State :=
  let s := base .isolated
  { s with blk := { s.blk with cyc := { s.blk.cyc with cause := c } } }

theorem wit_mode_commands :
    ((base .standby).mode = .standby ∧ (base .standby).blk.cyc.sw4 = true) ∧
      (isolatedBy .sequence).mode = .isolated ∧ (isolatedBy .sequence).r478 = false ∧ (isolatedBy .sequence).blk.cyc.sw4 = true ∧
      (base .active).mode ≠ .standby ∧ (base .active).mode ≠ .isolated ∧
      (let s := base .standby
       ({ s with blk := { s.blk with cyc := { s.blk.cyc with sw4 := false } } } : State).blk.cyc.sw4 = false) ∧
      ((base .maintenance).mode = .maintenance ∧ (base .maintenance).strength = 3 ∧
        (base .maintenance).blk.cen.debugged = Tri.all false) ∧
      (excluding .maintenance .A false).mode = .maintenance ∧ (excluding .maintenance .A false).strength ≠ 3 ∧
      (∀ m ∈ [Mode.active, .standby], (partnered m).mode = m ∧ (partnered m).partnerReady = true ∧ (partnered m).pair.target = none ∧
        (partnered m).inReset = false ∧ (partnered m).boundaries = true ∧ (partnered m).taken = false) := by decide +kernel

/-- Where no boundary is raised, a RESTART needs no seal switch. -/
theorem wit_restart_at_once :
    ∀ m ∈ [Mode.commission, .halt, .isolated],
      let s := { base m with boundaries := false }
      s.inReset = false ∧ s.boundaries = false ∧ s.mode ≠ .resync ∧ s.mode ≠ .standby ∧ s.mode ≠ .active := by decide +kernel

theorem wit_vertex_commands :
    ∀ m ∈ [Mode.standby, .maintenance], ∀ v ∈ [Vtx.A, .B, .C],
      (base m).mode = m ∧ (base m).blk.cyc.sw4 = true ∧ (base m).strength = 3 ∧ (base m).blk.cen.wpend = none ∧
        (base m).inService v = true ∧ (excluding m v false).strength ≠ 3 ∧ (excluding m v false).blk.cen.withdrawn.get v = true ∧
        (excluding m v false).blk.cen.debugged.get v = false ∧ (excluding m v true).blk.cen.debugged.get v = true ∧
        (excluding m v false).blk.cen.wdOld.get v = false ∧
        ((excluding m v false).modCen (fun c => { c with wdOld := c.wdOld.set v true })).blk.cen.wdOld.get v = true ∧
        (excluding m v false).inService v = false ∧ (excluding m v false).blk.cen.rejVtx = none ∧
        (excluding m v false).blk.cen.rejFails.get v < 3 := by decide +kernel

/-- A patch list of one item, which sets the first tunable to `val` at furlong `tgt`. -/
def patchHdr : AppHeader := { tHdr with tunables := [⟨0x01000100, 4, 7, 0, 100⟩] }
def patch (tgt val : Nat) : List Byte :=
  let b := leBytes 4 1 ++ leBytes 4 1 ++ leBytes 6 tgt ++ leBytes 1 1 ++ leBytes 1 0 ++ leBytes 2 0 ++ leBytes 2 0 ++ leBytes 4 val
  b ++ leBytes 4 (crc32c b).toNat

/-- An I/O parameter set with 10 A rated currents for furlong `tgt`. -/
def ioSet (tgt : Nat) : List Byte :=
  let b := leBytes 4 1 ++ leBytes 4 1 ++ leBytes 6 tgt ++ leBytes 2 0 ++ (List.replicate 16 (leBytes 4 (10 * 256))).flatten ++
    leBytes 36 0
  b ++ leBytes 4 (crc32c b).toNat

/-- The mailbox holds the item `b` of kind `k`. -/
def withItem (m : Mode) (k : Nat) (b : List Byte) : State :=
  let s := base m
  { s with loaded := some { tContent with hdr := patchHdr },
           blk := { s.blk with mbx := { s.blk.mbx with item := { s.blk.mbx.item with kind := k, len := b.length, body := b } } } }

theorem wit_stage_patch :
    (∀ m ∈ [Mode.standby, .active], ∀ tgt ∈ [0, 100027], ∀ val ∈ [0, 100],
      let s := withItem m 2 (patch tgt val)
      s.mode = m ∧ s.hdr = some patchHdr ∧ s.blk.cyc.sw1 = true ∧ s.served = false ∧ s.viewBody 2 = patch tgt val ∧
        setTarget (patch tgt val) = tgt ∧ s.latePast tgt = false ∧ s.blk.cyc.stg0.state = 0 ∧
        patchAtStaging patchHdr s.tuneSeq (patch tgt val) = none ∧ s.inReset = false ∧ s.boundaries = true ∧ s.taken = false) ∧
      (withItem .active 2 (patch 100026 0)).latePast 100026 = true ∧
      patchAtStaging patchHdr (withItem .active 2 []).tuneSeq (patch 0 101) ≠ none := by decide +kernel

theorem wit_stage_io :
    ∀ m ∈ [Mode.standby, .maintenance], ∀ tgt ∈ [0, 100027],
      let s := withItem m 3 (ioSet tgt)
      s.mode = m ∧ s.hdr = some patchHdr ∧ s.blk.cyc.sw4 = true ∧ s.blk.cyc.stg1.state = 0 ∧ s.viewBody 3 = ioSet tgt ∧
        setTarget (ioSet tgt) = tgt ∧ s.latePast tgt = false ∧ ioAtStaging patchHdr s.blk.sio.params.seq (ioSet tgt) = none := by
  decide +kernel

theorem ofLe_leBytes (n x : Nat) : ofLe (leBytes n x) = x % 256 ^ n := by
  induction n generalizing x with
  | zero => simp [leBytes, ofLe, Nat.mod_one]
  | succ n ih =>
       rw [leBytes, ofLe, ih, BitVec.toNat_ofNat, show 2 ^ 8 = 256 from rfl, Nat.pow_succ, Nat.mul_comm (256 ^ n) 256, Nat.mod_mul]

theorem length_leBytes (n x : Nat) : (leBytes n x).length = n := by
  induction n generalizing x with
  | zero => rfl
  | succ n ih => simp [leBytes, ih]

/-- A scheduled activation of the set with the digest `d`, for furlong `tgt`. -/
def actHead (tgt : Nat) (d : BitVec 128) : List Byte := leBytes 6 tgt ++ leBytes 2 0 ++ beBytes 16 d.toNat ++ leBytes 4 0
def actBody (tgt : Nat) (d : BitVec 128) : List Byte := actHead tgt d ++ leBytes 4 (crc32c (actHead tgt d)).toNat

/-- The body of a scheduled activation meets its checks whatever the digest, which is no number of the model. -/
theorem wit_schedule_act (d : BitVec 128) (tgt : Nat) (h : tgt < 2 ^ 48) :
    (actBody tgt d).length = 32 ∧ actDig (actBody tgt d) = d ∧ leAt (actBody tgt d) 0 6 = tgt ∧
      (crc32c ((actBody tgt d).take 28)).toNat = leAt (actBody tgt d) 28 4 ∧ leAt (actBody tgt d) 6 2 = 0 := by
  have l : (actHead tgt d).length = 28 := by simp [actHead, beBytes, length_leBytes]
  refine ⟨by simp [actBody, l, length_leBytes], ?_, ?_, ?_, ?_⟩
  · have e : ((actBody tgt d).drop 8).take 16 = beBytes 16 d.toNat := by
      simp only [actBody, actHead, beBytes, List.append_assoc]
      rw [← List.append_assoc (leBytes 6 tgt), List.drop_append_of_le_length (by simp [length_leBytes]),
        List.drop_of_length_le (by simp [length_leBytes]), List.nil_append,
        List.take_append_of_le_length (by simp [length_leBytes]), List.take_of_length_le (by simp [length_leBytes])]
    rw [actDig, e, beBytes, List.reverse_reverse, ofLe_leBytes]
    apply BitVec.eq_of_toNat_eq
    simp only [BitVec.toNat_ofNat]
    have := d.isLt
    omega
  · have e : ((actBody tgt d).drop 0).take 6 = leBytes 6 tgt := by
      simp only [actBody, actHead, List.append_assoc, List.drop_zero]
      rw [List.take_append_of_le_length (by simp [length_leBytes]), List.take_of_length_le (by simp [length_leBytes])]
    rw [leAt, e, ofLe_leBytes]
    omega
  · have e : ((actBody tgt d).drop 28).take 4 = leBytes 4 (crc32c (actHead tgt d)).toNat := by
      rw [actBody, List.drop_append_of_le_length (by omega), List.drop_of_length_le (by omega), List.nil_append,
        List.take_of_length_le (by simp [length_leBytes])]
    have f : (actBody tgt d).take 28 = actHead tgt d := by
      rw [actBody, List.take_append_of_le_length (by omega), List.take_of_length_le (by omega)]
    rw [leAt, e, f, ofLe_leBytes]
    have := (crc32c (actHead tgt d)).isLt
    omega
  · have e : ((actBody tgt d).drop 6).take 2 = leBytes 2 0 := by
      simp only [actBody, actHead, List.append_assoc]
      rw [List.drop_append_of_le_length (by simp [length_leBytes]), List.drop_of_length_le (by simp [length_leBytes]),
        List.nil_append, List.take_append_of_le_length (by simp [length_leBytes]),
        List.take_of_length_le (by simp [length_leBytes])]
    rw [leAt, e, ofLe_leBytes, Nat.zero_mod]

/-- The set of wit_schedule_act is the checked one of the update area. -/
def scheduling (m : Mode) (tgt : Nat) : State :=
  let s := withItem m 4 (actBody tgt (dig16 man0))
  { s with upd := { s.upd with sstate := .checked, staging := some set0 } }

theorem wit_schedule_state (m : Mode) (tgt : Nat) (h : m = .standby ∨ m = .active) :
    (scheduling m tgt).stagingHolds (dig16 man0) = true ∧ (scheduling m tgt).blk.cyc.sw2 = true ∧
      (scheduling m tgt).served = false ∧ (scheduling m tgt).upd.onProbation = false ∧ (scheduling m tgt).blk.cyc.stg2.state = 0 ∧
      (scheduling m tgt).mode = m ∧ (scheduling m tgt).viewBody 4 = actBody tgt (dig16 man0) ∧
      (scheduling m tgt).latePast 100027 = false := by
  refine ⟨?_, rfl, by obtain rfl | rfl := h <;> rfl, rfl, rfl, rfl, ?_, rfl⟩
  · simp [State.stagingHolds, scheduling, set0]
  · simp [State.viewBody, Mbx.bodyOf, scheduling, withItem]

theorem wit_update_commands :
    (let s := base .active
     let p := { s with upd := { s.upd with slots := ⟨some { Journal.initial with state := .probation }, none⟩ } }
     p.upd.onProbation = true ∧ s.upd.onProbation = false ∧
       ({ s with blk := { s.blk with cyc := { s.blk.cyc with stg2 := ⟨2, 100027⟩ } } } : State).blk.cyc.stg2.state ≠ 0) ∧
      (let s := { base .commission with boundaries := false }
       s.mode = .commission ∧ s.blk.cyc.sw3 = true ∧ s.inReset = false ∧ s.boundaries = false ∧ s.change = none ∧ (∀ k ∈ [0, 7],
         ({ s with repairs := Tri.all [⟨k, true, false, 5⟩], repairsSh := [⟨k, true, false, 5⟩] } : State).burnReady k = true) ∧ s.burnReady 7 = false) := by decide +kernel

theorem wit_vertex_registers :
    (∀ v ∈ [Vtx.A, .B, .C], (base .active).readReg v 0x08005FFC = none ∧ ((base .active).v v).lat.passDone = false ∧
      (((base .active).modV v (fun x => { x with lat := { x.lat with passDone := true } })).v v).lat.passDone = true) ∧
      (let s := excluding .standby .B true
       (s.v .B).dbg.halted = true ∧ (s.v .B).dbg.started = false ∧ (s.v .B).passEcc = none ∧ s.blk.cen.debugged.get .B = true ∧
         tasksFor s.blk.cyc.tasks (s.v .B).dbg.dfur.toNat ≠ [] ∧
         ((s.modV .B (fun x => { x with dbg := { x.dbg with started := true } })).v .B).dbg.started = true) ∧
      (∀ d ∈ [false, true], (excluding .standby .B d).blk.cen.debugged.get .B = d) ∧
      (base .active).inService .B = true ∧ (base .active).trial .B = false ∧ (base .active).debugging .B = false ∧
      (base .active).traps = [] ∧ (excluding .standby .B false).inService .B = false ∧
      (excluding .standby .B false).debugging .B = false ∧ (base .active).k3mRead 0x40005000 = none ∧
      (base .active).k3mRead 0x50000000 = none ∧ (base .active).shEcc.soft = [] ∧
      0x41000000 % 4 = 0 ∧ 0x4100FFFC < 0x41010000 := by decide +kernel

theorem wit_common_clears :
    ∀ v ∈ [Vtx.A, .B, .C], ∀ w ∈ [Vtx.A, .B, .C],
      (base .active).inService v = true ∧ (base .active).inService w = true ∧ (base .active).votes = [] ∧
        ∀ l ∈ [[w], [v, w], [w, v, w]],
          ({ base .active with votes := [(0x08003040, 1, l)] } : State).votes = [(0x08003040, 1, l)] := by decide +kernel

/-- A rejoin of vertex C in step `n`, with A as the source and `k` bytes copied. -/
def rejoining (n k : Nat) : State :=
  let s := (base .standby).modCen (fun c => { c with excl := ⟨false, false, true⟩, rejVtx := some .C, rejStep := n })
  { s with clock := ⟨1000, 257500000, 0⟩, rejoin := ⟨some .A, k, 0, false, cmdWord 6 2 9⟩ }

theorem wit_rejoin :
    ((rejoining 1 0).blk.cen.rejVtx = some .C ∧ (rejoining 1 0).blk.cen.rejStep = 1 ∧ (rejoining 1 0).rejoin.stepDue = 0 ∧
      ∀ k ∈ ((rejoining 1 0).v .C).mem.ecc, 0x00400000 ≤ k) ∧
      ∀ k ∈ [0, 0x007FFFFF],
        (rejoining 2 k).rejoin.source = some .A ∧ ((rejoining 2 k).elapse 5).slackFree = true ∧
          (rejoining 2 k).rejoin.done = false ∧ (rejoining 2 k).inService .A = true ∧ Vtx.A ≠ Vtx.C ∧
          (rejoining 2 k).rejoin.copied < 0x00800000 ∧ (∀ e ∈ ((rejoining 2 k).v .A).mem.ecc, e < 0) ∧
          Memory.wf ((rejoining 2 k).v .A).mem.inst = true ∧ Memory.wf ((rejoining 2 k).v .C).mem.inst = true ∧
          ((rejoining 2 k).modCen (fun c => { c with excl := ⟨true, false, true⟩ })).inService .A = false := by decide +kernel

/-! ### Witnesses: every step -/

theorem wit_queue :
    ({ base .active with pending := [.mov .A ⟨15, 3, 0, 0⟩, .timeWait 1] } : State).pending ≠ [] := by decide


/-! ### Single steps with the results that the spec states -/

/-- Register `r` of vertex B and its flags after a command. -/
def regB (o : Host.Outcome State Fault Refusal) (r : BitVec 4) : Word := ((after o).v .B).reg r
def flagsB (o : Host.Outcome State Fault Refusal) : Flags := ((after o).v .B).core.fl

/-- R127, R128: the sum of the largest signed word and 2 saturates. -/
theorem test_adds_saturates :
    regB (exec (.adds .B ⟨15, 3, 2, 0⟩) cpu) 15 = 0x7FFFFFFF ∧
      flagsB (exec (.adds .B ⟨15, 3, 2, 0⟩) cpu) = ⟨false, false, false, true, false⟩ := by decide +kernel

/-- R127: 255 + 2 in 8 bits unsigned is limited to 255, with a carry. -/
theorem test_addu_saturates_8 :
    regB (exec (.addu .B ⟨15, 5, 2, 0x800⟩) cpu) 15 = 255 ∧
      flagsB (exec (.addu .B ⟨15, 5, 2, 0x800⟩) cpu) = ⟨false, true, true, true, false⟩ := by decide +kernel

/-- R127: 1 − 2 unsigned is limited to 0, with a borrow. -/
theorem test_subu_saturates :
    regB (exec (.subu .B ⟨15, 1, 2, 0⟩) cpu) 15 = 0 ∧
      flagsB (exec (.subu .B ⟨15, 1, 2, 0⟩) cpu) = ⟨true, false, false, true, false⟩ := by decide +kernel

/-- R129: the most negative value by −1 saturates; its remainder is 0. -/
theorem test_divs_corner :
    regB (exec (.divs .B ⟨15, 4, 5, 0⟩) cpu) 15 = 0x7FFFFFFF ∧
      flagsB (exec (.divs .B ⟨15, 4, 5, 0⟩) cpu) = ⟨false, false, false, true, false⟩ ∧
      regB (exec (.rems .B ⟨15, 4, 5, 0⟩) cpu) 15 = 0 ∧
      flagsB (exec (.rems .B ⟨15, 4, 5, 0⟩) cpu) = ⟨true, false, false, false, false⟩ := by decide +kernel

/-- R129: −1 divided by 2 is 0 toward zero, with the remainder −1. -/
theorem test_divs_rounds_toward_zero :
    regB (exec (.divs .B ⟨15, 5, 2, 0⟩) cpu) 15 = 0 ∧ regB (exec (.rems .B ⟨15, 5, 2, 0⟩) cpu) 15 = 0xFFFFFFFF := by decide +kernel

/-- R129: a divisor of 0 traps with DIVZERO. -/
theorem test_divu_by_zero : (after (exec (.divu .B ⟨15, 5, 0, 0⟩) cpu)).traps.map (fun n => n.cause) = [.divzero] := by decide +kernel

/-- The example of Table 4.17: the age 131 against a limit of 120 sets C and S, and the value is written. -/
theorem test_age_of_the_example :
    (let s := cpu.modV .B (fun x => x.setReg 2 0x00830001)
     regB (exec (.age .B ⟨3, 2, 120⟩) s) 3 = 1 ∧ flagsB (exec (.age .B ⟨3, 2, 120⟩) s) = ⟨false, false, true, false, true⟩ ∧
       flagsB (exec (.age .B ⟨3, 2, 131⟩) s) = ⟨false, false, false, false, false⟩) := by decide +kernel

/-- Tables 4.16 and 4.17: B.SS at 16#0001_8A50 with the offset 16#12 goes to 16#0001_8A9C when S is 1, and on to 16#0001_8A54 when not. -/
theorem test_b_of_the_example :
    (∀ p ∈ [(true, 0x18A9C), (false, 0x18A54)],
      let s := (cpuF ⟨false, false, false, false, p.1⟩).modV .B (fun x => { x with
        mem := { x.mem with code := Memory.store nops 0x18A50 4 0x01000000 }, core := { x.core with pc := 0x18A50#32 } })
      ((after (exec (.b .B ⟨14, 0x12⟩) s)).v .B).core.pc = w32 p.2) := by decide +kernel

/-- Table 4.17: STB.I W4 with the offset 16#18 stores the byte 16#01 at IB + 16#18. -/
theorem test_stb_of_the_example :
    (let s := cpu.modV .B (fun x => let y := x.setReg 4 1
       { y with core := { y.core with ib := 0x01003A80#32 } })
     Memory.read ((after (exec (.stb .B (.inst ⟨4, 0x18⟩) 0) s)).v .B).mem.inst 0x01003A98 = 1) := by decide +kernel

/-- Table 4.17: STST of TRUE gives Z 0, of FALSE Z 1. -/
theorem test_stst_of_the_example :
    (flagsB (exec (.stst .B ⟨0, 2, 0, 0⟩) cpu)).z = false ∧ (flagsB (exec (.stst .B ⟨0, 1, 0, 0⟩) cpu)).z = true := by decide +kernel

/-- R91: a word that is no truth value traps with SBOOL. -/
theorem test_stst_of_no_truth_value :
    (after (exec (.stst .B ⟨0, 3, 0, 0⟩) cpu)).traps.map (fun n => n.cause) = [.sbool] := by decide +kernel

/-- R469: a vertex's write to an offset that no table lists traps with ACCESS. -/
theorem test_unlisted_register_traps :
    (after (exec (.registerWrite (.vertex .B) 0x08005FFC 0) (base .active))).traps.map (fun n => n.cause) = [.access] := by
  decide +kernel

/-- R435: a third session is refused with SESSION_LIMIT, 16#13. -/
theorem test_third_session :
    (let s := { sess .active none 5 with upd := (sess .active none 5).upd.setSess .s1 (some ⟨none, 5⟩) }
     (after (exec (.sessionOpen 1) s)).out = [.noSession 0x13]) := by decide +kernel

/-- R408: mirror F − 1 is taken up in furlong F, so a restart then loses none. -/
theorem test_lost_mirrors :
    (let s := recState .active (fun r => { r with intake := some 100024 })
     (after (exec (.k3mWatchdogRestart 1) s)).recorder.formQ.map (fun q => q.1.body) = [logJumpBody 1 0 0]) := by decide +kernel

/-- R162 and R247: the two CRCs of the nine characters 123456789, by their published check values. -/
theorem test_crcs :
    crc32c [0x31, 0x32, 0x33, 0x34, 0x35, 0x36, 0x37, 0x38, 0x39] = 0xE3069283 ∧
      crc32k [0x31, 0x32, 0x33, 0x34, 0x35, 0x36, 0x37, 0x38, 0x39] = 0x2D3DD0AE := by decide +kernel

/-- A step takes the command at the front. -/
theorem test_step_takes_the_front :
    (after (step { base .active with pending := [.cenCtlClr .A, .recnCtlClr] })).pending = [.recnCtlClr] := by decide +kernel

/-- Table 2.9: a RESTART in STANDBY asks for START at the coming boundary. -/
theorem test_restart : (after (exec (.restart 0 7) (base .standby))).change = some (.start, .restartCmd) := by decide +kernel
end Sys2Proof.Tests
end

/-! PROOFS. The writes that count together (notes/assumptions/20.md): how many vertices in service stand behind a write. -/

namespace Sys2Proof

theorem Vtx.mem_list (v : Vtx) : v ∈ Vtx.list := by
  cases v <;> decide

namespace Machine

/-- The number of vertices in service that have made the write as often as vertex `v` has. -/
def State.agreedWith (s : State) (v : Vtx) (addr : Nat) (val : Word) : Nat :=
  (s.agreeing addr val ((s.voters addr val).count v)).length

@[simp] theorem State.voters_addVote (s : State) (v : Vtx) (addr : Nat) (val : Word) :
    (s.addVote v addr val).voters addr val = v :: s.voters addr val := by
  simp [State.addVote, State.voters]

@[simp] theorem State.inService_addVote (s : State) (v : Vtx) (addr : Nat) (val : Word) :
    (s.addVote v addr val).inService = s.inService := rfl

theorem State.voters_congr {s t : State} (h : t.votes = s.votes) (addr : Nat) (val : Word) :
    t.voters addr val = s.voters addr val := by
  simp only [State.voters, h]

/-- Who agrees on a write depends on the votes and on who is in service alone. -/
theorem State.agreedWith_congr {s t : State} (hv : t.votes = s.votes) (hb : t.blk = s.blk) (v : Vtx) (addr : Nat)
    (val : Word) : t.agreedWith v addr val = s.agreedWith v addr val := by
  simp only [State.agreedWith, State.agreeing, State.voters_congr hv, State.inService, hb]

/-- A vertex in service brings its write about exactly when it is the second that agrees. -/
theorem State.voted_of_inService {s : State} {v : Vtx} (hv : s.inService v = true) (addr : Nat) (val : Word)
    (f : State → State) :
    s.voted v addr val f =
      if (s.addVote v addr val).agreedWith v addr val = 2 then f (s.addVote v addr val) else s.addVote v addr val := by
  simp [State.voted, hv, State.agreedWith]

/-- Where the vertices that have made the write are different ones in service, all of them agree. -/
theorem State.agreedWith_addVote {s : State} {v : Vtx} {addr : Nat} {val : Word} {l : List Vtx}
    (h : s.voters addr val = l) (hl : (v :: l).Nodup) (hs : ∀ w ∈ v :: l, s.inService w = true) :
    (s.addVote v addr val).agreedWith v addr val = l.length + 1 := by
  have hperm : ((s.addVote v addr val).agreeing addr val 1).Perm (v :: l) := by
    refine (List.perm_ext_iff_of_nodup (.filter _ (by decide)) hl).mpr fun u => ?_
    simp only [List.mem_filter, Vtx.mem_list, State.inService_addVote, State.voters_addVote, h, Bool.and_eq_true,
      decide_eq_true_eq, true_and, List.one_le_count_iff]
    exact ⟨And.right, fun hu => ⟨hs u hu, hu⟩⟩
  have hcount : (v :: l).count v = 1 := by
    rw [List.count_cons_self, List.count_eq_zero_of_not_mem (List.nodup_cons.mp hl).1]
  rw [State.agreedWith, State.voters_addVote, h, hcount, hperm.length_eq, List.length_cons]

end Machine

end Sys2Proof

/-! PROOFS. The burn of a bank (R386), the write of FUSECTL that asks for it, the write of a PTB register, and O45. -/

namespace Sys2Proof.Machine

/-! ### The burn -/

/-- The state with other vertices. -/
def State.withVtx (s : State) (x : Tri Vertex) : State := { s with vtx := x }

/-- Steps that change the vertices alone, one for each element of a list, change the vertices alone. -/
theorem State.foldl_withVtx {α : Type} {f : State → α → State} (hf : ∀ s a, ∃ x, f s a = s.withVtx x) (l : List α)
    (s : State) : ∃ x, l.foldl f s = s.withVtx x := by
  induction l generalizing s with
  | nil => exact ⟨s.vtx, rfl⟩
  | cons a l ih =>
    obtain ⟨x, hx⟩ := hf s a
    obtain ⟨y, hy⟩ := ih (f s a)
    exact ⟨y, by rw [List.foldl_cons, hy, hx]; rfl⟩

/-- The fuse entries that a burn of bank `b` adds. -/
def State.burnt (s : State) (v : Vtx) (b : Nat) : List Repair := (s.toBurn v b).map (fun r => { r with fused := true })

/-- The state after the burn of bank `b`, but for its records. -/
def State.fusedBank (s : State) (v : Vtx) (b : Nat) : State :=
  let mark := fun (q : List Repair) => q.map (fun r => if r.bank = b then { r with fused := true } else r)
  if ownBank b then
    { s with fuses := s.fuses.set v (s.fuses.get v ++ s.burnt v b), repairs := s.repairs.set v (mark (s.repairs.get v)) }
  else { s with fusesSh := s.fusesSh ++ s.burnt v b, repairsSh := mark s.repairsSh }

theorem State.fusedBank_own (s : State) (v : Vtx) {b : Nat} (hb : ownBank b = true) :
    ∃ p, s.fusedBank v b = { s with fuses := s.fuses.set v (s.fuses.get v ++ s.burnt v b), repairs := p } := by
  simp only [State.fusedBank, hb, if_true]
  exact ⟨_, rfl⟩

theorem State.fusedBank_shared (s : State) (v : Vtx) {b : Nat} (hb : ownBank b = false) :
    ∃ p, s.fusedBank v b = { s with fusesSh := s.fusesSh ++ s.burnt v b, repairsSh := p } := by
  simp only [State.fusedBank, hb]
  exact ⟨_, rfl⟩

/-- A burn for which the fuse entries suffice: the bank is fused and the vertices have the records. -/
theorem State.burn_of_room {s : State} {v : Vtx} {b : Nat} (h : (s.toBurn v b).length ≤ s.fusesLeft v b) (readOk : Bool) :
    ∃ x, s.burn v b readOk = ((s.fusedBank v b).withVtx x, readOk) := by
  have hrec : ∀ (u : State) (r : Repair), ∃ x,
      (if ownBank b then u.recOwn v .fuseRepair (shortBody b (bit r.column) r.index)
        else u.recBody .fuseRepair (shortBody b (bit r.column) r.index)) = u.withVtx x := by
    intro u r
    split
    · exact ⟨_, rfl⟩
    · exact ⟨_, rfl⟩
  obtain ⟨x, hx⟩ := State.foldl_withVtx hrec (s.toBurn v b) (s.fusedBank v b)
  exact ⟨x, by simp only [State.burn, Nat.not_lt.mpr h, if_false, ← hx]; rfl⟩

/-- More soft repairs than fuse entries left: nothing is burnt. -/
theorem State.burn_of_full {s : State} {v : Vtx} {b : Nat} (h : s.fusesLeft v b < (s.toBurn v b).length) (readOk : Bool) :
    s.burn v b readOk = (s, false) := by
  simp [State.burn, h]

/-! ### The result in FUSECTL -/

/-- FUSECTL shows the end of a burn: DONE for a good read-back, else ERR. -/
def FuseCtl.Ended (c : FuseCtl) (done : Bool) : Prop := c.burn = false ∧ c.done = done ∧ c.err = !done

theorem State.fuseResult_ended (s : State) (v : Vtx) (done : Bool) : ((s.fuseResult v done).fuse.get v).Ended done := by
  simp [State.fuseResult, FuseCtl.Ended]

theorem State.fuseResult_keeps_ended {s : State} {v x : Vtx} {done : Bool} (h : (s.fuse.get x).Ended done) :
    ((s.fuseResult v done).fuse.get x).Ended done := by
  by_cases hx : x = v
  · exact hx ▸ s.fuseResult_ended v done
  · simpa [State.fuseResult, Tri.get_set_other _ _ hx] using h

/-- The result is set in each vertex of a list; FUSECTL alone changes. -/
theorem State.foldl_fuseResult (s : State) (l : List Vtx) (done : Bool) :
    ∃ c, l.foldl (fun w x => w.fuseResult x done) s = { s with fuse := c } ∧
      ∀ x, x ∈ l ∨ (s.fuse.get x).Ended done → (c.get x).Ended done := by
  induction l generalizing s with
  | nil => exact ⟨s.fuse, rfl, fun x h => h.resolve_left List.not_mem_nil⟩
  | cons v l ih =>
    obtain ⟨c, hc, hend⟩ := ih (s.fuseResult v done)
    refine ⟨c, hc, fun x hx => hend x ?_⟩
    rcases hx with hx | hx
    · rcases List.mem_cons.mp hx with rfl | hx
      · exact .inr (s.fuseResult_ended x done)
      · exact .inl hx
    · exact .inr (State.fuseResult_keeps_ended hx)

theorem State.mem_serving {s : State} {x : Vtx} : x ∈ s.serving ↔ s.inService x = true := by
  cases x <;> simp [State.serving, Vtx.list]

/-! ### The write of FUSECTL -/

/-- BANK and BURN of FUSECTL as the write of vertex `v` leaves them. -/
def State.askBurn (s : State) (v : Vtx) (b : Nat) : State :=
  { s with fuse := s.fuse.set v { s.fuse.get v with bank := b, burn := true } }

/-- The burn of a shared bank, with its result in every vertex in service. -/
def State.burnForAll (s : State) (v : Vtx) (b : Nat) (readOk : Bool) : State :=
  let r := s.burn v b readOk
  s.serving.foldl (fun w x => w.fuseResult x r.2) r.1

/-- A burn leaves the votes and the register blocks. -/
theorem State.burn_votes_blk (s : State) (v : Vtx) (b : Nat) (readOk : Bool) :
    (s.burn v b readOk).1.votes = s.votes ∧ (s.burn v b readOk).1.blk = s.blk := by
  rcases Nat.lt_or_ge (s.fusesLeft v b) (s.toBurn v b).length with h | h
  · simp [State.burn_of_full h]
  · obtain ⟨x, hx⟩ := State.burn_of_room h readOk
    rw [hx]
    unfold State.fusedBank
    split <;> exact ⟨rfl, rfl⟩

theorem State.burnForAll_votes_blk (s : State) (v : Vtx) (b : Nat) (readOk : Bool) :
    (s.burnForAll v b readOk).votes = s.votes ∧ (s.burnForAll v b readOk).blk = s.blk := by
  obtain ⟨c, hc, -⟩ := (s.burn v b readOk).1.foldl_fuseResult s.serving (s.burn v b readOk).2
  unfold State.burnForAll
  rw [hc]
  exact s.burn_votes_blk v b readOk

theorem State.burnForAll_shared {s : State} {v : Vtx} {b : Nat} (hb : ownBank b = false)
    (h : (s.toBurn v b).length ≤ s.fusesLeft v b) (readOk : Bool) :
    (s.burnForAll v b readOk).fusesSh = s.fusesSh ++ s.burnt v b ∧ (s.burnForAll v b readOk).fuses = s.fuses ∧
      ∀ x, s.inService x = true → ((s.burnForAll v b readOk).fuse.get x).Ended readOk := by
  obtain ⟨x, hx⟩ := State.burn_of_room h readOk
  obtain ⟨p, hp⟩ := s.fusedBank_shared v hb
  obtain ⟨c, hc, hend⟩ := (s.burn v b readOk).1.foldl_fuseResult s.serving (s.burn v b readOk).2
  have hs : s.burnForAll v b readOk = { (s.burn v b readOk).1 with fuse := c } := hc
  rw [hs]
  refine ⟨?_, ?_, fun y hy => ?_⟩
  · rw [hx, hp]; rfl
  · rw [hx, hp]; rfl
  · simpa only [hx] using hend y (.inl (State.mem_serving.mpr hy))

section
variable {s : State} {v : Vtx} {val : Word} (hm : s.mode = .commission) (hbit : val.getLsbD 3 = true)
include hm hbit

/-- BURN for an own bank acts at once. -/
theorem State.fuseWrite_own {b : Nat} (hb : (val.extractLsb' 0 3).toNat = b) (ho : ownBank b = true) (readOk : Bool) :
    s.fuseWrite v val readOk =
      ((s.askBurn v b).burn v b readOk).1.fuseResult v ((s.askBurn v b).burn v b readOk).2 := by
  subst hb
  simp only [State.fuseWrite, hm, hbit, ho, ne_eq, not_true_eq_false, if_true, if_false]
  rfl

/-- BURN for a shared bank acts when the second vertex in service agrees; the write of the third leaves FUSECTL. -/
theorem State.fuseWrite_shared {b : Nat} (hb : (val.extractLsb' 0 3).toNat = b) (ho : ownBank b = false)
    (hv : s.inService v = true) (readOk : Bool) {t : State} (ht : (s.askBurn v b).addVote v 0x08007018 val = t) :
    s.fuseWrite v val readOk =
      if t.agreedWith v 0x08007018 val = 2 then t.burnForAll v b readOk
      else if 2 < t.agreedWith v 0x08007018 val then { t with fuse := s.fuse }
      else t := by
  have hw : s.fuseWrite v val readOk =
      let u := (s.askBurn v b).voted v 0x08007018 val (fun u => u.burnForAll v b readOk)
      if 2 < u.agreedWith v 0x08007018 val then { u with fuse := s.fuse } else u := by
    subst hb
    simp only [State.fuseWrite, hm, hbit, ho, ne_eq, not_true_eq_false, if_true, if_false, Bool.false_eq_true]
    rfl
  rw [hw, State.voted_of_inService (s := s.askBurn v b) hv, ht]
  by_cases h2 : t.agreedWith v 0x08007018 val = 2
  · obtain ⟨hvotes, hblk⟩ := t.burnForAll_votes_blk v b readOk
    simp only [h2, if_true, State.agreedWith_congr hvotes hblk, Nat.lt_irrefl, if_false]
  · simp only [h2, if_false]

end

/-! ### The cases of a burn -/

section
variable {s : State} {v : Vtx} {val : Word} {b : Nat} (hm : s.mode = .commission) (hbit : val.getLsbD 3 = true)
  (hb : (val.extractLsb' 0 3).toNat = b)
include hm hbit hb

/-- R386, banks 0 to 4: with room in the fuses the vertex burns its own bank. -/
theorem State.fuseWrite_burns_own (hlt : b < 5) (h : (s.toBurn v b).length ≤ s.fusesLeft v b) (readOk : Bool) :
    (s.fuseWrite v val readOk).fuses = s.fuses.set v (s.fuses.get v ++ s.burnt v b) ∧
      ((s.fuseWrite v val readOk).fuse.get v).Ended readOk ∧ (s.fuseWrite v val readOk).mode = s.mode ∧
      (s.fuseWrite v val readOk).fusesSh = s.fusesSh := by
  have ho : ownBank b = true := by simp [ownBank, hlt]
  rw [State.fuseWrite_own hm hbit hb ho]
  obtain ⟨x, hx⟩ := State.burn_of_room (s := s.askBurn v b) h readOk
  obtain ⟨p, hp⟩ := (s.askBurn v b).fusedBank_own v ho
  refine ⟨?_, ?_, ?_, ?_⟩
  · rw [hx, hp]; rfl
  · rw [hx]; exact State.fuseResult_ended _ _ _
  · rw [hx, hp]; rfl
  · rw [hx, hp]; rfl

/-- R386, banks 0 to 4: without room nothing is burnt and ERR is set. -/
theorem State.fuseWrite_own_full (hlt : b < 5) (h : s.fusesLeft v b < (s.toBurn v b).length) (readOk : Bool) :
    s.fuseWrite v val readOk = { s with fuse := s.fuse.set v ⟨b, false, false, true⟩ } := by
  have ho : ownBank b = true := by simp [ownBank, hlt]
  rw [State.fuseWrite_own hm hbit hb ho, State.burn_of_full (s := s.askBurn v b) h]
  simp [State.fuseResult, State.askBurn]

section
variable (hle : 5 ≤ b) (hv : s.inService v = true)
include hle hv

/-- R386, banks 5 to 7: the first write waits for a second vertex. -/
theorem State.fuseWrite_shared_first (h : s.voters 0x08007018 val = []) (readOk : Bool) :
    s.fuseWrite v val readOk = (s.askBurn v b).addVote v 0x08007018 val := by
  have ho : ownBank b = false := by simp [ownBank, hle]
  rw [State.fuseWrite_shared hm hbit hb ho hv readOk rfl,
    State.agreedWith_addVote (s := s.askBurn v b) h (by simp) (List.forall_mem_singleton.mpr hv)]
  rfl

/-- R386, banks 5 to 7: the second write burns the bank, and its result stands in every vertex in service. -/
theorem State.fuseWrite_shared_second {w : Vtx} (hwv : w ≠ v) (hw : s.inService w = true)
    (h : s.voters 0x08007018 val = [w]) (hroom : (s.toBurn v b).length ≤ s.fusesLeft v b) (readOk : Bool) :
    (s.fuseWrite v val readOk).fusesSh = s.fusesSh ++ s.burnt v b ∧ (s.fuseWrite v val readOk).fuses = s.fuses ∧
      ∀ x, s.inService x = true → ((s.fuseWrite v val readOk).fuse.get x).Ended readOk := by
  have ho : ownBank b = false := by simp [ownBank, hle]
  rw [State.fuseWrite_shared hm hbit hb ho hv readOk rfl,
    State.agreedWith_addVote (s := s.askBurn v b) h (by simp [hwv.symm]) (by simpa using ⟨hv, hw⟩), List.length_singleton,
    if_pos rfl]
  exact State.burnForAll_shared (s := (s.askBurn v b).addVote v 0x08007018 val) ho hroom readOk

/-- R386, banks 5 to 7: the third write changes nothing but its vote. -/
theorem State.fuseWrite_shared_third {w y : Vtx} (hwv : w ≠ v) (hyv : y ≠ v) (hwy : w ≠ y) (hw : s.inService w = true)
    (hy : s.inService y = true) (h : s.voters 0x08007018 val = [w, y]) (readOk : Bool) :
    s.fuseWrite v val readOk = { (s.askBurn v b).addVote v 0x08007018 val with fuse := s.fuse } := by
  have ho : ownBank b = false := by simp [ownBank, hle]
  rw [State.fuseWrite_shared hm hbit hb ho hv readOk rfl,
    State.agreedWith_addVote (s := s.askBurn v b) h (by simp [hwv.symm, hyv.symm, hwy]) (by simpa using ⟨hv, hw, hy⟩)]
  rfl

end

end

theorem State.fuseWrite_of_mode {s : State} (hm : s.mode ≠ .commission) (v : Vtx) (val : Word) (readOk : Bool) :
    s.fuseWrite v val readOk = s.recBy v .writeRefused 0x08007018 1 0 := if_pos hm

/-! ### The write of a PTB register -/

section
variable {s : State} (v : Vtx) (off : BitVec 12) (val : Word)

theorem State.ptbSet_of_mode (hm : s.mode ≠ .maintenance) :
    s.ptbSet v off val = s.recBy v .writeRefused (0x0800B000 + off.toNat) 1 0 := if_pos hm

theorem State.ptbSet_of_seal (hm : s.mode = .maintenance) (h4 : s.blk.cyc.sw4 = false) :
    s.ptbSet v off val = s.recBy v .sealRefused (0x0800B000 + off.toNat) 0 0 := by
  simp [State.ptbSet, hm, h4, State.sealRefused]

theorem State.ptbSet_stands (hm : s.mode = .maintenance) (h4 : s.blk.cyc.sw4 = true) :
    s.ptbSet v off val =
      s.modPtb (fun p => { p with own := p.own.set v ((p.own.get v).write off.toNat val) }) := by
  simp [State.ptbSet, hm, h4]

end

/-! ### The commands -/

theorem exec_fusectlBurn_next (v : Vtx) (val : Word) (readOk : Bool) (s : State) :
    exec (.fusectlBurn v val readOk) s = .next (s.fuseWrite v val readOk) := rfl

theorem exec_ptbWrite_next (v : Vtx) (off : BitVec 12) (val : Word) (s : State) :
    exec (.ptbWrite v off val) s = .next (s.ptbSet v off val) := rfl

/-! ### O45 -/

/-- Settles O45: each write is one of the cases of `fuseWrite` and `ptbSet`. -/
theorem testRegistersAreGuarded : Obligations.TestRegistersAreGuarded := by
  intro v val s
  simp only [exec_fusectlBurn_next, exec_ptbWrite_next]
  refine ⟨fun readOk => ⟨fun hm => ?_, fun hm hbit hlt => ⟨fun hroom => ?_, fun hfull => ?_⟩, fun hm hbit hle hv =>
    ⟨fun h => ?_, fun w hwv hw h hroom => ?_, fun w y hwv hyv hwy hw hy h => ?_⟩⟩, rfl,
    fun off => ⟨fun hm => ?_, fun hm h4 => ?_, fun hm h4 => ?_⟩⟩
  · rw [State.fuseWrite_of_mode hm]
  · obtain ⟨hf, ⟨-, hd, he⟩, hmode, hsh⟩ := State.fuseWrite_burns_own hm hbit rfl hlt hroom readOk
    refine ⟨_, rfl, ?_, hd, he, hmode, fun w hw => ?_, hsh⟩
    · rw [hf]; exact Tri.get_set_same _ _ _
    · rw [hf]; exact Tri.get_set_other _ _ hw
  · rw [State.fuseWrite_own_full hm hbit rfl hlt hfull]
  · rw [State.fuseWrite_shared_first hm hbit rfl hle hv h]
    refine ⟨_, rfl, ?_, ?_, rfl, rfl⟩
    · simp [State.addVote, State.askBurn]
    · simp [State.addVote, State.askBurn]
  · obtain ⟨hsh, hf, hend⟩ := State.fuseWrite_shared_second hm hbit rfl hle hv hwv hw h hroom readOk
    exact ⟨_, rfl, hsh, hf, hend⟩
  · rw [State.fuseWrite_shared_third hm hbit rfl hle hv hwv hyv hwy hw hy h]
    exact ⟨_, rfl, rfl, rfl⟩
  · rw [State.ptbSet_of_mode v off val hm]
  · rw [State.ptbSet_of_seal v off val hm h4]
  · rw [State.ptbSet_stands v off val hm h4]
    refine ⟨_, rfl, rfl, rfl, rfl, fun ho => ?_⟩
    subst ho
    simp [State.modPtb, PtbVals.write]

end Sys2Proof.Machine

/-! PROOFS. The module right after reset (R17), and O60. -/

namespace Sys2Proof.Machine

theorem State.v_reset (v : Vtx) : State.reset.v v = .reset := Tri.get_all _ v

/-- Settles O60: canonical memories by `State.memWf_reset`, everything else by the values of the tables. -/
theorem resetLeavesItsValues : Obligations.ResetLeavesItsValues := by
  refine ⟨State.memWf_reset, rfl, rfl, rfl, rfl, rfl, rfl, rfl, ?_, ?_, fun n => ?_, fun v r => ?_, fun v => ?_⟩
  · intro q hq
    rw [List.eq_of_mem_replicate hq]
    rfl
  · intro q hq
    rw [List.eq_of_mem_replicate hq]
  · cases n <;> rfl
  · rw [State.v_reset]
    exact Vector.getElem_replicate _
  · cases v <;> exact ⟨rfl, rfl, rfl, rfl, rfl⟩

end Sys2Proof.Machine

/-! PROOFS. The close of a full stride (R211), the first trap of a vertex in service (R105, R226), the start of a task (R100),
and O26. -/

namespace Sys2Proof.Machine

/-! ### The close of a full stride -/

section
variable {s : State} {v : Vtx}

theorem State.closeFull_of_lt (h : (s.v v).core.retired < 256) : s.closeFull v = s := if_pos h

/-- Outside a debug furlong the signature is sent. -/
theorem State.closeFull_of_full (h : 256 ≤ (s.v v).core.retired) (hd : s.debugging v = false) :
    s.closeFull v =
      (s.setV v ((s.v v).nextStride ((s.v v).closeSig s.fnum 0))).sendEntry v
        ⟨.sig, (s.v v).strideNo % 4096, (s.v v).closeSig s.fnum 0⟩ := by
  simp [State.closeFull, Nat.not_lt.mpr h, hd]

end

/-- The close of a stride changes the links and, by the next stride, the vertex. -/
theorem State.closeFull_frame (s : State) (v : Vtx) :
    ∃ x l, s.closeFull v = { s.setV v x with links := l } ∧ (x = s.v v ∨ ∃ sig, x = (s.v v).nextStride sig) := by
  by_cases h : (s.v v).core.retired < 256
  · exact ⟨s.v v, s.links, by rw [State.closeFull_of_lt h, State.setV_v], .inl rfl⟩
  · cases hd : s.debugging v with
    | false =>
      rw [State.closeFull_of_full (Nat.le_of_not_lt h) hd]
      exact ⟨_, _, rfl, .inr ⟨_, rfl⟩⟩
    | true =>
      simp only [State.closeFull, h, hd, if_true, if_false]
      exact ⟨_, s.links, rfl, .inr ⟨_, rfl⟩⟩

section
variable (s : State) (v : Vtx)

@[simp] theorem State.closeFull_blk : (s.closeFull v).blk = s.blk := by
  obtain ⟨x, l, h, -⟩ := s.closeFull_frame v
  rw [h]; rfl

/-- Of the vertex the close of a stride changes the open stride, its counts and the last signature. -/
theorem State.v_closeFull_eq :
    (s.closeFull v).v v =
      let x := (s.closeFull v).v v
      { s.v v with
        core := { (s.v v).core with retired := x.core.retired, stream := x.core.stream },
        strideNo := x.strideNo, strides := x.strides, dbg := { (s.v v).dbg with lastSig := x.dbg.lastSig } } := by
  obtain ⟨x, l, h, hx⟩ := s.closeFull_frame v
  have hv : (s.closeFull v).v v = x := by rw [h]; exact State.v_setV s v x
  rw [hv]
  rcases hx with rfl | ⟨sig, rfl⟩
  · rfl
  · rfl

@[simp] theorem State.closeFull_todo : ((s.closeFull v).v v).todo = (s.v v).todo := by rw [State.v_closeFull_eq]
@[simp] theorem State.closeFull_cur : ((s.closeFull v).v v).cur = (s.v v).cur := by rw [State.v_closeFull_eq]
@[simp] theorem State.closeFull_mem : ((s.closeFull v).v v).mem = (s.v v).mem := by rw [State.v_closeFull_eq]
@[simp] theorem State.closeFull_stopped : ((s.closeFull v).v v).stopped = (s.v v).stopped := by rw [State.v_closeFull_eq]
@[simp] theorem State.closeFull_dbg_started : ((s.closeFull v).v v).dbg.started = (s.v v).dbg.started := by
  rw [State.v_closeFull_eq]
@[simp] theorem State.closeFull_dbg_halted : ((s.closeFull v).v v).dbg.halted = (s.v v).dbg.halted := by
  rw [State.v_closeFull_eq]

/-- The close of a stride leaves the phase of the furlong. -/
theorem State.closeFull_phase : (s.closeFull v).boundaries = s.boundaries ∧ (s.closeFull v).p2 = s.p2 := by
  obtain ⟨x, l, h, -⟩ := s.closeFull_frame v
  rw [h]
  exact ⟨rfl, rfl⟩

theorem State.inService_closeFull : (s.closeFull v).inService = s.inService := by
  funext u
  simp only [State.inService, State.closeFull_blk]

theorem State.v_closeFull_other {s : State} {u v : Vtx} (hu : u ≠ v) : (s.closeFull v).v u = s.v u := by
  obtain ⟨x, l, h, -⟩ := s.closeFull_frame v
  rw [h]
  exact State.v_setV_other s x hu

theorem State.debugging_closeFull : (s.closeFull v).debugging v = s.debugging v := by
  simp only [State.debugging, State.closeFull_blk, State.closeFull_dbg_started, State.closeFull_dbg_halted]

theorem State.runsApp_closeFull : (s.closeFull v).runsApp v = s.runsApp v := by
  simp only [State.runsApp, State.appMode, State.r478, State.mode, State.inService_closeFull, State.trial,
    State.closeFull_blk, State.closeFull_stopped]

/-- STRD counts the strides of the other vertices, which a close leaves. -/
theorem State.heldBack_closeFull : (s.closeFull v).heldBack v = s.heldBack v := by
  have hserving : (s.closeFull v).serving = s.serving := by
    simp only [State.serving, State.inService_closeFull]
  have hlead : (s.serving.filter (fun u => u != v)).map (fun u => ((s.closeFull v).v u).strides) =
      (s.serving.filter (fun u => u != v)).map (fun u => (s.v u).strides) :=
    List.map_congr_left fun u hu => by
      rw [State.v_closeFull_other (by simpa using (List.mem_filter.mp hu).2)]
  simp only [State.heldBack, State.closeFull_blk, hserving, hlead]

theorem State.canStart_closeFull : (s.closeFull v).canStart v = s.canStart v := by
  simp only [State.canStart, State.runsApp_closeFull, State.heldBack_closeFull, State.debugging_closeFull,
    State.closeFull_phase, State.closeFull_cur]

end

/-! ### The first trap of a furlong -/

@[simp] theorem State.sendEntry_v (s : State) (u v : Vtx) (e : Entry) : (s.sendEntry v e).v u = s.v u := rfl

@[simp] theorem State.links_sendEntry_same (s : State) (v y : Vtx) (e : Entry) :
    ((s.sendEntry v e).links.get v).get y = (s.links.get v).get y ++ [e] := by
  simp [State.sendEntry]

theorem State.links_sendEntry_other (s : State) {u v : Vtx} (e : Entry) (h : u ≠ v) :
    (s.sendEntry v e).links.get u = s.links.get u := Tri.get_set_other _ _ h

/-- A vertex in service, in no rejoin trial, that finds itself at fault. -/
theorem State.selfFault_stops {s : State} {v : Vtx} (ht : s.trial v = false) (hs : s.inService v = true) (c : XCause) :
    StopsWith s (s.selfFault v c) v c := by
  have h : s.selfFault v c = (s.modV v Vertex.stop).sendEntry v (wdEntry c) := by simp [State.selfFault, ht, hs]
  rw [h]
  refine ⟨?_, ?_, ?_, fun y => State.links_sendEntry_same _ v y _, fun u hu => State.links_sendEntry_other _ _ hu, rfl,
    fun _ => rfl⟩
  all_goals rw [State.sendEntry_v, State.v_modV, Vertex.stop]

/-- No other vertex has trapped before: the trap is a fault of the vertex alone. -/
theorem State.trapOutcome_first {s : State} (h : s.traps = []) (v : Vtx) (c : TrapCause) (task : Nat) (pc : Word) :
    s.trapOutcome v c task pc = { s with traps := [⟨v, c, task, pc⟩] }.selfFault v (.trap c) := by
  have hmatch : s.trapMatch v c task pc = false := by simp [State.trapMatch, h]
  have hmask : s.budgetMask v task = 2 ^ v.num := by simp [State.budgetMask, h, Vtx.list]
  simp [State.trapOutcome, hmatch, hmask, h]

/-- The state after the records and the count of a trap, before its outcome (R105, R108). -/
def State.trapNoted (s : State) (v : Vtx) (c : TrapCause) (user addr : Nat) (pc : Word) (count : Nat) : State :=
  let core := (s.v v).core
  let s1 := s.recOwn v .vertexTrap (trapBody v c user core.task pc addr core.tcw s.fnum count)
  let s2 := if c == .deadline then s1.record .deadline v.num core.task 0 else s1
  if c == .budget then
    s2.modV v (fun x => { x with loc := { x.loc with tuseOvr := modNth x.loc.tuseOvr core.task (satInc 7) } })
  else s2

/-- The records and the count of a trap change the vertices alone. -/
theorem State.trapNoted_frame (s : State) (v : Vtx) (c : TrapCause) (user addr : Nat) (pc : Word) (count : Nat) :
    ∃ x, s.trapNoted v c user addr pc count = s.withVtx x := by
  unfold State.trapNoted
  split <;> split <;> exact ⟨_, rfl⟩

/-- A trap outside a debug furlong and a rejoin trial is noted and has its outcome. -/
theorem State.raiseTrap_outcome {s : State} {v : Vtx} (hd : s.debugging v = false) (ht : s.trial v = false) (c : TrapCause)
    (user addr : Nat) (pc : Word) (count : Nat) :
    s.raiseTrap v c user addr pc count =
      (s.trapNoted v c user addr pc count).trapOutcome v c (s.v v).core.task pc := by
  unfold State.raiseTrap
  rw [if_neg (ne_true_of_eq_false hd)]
  exact if_neg (ne_true_of_eq_false ht)

/-- The first trap of a furlong, of a vertex in service outside a debug furlong and a rejoin trial, stops the vertex with WD. -/
theorem State.raiseTrap_stops {s : State} {v : Vtx} (hd : s.debugging v = false) (hs : s.inService v = true)
    (ht : s.trial v = false) (h : s.traps = []) (c : TrapCause) (user addr : Nat) (pc : Word) (count : Nat) :
    StopsWith s (s.raiseTrap v c user addr pc count) v (.trap c) := by
  obtain ⟨x, hx⟩ := s.trapNoted_frame v c user addr pc count
  rw [State.raiseTrap_outcome hd ht, hx, State.trapOutcome_first (s := s.withVtx x) h]
  exact State.selfFault_stops (s := { s.withVtx x with traps := _ }) ht hs (.trap c)

/-- A trap that the clock brings is raised in the vertex, or in the vertex before the first of the pair (R110). -/
theorem State.clockTrap_eq (s : State) (v : Vtx) (c : TrapCause) (count : Nat) :
    ∃ x pc, s.clockTrap v c count = (s.setV v x).raiseTrap v c 0 0 pc count ∧ x.dbg = (s.v v).dbg := by
  cases h : (s.v v).midPair with
  | none => exact ⟨s.v v, (s.v v).core.pc, by simp only [State.clockTrap, h, State.setV_v], rfl⟩
  | some l => exact ⟨(s.v v).undoFirst l, l.addr, by simp only [State.clockTrap, h], rfl⟩

theorem State.clockTrap_stops {s : State} {v : Vtx} (hd : s.debugging v = false) (hs : s.inService v = true)
    (ht : s.trial v = false) (h : s.traps = []) (c : TrapCause) (count : Nat) :
    StopsWith s (s.clockTrap v c count) v (.trap c) := by
  obtain ⟨x, pc, hx, hdbg⟩ := s.clockTrap_eq v c count
  have hd' : (s.setV v x).debugging v = false := by
    rw [← hd]; simp only [State.debugging, State.v_setV, State.setV_blk, hdbg]
  rw [hx]
  exact State.raiseTrap_stops (s := s.setV v x) hd' hs ht h c 0 0 pc count

/-! ### The start of a task -/

/-- The vertex at the start of task `k`, with `rest` still to do (R100). -/
def Vertex.startTask (x : Vertex) (k : Nat) (rest : List Nat) (d : TaskDecl) : Vertex :=
  { x.scrub (descWords d.root) with core := x.core.startTask k d x.mem, cur := some k, todo := rest, last := none }

theorem VMem.firstBad_descWords {m : VMem} {d : Nat} (h : 16 * d ∉ m.ecc) (h8 : 16 * d + 8 ∉ m.ecc) :
    m.firstBad (descWords d) = none := by
  simp [VMem.firstBad, descWords, h, h8]

theorem exec_taskStart_starts {s : State} {v : Vtx} {k : Nat} {rest : List Nat} {d : TaskDecl} (hc : s.canStart v = true)
    (htodo : (s.v v).todo = k :: rest) (ht : s.blk.cyc.tasks[k]? = some d)
    (hb : (s.v v).mem.firstBad (descWords d.root) = none) :
    exec (.taskStart v) s =
      .next ((s.closeFull v).setV v (((s.closeFull v).v v).startTask k rest d)) := by
  change execTaskStart v s = _
  simp only [execTaskStart, hc, if_true, State.closeFull_todo, htodo, State.closeFull_blk, ht, State.canStart_closeFull,
    State.closeFull_mem, hb]
  rw [Vertex.startTask, State.closeFull_mem]
  rfl

theorem Core.reg_startTask (c : Core) (k : Nat) (d : TaskDecl) (m : VMem) (r : BitVec 4) : (c.startTask k d m).reg r = 0 :=
  Vector.getElem_replicate _

/-! ### Waiting and the close of a stride -/

section
variable {s : State} {v : Vtx} {stall : Nat} (he : s.executing v = true)
include he

theorem exec_budgetTrap_within (h : (s.v v).core.count + stall ≤ s.budget (s.v v)) :
    exec (.budgetTrap v stall) s =
      .next (s.setV v { s.v v with core := { (s.v v).core with count := (s.v v).core.count + stall } }) := by
  change execBudgetTrap v stall s = _
  simp [execBudgetTrap, he, Nat.not_lt.mpr h, ok]

theorem exec_budgetTrap_beyond (h : s.budget (s.v v) < (s.v v).core.count + stall) (hd : s.debugging v = false) :
    exec (.budgetTrap v stall) s = .next (s.clockTrap v .budget (s.budget (s.v v) + 1)) := by
  change execBudgetTrap v stall s = _
  simp [execBudgetTrap, he, h, hd, ok]

end

theorem exec_strideClose_next {s : State} {v : Vtx} (h : s.runsApp v = true) :
    exec (.strideClose v) s = .next (s.closeFull v) := by
  change execStrideClose v s = _
  simp [execStrideClose, h, ok]

/-! ### O26 -/

/-- Settles O26: the start of a task, waiting within and beyond the budget, and the close of a full and of an open stride. -/
theorem tasksStartAndStridesClose : Obligations.TasksStartAndStridesClose := by
  intro v s
  refine ⟨fun k rest d hc htodo ht hlo hhi => ?_, fun stall he h => ⟨_, exec_budgetTrap_within he h, rfl⟩,
    fun stall he h hd hs htr htraps => ⟨_, exec_budgetTrap_beyond he h hd, State.clockTrap_stops hd hs htr htraps _ _⟩,
    fun hr hd h => ?_, fun hr h => by rw [exec_strideClose_next hr, State.closeFull_of_lt h]⟩
  · refine ⟨_, exec_taskStart_starts hc htodo ht (VMem.firstBad_descWords hlo hhi), ?_⟩
    rw [State.v_setV, ← State.closeFull_mem s v]
    exact ⟨rfl, Core.reg_startTask _ k d _, rfl, rfl, rfl, rfl, rfl, rfl, rfl, rfl, rfl, rfl, rfl, rfl⟩
  · refine ⟨_, exec_strideClose_next hr, ?_⟩
    rw [State.closeFull_of_full h hd]
    simp only [State.sendEntry_v, State.v_setV]
    exact ⟨rfl, rfl, rfl, rfl, fun y => State.links_sendEntry_same _ v y _, rfl, fun w hw => State.v_setV_other s _ hw⟩

end Sys2Proof.Machine

/-! PROOFS. What a store of an instruction leaves (R10, R206), what an instruction leaves whose body is done, and O17: RTRIG
and FTRIG (R156). -/

namespace Sys2Proof.Machine

/-! ### One byte -/

/-- A written byte other than the default is read back, whether the memory is canonical or not. -/
theorem Memory.read_write_of_ne_default (m : List Host.Cell) (a : Nat) {x : Byte} (hx : x ≠ Memory.default) :
    Memory.read (Memory.write m a x) a = x := by
  induction m with
  | nil => simp [Memory.write, Memory.read, hx]
  | cons c m ih =>
    obtain ⟨k, b⟩ := c
    unfold Memory.write
    split
    · simp [Memory.read]
    · split
      · simp [Memory.read]
      · next hne => simp only [Memory.read, if_neg (Ne.symm hne), ih]

/-- A number of one byte is that byte. -/
theorem Memory.load_one (m : List Host.Cell) (a : Nat) : Memory.load m a 1 = (Memory.read m a).toNat := rfl

@[simp] theorem leBytes_length (n x : Nat) : (leBytes n x).length = n := by
  induction n generalizing x with
  | zero => rfl
  | succ n ih => simp [leBytes, ih]

/-! ### The cells of a region -/

section
variable (m : VMem) (r : Region) (c : List Host.Cell)

@[simp] theorem VMem.setCells_work1 : (m.setCells r c).work1 = m.work1 := by
  cases r with
  | imgOut => cases h : m.work1 <;> simp [VMem.setCells, h]
  | _ => rfl

@[simp] theorem VMem.cells_setCells_same : (m.setCells r c).cells r = c := by
  cases r with
  | imgOut => cases h : m.work1 <;> simp [VMem.setCells, VMem.cells, h]
  | _ => rfl

@[simp] theorem VMem.transmit_setCells : (m.setCells r c).transmit = m.transmit := by
  cases r with
  | imgOut => cases h : m.work1 <;> simp [VMem.setCells, VMem.transmit, h]
  | _ => rfl

theorem VMem.cells_setCells_other {q : Region} (h : q ≠ r) : (m.setCells r c).cells q = m.cells q := by
  cases r with
  | imgOut =>
    cases hw : m.work1 <;> cases q <;> simp [VMem.setCells, VMem.cells, hw] at h ⊢
  | _ => cases q <;> simp only [ne_eq, not_true_eq_false] at h <;> rfl

end

/-! ### A store of an instruction -/

@[simp] theorem Vertex.feed_mem (x : Vertex) (k : SigRec) : (x.feed k).mem = x.mem := by rw [Vertex.feed_eq]

@[simp] theorem Vertex.feed_lat (x : Vertex) (k : SigRec) : (x.feed k).lat = x.lat := by rw [Vertex.feed_eq]

@[simp] theorem Vertex.touch_lat (x : Vertex) (r : Region) (a : Nat) : (x.touch r a).lat = x.lat := by
  unfold Vertex.touch; split <;> rfl

/-- Of the memories a read changes the list of the correctable errors. -/
theorem Vertex.touch_mem (x : Vertex) (r : Region) (a : Nat) : ∃ e1, (x.touch r a).mem = { x.mem with ecc1 := e1 } := by
  unfold Vertex.touch
  split
  · exact ⟨_, rfl⟩
  · exact ⟨x.mem.ecc1, rfl⟩

/-- Of the memories a store changes the cells of its region and the error lists. -/
theorem VMem.store_eq (m : VMem) (r : Region) (a n x : Nat) :
    ∃ e e1, m.store r a n x = { m with ecc := e, ecc1 := e1 }.setCells r (Memory.store (m.cells r) a n x) := by
  unfold VMem.store
  split
  · exact ⟨_, _, rfl⟩
  · exact ⟨m.ecc, _, rfl⟩

section
variable (x : Vertex) (r : Region) (a n val : Nat)

@[simp] theorem Vertex.storeRec_core :
    (x.storeRec r a n val).core =
      { x.core with stream := .store n a (BitVec.ofNat 64 (val % 2 ^ (8 * n))) :: x.core.stream } := by
  unfold Vertex.storeRec
  rw [Vertex.feed_core]
  split
  · rfl
  · rw [Vertex.touch_core]

@[simp] theorem Vertex.storeRec_lat : (x.storeRec r a n val).lat = x.lat := by
  unfold Vertex.storeRec
  rw [Vertex.feed_lat]
  split
  · rfl
  · exact x.touch_lat r a

/-- Of the memories a store with its record changes the cells of its region and the error lists. -/
theorem Vertex.storeRec_mem :
    ∃ e e1, (x.storeRec r a n val).mem =
      { x.mem with ecc := e, ecc1 := e1 }.setCells r (Memory.store (x.mem.cells r) a n val) := by
  unfold Vertex.storeRec
  rw [Vertex.feed_mem]
  split
  · exact x.mem.store_eq r a n val
  · obtain ⟨c1, hc⟩ := x.touch_mem r a
    obtain ⟨e, e1, h⟩ := VMem.store_eq { x.mem with ecc1 := c1 } r a n val
    exact ⟨e, e1, by rw [hc]; exact h⟩

end

/-- A vertex with the memories that a store leaves, where the bytes stored are read back. -/
theorem Vertex.storeRec_storedBytes {x y : Vertex} {r : Region} {a n val : Nat} (hy : y.mem = (x.storeRec r a n val).mem)
    (hread : ∀ i, i < n →
      Memory.read (Memory.store (x.mem.cells r) a n val) (a + i) = BitVec.ofNat 8 (val / 256 ^ i)) :
    StoredBytes x y r a n val := by
  obtain ⟨e, e1, hmem⟩ := x.storeRec_mem r a n val
  rw [← hy] at hmem
  refine ⟨fun i hi => ?_, fun q b h => ?_, ?_, ?_⟩
  · rw [hmem, VMem.cells_setCells_same, hread i hi]
  · rw [hmem]
    by_cases hq : q = r
    · subst hq
      rw [VMem.cells_setCells_same]
      exact Memory.read_put_other _ _ (by simpa using h)
    · rw [VMem.cells_setCells_other _ _ _ hq]
      rfl
  · rw [hmem, VMem.transmit_setCells]
    rfl
  · rw [hmem, VMem.setCells_work1]

/-- The store of one byte other than the default. -/
theorem Vertex.storeRec_storedByte {x y : Vertex} {r : Region} {a val : Nat} (hy : y.mem = (x.storeRec r a 1 val).mem)
    (hval : BitVec.ofNat 8 val ≠ Memory.default) : StoredBytes x y r a 1 val := by
  refine Vertex.storeRec_storedBytes hy fun i hi => ?_
  obtain rfl : i = 0 := Nat.lt_one_iff.mp hi
  rw [Nat.add_zero, Nat.pow_zero, Nat.div_one]
  exact Memory.read_write_of_ne_default _ a hval

/-! ### An instruction whose body is done -/

/-- An instruction that leaves `y` and goes on in sequence: of `y` only PC, the counts and the memory of the last issue change,
and the debug channel. -/
theorem State.run_done {s t : State} {v : Vtx} {m : Vertex → IMeta} {body : Vertex → IRes} {k : IMeta} {y : Vertex}
    {undo : List Host.Cell} (ht : t = s.run v m false body) (h : MayIssue s v k) (hm : m ((s.closeFull v).v v) = k)
    (hb : body (s.issueVertex v k.words) = .done y none undo)
    (hy : y.core.retired = (s.issueVertex v k.words).core.retired) :
    Retires s t v k (s.nextPc v k) ∧
      ∃ pc count retired last dbg, t.v v =
        { y with core := { y.core with pc := pc, count := count, retired := retired }, last := last, dbg := dbg } := by
  rw [ht, State.run, State.instr_done (post := id) h hm hb]
  refine ⟨⟨?_, ?_, ?_, ?_⟩, ?_⟩
  · simp [State.issueState_setV]
  · simp [State.nextPc, State.issueVertex_core]
  · simp
  · simp [hy]
  · simp only [id, State.v_setV]
    rw [Vertex.finish_eq, Vertex.retire_rest]
    exact ⟨_, _, _, _, _, rfl⟩

/-! ### O17 -/

/-- The SBOOL code of a truth value (Table 3.4), as a byte holds it. -/
def edgeCode (b : Bool) : Nat := if b then 2 else 1

theorem edgeCode_valid (b : Bool) : ¬ (edgeCode b ≠ 1 ∧ edgeCode b ≠ 2) := by cases b <;> decide

theorem edgeCode_eq_two (b : Bool) : (edgeCode b == 2) = b := by cases b <;> rfl

/-- The code of a truth value is never the default of an unlisted address. -/
theorem edgeCode_ne_default (b : Bool) : BitVec.ofNat 8 (edgeCode b) ≠ Memory.default := by cases b <;> decide

/-- The vertex after an edge instruction at `a`: the byte takes the code of the input, the register takes `q` (R156). -/
def Vertex.edgeDone (x : Vertex) (d : BitVec 4) (a : Nat) (q : Bool) : Vertex :=
  ((x.storeRec .inst a 1 (edgeCode ((x.reg d).getLsbD 0))).setReg d (if q then 1 else 0)).setFlags (setZ x.core.fl (!q))

section
variable (x : Vertex) (d : BitVec 4) (a : Nat) (q : Bool)

theorem Vertex.edgeDone_mem :
    (x.edgeDone d a q).mem = (x.storeRec .inst a 1 (edgeCode ((x.reg d).getLsbD 0))).mem := rfl

theorem Vertex.edgeDone_lat : (x.edgeDone d a q).lat = x.lat := Vertex.storeRec_lat ..

theorem Vertex.edgeDone_fl : (x.edgeDone d a q).core.fl = { x.core.fl with z := !q } := rfl

theorem Vertex.edgeDone_retired : (x.edgeDone d a q).core.retired = x.core.retired := by
  simp [Vertex.edgeDone, Vertex.setFlags, Vertex.setReg, Core.setReg]

theorem Vertex.edgeDone_reg_same : (x.edgeDone d a q).reg d = if q then 1 else 0 := Vertex.reg_setReg_same ..

theorem Vertex.edgeDone_reg_other {r : BitVec 4} (h : r ≠ d) : (x.edgeDone d a q).reg r = x.reg r := by
  refine (Vertex.reg_setReg_other _ _ h).trans ?_
  rw [Vertex.reg, Vertex.storeRec_core]
  rfl

end

/-- What an edge instruction of data `m` leaves on the byte at `a` with register `d`, where Q is `q`. -/
def EdgeResult (s t : State) (v : Vtx) (m : IMeta) (d : BitVec 4) (a : Nat) (q : Bool) : Prop :=
  let x := s.issueVertex v 1
  Retires s t v m (s.nextPc v m) ∧ StoredBytes x (t.v v) .inst a 1 (edgeCode ((x.reg d).getLsbD 0)) ∧
    (t.v v).reg d = (if q then 1 else 0) ∧ (∀ r, r ≠ d → (t.v v).reg r = x.reg r) ∧
    (t.v v).core.fl = { x.core.fl with z := !q } ∧ (t.v v).lat = x.lat

/-- RTRIG and FTRIG at once: `q` gives Q from the input and the previous input, whose code the byte holds. -/
theorem State.edgeInstr_result {s : State} {v : Vtx} {f : FmtM} {w : Nat} {prev : Bool} (q : Bool → Bool → Bool) :
    let x := s.issueVertex v 1
    let a := (x.core.ib + f.off.zeroExtend 32).toNat
    MayIssue s v (metaU (3 + min w 2)) → 0x01000000 ≤ a → a < mirrorBase s.profile → x.mem.bad .inst a = false →
    Memory.read x.mem.inst a = (if prev then 2 else 1) →
      EdgeResult s (s.edgeInstr v f w q) v (metaU (3 + min w 2)) f.t a (q ((x.reg f.t).getLsbD 0) prev) := by
  intro x a h hlo hhi hecc hprev
  have hissue : s.issueVertex v (metaU (3 + min w 2)).words = x := rfl
  have hframe : s.frameAccess a = true := by simp [State.frameAccess, hlo, hhi]
  have hload : x.mem.load .inst a 1 = edgeCode prev := by
    rw [VMem.load, Memory.load_one, VMem.cells, hprev]
    cases prev <;> rfl
  have haddr : (x.core.ib + w32 f.off.toNat).toNat = a := by rw [w32, BitVec.ofNat_toNat]
  generalize hQ : q ((x.reg f.t).getLsbD 0) prev = Q
  obtain ⟨hret, pc, count, retired, last, dbg, hv⟩ :=
    State.run_done (t := s.edgeInstr v f w q) (y := x.edgeDone f.t a Q) rfl h rfl
      (by
        simp only [hissue, haddr, hframe, hecc, hload, edgeCode_eq_two, if_neg (edgeCode_valid prev), hQ]
        rfl)
      (x.edgeDone_retired f.t a Q)
  refine ⟨hret, ?_, ?_, fun r hr => ?_, ?_, ?_⟩
  · exact Vertex.storeRec_storedByte (by rw [hv, ← Vertex.edgeDone_mem]) (edgeCode_ne_default _)
  · rw [hv]
    exact x.edgeDone_reg_same f.t a Q
  · rw [hv]
    exact x.edgeDone_reg_other f.t a Q hr
  · rw [hv]
    exact x.edgeDone_fl f.t a Q
  · rw [hv]
    exact x.edgeDone_lat f.t a Q

/-- Settles O17: the two edge instructions differ only in how Q comes from the input and the previous input. -/
theorem edgesAreSeenOnce : Obligations.EdgesAreSeenOnce := by
  intro s v f w prev x a inp h hlo hhi hecc hprev p hp
  simp only [List.mem_cons, List.not_mem_nil, or_false] at hp
  rcases hp with rfl | rfl
  · exact ⟨_, rfl, State.edgeInstr_result (fun inp prev => inp && !prev) h hlo hhi hecc hprev⟩
  · exact ⟨_, rfl, State.edgeInstr_result (fun inp prev => !inp && prev) h hlo hhi hecc hprev⟩

end Sys2Proof.Machine

/-! PROOFS. A change to HALT in the CYC block (R67, R68), the pass of a vertex in time and its overrun (R182 to R184), and O25. -/

namespace Sys2Proof

theorem Tri.members_isEmpty_iff (t : Tri Bool) : t.members.isEmpty = true ↔ t = Tri.all false := by
  obtain ⟨a, b, c⟩ := t
  revert a b c
  decide

namespace Machine

@[simp] theorem State.elapse_boundaries (s : State) (dt : Nat) : (s.elapse dt).boundaries = s.boundaries := rfl

/-! ### The CYC block at a change to HALT -/

section
variable (s : State)

@[simp] theorem State.cyc_outputsMode : s.outputsMode.blk.cyc = s.blk.cyc := by
  unfold State.outputsMode
  split <;> rfl

@[simp] theorem State.blk_sendChord (f : ChordFrame) : (s.sendChord f).blk = s.blk := by
  unfold State.sendChord
  split <;> split <;> rfl

@[simp] theorem State.cyc_cutSet : s.cutSet.blk.cyc = s.blk.cyc := by
  unfold State.cutSet
  split
  · split <;> rfl
  · rfl

theorem State.cyc_abdicate : s.abdicate.blk.cyc = s.blk.cyc :=
  (congrArg Blocks.cyc (State.blk_sendChord _ _)).trans (State.cyc_cutSet s)

@[simp] theorem State.cyc_pairMode (was : Mode) : (s.pairMode was).blk.cyc = s.blk.cyc := by
  simp only [State.pairMode, State.modPair, State.modChd, apply_ite State.blk, apply_ite Blocks.cyc, State.cyc_abdicate,
    ite_self]

/-- A change of mode writes the mode and its cause. -/
@[simp] theorem State.cyc_setMode (m : Mode) (c : MCause) :
    (s.setMode m c).blk.cyc = { s.blk.cyc with mode := m, cause := c } := by
  simp only [State.setMode, State.cyc_pairMode, State.cyc_outputsMode, State.modCyc_cyc]
  rfl

@[simp] theorem State.cyc_rejoinFail (reason : Nat) : (s.rejoinFail reason).blk.cyc = s.blk.cyc := by
  unfold State.rejoinFail
  split
  · rfl
  · split <;> rfl

@[simp] theorem State.cyc_ptbClear : s.ptbClear.blk.cyc = s.blk.cyc := by
  unfold State.ptbClear
  split <;> rfl

@[simp] theorem State.blk_probationHalt : s.probationHalt.blk = s.blk := by
  unfold State.probationHalt
  split <;> rfl

@[simp] theorem State.cyc_haltEffects : s.haltEffects.blk.cyc = s.blk.cyc := by
  rw [State.haltEffects, State.blk_probationHalt, State.cyc_ptbClear]
  rfl

end

/-- A change to HALT writes HALT and its cause. -/
theorem State.cyc_halt {s : State} (h : s.mode ≠ .halt) (c : MCause) :
    (s.halt c).blk.cyc = { s.blk.cyc with mode := .halt, cause := c } := by
  rw [State.halt, if_neg h, State.cyc_haltEffects, State.modAll_blk, State.cyc_setMode, State.cyc_rejoinFail]

/-- No vertex runs the application in HALT (Table 2.5). -/
theorem State.mode_ne_halt_of_runsApp {s : State} {v : Vtx} (h : s.runsApp v = true) : s.mode ≠ .halt := by
  intro hm
  simp [State.runsApp, State.appMode, hm] at h

/-! ### The pass -/

/-- None of the words read has an uncorrectable error. -/
theorem VMem.firstBad_of_readable {x : Vertex} {words : List Nat} (h : Readable x words) : x.mem.firstBad words = none := by
  simpa [VMem.firstBad, Readable] using h

/-- The evaluation of a FREE route (R183): it is settable exactly where it has no failure. -/
theorem Lattice.evalRoute_free (l : Lattice) (r : Nat) {q : Route} (h : q.rstate = .free) :
    (l.evalRoute r q).rstate = .free ∧ (l.evalRoute r q).decl = q.decl ∧
      ((l.evalRoute r q).settable = true ↔ l.failure q.decl = none) := by
  unfold Lattice.evalRoute
  rw [h]
  cases hf : l.failure q.decl with
  | none => simp
  | some f => simp

section
variable (l : Lattice) (word : Nat → Nat)

theorem Lattice.pass_elems : (l.pass word).elems = l.elems.map (fun e => e.importW (word e.decl.img)) := rfl

/-- A pass evaluates each route on the elements that it has imported. -/
theorem Lattice.pass_route {r : Nat} {q : Route} (h : l.routes[r]? = some q) :
    (l.pass word).routes[r]? = some (Lattice.evalRoute { l with elems := (l.pass word).elems } r q) := by
  simp [Lattice.pass, h]

end

/-- LATTICE_PASS in time, where nothing that the pass reads has an uncorrectable error. -/
theorem exec_latticePass_inTime {dt wait : Nat} {v : Vtx} {s : State} (hb : s.boundaries = true)
    (hr : (s.elapse dt).runsApp v = true) (hp : (s.v v).lat.passDone = false)
    (ht : (s.elapse dt).inFurlong ≤ emaxNs (s.elapse dt).profile) (hecc : Readable (s.v v) (s.v v).lat.passWords) :
    exec (.latticePass dt v wait) s =
      .next ((s.elapse dt).setV v (((s.v v).scrub (s.v v).lat.passWords).runPass wait)) := by
  change execLatticePass dt v wait s = _
  simp [execLatticePass, Vertex.passEcc, hb, hr, hp, ht, VMem.firstBad_of_readable hecc, ok]

/-! ### The overrun -/

/-- The vertex with one more overrun in LAT. -/
def Vertex.countOverrun (x : Vertex) : Vertex := { x with lat := { x.lat with overrun := satInc 16 x.lat.overrun } }

/-- The state after the record and the counts of an overrun, before its outcome (R184). -/
def State.overrunNoted (s : State) (v : Vtx) : State :=
  { (s.record .latticeOverrun v.num (s.v v).lat.plast 0).modV v Vertex.countOverrun with
    overran := s.overran.set v true }

@[simp] theorem Vertex.addRec_lat (x : Vertex) (r : Rec) : (x.addRec r).lat = x.lat := by
  unfold Vertex.addRec
  split <;> rfl

theorem State.lat_record (s : State) (t : RecType) (a1 a2 a3 : Nat) (v : Vtx) :
    ((s.record t a1 a2 a3).v v).lat = (s.v v).lat := by
  rw [State.record, State.recBody, State.v_modAll]
  split
  · exact Vertex.addRec_lat _ _
  · rfl

theorem State.overrunNoted_overrun (s : State) (v : Vtx) :
    ((s.overrunNoted v).v v).lat.overrun = satInc 16 (s.v v).lat.overrun := by
  let r := s.record .latticeOverrun v.num (s.v v).lat.plast 0
  have h : (s.overrunNoted v).v v = (r.v v).countOverrun := State.v_modV r v Vertex.countOverrun
  rw [h, Vertex.countOverrun, State.lat_record]

/-- LATTICE_OVERRUN at E_max: the first vertex finds itself at fault, another one takes the module to HALT. -/
theorem exec_latticeOverrun_atEmax {dt : Nat} {v : Vtx} {s : State} (hb : s.boundaries = true)
    (hr : (s.elapse dt).runsApp v = true) (hp : (s.v v).lat.passDone = false)
    (ht : emaxNs (s.elapse dt).profile ≤ (s.elapse dt).inFurlong) :
    exec (.latticeOverrun dt v) s =
      .next (if s.overran.members.isEmpty then ((s.elapse dt).overrunNoted v).selfFault v .latticeOverrun
        else ((s.elapse dt).overrunNoted v).halt .strengthLost) := by
  change execLatticeOverrun dt v s = _
  simp only [execLatticeOverrun, State.elapse_boundaries, hb, hr, State.elapse_v, hp, ht, decide_true, Bool.not_false,
    Bool.and_true, if_true]
  exact (apply_ite Host.Outcome.next _ _ _).symm

/-- A vertex that stops with WD keeps its lattice. -/
theorem State.selfFault_lat {s : State} {v : Vtx} (ht : s.trial v = false) (hs : s.inService v = true) (c : XCause) :
    ((s.selfFault v c).v v).lat = (s.v v).lat := by
  simp [State.selfFault, ht, hs, Vertex.stop]

/-! ### O25 -/

/-- Settles O25: the pass in time, the first overrun of a furlong and another one. -/
theorem passesCompleteInTime : Obligations.PassesCompleteInTime := by
  intro dt wait v s u x hb hr hp
  refine ⟨fun ht hecc => ?_, fun ht hfirst hs htr => ?_, fun ht hsecond => ?_⟩
  · refine ⟨_, exec_latticePass_inTime hb hr hp ht hecc, ?_⟩
    rw [State.v_setV]
    refine ⟨rfl, rfl, Lattice.pass_elems _ _, fun r q hq hfree => ?_, rfl, rfl⟩
    exact ⟨_, Lattice.pass_route _ _ hq, Lattice.evalRoute_free _ r hfree⟩
  · refine ⟨_, exec_latticeOverrun_atEmax hb hr hp ht, ?_⟩
    rw [if_pos ((Tri.members_isEmpty_iff _).mpr hfirst)]
    refine ⟨State.selfFault_stops (s := u.overrunNoted v) htr hs .latticeOverrun, ?_⟩
    rw [State.selfFault_lat (s := u.overrunNoted v) htr hs, State.overrunNoted_overrun]
    rfl
  · have hmode : (u.overrunNoted v).mode ≠ .halt := State.mode_ne_halt_of_runsApp (s := u) hr
    refine ⟨_, exec_latticeOverrun_atEmax hb hr hp ht, ?_⟩
    rw [if_neg (fun h => hsecond ((Tri.members_isEmpty_iff _).mp h)), State.mode, State.cyc_halt hmode]
    exact ⟨rfl, rfl⟩

end Machine

end Sys2Proof

/-! PROOFS. The writes of two vertices that count together, and O54. -/

namespace Sys2Proof.Machine

/-- Where two vertices in service alone have made the write, both agree as soon as the other has made it as often. -/
theorem State.agreedWith_addVote_two {s : State} {v w : Vtx} {addr : Nat} {val : Word} {l : List Vtx}
    (hv : s.inService v = true) (hw : s.inService w = true) (hwv : w ≠ v) (h : s.voters addr val = l)
    (hl : ∀ u ∈ l, u = v ∨ u = w) :
    (s.addVote v addr val).agreedWith v addr val = if l.count v + 1 ≤ l.count w then 2 else 1 := by
  have hn : (v :: l).count v = l.count v + 1 := List.count_cons_self
  have hcw : (v :: l).count w = l.count w := List.count_cons_of_ne hwv.symm
  have hmem : ∀ u, u ∈ (s.addVote v addr val).agreeing addr val (l.count v + 1) ↔
      u = v ∨ (u = w ∧ l.count v + 1 ≤ l.count w) := by
    intro u
    simp only [State.agreeing, List.mem_filter, Vtx.mem_list, State.inService_addVote, State.voters_addVote, h,
      Bool.and_eq_true, decide_eq_true_eq, true_and]
    by_cases huv : u = v
    · simp [huv, hv]
    by_cases huw : u = w
    · simp [huw, hw, hwv, hcw]
    · have hu : (v :: l).count u = 0 :=
        List.count_eq_zero_of_not_mem fun hu => (List.mem_cons.mp hu).elim huv fun hu => (hl u hu).elim huv huw
      simp [huv, huw, hu]
  have hnodup : ((s.addVote v addr val).agreeing addr val (l.count v + 1)).Nodup := .filter _ (by decide)
  rw [State.agreedWith, State.voters_addVote, h, hn]
  split
  · next hle =>
    have hperm := (List.perm_ext_iff_of_nodup hnodup (by simp [hwv.symm])).mpr fun u => (hmem u).trans
      (show _ ↔ u ∈ [v, w] by simp [hle])
    exact hperm.length_eq
  · next hle =>
    have hperm := (List.perm_ext_iff_of_nodup hnodup (by simp)).mpr fun u => (hmem u).trans
      (show _ ↔ u ∈ [v] by simp [hle])
    exact hperm.length_eq

section
variable {s : State} {addr : Nat} {val : Word} {l : List Vtx}

theorem State.voters_single (h : s.votes = [(addr, val, l)]) : s.voters addr val = l := by
  simp [State.voters, h]

theorem State.voters_nil (h : s.votes = []) : s.voters addr val = [] := by
  simp [State.voters, h]

theorem State.addVote_single (h : s.votes = [(addr, val, l)]) (v : Vtx) :
    s.addVote v addr val = { s with votes := [(addr, val, v :: l)] } := by
  simp [State.addVote, State.voters_single h, h]

theorem State.addVote_nil (h : s.votes = []) (v : Vtx) :
    s.addVote v addr val = { s with votes := [(addr, val, [v])] } := by
  simp [State.addVote, State.voters_nil h, h]

end

/-- The write acts at the second vote and at the fourth, when both vertices have made it as often (notes/assumptions/20.md). -/
theorem State.voted_two {s : State} {v w : Vtx} (hv : s.inService v = true) (hw : s.inService w = true) (hwv : w ≠ v)
    (addr : Nat) (val : Word) (f : State → State) :
    (s.votes = [] → s.voted v addr val f = { s with votes := [(addr, val, [v])] }) ∧
      (s.votes = [(addr, val, [w])] → s.voted v addr val f = f { s with votes := [(addr, val, [v, w])] }) ∧
      (s.votes = [(addr, val, [v, w])] → s.voted v addr val f = { s with votes := [(addr, val, [v, v, w])] }) ∧
      (s.votes = [(addr, val, [w, v, w])] → s.voted v addr val f = f { s with votes := [(addr, val, [v, w, v, w])] }) := by
  have hvoted : ∀ {l : List Vtx}, s.voters addr val = l → (∀ u ∈ l, u = v ∨ u = w) →
      s.voted v addr val f =
        if l.count v + 1 ≤ l.count w then f (s.addVote v addr val) else s.addVote v addr val := by
    intro l h hl
    rw [State.voted_of_inService hv, State.agreedWith_addVote_two hv hw hwv h hl]
    split <;> rfl
  refine ⟨fun h => ?_, fun h => ?_, fun h => ?_, fun h => ?_⟩
  · rw [hvoted (State.voters_nil h) (by simp), State.addVote_nil h]
    rfl
  · rw [hvoted (State.voters_single h) (by simp), State.addVote_single h]
    simp [hwv]
  · rw [hvoted (State.voters_single h) (by simp), State.addVote_single h]
    simp [hwv, hwv.symm]
  · rw [hvoted (State.voters_single h) (by simp), State.addVote_single h]
    simp [hwv, hwv.symm]

/-- Settles O54: every one of the clears is a voted write, of the state itself or of the state after the vertex's own clear. -/
theorem commonClearsActWhenTwoAgree : Obligations.CommonClearsActWhenTwoAgree := by
  intro v w val s hv hw hwv agrees m
  have hagrees : ∀ {c : Instr} {addr : Nat} {x : Word} {own : State} {f : State → State},
      own.votes = s.votes → own.blk = s.blk → exec c s = .next (own.voted v addr x f) → agrees c addr x own f := by
    intro c addr x own f hvotes hblk hexec
    have hin : ∀ u, own.inService u = s.inService u := fun u => by simp only [State.inService, hblk]
    obtain ⟨h1, h2, h3, h4⟩ := State.voted_two ((hin v).trans hv) ((hin w).trans hw) hwv addr x f
    rw [hvotes] at h1 h2 h3 h4
    exact ⟨fun h => by rw [hexec, h1 h], fun h => by rw [hexec, h2 h], fun h => by rw [hexec, h3 h],
      fun h => by rw [hexec, h4 h]⟩
  clear_value agrees
  exact ⟨hagrees rfl rfl rfl, hagrees rfl rfl rfl, hagrees rfl rfl rfl, hagrees rfl rfl rfl, hagrees rfl rfl rfl,
    hagrees rfl rfl rfl, hagrees rfl rfl rfl, hagrees rfl rfl rfl, hagrees rfl rfl rfl⟩

end Sys2Proof.Machine

/-! PROOFS. The entry of a sender that a slice counts (R217, R221), a slice that has its verdict (R224), and the refutation of
O27. -/

namespace Sys2Proof.Machine

/-! ### The entry of a sender that the slice counts -/

theorem State.inService_of_strength {s : State} (h : s.strength = 3) (v : Vtx) : s.inService v = true :=
  List.filter_eq_self.mp (List.filter_sublist.eq_of_length h) v (Vtx.mem_list v)

theorem State.trial_of_none {s : State} (h : s.blk.cen.rejVtx = none) (v : Vtx) : s.trial v = false := by
  simp [State.trial, h]

/-- Of the entries that sender `x` has sent slice `y`, those left on the link are `rest`. -/
def State.leave (s : State) (x y : Vtx) (rest : List Entry) : State :=
  { s with links := s.links.set x ((s.links.get x).set y rest) }

section
variable {s : State} {y x : Vtx} {e : Entry} {rest : List Entry}

theorem State.fifo_of_waiting (h : (s.links.get x).get y = e :: rest) :
    s.fifo x y = e :: rest.take (fifoDepth x y - 1) := by
  rw [State.fifo, h, fifoDepth]
  split <;> rfl

/-- A slice takes an entry of a sender that it counts, with the bits that the path has flipped. -/
theorem exec_centroidEntry_counted {dt : Nat} {err : LinkErr} (hwait : (s.links.get x).get y = e :: rest)
    (hy : s.inService y = true) (hmode : s.mode ≠ .halt) (hx : s.trial x = false) (hmem : x ∈ s.members y) :
    exec (.centroidEntry dt y x err) s =
      .next (((s.elapse dt).leave x y rest).takeEntry y x err.blind (Entry.ofBits (e.bits ^^^ err.flip))) := by
  have hruns : ¬(!(s.inService y || s.trial y) || decide (s.mode = .halt)) = true := by simp [hy, hmode]
  have hcontains : (s.members y).contains x = true := List.contains_iff_mem.mpr hmem
  change execCentroidEntry dt y x err s = _
  rw [execCentroidEntry, State.fifo_of_waiting (s := s.elapse dt) hwait]
  refine (if_neg hruns).trans ((if_neg (ne_true_of_eq_false hx)).trans ((if_pos hcontains).trans ?_))
  change ok (((s.elapse dt).leave x y (((s.links.get x).get y).drop 1)).takeEntry y x err.blind _) = _
  rw [hwait]
  rfl

theorem exec_centroidEntry_of_mayTake (h : MayTake s y x e rest) (dt : Nat) (err : LinkErr) :
    exec (.centroidEntry dt y x err) s =
      .next (((s.elapse dt).leave x y rest).takeEntry y x err.blind (Entry.ofBits (e.bits ^^^ err.flip))) := by
  have hin := State.inService_of_strength h.three
  refine exec_centroidEntry_counted h.waiting (hin y) h.mode.2.2 (State.trial_of_none h.settled x) ?_
  simp [State.members, State.mem_serving, hin, h.counted]

end

/-! ### A slice that has its verdict -/

section
variable {s : State} {y : Vtx}

/-- A slice that has its verdict decides no further position. -/
theorem State.decideSlice_of_verdict (h : (s.v y).slice.verdict.isSome = true) (blind : Bool) :
    s.decideSlice y blind = s := by
  have hone : s.decideOne y blind = none := by simp [State.decideOne, h]
  unfold State.decideSlice
  cases s.pendingOf y with
  | zero => rfl
  | succ n => rw [State.decideAll, hone]

/-- In a slice that has its verdict an image word in sequence waits in the queue of its sender. -/
theorem State.takeEntry_img_of_verdict {x : Vtx} {r : Entry} {g : Feed} (hrej : s.blk.cen.rejVtx = none)
    (hverdict : (s.v y).slice.verdict.isSome = true) (hg : ((s.v y).slice.feed.get x).align r = some g)
    (hr : r.typ = .img) (blind : Bool) :
    s.takeEntry y x blind r =
      s.modSlice y (fun l =>
        { l with feed := l.feed.set x { g with queue := ((s.v y).slice.feed.get x).queue ++ [r] } }) := by
  simp only [State.takeEntry, hg, hr, EType.stride, reduceCtorEq, if_false, Bool.false_eq_true]
  rw [State.decideSlice_of_verdict (by simpa [State.modSlice] using hverdict)]
  simp [State.trialCheck, State.modSlice, hrej]

end

/-! ### O27 -/

/-- An image word. -/
def imgWord0 : Entry := ⟨.img, 0, 0⟩

/-- Slice A has a verdict, and still the image words of all three are to come: those of B and C have come, that of A is on its
link. -/
def verdictBeforeImages : State :=
  let feed : Feed := { Feed.reset with stage := 3 }
  let arrived : Feed := { feed with queue := [imgWord0] }
  { State.reset with
    blk := { State.reset.blk with cyc := { State.reset.blk.cyc with mode := .active } }
    links := State.reset.links.set .A ((State.reset.links.get .A).set .A [imgWord0])
    vtx := State.reset.vtx.set .A { Vertex.reset with
      slice := { Slice.fresh (Tri.all false) with feed := ⟨feed, arrived, arrived⟩, verdict := some 0 } } }

theorem verdictBeforeImages_mayTake : MayTake verdictBeforeImages .A .A imgWord0 [] where
  waiting := rfl
  three := rfl
  counted := rfl
  majority := rfl
  mode := ⟨nofun, nofun, nofun⟩
  settled := rfl
  empty := rfl
  novrd := rfl

/-- Refutes O27: MayTake leaves the verdict of the slice open, and a slice that already has its verdict takes no image word into
the image CRC, though all three agree. R224 gives a slice its verdict only after the images; the statement does not ask for that
order. -/
theorem not_phaseTwoIsVoted : ¬ Obligations.PhaseTwoIsVoted := by
  rintro ⟨-, hvote⟩
  obtain ⟨-, htake⟩ := hvote 0 .A .A ⟨0, false⟩ verdictBeforeImages
  obtain ⟨-, -, himg⟩ := htake _ _ verdictBeforeImages_mayTake
  obtain ⟨-, hthird⟩ := himg _ rfl rfl
  obtain ⟨t, ht, -, -, hprev, -⟩ := (hthird .B .C imgWord0 nofun nofun nofun rfl rfl).1 rfl
  rw [exec_centroidEntry_of_mayTake verdictBeforeImages_mayTake, State.takeEntry_img_of_verdict rfl rfl rfl rfl] at ht
  cases ht
  cases hprev

end Sys2Proof.Machine

/-! PROOFS. W_END (R222, R224), and the refutation of O28. -/

namespace Sys2Proof.Machine

/-- What W_END does in slice `y`: it excludes the late vertices, decides what is left, and sends its VRD. -/
def State.wEndSlice (s : State) (y : Vtx) : State :=
  let u := s.excludeLate y 4
  if u.mode == .halt || !u.inService y then u else (u.decideSlice y false).sendVrd y

/-- W_END at its limit with no rejoin under way: the slices of the vertices in service, in letter order. -/
theorem exec_wEnd_atLimit {dt : Nat} {s : State} (hb : s.boundaries = true) (hp2 : s.p2 = true)
    (hphase : (s.elapse dt).phase = 2) (happ : s.appMode = true) (hrej : s.blk.cen.rejVtx = none)
    (ht : wEndNs (s.elapse dt).profile ≤ (s.elapse dt).inPhase2) :
    exec (.wEnd dt) s = .next (s.serving.foldl State.wEndSlice (s.elapse dt)) := by
  have hlate : (s.elapse dt).trialLate 4 = s.elapse dt := by simp [State.trialLate, hrej]
  have hcond : ((s.elapse dt).boundaries && (s.elapse dt).p2 && (s.elapse dt).phase == 2 && (s.elapse dt).appMode &&
      decide (wEndNs (s.elapse dt).profile ≤ (s.elapse dt).inPhase2)) = true := by
    simp only [Bool.and_eq_true, beq_iff_eq, decide_eq_true_eq]
    exact ⟨⟨⟨⟨hb, hp2⟩, hphase⟩, happ⟩, ht⟩
  refine (if_pos hcond).trans ?_
  rw [hlate]
  rfl

/-- Slice A at W_end: of C nothing of the furlong has come but a VRD, with the verdict of A; the VRD of A and B have come, and
differ. In the slices of B and C everything has come and is decided. -/
def lateWithVrd : State :=
  let complete : Feed := { Feed.reset with stage := 5 }
  let sliceA : Tri Feed :=
    ⟨{ complete with queue := [⟨.vrd, 0, 0⟩] }, { complete with queue := [⟨.vrd, 0, 1⟩] }, { Feed.reset with vrd := some 0 }⟩
  let vertex := fun (feed : Tri Feed) => { Vertex.reset with slice := { Slice.fresh (Tri.all false) with feed := feed } }
  { State.reset with
    blk := { State.reset.blk with cyc := { State.reset.blk.cyc with mode := .active } }
    boundaries := true
    p2 := true
    clock := { State.reset.clock with ns := 26 * rodNs .acre + wEndNs .acre }
    vtx := ⟨vertex sliceA, vertex (Tri.all complete), vertex (Tri.all complete)⟩ }

theorem lateWithVrd_atLimit :
    (lateWithVrd.elapse 0).phase = 2 ∧ wEndNs (lateWithVrd.elapse 0).profile ≤ (lateWithVrd.elapse 0).inPhase2 := by
  decide +kernel

/-- Slice A excludes C and then B, whose VRD those of A and C outvote, and with that takes C back (R224). -/
theorem lateWithVrd_wEnd :
    let t := lateWithVrd.serving.foldl State.wEndSlice (lateWithVrd.elapse 0)
    t.mode = .active ∧ t.inService .A = true ∧ (t.v .A).slice.excl = ⟨false, true, false⟩ ∧
      (t.v .A).slice.noMaj = false := by
  decide +kernel

/-- Refutes O28: at W_END slice A excludes C, which is late, and takes it back in the same step, because it holds a VRD of C. The
statement leaves open which VRD a slice already holds of a late sender; CENTROID_ENTRY gives a slice one only of a sender whose
entries it then counts as complete (R224). -/
theorem not_lateVerticesAreExcluded : ¬ Obligations.LateVerticesAreExcluded := by
  intro h
  obtain ⟨hphase, htime⟩ := lateWithVrd_atLimit
  obtain ⟨hwEnd, -⟩ := h 0 lateWithVrd rfl rfl hphase rfl rfl
  obtain ⟨⟨t, ht, hout⟩, -⟩ := hwEnd htime
  obtain ⟨hmode, hin, hexcl, hmaj⟩ := lateWithVrd_wEnd
  rw [exec_wEnd_atLimit rfl rfl hphase rfl rfl htime] at ht
  cases ht
  rcases hout .A .C rfl (by decide) (by decide) with h | h | h | h
  · cases hmode.symm.trans h
  · cases hin.symm.trans h
  · rw [hexcl] at h
    cases h
  · cases hmaj.symm.trans h

end Sys2Proof.Machine

/-! PROOFS. What a record of the triangle in common places (R393), what the guardian's cut of a transmitter leaves (R270), the
forwarding of a frame and the release of the pass-through buffer, and O32. -/

namespace Sys2Proof.Machine

@[simp] theorem Two.get_set_same {α : Type} (t : Two α) (n : Net) (a : α) : (t.set n a).get n = a := by
  cases n <;> rfl

/-! ### Records -/

/-- A vertex in service whose buffer has room places the record behind those that wait there. -/
theorem State.recs_record {s : State} {v : Vtx} (hin : s.inService v = true) (hroom : (s.v v).recs.length < 64)
    (r : RecType) (a1 a2 a3 : Nat) :
    ((s.record r a1 a2 a3).v v).recs = (s.v v).recs ++ [⟨r, 0x10, shortBody a1 a2 a3⟩] := by
  simp [State.record, State.recBody, Vertex.addRec, hin, hroom]

/-! ### The transmitter that its guardian cuts -/

/-- The argument of a BABBLE record: the network (R270). -/
def babbleArg : Net → Nat
  | .X => 0
  | .Y => 1

section
variable {s : State} {n : Net}

/-- The guardian cuts a transmitter that it has not cut before. -/
theorem State.babbleOn_eq (h : s.cutNet n = false) :
    s.babbleOn n =
      { s.record .babble (babbleArg n) 0 0 with
        blk := { s.blk with ttb := { s.blk.ttb with babble := s.blk.ttb.babble.set n true } }
        guard := s.guard.set n { s.guard.get n with cut := true } } :=
  (if_neg (ne_true_of_eq_false h)).trans rfl

theorem State.babbleOn_babble (h : s.cutNet n = false) : (s.babbleOn n).blk.ttb.babble.get n = true := by
  rw [State.babbleOn_eq h]
  exact Two.get_set_same _ _ _

theorem State.babbleOn_cut (h : s.cutNet n = false) : ((s.babbleOn n).guard.get n).cut = true := by
  rw [State.babbleOn_eq h]
  exact congrArg Guardian.cut (Two.get_set_same _ _ _)

theorem State.cutNet_babbleOn (h : s.cutNet n = false) : (s.babbleOn n).cutNet n = true := by
  simp [State.cutNet, State.babbleOn_babble h]

theorem State.babbleOn_mode (h : s.cutNet n = false) : (s.babbleOn n).mode = s.mode := by
  rw [State.babbleOn_eq h]
  rfl

theorem State.babbleOn_nic (h : s.cutNet n = false) : (s.babbleOn n).nic = s.nic := by
  rw [State.babbleOn_eq h]
  rfl

theorem State.babbleOn_out (h : s.cutNet n = false) : (s.babbleOn n).out = s.out := by
  rw [State.babbleOn_eq h]
  rfl

theorem State.babbleOn_v (h : s.cutNet n = false) (v : Vtx) :
    (s.babbleOn n).v v = (s.record .babble (babbleArg n) 0 0).v v := by
  rw [State.babbleOn_eq h]
  rfl

end

/-! ### Forwarding -/

section
variable {port : Port} {n : Net} {g : Frame} {s : State}

/-- A frame on a port that is up, of a module that runs: what is left to decide is whether it can be forwarded, and where it then
goes. -/
theorem exec_frameForward_swisko (hport : portNet port = some n) (hup : s.portUp port = true) (hrun : s.inReset = false)
    (dt : Nat) (busy : Bool) :
    exec (.frameForward dt port busy (.swisko g)) s =
      let u := s.elapse dt
      if u.foreignType (.swisko g) then
        ok (u.modNic (fun c => { c with fwdOther := c.fwdOther.set n (c.fwdOther.get n + 1) }))
      else if !u.forwards (.swisko g) || !u.portUp (otherPort port) || u.cutNet n then ok u
      else if u.nic.buffered (otherPort port) then ok (u.modTtb (fun b => { b with fFwddrop := some u.nt }))
      else if busy then ok (u.modNic (fun c => { c with pass := (otherPort port, .swisko g, u.nt) :: c.pass }))
      else ok (u.forwardOut (otherPort port) (.swisko g) 320) := by
  have hskip : ((s.elapse dt).inReset || !(s.elapse dt).portUp port) = false := by
    change (s.inReset || !s.portUp port) = false
    rw [hrun, hup]
    rfl
  change execFrameForward dt port busy (.swisko g) s = _
  simp only [execFrameForward, hport, hskip, State.countUnused, Bool.false_eq_true, if_false]

theorem State.forwardOut_whole (h : g.fcsOk = true) (p : Port) (ns : Nat) :
    s.forwardOut p (.swisko g) ns = s.emit (.fwd p (.swisko { g with hop := g.hop - 1 })) :=
  if_pos h

theorem State.forwardOut_damaged (h : g.fcsOk = false) (p : Port) (ns : Nat) :
    s.forwardOut p (.swisko g) ns = s.emit (.cutFrame p (.swisko { g with hop := g.hop - 1 })) :=
  if_neg (ne_true_of_eq_false h)

theorem State.foreignType_swisko : s.foreignType (.swisko g) = decide (g.etype ≠ s.etype) := by
  simp [State.foreignType, bne, Bool.beq_eq_decide_eq]

/-- A module without a position has no frames of its own to know again. -/
theorem State.forwards_swisko (htype : g.etype = s.etype) (hhop : g.hop ≠ 0)
    (hsrc : s.blk.ttb.pos = none ∨ g.src ≠ s.ownSrc) : s.forwards (.swisko g) = true := by
  rcases hsrc with h | h <;> simp [State.forwards, htype, hhop, h]

/-- A frame that can be forwarded goes out, into the buffer, or is lost. -/
theorem exec_frameForward_forwarded (hport : portNet port = some n) (hup : s.portUp port = true) (hrun : s.inReset = false)
    (htype : g.etype = s.etype) (hhop : g.hop ≠ 0) (hsrc : s.blk.ttb.pos = none ∨ g.src ≠ s.ownSrc)
    (hout : s.portUp (otherPort port) = true) (hcut : s.cutNet n = false) (dt : Nat) (busy : Bool) :
    exec (.frameForward dt port busy (.swisko g)) s =
      let u := s.elapse dt
      if s.nic.buffered (otherPort port) then ok (u.modTtb (fun b => { b with fFwddrop := some u.nt }))
      else if busy then ok (u.modNic (fun c => { c with pass := (otherPort port, .swisko g, u.nt) :: c.pass }))
      else ok (u.forwardOut (otherPort port) (.swisko g) 320) := by
  have hown : (s.elapse dt).foreignType (.swisko g) = false := by
    rw [State.foreignType_swisko]
    exact decide_eq_false (not_not_intro htype)
  have hgoes : (!(s.elapse dt).forwards (.swisko g) || !(s.elapse dt).portUp (otherPort port) || (s.elapse dt).cutNet n)
      = false := by
    change (!s.forwards (.swisko g) || !s.portUp (otherPort port) || s.cutNet n) = false
    rw [State.forwards_swisko htype hhop hsrc, hout, hcut]
    rfl
  rw [exec_frameForward_swisko hport hup hrun]
  simp only [hown, hgoes, Bool.false_eq_true, if_false]
  rfl

/-- The frame of the pass-through buffer leaves the module whole or cut. -/
theorem exec_passThroughRelease_buffered {a : Nat} {rest : List (Port × AnyFrame × Nat)}
    (hport : portNet port = some n) (hup : s.portUp port = true)
    (hpass : s.nic.pass = (port, .swisko g, a) :: rest) (hcut : s.cutNet n = false) (dt : Nat) :
    exec (.passThroughRelease dt port) s =
      let u := s.elapse dt
      let t := u.modNic (fun c => { c with pass := rest.filter (fun q => q.1 != port) })
      if u.passes n (.swisko g) (8 * (u.nt - a)) then ok (t.forwardOut port (.swisko g) (8 * (u.nt - a)))
      else ok (t.cutForward port n (.swisko g) (8 * (u.nt - a))) := by
  have hhere : (s.elapse dt).nic.pass = (port, .swisko g, a) :: rest := hpass
  have hgoes : ((s.elapse dt).cutNet n || !(s.elapse dt).portUp port) = false := by
    change (s.cutNet n || !s.portUp port) = false
    rw [hcut, hup]
    rfl
  change execPassThroughRelease dt port s = _
  simp only [execPassThroughRelease, State.modNic, hhere, List.find?_cons, beq_self_eq_true, List.filter_cons,
    bne_self_eq_false, Bool.false_eq_true, if_false, hport, hgoes]

end

/-! ### O32 -/

/-- Settles O32: a foreign frame, a frame that can be forwarded, and the release of the buffer. -/
theorem framesAreForwarded : Obligations.FramesAreForwarded := by
  intro dt port n g s u out down hport hup hrun
  refine ⟨fun busy htype => ?_, fun htype hhop hsrc hout hcut => ?_, fun a rest hpass hcut => ?_⟩
  · have hforeign : (s.elapse dt).foreignType (.swisko g) = true := State.foreignType_swisko.trans (decide_eq_true htype)
    rw [exec_frameForward_swisko hport hup hrun]
    exact if_pos hforeign
  · have hexec := exec_frameForward_forwarded hport hup hrun htype hhop hsrc hout hcut dt
    refine ⟨fun busy hfull => (hexec busy).trans (if_pos hfull), fun hfree => ?_⟩
    have hroom : ¬ s.nic.buffered (otherPort port) = true := ne_true_of_eq_false hfree
    exact ⟨(hexec true).trans (if_neg hroom),
      fun hfcs => ((hexec false).trans (if_neg hroom)).trans (congrArg ok (State.forwardOut_whole hfcs _ _)),
      fun hfcs => ((hexec false).trans (if_neg hroom)).trans (congrArg ok (State.forwardOut_damaged hfcs _ _))⟩
  · intro ns lets
    have hexec := exec_passThroughRelease_buffered hport hup hpass hcut dt
    have hlets : u.passes n (.swisko g) ns = true ↔ lets := by
      simp [State.passes, anyFrameNs, lets]
    refine ⟨fun hl hfcs => ?_, fun hl => ⟨_, hexec.trans (if_neg (mt hlets.mp hl)), ?_⟩⟩
    · exact (hexec.trans (if_pos (hlets.mpr hl))).trans (congrArg ok (State.forwardOut_whole hfcs _ _))
    · let v := u.modNic (fun c => { c with pass := rest.filter (fun q => q.1 != port) })
      have hcutNow : (v.emit (.cutFrame port (.swisko down))).cutNet n = false := hcut
      exact ⟨State.babbleOn_out hcutNow, State.babbleOn_nic hcutNow, State.babbleOn_babble hcutNow,
        State.cutNet_babbleOn hcutNow, State.babbleOn_mode hcutNow⟩

end Sys2Proof.Machine

/-! PROOFS. What the acceptance of a frame changes (R256, R261, R265), the combination of its copies (R262), the windows that end,
the occurrences that fall due, and O33. -/

namespace Sys2Proof.Machine

theorem getElem?_modNth {α : Type} (l : List α) (i : Nat) (f : α → α) : (modNth l i f)[i]? = l[i]?.map f := by
  unfold modNth
  split
  next h => simp [List.getElem?_set_self', h]
  next h => simp [h]

/-! ### The binding of an accepted frame -/

/-- A frame newer than those of its binding is then the newest there. -/
theorem Nic.keepNewest_holds {c : Nic} {bind : Nat} {r : RxFrame}
    (h : ∀ q, c.rxBind.find? (fun q => q.1 == bind) = some q → newer r.frame.seq q.2.newest.frame.seq = true) :
    ∃ b, (c.keepNewest bind r).rxBind.find? (fun q => q.1 == bind) = some (bind, ⟨r, b⟩) := by
  unfold Nic.keepNewest
  split
  next q hq =>
    rw [if_pos (h q hq)]
    exact ⟨_, List.find?_cons_of_pos (beq_self_eq_true bind)⟩
  next => exact ⟨_, List.find?_cons_of_pos (beq_self_eq_true bind)⟩

/-- An accepted frame changes the newest frames of its binding alone. -/
theorem Nic.keepNewest_eq (c : Nic) (bind : Nat) (r : RxFrame) :
    c.keepNewest bind r = { c with rxBind := (c.keepNewest bind r).rxBind } := by
  unfold Nic.keepNewest
  split
  · split <;> rfl
  · rfl

@[simp] theorem Nic.keepNewest_openCopies (c : Nic) (bind : Nat) (r : RxFrame) :
    (c.keepNewest bind r).openCopies = c.openCopies := by rw [Nic.keepNewest_eq]

@[simp] theorem Nic.keepNewest_seen (c : Nic) (bind : Nat) (r : RxFrame) :
    (c.keepNewest bind r).seen = c.seen := by rw [Nic.keepNewest_eq]

/-! ### Acceptance -/

@[simp] theorem State.nic_dropQueue (s : State) (n : Nat) : (s.dropQueue n).nic = s.nic := rfl

section
variable (s : State) (role : FrameRole) (f : Frame) (x y : Bool) (a : Nat)

/-- Of the blocks, acceptance changes the count of frames dropped on a queue alone. -/
theorem State.blk_acceptFrame :
    (s.acceptFrame role f x y a).blk =
      { s.blk with ttb := { s.blk.ttb with qdrop := (s.acceptFrame role f x y a).blk.ttb.qdrop } } := by
  simp only [State.acceptFrame, State.acceptEvent, State.acceptMgmt, State.dropQueue]
  repeat' split
  all_goals rfl

@[simp] theorem State.openCopies_acceptFrame : (s.acceptFrame role f x y a).nic.openCopies = s.nic.openCopies := by
  simp only [State.acceptFrame, State.acceptEvent, State.acceptMgmt]
  repeat' split
  all_goals simp

end

section
variable {s : State} {m : Matrix} {i : Nat} {d : SlotDesc} {f : Frame}

/-- A frame accepted for a receive descriptor marks its occurrence. -/
theorem State.seen_acceptFrame (hm : s.blk.ttb.matrix = some m) (x y : Bool) (a : Nat) :
    (s.acceptFrame (.rx i) f x y a).nic.seen =
      modNth s.nic.seen i (fun o => { o with accepted := f.seq :: o.accepted }) := by
  simp only [State.acceptFrame, hm]
  repeat' split
  all_goals simp

/-- A frame that can enter its binding is held there once it is accepted. -/
theorem bindingHolds_of_enters (h : Enters s m d f) (hm : s.blk.ttb.matrix = some m) (hd : m.slots[i]? = some d)
    (x y : Bool) (a : Nat) : BindingHolds (s.acceptFrame (.rx i) f x y a) d.bind f x y := by
  obtain ⟨hbind, hheld, hroom, hnewer⟩ := h
  let t := s.modNic (fun c => { c with seen := modNth c.seen i (fun o => { o with accepted := f.seq :: o.accepted }) })
  have hfits : ¬ (s.queueHeld d.queue || decide (s.depthOf d.queue < s.nic.slotUnits m d.queue + frameUnits f.plen)) =
      true := by
    simpa [hheld] using hroom
  have hkeep : s.acceptFrame (.rx i) f x y a =
      t.modNic (fun c => c.keepNewest d.bind ⟨f, x, y, rodCountOf s.profile f, a⟩) := by
    simp only [State.acceptFrame, hm, hd]
    exact (if_neg hbind).trans (if_neg hfits)
  obtain ⟨b, hb⟩ := Nic.keepNewest_holds (c := t.nic) (r := ⟨f, x, y, rodCountOf s.profile f, a⟩) hnewer
  rw [hkeep]
  exact ⟨_, hb, rfl, rfl, rfl⟩

/-- What becomes of a frame accepted for a receive descriptor. -/
structure AcceptedAs (s t : State) (m : Matrix) (i : Nat) (f : Frame) (x y : Bool) : Prop where
  marked : ∀ q, s.nic.seen[i]? = some q → t.nic.seen[i]? = some { q with accepted := f.seq :: q.accepted }
  held : ∀ d, m.slots[i]? = some d → Enters s m d f → BindingHolds t d.bind f x y

theorem State.acceptFrame_acceptedAs (hm : s.blk.ttb.matrix = some m) (x y : Bool) (a : Nat) :
    AcceptedAs s (s.acceptFrame (.rx i) f x y a) m i f x y where
  marked q hq := by rw [State.seen_acceptFrame hm, getElem?_modNth, hq]; rfl
  held _ hd h := bindingHolds_of_enters h hm hd x y a

end

/-! ### Windows -/

/-- Windows that have not ended stay open. -/
theorem State.closeWindows_of_open {s : State} {dt : Nat} (h : ∀ c ∈ s.nic.openCopies, (s.elapse dt).nt ≤ c.endAt) :
    (s.elapse dt).closeWindows = s.elapse dt := by
  have hnone : s.nic.openCopies.filter (fun o => decide (o.endAt < (s.elapse dt).nt)) = [] :=
    List.filter_eq_nil_iff.mpr fun c hc => by simpa only [decide_eq_true_eq, Nat.not_lt] using h c hc
  change (s.nic.openCopies.filter (fun o => decide (o.endAt < (s.elapse dt).nt))).foldl State.acceptSingle (s.elapse dt) = _
  rw [hnone]
  rfl

theorem State.closeWindows_of_none {s : State} (h : s.nic.openCopies = []) (dt : Nat) :
    (s.elapse dt).closeWindows = s.elapse dt :=
  State.closeWindows_of_open (by simp [h])

theorem State.closeWindows_of_one {s : State} {o : OpenCopy} (hopen : s.nic.openCopies = [o]) {dt : Nat}
    (h : (s.elapse dt).nt ≤ o.endAt) : (s.elapse dt).closeWindows = s.elapse dt :=
  State.closeWindows_of_open fun c hc => by
    obtain rfl := List.mem_singleton.mp (hopen ▸ hc)
    exact h

theorem sameFrame_seq {a b : Frame} (h : sameFrame a b = true) : a.seq = b.seq := by
  simp only [sameFrame, Bool.and_eq_true, beq_iff_eq] at h
  exact h.2

theorem sameFrame_self (f : Frame) : sameFrame f f = true := by
  simp [sameFrame]

/-- The window of the only open copy is closed with the frame. -/
theorem State.openCopies_decideFrame {s : State} {o : OpenCopy} {f : Frame} (hopen : s.nic.openCopies = [o])
    (hsame : sameFrame o.frame f = true) (x y acc : Bool) : (s.decideFrame f x y acc).nic.openCopies = [] := by
  simp [State.decideFrame, State.modNic, hopen, hsame]

/-! ### Combination -/

section
variable {s : State} {net : Net} {f : Frame} {role : FrameRole}

/-- The first copy of a frame opens its window. -/
theorem State.combine_first (hopen : s.nic.openCopies = []) (hnew : ∀ d ∈ s.nic.decided, sameFrame d.frame f = false) :
    s.combine net f role = s.modNic (fun c =>
      { c with openCopies := [⟨f, net, s.nt + windowClocks s.profile f.kind, none⟩] }) := by
  have hnone : s.nic.decided.find? (fun d => sameFrame d.frame f) = none :=
    List.find?_eq_none.mpr fun d hd => ne_true_of_eq_false (hnew d hd)
  simp only [State.combine, hopen, List.find?_nil, hnone]
  simp [State.modNic, hopen]

variable {o : OpenCopy}

/-- An equal copy from the other network ends the window, and the frame is accepted. -/
theorem State.combine_equal (hopen : s.nic.openCopies = [o]) (hsame : sameFrame o.frame f = true) (hnet : o.net ≠ net)
    (hequal : sameCopy s.blk.ttb.mid o.frame f = true) :
    s.combine net f role =
      ((s.decideFrame f true true true).modTtb (fun b => { b with pairs := satInc 32 b.pairs })).acceptFrame role o.frame
        true true s.nt := by
  simp only [State.combine, hopen, List.find?_cons, hsame, hnet, hequal, if_false, if_true]

/-- Two copies of the frame `f` for receive descriptor `i` disagree: it is discarded. -/
def State.discardFrame (s : State) (f : Frame) (i : Nat) : State :=
  (((s.decideFrame f true true false).netDisagree f).modTtb
    (fun b => { b with fDisagree := some s.nt, dis := satInc 16 b.dis })).modNic
    (fun c => { c with seen := modNth c.seen i (fun q => { q with disagree := f.seq :: q.disagree }) })

/-- One that differs ends the window too, and the frame is discarded. -/
theorem State.combine_unequal {i : Nat} (hopen : s.nic.openCopies = [o]) (hsame : sameFrame o.frame f = true)
    (hnet : o.net ≠ net) (hdiffer : sameCopy s.blk.ttb.mid o.frame f = false) :
    s.combine net f (.rx i) = s.discardFrame f i := by
  simp only [State.combine, hopen, List.find?_cons, hsame, hnet, hdiffer, Bool.false_eq_true, if_false]
  rfl

theorem State.openCopies_discardFrame (hopen : s.nic.openCopies = [o]) (hsame : sameFrame o.frame f = true) (i : Nat) :
    (s.discardFrame f i).nic.openCopies = [] :=
  State.openCopies_decideFrame hopen hsame true true false

/-- A discarded frame marks its occurrence as discarded. -/
theorem State.discardFrame_marks {i : Nat} {q : OccSeen} (hq : s.nic.seen[i]? = some q) :
    (s.discardFrame f i).nic.seen[i]? = some { q with disagree := f.seq :: q.disagree } := by
  have hseen : (s.discardFrame f i).nic.seen =
      modNth s.nic.seen i (fun q => { q with disagree := f.seq :: q.disagree }) := rfl
  rw [hseen, getElem?_modNth, hq]
  rfl

end

/-! ### The copy of a command frame -/

/-- A module that runs on its matrix takes a copy that another module sent and that is well formed (step 1 of Table 8.9), while no
window has ended. -/
structure Receives (s : State) (m : Matrix) (p : Position) (dt : Nat) (f : Frame) : Prop where
  matrix : s.blk.ttb.matrix = some m
  position : s.blk.ttb.pos = some p
  running : s.inReset = false
  other : f.src ≠ p.src
  formed : stepOne m f = true
  windows : (s.elapse dt).closeWindows = s.elapse dt

/-- The copy passes the other checks of Table 8.9 as a command frame for receive descriptor `i`. -/
structure ChecksFor (s : State) (m : Matrix) (p : Position) (net : Net) (pre : Nat) (f : Frame) (i : Nat) : Prop where
  codes : f.codesOk s.blk.ttb.mid = true
  numbered : stepFour m s.profile f pre = true
  inTime : stepFive m s.profile net f pre = true
  integrated : s.blk.ttb.state = .integrated
  command : f.kind = kSlot
  role : roleOf m p net f = .rx i

section
variable {s : State} {m : Matrix} {p : Position} {dt pre i : Nat} {net : Net} {f : Frame}

theorem Receives.taken (h : Receives s m p dt f) : ((s.elapse dt).inReset || f.src == p.src) = false := by
  change (s.inReset || f.src == p.src) = false
  simp [h.running, h.other]

/-- A copy with a wrong code is counted. -/
theorem exec_frameCopyReceive_code (h : Receives s m p dt f) (hcode : f.codesOk s.blk.ttb.mid = false) :
    exec (.frameCopyReceive dt net pre f) s =
      ok ((s.elapse dt).countErr net (fun e => { e with code := satInc 8 e.code })) := by
  change execFrameCopyReceive dt net pre f s = _
  simp only [execFrameCopyReceive, h.windows, State.elapse_blk, h.matrix, h.position, h.taken, h.formed, hcode,
    Bool.not_true, Bool.not_false, Bool.false_eq_true, if_false, if_true]

/-- A command frame is not the partner's STATUS. -/
theorem State.partnerStatus_command (h : f.kind = kSlot) : s.partnerStatus f = s := by
  unfold State.partnerStatus
  split
  · exact if_neg fun ⟨hstatus, _⟩ => absurd (h.symm.trans hstatus) (by decide)
  · rfl

/-- A copy of a command frame that passes every check is combined. -/
theorem exec_frameCopyReceive_combines (h : Receives s m p dt f) (hc : ChecksFor s m p net pre f i) :
    exec (.frameCopyReceive dt net pre f) s = ok ((s.elapse dt).combine net f (.rx i)) := by
  have hfour : stepFour m (s.elapse dt).profile f pre = true := hc.numbered
  have hfive : stepFive m (s.elapse dt).profile net f pre = true := hc.inTime
  change execFrameCopyReceive dt net pre f s = _
  simp only [execFrameCopyReceive, h.windows, State.elapse_blk, h.matrix, h.position, h.taken, h.formed, hc.codes, hfour,
    hfive, hc.integrated, hc.role, State.partnerStatus_command hc.command, Bool.not_true, Bool.false_eq_true, if_false,
    reduceCtorEq]

end

/-! ### The end of a window -/

section
variable {s : State} {o : OpenCopy}

/-- The window of the only open copy ends. -/
theorem exec_combineWindowExpiry_alone (hopen : s.nic.openCopies = [o]) {dt : Nat} (hend : o.endAt ≤ (s.elapse dt).nt) :
    exec (.combineWindowExpiry dt o.frame.src o.frame.rodslot o.frame.seq) s = ok ((s.elapse dt).acceptSingle o) := by
  have hfound : (s.elapse dt).nic.openCopies = [o] := hopen
  change execCombineWindowExpiry dt _ _ _ s = _
  simp only [execCombineWindowExpiry, hfound, List.find?_cons, beq_self_eq_true, Bool.true_and, decide_eq_true hend]

/-- A copy accepted alone counts its network. -/
theorem State.acceptSingle_counts (s : State) (o : OpenCopy) :
    (s.acceptSingle o).blk.ttb.sgl.get o.net = satInc 16 (s.blk.ttb.sgl.get o.net) ∧ (s.acceptSingle o).mode = s.mode := by
  rw [State.mode, State.acceptSingle, State.blk_acceptFrame]
  exact ⟨Two.get_set_same _ _ _, rfl⟩

theorem roleNow_eq {m : Matrix} {p : Position} (hm : s.blk.ttb.matrix = some m) (hp : s.blk.ttb.pos = some p) (n : Net)
    (f : Frame) : s.roleNow n f = roleOf m p n f := by
  simp only [State.roleNow, hm, hp]

/-- A copy accepted alone for a receive descriptor is accepted from its network. -/
theorem State.acceptSingle_acceptedAs {m : Matrix} {i : Nat} (hm : s.blk.ttb.matrix = some m)
    (hrole : s.roleNow o.net o.frame = .rx i) :
    AcceptedAs s (s.acceptSingle o) m i o.frame (decide (o.net = .X)) (decide (o.net = .Y)) := by
  have hy : (!(o.net == .X)) = decide (o.net = .Y) := by
    cases o.net <;> rfl
  have hx : (o.net == .X) = decide (o.net = .X) := Bool.beq_eq_decide_eq _ _
  rw [State.acceptSingle, hrole, ← hx, ← hy]
  obtain ⟨hmarked, hheld⟩ := State.acceptFrame_acceptedAs (i := i) (f := o.frame)
    (s := (s.decideFrame o.frame (o.net == .X) (!(o.net == .X)) true).countSingle o.net) hm (o.net == .X)
    (!(o.net == .X)) (min s.nt o.endAt)
  exact ⟨hmarked, hheld⟩

theorem State.openCopies_acceptSingle (hopen : s.nic.openCopies = [o]) : (s.acceptSingle o).nic.openCopies = [] := by
  rw [State.acceptSingle, State.openCopies_acceptFrame]
  exact State.openCopies_decideFrame hopen (sameFrame_self _) _ _ _

end

/-! ### Occurrences -/

section
variable {s : State} {m : Matrix} {p : Position} {d : SlotDesc} {o : OccState} {q : OccSeen} {rc : Word} {desc : Nat}

/-- The occurrence `rc` of receive descriptor `desc` is settled: STALE where nothing was accepted for it. -/
def State.settleOccurrence (s : State) (desc : Nat) (rc : Word) (q : OccSeen) : State :=
  s.modNic (fun c =>
    { c with
      occ := setNth c.occ desc ⟨some rc, !q.accepted.contains rc, q.disagree.contains rc⟩
      seen := setNth c.seen desc ⟨q.accepted.filter (fun a => newer a rc), q.disagree.filter (fun a => newer a rc)⟩ })

theorem State.settleOccurrence_occ (ho : s.nic.occ[desc]? = some o) :
    (s.settleOccurrence desc rc q).nic.occ[desc]? = some ⟨some rc, !q.accepted.contains rc, q.disagree.contains rc⟩ :=
  List.getElem?_set_self (List.getElem?_eq_some_iff.mp ho).1

/-- OCCURRENCE_DUE for an occurrence that has not fallen due before. -/
theorem exec_occurrenceDue_new (hm : s.blk.ttb.matrix = some m) (hp : s.blk.ttb.pos = some p) {dt : Nat}
    (hwin : (s.elapse dt).closeWindows = s.elapse dt) (ho : s.nic.occ[desc]? = some o) (hq : s.nic.seen[desc]? = some q)
    (hd : m.slots[desc]? = some d) (hdue : (s.elapse dt).lastDue m d = some rc) (hdir : descDir p d = 1)
    (hnew : o.due ≠ some rc) :
    exec (.occurrenceDue dt desc) s =
      if q.accepted.contains rc then ok ((s.elapse dt).settleOccurrence desc rc q)
      else ok (((s.elapse dt).settleOccurrence desc rc q).modTtb (fun b => { b with missed := satInc 32 b.missed })) := by
  have hocc : (s.elapse dt).nic.occ[desc]? = some o := ho
  have hseen : (s.elapse dt).nic.seen[desc]? = some q := hq
  have hgo : ¬ (descDir p d ≠ 1 ∨ o.due = some rc) := by simp [hdir, hnew]
  change execOccurrenceDue dt desc s = _
  simp only [execOccurrenceDue, hwin, State.elapse_blk, hm, hp, hocc, hseen, hd, hdue]
  exact if_neg hgo

end

/-! ### O33 -/

/-- Settles O33: a copy with a wrong code, the first copy of a frame, the second one, the end of a window, and an occurrence. -/
theorem copiesAreCombined : Obligations.CopiesAreCombined := by
  intro dt pre net f s m p u hm hp
  refine ⟨fun hrun hsrc hone => ⟨fun hopen hcode => ?_, fun i hcode hfour hfive hstate hkind hrole =>
    ⟨fun hopen hnew => ?_, fun o hopen hsame hnet hend => ?_⟩⟩, fun o hopen hend => ?_,
    fun desc o q d rc hwin ho hq hd hdue hdir hnew => ?_⟩
  · exact exec_frameCopyReceive_code ⟨hm, hp, hrun, hsrc, hone, State.closeWindows_of_none hopen dt⟩ hcode
  · refine (exec_frameCopyReceive_combines ⟨hm, hp, hrun, hsrc, hone, State.closeWindows_of_none hopen dt⟩
      ⟨hcode, hfour, hfive, hstate, hkind, hrole⟩).trans (congrArg ok ?_)
    rw [State.combine_first (s := u) hopen hnew, hkind]
    rfl
  · have hexec := exec_frameCopyReceive_combines ⟨hm, hp, hrun, hsrc, hone, State.closeWindows_of_one hopen hend⟩
      ⟨hcode, hfour, hfive, hstate, hkind, hrole⟩
    refine ⟨fun hequal => ?_, fun hdiffer => ?_⟩
    · let v := (u.decideFrame f true true true).modTtb (fun b => { b with pairs := satInc 32 b.pairs })
      obtain ⟨hmarked, hheld⟩ := State.acceptFrame_acceptedAs (s := v) (i := i) (f := o.frame) hm true true u.nt
      refine ⟨_, hexec.trans (congrArg ok (State.combine_equal (s := u) hopen hsame hnet hequal)), ?_, ?_, ?_, hheld⟩
      · rw [State.openCopies_acceptFrame]
        exact State.openCopies_decideFrame (s := u) hopen hsame _ _ _
      · rw [State.blk_acceptFrame]
        rfl
      · rw [← sameFrame_seq hsame]
        exact hmarked
    · refine ⟨_, hexec.trans (congrArg ok (State.combine_unequal (s := u) hopen hsame hnet hdiffer)),
        State.openCopies_discardFrame (s := u) hopen hsame i, rfl, rfl, rfl,
        fun q hq => State.discardFrame_marks (s := u) hq, fun v hin hroom => ?_⟩
      exact State.recs_record (s := u.decideFrame f true true false) hin hroom _ _ _ _
  · obtain ⟨hcount, hmode⟩ := State.acceptSingle_counts u o
    refine ⟨_, exec_combineWindowExpiry_alone hopen hend, State.openCopies_acceptSingle (s := u) hopen, hcount, hmode,
      fun i hrole => ?_⟩
    have hroleNow : u.roleNow o.net o.frame = .rx i := (roleNow_eq (s := u) hm hp _ _).trans hrole
    obtain ⟨hmarked, hheld⟩ := State.acceptSingle_acceptedAs (s := u) hm hroleNow
    exact ⟨hmarked, hheld⟩
  · have hexec := exec_occurrenceDue_new hm hp (State.closeWindows_of_open hwin) ho hq hd hdue hdir hnew
    have hocc : (u.settleOccurrence desc rc q).nic.occ[desc]? =
        some ⟨some rc, !q.accepted.contains rc, decide (rc ∈ q.disagree)⟩ := by
      rw [State.settleOccurrence_occ (s := u) ho, List.contains_eq_mem (as := q.disagree)]
    by_cases hit : rc ∈ q.accepted
    · have hcontains : q.accepted.contains rc = true := List.contains_iff_mem.mpr hit
      rw [hcontains] at hexec hocc
      exact ⟨_, hexec, rfl, fun hmiss => absurd hit hmiss, fun _ => ⟨hocc, rfl⟩⟩
    · have hcontains : q.accepted.contains rc = false := Bool.eq_false_iff.mpr (mt List.contains_iff_mem.mp hit)
      rw [hcontains] at hexec hocc
      exact ⟨_, hexec, rfl, fun _ => ⟨hocc, rfl⟩, fun hacc => absurd hacc hit⟩

end Sys2Proof.Machine

/-! PROOFS. What each case of the links, the guardians and the coldstart timers does (R39, R240, R269 to R273), and O34. -/

namespace Sys2Proof.Machine

/-! ### Links -/

section
variable {port : Port} {s : State}

/-- A bus port of wrong speed is held down. -/
theorem State.portFault_bus (h : portNet port ≠ none) :
    port ∈ (s.portFault port).nic.heldDown ∧
      (s.portFault port).blk.ttb.up = setNth s.blk.ttb.up (portNum port) false := by
  cases port with
  | C1 => exact absurd rfl h
  | C2 => exact absurd rfl h
  | X1 | X2 | Y1 | Y2 => exact ⟨List.mem_cons_self, rfl⟩

/-- A port that is not held down follows its link. -/
theorem exec_linkChange_up (h : port ∉ s.nic.heldDown) (dt : Nat) :
    exec (.linkChange dt port .up) s =
      ok ((s.elapse dt).modTtb (fun b => { b with up := setNth b.up (portNum port) true })) :=
  if_neg (mt List.contains_iff_mem.mp h)

end

/-! ### Guardians -/

section
variable {n : Net} {s : State}

/-- The pulse that a guardian with its reference takes: inside its window it is adopted. -/
theorem State.guardPulse_of_reference (hb : s.boundaries = true) (hcut : (s.guard.get n).cut = false)
    (href : (s.guard.get n).reference = true) (off : Int) :
    s.guardPulse n off =
      if -1000 ≤ off ∧ off ≤ 1000 then { s with guard := s.guard.set n { s.guard.get n with misses := 0 } } else s := by
  simp only [State.guardPulse, hb, hcut, href, Bool.not_true, Bool.or_self, Bool.false_eq_true, if_false,
    Bool.and_eq_true, decide_eq_true_eq]

/-- The first pulse of a guardian is its reference. -/
theorem State.guardPulse_first (hb : s.boundaries = true) (hcut : (s.guard.get n).cut = false)
    (href : (s.guard.get n).reference = false) (off : Int) :
    s.guardPulse n off =
      { s with guard := s.guard.set n { s.guard.get n with reference := true, misses := 0 } } := by
  simp only [State.guardPulse, hb, hcut, href, Bool.not_true, Bool.not_false, Bool.or_self, Bool.false_eq_true, if_false,
    if_true]

/-- Neither the first miss nor the second in a row cuts the transmitter. -/
theorem State.guardMiss_counts (hb : s.boundaries = true) (hcut : (s.guard.get n).cut = false)
    (href : (s.guard.get n).reference = true) (hm : (s.guard.get n).misses < 2) :
    s.guardMiss n =
      { s with guard := s.guard.set n { s.guard.get n with misses := (s.guard.get n).misses + 1 } } := by
  have hfew : ¬ 3 ≤ (s.guard.get n).misses + 1 := by omega
  have hmin : min 3 ((s.guard.get n).misses + 1) = (s.guard.get n).misses + 1 := by omega
  simp only [State.guardMiss, hb, hcut, href, Bool.not_true, Bool.or_self, Bool.false_eq_true, if_false, hfew, hmin]

/-- The third miss in a row cuts it. -/
theorem State.guardMiss_third (hb : s.boundaries = true) (hcut : (s.guard.get n).cut = false)
    (href : (s.guard.get n).reference = true) (hm : 2 ≤ (s.guard.get n).misses) :
    s.guardMiss n =
      State.syncLost { s with guard := s.guard.set n { s.guard.get n with misses := 3 } } n := by
  have hthird : 3 ≤ (s.guard.get n).misses + 1 := by omega
  have hmin : min 3 ((s.guard.get n).misses + 1) = 3 := by omega
  simp only [State.guardMiss, hb, hcut, href, Bool.not_true, Bool.or_self, Bool.false_eq_true, if_false, hthird, if_true,
    hmin]

theorem State.syncLost_cuts (s : State) (n : Net) :
    (s.syncLost n).blk.ttb.syncLost.get n = true ∧ ((s.syncLost n).guard.get n).cut = true ∧
      (s.syncLost n).mode = s.mode := by
  simp [State.syncLost, State.mode, State.modTtb]

end

/-! ### Coldstart -/

section
variable (s : State)

@[simp] theorem State.blk_sendOn (n : Net) (f : Frame) : (s.sendOn n f).blk = s.blk := by
  unfold State.sendOn
  split <;> rfl

@[simp] theorem State.nic_sendOn (n : Net) (f : Frame) : (s.sendOn n f).nic = s.nic := by
  unfold State.sendOn
  split <;> rfl

@[simp] theorem State.blk_sendCold : s.sendCold.blk = s.blk := by
  simp only [State.sendCold, State.modNic_blk, apply_ite State.blk, State.blk_sendOn, ite_self]

@[simp] theorem State.nic_sendCold : s.sendCold.nic = { s.nic with csSent := s.nic.csSent + 1 } := by
  simp only [State.sendCold, State.modNic_nic, apply_ite State.nic, State.nic_sendOn, ite_self]

/-- Coldstart begins with its rods at 0 and one frame sent. -/
theorem State.enterColdstart_starts :
    s.enterColdstart.blk.ttb.state = .coldstart ∧ s.enterColdstart.blk.ttb.count = 0 ∧
      s.enterColdstart.nic.csRod = 0 ∧ s.enterColdstart.nic.csSent = 1 := by
  simp [State.enterColdstart, State.busEnter]

end

/-! ### O34 -/

/-- Settles O34: links, guardians, the start of a transmitter, and both ends of coldstart. -/
theorem linksGuardiansAndColdstart : Obligations.LinksGuardiansAndColdstart := by
  intro dt net s u g
  refine ⟨fun port hport => ⟨rfl, fun hheld => exec_linkChange_up hheld dt, _, rfl, State.portFault_bus hport⟩,
    fun hb hcut => ⟨fun off href => ?_, fun off href hlo hhi => ?_, fun off href hout => ?_, fun href hm => ?_,
      fun href hm => ?_⟩, fun hin => ?_, fun hfree hout => ?_, fun hlisten hinteg hcap hlt => ?_, fun hcold hrod => ?_⟩
  · exact congrArg ok (State.guardPulse_first (s := u) hb hcut href off)
  · exact congrArg ok ((State.guardPulse_of_reference (s := u) hb hcut href off).trans (if_pos ⟨hlo, hhi⟩))
  · exact congrArg ok ((State.guardPulse_of_reference (s := u) hb hcut href off).trans (if_neg (by omega)))
  · exact congrArg ok (State.guardMiss_counts (s := u) hb hcut href hm)
  · exact ⟨_, congrArg ok (State.guardMiss_third (s := u) hb hcut href hm), State.syncLost_cuts _ _⟩
  · exact congrArg ok (if_pos hin)
  · have hcut : u.cutNet net = false := hfree
    refine ⟨_, congrArg ok (if_neg (ne_true_of_eq_false hout)), State.babbleOn_babble hcut, State.babbleOn_cut hcut,
      State.cutNet_babbleOn hcut, State.babbleOn_mode hcut, fun v hin hroom => ?_⟩
    rw [State.babbleOn_v hcut, State.recs_record (s := u) hin hroom]
    rfl
  · have hdue : (u.blk.ttb.state = .listen ∧ u.nic.integBy.isNone ∨ u.blk.ttb.state = .backoff) ∧ u.coldCapable ∧
        u.lt ≤ u.blk.ttb.count :=
      ⟨.inl ⟨hlisten, Option.isNone_iff_eq_none.mpr hinteg⟩, hcap, hlt⟩
    exact ⟨_, congrArg ok (if_pos hdue), State.enterColdstart_starts u⟩
  · refine ⟨_, congrArg ok (if_pos ⟨hcold, hrod⟩), rfl, rfl, fun v hin hroom => ?_⟩
    exact State.recs_record (s := u) hin hroom .busIntegrated s.rank 0 0

end Sys2Proof.Machine

/-! PROOFS. The clock's timers (R285, R289, R293, R296), and O36. -/

namespace Sys2Proof.Machine

/-! ### The queue of the clock's messages -/

/-- A message enters a queue that has room, on both networks (R285). -/
theorem State.queuePtp_of_room {s : State} {m : TxPtp} (h : s.otherFull (ptpQueue m) 1 = false) :
    s.queuePtp m = s.modNic (fun c => { c with txPtp := ⟨c.txPtp.x ++ [m], c.txPtp.y ++ [m]⟩ }) :=
  if_neg (ne_true_of_eq_false h)

/-! ### The messages that the module sends -/

section
variable {dt : Nat} {s : State}

/-- A Delay_Req leaves in LOCKED and SLEWING 1 s after the last one. -/
theorem exec_delayReqSend_due {a : Nat} (hstate : s.blk.ntm.state = .locked ∨ s.blk.ntm.state = .slewing)
    (hroom : (s.elapse dt).otherFull 60 1 = false) (hlast : s.ptp.lastReq = some a)
    (hdue : 125000000 ≤ (s.elapse dt).nt - a) :
    exec (.delayReqSend dt) s =
      ok (((s.elapse dt).modPtp (fun p => { p with reqId := (s.ptp.reqId + 1) % 65536, lastReq := some (s.elapse dt).nt })).modNic
        (fun c => { c with txPtp := ⟨c.txPtp.x ++ [.delayReq ((s.ptp.reqId + 1) % 65536)],
                                     c.txPtp.y ++ [.delayReq ((s.ptp.reqId + 1) % 65536)]⟩ })) := by
  have hlast' : (s.elapse dt).ptp.lastReq = some a := hlast
  change execDelayReqSend dt s = _
  simp only [execDelayReqSend, hlast', State.elapse_blk, hstate, hdue, decide_true, and_self, if_true]
  exact congrArg ok (State.queuePtp_of_room (s := (s.elapse dt).modPtp _) hroom)

/-- A grandmaster on the bus sends Sync every 125 ms. -/
theorem exec_masterSyncSend_due {a : Nat} (hmaster : s.blk.ntm.state = .master) (hbus : s.blk.ttb.state = .integrated)
    (hroom : (s.elapse dt).otherFull 60 1 = false) (hlast : s.ptp.lastMSync = some a)
    (hdue : 15625000 ≤ (s.elapse dt).nt - a) :
    exec (.masterSyncSend dt) s =
      ok (((s.elapse dt).modPtp (fun p => { p with lastMSync := some (s.elapse dt).nt })).modNic
        (fun c => { c with txPtp := ⟨c.txPtp.x ++ [.sync], c.txPtp.y ++ [.sync]⟩ })) := by
  have hlast' : (s.elapse dt).ptp.lastMSync = some a := hlast
  change execMasterSyncSend dt s = _
  simp only [execMasterSyncSend, hlast', State.elapse_blk, hmaster, hbus, hdue, decide_true, and_self, if_true]
  exact congrArg ok (State.queuePtp_of_room (s := (s.elapse dt).modPtp _) hroom)

/-- A grandmaster on the bus sends Announce every 250 ms. -/
theorem exec_masterAnnounceSend_due {a : Nat} (hmaster : s.blk.ntm.state = .master)
    (hbus : s.blk.ttb.state = .integrated) (hroom : (s.elapse dt).otherFull 61 1 = false)
    (hlast : s.ptp.lastMAnn = some a) (hdue : 31250000 ≤ (s.elapse dt).nt - a) :
    exec (.masterAnnounceSend dt) s =
      ok (((s.elapse dt).modPtp (fun p => { p with lastMAnn := some (s.elapse dt).nt })).modNic
        (fun c => { c with txPtp := ⟨c.txPtp.x ++ [.announce], c.txPtp.y ++ [.announce]⟩ })) := by
  have hlast' : (s.elapse dt).ptp.lastMAnn = some a := hlast
  change execMasterAnnounceSend dt s = _
  simp only [execMasterAnnounceSend, hlast', State.elapse_blk, hmaster, hbus, hdue, decide_true, and_self, true_or,
    if_true]
  exact congrArg ok (State.queuePtp_of_room (s := (s.elapse dt).modPtp _) hroom)

/-! ### The Syncs that do not come -/

/-- The clock coasts: it runs on at the mean of its last rates, on no network (R296). -/
def State.holdover (s : State) : State :=
  ((s.clockState .holdover).setRate (s.ptp.meanRate s.blk.ntm.rate)).modNtm (fun n => { n with net := none })

/-- In LOCKED and SLEWING the last Sync, where none came before the state was entered, says when the clock coasts. -/
theorem exec_syncTimeout_following {a b : Nat} (hstate : s.blk.ntm.state = .locked ∨ s.blk.ntm.state = .slewing)
    (hlast : s.ptp.lastSync = ⟨some a, some b⟩) (hentered : s.ptp.enteredAt ≤ max a b) :
    exec (.syncTimeout dt) s =
      ok (if 46875000 ≤ (s.elapse dt).nt - max a b then (s.elapse dt).holdover else s.elapse dt) := by
  have hlast' : (s.elapse dt).ptp.lastSync = ⟨some a, some b⟩ := hlast
  have hheard : (s.elapse dt).ptp.lastHeard = max a b := by
    change max s.ptp.enteredAt _ = _
    rw [hlast']
    exact Nat.max_eq_right hentered
  change execSyncTimeout dt s = _
  obtain hstate | hstate := hstate <;>
    simp only [execSyncTimeout, State.elapse_blk, hstate, hlast', hheard, Option.getD_some, Bool.and_self, decide_eq_true_eq,
      apply_ite ok] <;> rfl

/-! ### The choice of a grandmaster -/

theorem exec_announceReceiptTimeout_selected {m : MasterInfo} (hm : s.ptp.selected = some m) :
    exec (.announceReceiptTimeout dt) s =
      ok (if (s.elapse dt).nt - m.at_ < 93750000 then s.elapse dt
        else if s.ptp.timedOut = true ∧ s.ptp.candidate = true then (s.elapse dt).becomeMaster.timeAcquired
        else (s.elapse dt).beginChoice m) := by
  have hm' : (s.elapse dt).ptp.selected = some m := hm
  change execAnnounceReceiptTimeout dt s = _
  simp only [execAnnounceReceiptTimeout, hm', apply_ite ok, Bool.and_eq_true]
  rfl

/-- What a module that becomes grandmaster shows and keeps (R289, R293). -/
theorem State.becomeMaster_timeAcquired (s : State) :
    s.becomeMaster.timeAcquired.blk.ntm.state = .master ∧ s.becomeMaster.timeAcquired.blk.ntm.gmid = s.clockId ∧
      s.becomeMaster.timeAcquired.ptp.selected = none ∧ s.becomeMaster.timeAcquired.clock = s.clock := by
  unfold State.timeAcquired
  split <;> exact ⟨rfl, rfl, rfl, rfl⟩

/-- The first time that is held completes step 6 (R52). -/
theorem State.timeAcquired_acquired (s : State) : s.timeAcquired.start.acquired = true := by
  unfold State.timeAcquired
  split
  case isTrue h => exact h
  case isFalse => rfl

theorem State.timeAcquired_step (hnew : s.start.acquired = false) (hstep : s.start.step = 6) :
    s.timeAcquired.start.step = 7 := by
  rw [State.timeAcquired, if_neg (ne_true_of_eq_false hnew)]
  exact if_pos hstep

/-! ### The time that the K3M stores -/

/-- The K3M has stored no time in the last second. -/
def State.storeDue (s : State) : Prop := ∀ a, s.k3m.storedAt = some a → 125000000 ≤ s.nt - a

theorem exec_timeStore_due (hwall : (s.elapse dt).wallOk = true) (hk : s.k3m.failed = false)
    (hdue : (s.elapse dt).storeDue) :
    exec (.timeStore dt) s = ok { s.elapse dt with
      k3m := { s.k3m with storedTime := (s.elapse dt).time, storedAt := some (s.elapse dt).nt } } := by
  have hk' : (s.elapse dt).k3m.failed = false := hk
  refine if_pos ?_
  rw [hwall, hk']
  cases ha : (s.elapse dt).k3m.storedAt with
  | none => rfl
  | some a => exact decide_eq_true (hdue a ha)

theorem exec_timeStore_early {a : Nat} (ha : s.k3m.storedAt = some a) (hearly : (s.elapse dt).nt - a < 125000000) :
    exec (.timeStore dt) s = ok (s.elapse dt) := by
  have ha' : (s.elapse dt).k3m.storedAt = some a := ha
  change execTimeStore dt s = _
  simp only [execTimeStore, ha', Nat.not_le.mpr hearly, decide_false, Bool.and_false, Bool.false_eq_true, if_false]

end

/-! ### O36 -/

/-- Settles O36: each timer of the clock at its instant. -/
theorem clockTimersRun : Obligations.ClockTimersRun := by
  intro dt s u
  refine ⟨fun a hstate hroom hlast hdue => exec_delayReqSend_due hstate hroom hlast hdue,
    fun hmaster hbus hroom hroomA => ⟨fun a hlast hdue => exec_masterSyncSend_due hmaster hbus hroom hlast hdue,
      fun a hlast hdue => exec_masterAnnounceSend_due hmaster hbus hroomA hlast hdue⟩,
    fun hstate a b hlast hentered => ⟨fun hlate => ?_, fun hearly => ?_⟩,
    fun m hm => ⟨fun hearly => ?_, fun hlate hchoice => ?_, fun hlate htimed hcand => ?_⟩,
    fun hwait hcap hruns hdue => ?_,
    fun hwall hk => ⟨fun hdue => exec_timeStore_due hwall hk hdue, fun a ha hearly => exec_timeStore_early ha hearly⟩⟩
  · exact ⟨_, (exec_syncTimeout_following hstate hlast hentered).trans (congrArg ok (if_pos hlate)), rfl, rfl, rfl, rfl⟩
  · exact (exec_syncTimeout_following hstate hlast hentered).trans (congrArg ok (if_neg (Nat.not_le.mpr hearly)))
  · exact (exec_announceReceiptTimeout_selected hm).trans (congrArg ok (if_pos hearly))
  · rw [exec_announceReceiptTimeout_selected hm, if_neg (Nat.not_lt.mpr hlate), if_neg]
    · rfl
    · rintro ⟨htimed, hcand⟩
      simp [htimed, hcand] at hchoice
  · obtain ⟨hstate, hgm, hsel, hclock⟩ := State.becomeMaster_timeAcquired u
    refine ⟨_, ?_, hstate, hsel, hgm, hclock⟩
    rw [exec_announceReceiptTimeout_selected hm, if_neg (Nat.not_lt.mpr hlate), if_pos ⟨htimed, hcand⟩]
    rfl
  · obtain ⟨hstate, -, -, hclock⟩ := State.becomeMaster_timeAcquired u
    exact ⟨u.becomeMaster.timeAcquired, if_pos ⟨hwait, hcap, hruns, hdue⟩, hstate, State.timeAcquired_acquired _, hclock,
      fun hnew hstep => State.timeAcquired_step (s := u.becomeMaster) hnew hstep⟩

end Sys2Proof.Machine

/-! PROOFS. The entry of an input edge (R300, R301), and O37. -/

namespace Sys2Proof.Machine

/-! ### The edge FIFO -/

section
variable {s : State}

/-- An entry that finds room takes the overflow mark with it. -/
theorem State.storeEdge_of_room (h : s.edge.entries.length < 4096) (e : EdgeEntry) :
    s.storeEdge e =
      { s with edge := { s.edge with
          entries := s.edge.entries ++ [{ e with ovf := s.edge.ovf }], ovf := false,
          fresh := s.edge.fresh ++ [{ e with ovf := s.edge.ovf }] } } :=
  if_neg (Nat.not_le.mpr h)

/-- An entry that finds 4096 of them is dropped and counted, and leaves the mark. -/
theorem State.storeEdge_of_full (h : 4096 ≤ s.edge.entries.length) (e : EdgeEntry) :
    s.storeEdge e =
      { s.modNtm (fun n => { n with edgDrop := min (n.edgDrop + 1) 65535, fEdgeovf := some s.nt }) with
        edge := { s.edge with ovf := true, dropped := min (s.edge.dropped + 1) 65535 } } :=
  if_pos h

/-! ### The copies of an entry -/

/-- The entry with its 56 samples, as the safe I/O chip sends it. -/
def sampledEdge (e : EdgeEntry) (current : List Nat) : EdgeEntry :=
  { e with current := (List.range 56).map (fun i => current.getD i 0) }

theorem edgeCopies_undamaged (e : EdgeEntry) {c : EdgeCopies} (h : c.damaged = Tri.all none) :
    edgeCopies e c = Tri.all (sampledEdge e c.current) := by
  rw [edgeCopies, h]
  rfl

theorem edgeCopies_damagedC (e : EdgeEntry) {c : EdgeCopies} {d : EdgeEntry} (h : c.damaged = ⟨none, none, some d⟩) :
    edgeCopies e c = ⟨sampledEdge e c.current, sampledEdge e c.current, d⟩ := by
  rw [edgeCopies, h]
  rfl

/-- Equal copies of two vertices or more are the entry, and no record is formed. -/
theorem State.takeEdge_undamaged (h : 2 ≤ s.strength) (x : EdgeEntry) : s.takeEdge (Tri.all x) = s.storeEdge x := by
  have hcopies : s.serving.map (Tri.all x).get = List.replicate s.strength x := by
    rw [show (Tri.all x).get = fun _ => x from funext (Tri.get_all x)]
    exact List.map_const'
  have hsome : s.strength ≠ 0 := by omega
  have hagree : s.agreedEdge (Tri.all x) = some x := by
    simp only [State.agreedEdge, hcopies]
    simp [List.filter_replicate, h, hsome]
  have hequal : (List.replicate s.strength x).all (fun e => some e == (List.replicate s.strength x).head?) = true := by
    simp [List.head?_replicate, hsome]
  simp only [State.takeEdge, hcopies, hequal, if_true, hagree]

/-- With three vertices in service, the copy on which two agree is the entry, and the other one is recorded. -/
theorem State.takeEdge_damagedC {x d : EdgeEntry} (h : s.strength = 3) (hd : d ≠ x) :
    s.takeEdge ⟨x, x, d⟩ = (s.record .edgeDisagree x.input 0 0).storeEdge x := by
  have hserving : s.serving = [.A, .B, .C] := by
    simp [State.serving, Vtx.list, State.inService_of_strength h]
  have hcopies : s.serving.map (Tri.mk x x d).get = [x, x, d] := by rw [hserving]; rfl
  have hagree : s.agreedEdge ⟨x, x, d⟩ = some x := by
    simp only [State.agreedEdge, hcopies]
    simp [hd]
  have hdiffer : [x, x, d].all (fun e => some e == [x, x, d].head?) = false := by simp [hd]
  simp only [State.takeEdge, hcopies, hdiffer, Bool.false_eq_true, if_false, hagree, List.headD_cons]

/-! ### INPUT_EDGE_ENTRY -/

/-- The oldest dated change is sent 39 µs after its time. -/
theorem exec_inputEdgeEntry_dated {dt : Nat} {e : EdgeEntry} {rest : List EdgeEntry} (h : s.blk.sio.edges = e :: rest)
    (c : EdgeCopies) :
    exec (.inputEdgeEntry dt c) s =
      ok (if (s.elapse dt).time < e.time + 39000 then s.elapse dt
        else ((s.elapse dt).modSio (fun x => { x with edges := rest })).takeEdge (edgeCopies e c)) := by
  change execInputEdgeEntry dt c s = _
  simp only [execInputEdgeEntry, State.elapse_blk, h, apply_ite ok]

end

/-! ### O37 -/

/-- Settles O37: what is dated is sent at its instant, and what reaches the FIFO. -/
theorem edgesEnterTheirFifo : Obligations.EdgesEnterTheirFifo := by
  intro dt c s u
  refine ⟨fun hnone => ?_, fun e rest hdated => ?_⟩
  · change execInputEdgeEntry dt c s = _
    simp only [execInputEdgeEntry, State.elapse_blk, hnone]
    rfl
  intro sent x
  refine ⟨fun hearly => (exec_inputEdgeEntry_dated hdated c).trans (congrArg ok (if_pos hearly)), fun hdue => ?_⟩
  have hsent : exec (.inputEdgeEntry dt c) s = ok (sent.takeEdge (edgeCopies e c)) :=
    (exec_inputEdgeEntry_dated hdated c).trans (congrArg ok (if_neg (Nat.not_lt.mpr hdue)))
  refine ⟨fun hwhole htwo => ?_, fun d hdamaged hthree hd hroom => ⟨_, hsent, ?_, fun v hv => ?_⟩⟩
  · rw [hsent, edgeCopies_undamaged e hwhole, State.takeEdge_undamaged (s := sent) htwo]
    exact ⟨fun hroom => congrArg ok (State.storeEdge_of_room (s := sent) hroom _),
      fun hfull => congrArg ok (State.storeEdge_of_full (s := sent) hfull _)⟩
  all_goals
    have hx : x = sampledEdge e c.current := rfl
    rw [edgeCopies_damagedC e hdamaged, ← hx, State.takeEdge_damagedC (s := sent) (x := x) hthree hd,
      State.storeEdge_of_room (s := sent.record _ _ _ _) hroom]
  · rfl
  · exact State.recs_record (s := sent) (State.inService_of_strength (s := sent) hthree v) hv _ _ _ _

end Sys2Proof.Machine

/-! PROOFS. What the clock does with each message that it takes (R283 to R291, R294), and O35. -/

namespace Sys2Proof.Machine

/-! ### Messages off the profile -/

section
variable {dt : Nat} {net : Net} {h : PtpHdr} {id : Long} {s : State}

theorem exec_syncReceive_offProfile (hok : s.ptpOk h (-3) = false) (o : Nat) (c : Int) :
    exec (.syncReceive dt net h id o c) s = ok (s.elapse dt).ignoreProfile :=
  if_pos (congrArg Bool.not hok)

theorem exec_announceReceive_offProfile (hok : s.ptpOk h (-2) = false) (a b c d e f : Nat) :
    exec (.announceReceive dt net h id a b c d e f) s = ok (s.elapse dt).ignoreProfile :=
  if_pos (congrArg Bool.not hok)

theorem exec_delayReqReceive_offProfile (hok : s.ptpOk h 0 = false) (q : Nat) (c : Int) :
    exec (.delayReqReceive dt net h id q c) s = ok (s.elapse dt).ignoreProfile :=
  if_pos (congrArg Bool.not hok)

theorem exec_delayRespReceive_offProfile (hok : s.ptpOk h 0 = false) (r : Long) (q w : Nat) (c : Int) :
    exec (.delayRespReceive dt net h id r q w c) s = ok (s.elapse dt).ignoreProfile :=
  if_pos (congrArg Bool.not hok)

/-! ### Announce -/

/-- An Announce on the profile is judged from step 6 on, where its queue has room and it is not the module's own. -/
structure AnnounceJudged (s : State) (dt : Nat) (h : PtpHdr) (id : Long) : Prop where
  onProfile : s.ptpOk h (-2) = true
  other : id ≠ s.clockId
  runs : s.timeRuns = true
  room : (s.elapse dt).otherFull 61 1 = false

theorem AnnounceJudged.passes (hj : AnnounceJudged s dt h id) :
    (s.elapse dt).ptpOk h (-2) = true ∧ ¬ (id = (s.elapse dt).clockId ∨ (s.elapse dt).timeRuns = false) := by
  refine ⟨hj.onProfile, ?_⟩
  rintro (hown | hnot)
  · exact hj.other hown
  · exact Bool.false_ne_true (hnot.symm.trans hj.runs)

/-- An Announce of a node outside the matrix is counted. -/
theorem exec_announceReceive_outside (hj : AnnounceJudged s dt h id) (hn : s.timeNode id = none) (a b c d e f : Nat) :
    exec (.announceReceive dt net h id a b c d e f) s =
      ok ((s.elapse dt).modNtm (fun n => { n with ignBm := satInc 16 n.ignBm })) := by
  obtain ⟨hok, hother⟩ := hj.passes
  have hnode : (s.elapse dt).timeNode id = none := hn
  change execAnnounceReceive dt net h id a b c d e f s = _
  simp only [execAnnounceReceive, hok, hj.room, hother, hnode, Bool.not_true, Bool.false_eq_true, if_false]

/-- The Announce of a time-capable node is used where its priorities are those of the matrix and, of a module, its clock quality
is that of Table 9.1, and is counted elsewhere. -/
theorem exec_announceReceive_node {n : TimeNode} (hj : AnnounceJudged s dt h id) (hn : s.timeNode id = some n)
    (a b c d e f : Nat) :
    exec (.announceReceive dt net h id a b c d e f) s =
      ok (if a ≠ n.prio1 ∨ e ≠ n.prio2 ∨ (n.module = true ∧ (b ≠ 248 ∨ c ≠ 0xFE ∨ d ≠ 0xFFFF)) then
          (s.elapse dt).ignoreProfile
        else ((s.elapse dt).announce ⟨id, a, b, c, d, e, f, (s.elapse dt).nt⟩).keepUtc id h.utcOffset) := by
  obtain ⟨hok, hother⟩ := hj.passes
  have hnode : (s.elapse dt).timeNode id = some n := hn
  change execAnnounceReceive dt net h id a b c d e f s = _
  simp only [execAnnounceReceive, hok, hj.room, hother, hnode, Bool.not_true, Bool.false_eq_true, if_false, apply_ite ok]

end

theorem Ptp.isSelected_select (p : Ptp) (m : MasterInfo) (nt : Nat) : (p.select m nt).isSelected m.clockId = true :=
  beq_self_eq_true m.clockId

/-- In WAIT the first Announce of a node selects it as master: the clock locks to it, with its currentUtcOffset (R280, R294). -/
theorem State.announce_wait {s : State} {m : MasterInfo} (hwait : s.blk.ntm.state = .wait)
    (hnew : s.ptp.isSelected m.clockId = false) (x : Int) :
    (s.announce m).keepUtc m.clockId x =
      (((s.modPtp (fun p => p.select m s.nt)).showMaster m.clockId m.cls m.prio1 m.prio2 m.steps).modNtm
        (fun n => { n with state := .locking })).modPtp (fun p => { p with utcOffset := some x }) := by
  simp only [State.announce, hnew, hwait, State.selectMaster, Bool.false_eq_true, if_false]
  exact if_pos (Ptp.isSelected_select _ _ _)

/-! ### Sync -/

/-- `t` is `s` after a Sync of the selected master has been measured: what the servo and the choice of a master go by is unchanged. -/
structure SyncMeasured (s t : State) : Prop where
  eq : t = { s with vtx := t.vtx, ptp := t.ptp,
                    blk := { s.blk with ntm := { s.blk.ntm with fNetdiff := t.blk.ntm.fNetdiff } } }
  stepped : t.ptp.stepped = s.ptp.stepped
  overRun : t.ptp.overRun = s.ptp.overRun
  delay : t.ptp.delay = s.ptp.delay
  selected : t.ptp.selected = s.ptp.selected

/-- The comparison of the networks changes its run, and at its end the flag and the records. -/
theorem State.netDiff_eq (s : State) (n : Net) :
    ∃ w k fl, s.netDiff n = { s with vtx := w, ptp := { s.ptp with diffRun := k },
                                     blk := { s.blk with ntm := { s.blk.ntm with fNetdiff := fl } } } := by
  unfold State.netDiff
  split
  · split
    · dsimp only
      split <;> split <;> exact ⟨_, _, _, rfl⟩
    · split <;> exact ⟨_, _, _, rfl⟩
  · exact ⟨_, _, _, rfl⟩

section
variable {s t : State}

theorem SyncMeasured.state (h : SyncMeasured s t) : t.blk.ntm.state = s.blk.ntm.state := by rw [h.eq]

theorem SyncMeasured.rate (h : SyncMeasured s t) : t.blk.ntm.rate = s.blk.ntm.rate := by rw [h.eq]

theorem SyncMeasured.clock (h : SyncMeasured s t) : t.clock = s.clock := by rw [h.eq]

theorem SyncMeasured.pathDelay (h : SyncMeasured s t) (n : Net) : t.pathDelay n = s.pathDelay n := by
  have hnode : t.timeNode = s.timeNode := by rw [h.eq]; rfl
  simp only [State.pathDelay, h.delay, h.selected, hnode]

/-- The offset that a Sync on network `n` gives (R286, notes/assumptions/41.md). -/
def State.syncOffset (s : State) (n : Net) (origin : Nat) (corr : Int) : Int :=
  (s.time : Int) - origin - corr / 65536 - s.pathDelay n

/-- A Sync of the network in use is measured and used, and NTM.STAT.NET names its network. -/
theorem State.sync_used {n : Net} (hnet : s.syncNet n = true) (huse : s.usesSync = true) (origin : Nat) (corr : Int) :
    ∃ t, SyncMeasured s t ∧
      s.sync n origin corr =
        (t.syncUsed n origin corr (s.syncOffset n origin corr) (s.ptp.offset.get n)).modNtm (fun x =>
          { x with net := some n, offs := sat32i (s.syncOffset n origin corr), mpd := s.pathDelay n % 2 ^ 24 }) := by
  simp only [State.sync, hnet, huse, if_true]
  refine ⟨_, ?_, rfl⟩
  obtain ⟨w, k, fl, hdiff⟩ := State.netDiff_eq ((s.measureRate n origin corr).modPtp (fun p =>
    { p with
      lastSync := p.lastSync.set n (some s.nt), msd := p.msd.set n (some ((s.time : Int) - origin - corr / 65536)),
      offset := p.offset.set n (some ((s.time : Int) - origin - corr / 65536 - s.pathDelay n)),
      timedOut := p.timedOut && !p.candidates.any (fun c => p.isSelected c.clockId) })) n
  rw [hdiff]
  exact ⟨rfl, rfl, rfl, rfl, rfl⟩

end

/-- Whether TIME_JUMP_REFUSED is recorded or not, the clock state stands. -/
theorem State.state_timeJump (s : State) (prev : Option Int) (off : Int) :
    (s.timeJump prev off).blk.ntm.state = s.blk.ntm.state := by
  unfold State.timeJump
  dsimp only
  repeat' split
  all_goals rfl

/-- The servo changes RATE by 2 ppm at most, from a rate within the limit of R281. -/
theorem State.rate_servo (s : State) {base : Int} (h : base.natAbs ≤ 109951163) :
    ((s.servo base).blk.ntm.rate - base).natAbs ≤ 2199023 := by
  change (limitRate (limitRate (base + max (-ppm2) (min (Config.servoStep s.free) ppm2))) - base).natAbs ≤ _
  simp only [limitRate, rateMax, ppm2]
  omega

section
variable {t : State} {n : Net} {origin : Nat} {corr off : Int} {prev : Option Int}

/-- The first Sync in LOCKING steps the clock (R289). -/
theorem State.syncUsed_steps (hstate : t.blk.ntm.state = .locking) (hfirst : t.ptp.stepped = false) :
    t.syncUsed n origin corr off prev =
      (t.stepClock n origin corr).modPtp (fun p => { p with stepped := true, syncPair := ⟨none, none⟩ }) := by
  simp only [State.syncUsed, hstate, hfirst, Bool.not_false, if_true]

/-- In LOCKED the servo follows a small offset (R291). -/
theorem State.syncUsed_small (hstate : t.blk.ntm.state = .locked) (hoff : off.natAbs ≤ 1000) :
    t.syncUsed n origin corr off prev = (t.modPtp (fun p => { p with overRun := 0 })).servo t.blk.ntm.rate := by
  simp [State.syncUsed, hstate, Nat.not_lt.mpr hoff]

/-- In LOCKED the first large offset is kept. -/
theorem State.syncUsed_large (hstate : t.blk.ntm.state = .locked) (hoff : 1000 < off.natAbs) (hfirst : t.ptp.overRun = 0) :
    t.syncUsed n origin corr off prev = (t.modPtp (fun p => { p with overRun := 1 })).servo t.blk.ntm.rate := by
  simp [State.syncUsed, hstate, hoff, hfirst]

/-- The second large offset in a row slews. -/
theorem State.syncUsed_again (hstate : t.blk.ntm.state = .locked) (hoff : 1000 < off.natAbs) (hrun : 1 ≤ t.ptp.overRun) :
    (t.syncUsed n origin corr off prev).blk.ntm.state = .slewing := by
  have htwo : 2 ≤ t.ptp.overRun + 1 := by omega
  simp only [State.syncUsed, hstate, hoff, decide_true, if_true, htwo]
  exact State.state_timeJump _ _ _

end

/-! ### The Syncs of LOCKING and LOCKED on the network in use -/

section
variable {s : State} {n : Net} {origin : Nat} {corr : Int}

theorem State.sync_steps (hnet : s.syncNet n = true) (hlocking : s.blk.ntm.state = .locking)
    (hfirst : s.ptp.stepped = false) :
    (s.sync n origin corr).blk.ntm.state = .locking ∧ (s.sync n origin corr).ptp.stepped = true ∧
      (s.sync n origin corr).clock =
        Clock.ofUnits ((origin : Int) * 2 ^ 40 + corr * 2 ^ 24 + (s.pathDelay n : Int) * 2 ^ 40).toNat ∧
      (s.sync n origin corr).blk.ntm.net = some n := by
  obtain ⟨t, ht, hsync⟩ := State.sync_used hnet (by simp [State.usesSync, hlocking]) origin corr
  rw [hsync, State.syncUsed_steps (ht.state.trans hlocking) (ht.stepped.trans hfirst), ← ht.pathDelay n]
  exact ⟨ht.state.trans hlocking, rfl, rfl, rfl⟩

theorem State.sync_large (hnet : s.syncNet n = true) (hlocked : s.blk.ntm.state = .locked)
    (hoff : 1000 < (s.syncOffset n origin corr).natAbs) (hrun : s.ptp.overRun = 0) :
    (s.sync n origin corr).blk.ntm.state = .locked ∧ (s.sync n origin corr).ptp.overRun = 1 := by
  obtain ⟨t, ht, hsync⟩ := State.sync_used hnet (by simp [State.usesSync, hlocked]) origin corr
  rw [hsync, State.syncUsed_large (ht.state.trans hlocked) hoff (ht.overRun.trans hrun)]
  exact ⟨ht.state.trans hlocked, rfl⟩

theorem State.sync_again (hnet : s.syncNet n = true) (hlocked : s.blk.ntm.state = .locked)
    (hoff : 1000 < (s.syncOffset n origin corr).natAbs) (hrun : 1 ≤ s.ptp.overRun) :
    (s.sync n origin corr).blk.ntm.state = .slewing := by
  obtain ⟨t, ht, hsync⟩ := State.sync_used hnet (by simp [State.usesSync, hlocked]) origin corr
  rw [hsync]
  exact State.syncUsed_again (ht.state.trans hlocked) hoff (Nat.le_trans hrun (Nat.le_of_eq ht.overRun.symm))

theorem State.sync_small (hnet : s.syncNet n = true) (hlocked : s.blk.ntm.state = .locked)
    (hoff : (s.syncOffset n origin corr).natAbs ≤ 1000) (hrate : s.blk.ntm.rate.natAbs ≤ 109951163) :
    (s.sync n origin corr).blk.ntm.state = .locked ∧ (s.sync n origin corr).ptp.overRun = 0 ∧
      ((s.sync n origin corr).blk.ntm.rate - s.blk.ntm.rate).natAbs ≤ 2199023 ∧
      (s.sync n origin corr).clock = s.clock := by
  obtain ⟨t, ht, hsync⟩ := State.sync_used hnet (by simp [State.usesSync, hlocked]) origin corr
  rw [hsync, State.syncUsed_small (ht.state.trans hlocked) hoff, ht.rate]
  exact ⟨ht.state.trans hlocked, rfl, State.rate_servo _ hrate, ht.clock⟩

end

/-- SYNC_RECEIVE of the selected master. -/
theorem exec_syncReceive_selected {dt : Nat} {net : Net} {h : PtpHdr} {id : Long} {s : State}
    (hok : s.ptpOk h (-3) = true) (hsel : s.ptp.isSelected id = true) (hruns : s.timeRuns = true)
    (hroom : (s.elapse dt).otherFull 60 1 = false) (o : Nat) (c : Int) :
    exec (.syncReceive dt net h id o c) s = ok ((s.elapse dt).sync net o c) := by
  have hok' : (s.elapse dt).ptpOk h (-3) = true := hok
  have hsel' : (s.elapse dt).ptp.isSelected id = true := hsel
  have hruns' : (s.elapse dt).timeRuns = true := hruns
  change execSyncReceive dt net h id o c s = _
  simp only [execSyncReceive, hok', hroom, hsel', hruns', Bool.not_true, Bool.false_eq_true, if_false, Bool.and_self, if_true]

/-! ### Path delay -/

/-- A master answers a Delay_Req on both networks. -/
theorem exec_delayReqReceive_master {dt : Nat} {net : Net} {h : PtpHdr} {id : Long} {s : State}
    (hok : s.ptpOk h 0 = true) (hroom : (s.elapse dt).otherFull 60 1 = false) (hmaster : s.blk.ntm.state = .master)
    (q : Nat) (c : Int) :
    exec (.delayReqReceive dt net h id q c) s =
      ok ((s.elapse dt).queuePtp (.delayResp h.port id q (s.elapse dt).time c)) := by
  have hok' : (s.elapse dt).ptpOk h 0 = true := hok
  change execDelayReqReceive dt net h id q c s = _
  simp only [execDelayReqReceive, hok', hroom, State.elapse_blk, hmaster, Bool.not_true, Bool.false_eq_true, if_false,
    if_true]

/-- The judgement of the first path delay of a network marks it, and leaves the delays and the clock (R290). -/
theorem State.firstPath_keeps (s : State) (n : Net) (d pd0 : Nat) :
    (s.firstPath n d pd0).ptp.delay = s.ptp.delay ∧ (s.firstPath n d pd0).ptp.reqSent = s.ptp.reqSent ∧
      (s.firstPath n d pd0).ptp.firstDelay.get n = true ∧ (s.firstPath n d pd0).clock = s.clock := by
  unfold State.firstPath
  split
  case isTrue h => exact ⟨rfl, rfl, h, rfl⟩
  case isFalse =>
    dsimp only
    split <;> exact ⟨rfl, rfl, Two.get_set_same _ _ _, rfl⟩

/-- The state after a path delay `d` has been measured on network `n` of a node. -/
def State.measuredDelay (s : State) (n : Net) (d : Nat) (node : TimeNode) : State :=
  (s.modPtp (fun p => { p with delay := p.delay.set n (some d), reqSent := p.reqSent.set n none })).firstPath n d
    (pd0Of node n)

theorem State.measuredDelay_keeps (s : State) (n : Net) (d : Nat) (node : TimeNode) :
    (s.measuredDelay n d node).ptp.delay.get n = some d ∧ (s.measuredDelay n d node).ptp.reqSent.get n = none ∧
      (s.measuredDelay n d node).ptp.firstDelay.get n = true ∧ (s.measuredDelay n d node).clock = s.clock := by
  obtain ⟨hdelay, hreq, hfirst, hclock⟩ := State.firstPath_keeps
    (s.modPtp (fun p => { p with delay := p.delay.set n (some d), reqSent := p.reqSent.set n none })) n d (pd0Of node n)
  exact ⟨(congrArg (Two.get · n) hdelay).trans (Two.get_set_same _ _ _),
    (congrArg (Two.get · n) hreq).trans (Two.get_set_same _ _ _), hfirst, hclock⟩

/-- DELAY_RESP_RECEIVE of the selected master to the last Delay_Req gives the path delay, 0 where it comes out negative. -/
theorem exec_delayRespReceive_answers {dt : Nat} {net : Net} {h : PtpHdr} {id : Long} {s : State} {q : Nat}
    {t3 msd : Int} {node : TimeNode} (hok : s.ptpOk h 0 = true) (hroom : (s.elapse dt).otherFull 60 1 = false)
    (hsel : s.ptp.isSelected id = true) (hsent : s.ptp.reqSent.get (netOfPort h.port) = some (q, t3))
    (hmsd : s.ptp.msd.get (netOfPort h.port) = some msd) (hnode : s.timeNode id = some node) (w : Nat) (c : Int) :
    let d := ((msd + ((w : Int) - t3 - c / 65536)) / 2).toNat
    let t := (s.elapse dt).measuredDelay (netOfPort h.port) d node
    exec (.delayRespReceive dt net h id s.clockId q w c) s =
      ok (if t.blk.ntm.net = some (netOfPort h.port) then t.modNtm (fun x => { x with mpd := d % 2 ^ 24 }) else t) := by
  have hok' : (s.elapse dt).ptpOk h 0 = true := hok
  have hsel' : (s.elapse dt).ptp.isSelected id = true := hsel
  have hsent' : (s.elapse dt).ptp.reqSent.get (netOfPort h.port) = some (q, t3) := hsent
  have hmsd' : (s.elapse dt).ptp.msd.get (netOfPort h.port) = some msd := hmsd
  have hnode' : (s.elapse dt).timeNode id = some node := hnode
  have hown : s.clockId = (s.elapse dt).clockId := rfl
  intro d t
  change execDelayRespReceive dt net h id s.clockId q w c s = _
  simp only [execDelayRespReceive, hok', hroom, hsent', hmsd', hnode', hsel', hown, Bool.not_true, Bool.false_eq_true,
    if_false, and_self, if_true]
  rfl

/-! ### O35 -/

/-- Settles O35: each message of the clock, on and off the profile. -/
theorem clockMessagesAreTaken : Obligations.ClockMessagesAreTaken := by
  intro dt net h id s u ignored
  refine ⟨fun hoff o c => exec_syncReceive_offProfile hoff o c,
    fun hoff a b c d e f => exec_announceReceive_offProfile hoff a b c d e f,
    fun hoff q c => exec_delayReqReceive_offProfile hoff q c,
    fun hoff r q w c => exec_delayRespReceive_offProfile hoff r q w c,
    fun hok hid hruns hroom => ?announce, fun hok hsel hnet hruns hroom => ?sync,
    fun hok hroom hmaster q c => ?request, fun q t3 msd n w c hok hroom hsel hsent hmsd hnode => ?response⟩
  case announce =>
    have hj : AnnounceJudged s dt h id := ⟨hok, hid, hruns, hroom⟩
    refine ⟨fun hn a b c d e f => exec_announceReceive_outside hj hn a b c d e f, fun n a b c d e f hn hbad => ?_,
      fun n cls acc var steps hn hquality hwait hnew => ?_⟩
    · exact (exec_announceReceive_node hj hn a b c d e f).trans (congrArg ok (if_pos hbad))
    · have hkept : ¬ (n.prio1 ≠ n.prio1 ∨ n.prio2 ≠ n.prio2 ∨
          (n.module = true ∧ (cls ≠ 248 ∨ acc ≠ 0xFE ∨ var ≠ 0xFFFF))) := by
        simpa [Decidable.or_iff_not_imp_left] using hquality
      refine ⟨_, (exec_announceReceive_node hj hn n.prio1 cls acc var n.prio2 steps).trans
        (congrArg ok ((if_neg hkept).trans (State.announce_wait (s := u)
          (m := ⟨id, n.prio1, cls, acc, var, n.prio2, steps, u.nt⟩) hwait hnew h.utcOffset))), ?_⟩
      exact ⟨rfl, rfl, Ptp.isSelected_select u.ptp _ u.nt, rfl, rfl⟩
  case sync =>
    subst hnet
    have hexec := exec_syncReceive_selected (net := .X) hok hsel hruns hroom
    exact ⟨fun o c hlocking hfirst => ⟨_, hexec o c, State.sync_steps (s := u) rfl hlocking hfirst⟩,
      fun o c hlocked => ⟨fun hlarge hrun => ⟨_, hexec o c, State.sync_large (s := u) rfl hlocked hlarge hrun⟩,
        fun hlarge hrun => ⟨_, hexec o c, State.sync_again (s := u) rfl hlocked hlarge hrun⟩,
        fun hsmall hrate => ⟨_, hexec o c, State.sync_small (s := u) rfl hlocked hsmall hrate⟩⟩⟩
  case request =>
    rw [exec_delayReqReceive_master hok hroom hmaster, State.queuePtp_of_room hroom]
    rfl
  case response =>
    refine ⟨_, exec_delayRespReceive_answers hok hroom hsel hsent hmsd hnode w c, ?_⟩
    split <;> exact State.measuredDelay_keeps u _ _ _

end Sys2Proof.Machine

/-! PROOFS. The steps that change the safe I/O chip and form records of the triangle, and nothing else (R337, R393). -/

namespace Sys2Proof.Machine

/-! ### Elements of a list -/

theorem getD_modNth_same {α : Type} {l : List α} {i : Nat} (h : i < l.length) (f : α → α) (d : α) :
    (modNth l i f).getD i d = f (l.getD i d) := by
  simp [List.getD_eq_getElem?_getD, getElem?_modNth, h]

theorem getD_modNth_other {α : Type} (l : List α) {i j : Nat} (h : j ≠ i) (f : α → α) (d : α) :
    (modNth l i f).getD j d = l.getD j d := by
  unfold modNth
  split
  · simp [List.getD_eq_getElem?_getD, h.symm]
  · rfl

theorem length_modNth {α : Type} (l : List α) (i : Nat) (f : α → α) : (modNth l i f).length = l.length := by
  unfold modNth
  split
  · exact List.length_set
  · rfl

theorem getD_modNth_keeps {α β : Type} (l : List α) (i j : Nat) {f : α → α} {g : α → β} (h : ∀ y, g (f y) = g y) (d : α) :
    g ((modNth l i f).getD j d) = g (l.getD j d) := by
  by_cases hj : j = i
  · subst hj
    by_cases hlen : j < l.length
    · rw [getD_modNth_same hlen, h]
    · simp [List.getD_eq_getElem?_getD, getElem?_modNth, hlen]
  · rw [getD_modNth_other l hj]

/-! ### Records with a body of their own -/

/-- A vertex in service whose buffer has room places the record behind those that wait there. -/
theorem State.recs_recBody {s : State} {v : Vtx} (hin : s.inService v = true) (hroom : (s.v v).recs.length < 64)
    (r : RecType) (body : List Byte) : ((s.recBody r body).v v).recs = (s.v v).recs ++ [⟨r, 0x10, body⟩] := by
  simp [State.recBody, Vertex.addRec, hin, hroom]

/-- A record changes the buffers of the vertices and their counts of dropped records alone. -/
theorem State.v_recBody (s : State) (r : RecType) (body : List Byte) (v : Vtx) :
    ∃ l n q, (s.recBody r body).v v = { s.v v with recs := l, recDrop := n, loc := { (s.v v).loc with qdrop := q } } := by
  rw [State.recBody, State.v_modAll]
  split
  · unfold Vertex.addRec
    split <;> exact ⟨_, _, _, rfl⟩
  · exact ⟨_, _, _, rfl⟩

/-! ### Steps of the safe I/O chip -/

section
variable {u t : State}

theorem SioOnly.refl (u : State) : SioOnly u u := ⟨rfl, fun _ => rfl⟩

theorem SioOnly.modSio (h : SioOnly u t) (f : Sio → Sio) : SioOnly u (t.modSio f) := by
  obtain ⟨heq, hv⟩ := h
  obtain ⟨w, x, rfl⟩ : ∃ w x, t = { u with vtx := w, blk := { u.blk with sio := x } } := ⟨_, _, heq⟩
  exact ⟨rfl, hv⟩

theorem SioOnly.recBody (h : SioOnly u t) (r : RecType) (body : List Byte) : SioOnly u (t.recBody r body) := by
  obtain ⟨heq, hv⟩ := h
  obtain ⟨w, x, rfl⟩ : ∃ w x, t = { u with vtx := w, blk := { u.blk with sio := x } } := ⟨_, _, heq⟩
  refine ⟨rfl, fun v => ?_⟩
  obtain ⟨l, n, q, hrec⟩ := State.v_recBody { u with vtx := w, blk := { u.blk with sio := x } } r body v
  rw [hrec, hv v]

/-- A record with the group, kind and channel that each element of a list gives, and VALUE 0 (notes/assumptions/46.md). -/
def State.ioClears {α : Type} (s : State) (g k c : α → Nat) (l : List α) : State :=
  l.foldl (fun u a => u.ioClear (g a) (k a) (c a) 0) s

theorem SioOnly.ioClears {α : Type} (g k c : α → Nat) (l : List α) (h : SioOnly u t) :
    SioOnly u (t.ioClears g k c l) := by
  induction l generalizing t with
  | nil => exact h
  | cons a l ih => exact ih (SioOnly.recBody h _ _)

theorem State.blk_ioClears {α : Type} (s : State) (g k c : α → Nat) (l : List α) : (s.ioClears g k c l).blk = s.blk := by
  induction l generalizing s with
  | nil => rfl
  | cons a l ih => exact ih _

/-- With room for all of them, the records stand in order behind those that wait. -/
theorem State.recs_ioClears {α : Type} {s : State} {v : Vtx} (hin : s.inService v = true) (g k c : α → Nat) (l : List α)
    (hroom : (s.v v).recs.length + l.length ≤ 64) :
    ((s.ioClears g k c l).v v).recs =
      (s.v v).recs ++ l.map (fun a => ⟨.ioClear, 0x10, ioBody (g a) (k a) (c a) 0 s.time⟩) := by
  induction l generalizing s with
  | nil => exact (List.append_nil _).symm
  | cons a l ih =>
    rw [List.length_cons] at hroom
    have hfirst : ((s.ioClear (g a) (k a) (c a) 0).v v).recs =
        (s.v v).recs ++ [⟨.ioClear, 0x10, ioBody (g a) (k a) (c a) 0 s.time⟩] :=
      State.recs_recBody hin (by omega) _ _
    have hrest : ((s.ioClear (g a) (k a) (c a) 0).v v).recs.length + l.length ≤ 64 := by
      rw [hfirst, List.length_append, List.length_singleton]
      omega
    rw [State.ioClears, List.foldl_cons]
    refine (ih (s := s.ioClear (g a) (k a) (c a) 0) hin hrest).trans ?_
    rw [hfirst, List.append_assoc]
    rfl

/-- What clearing records and a step of the chip leave, together. -/
theorem State.ioClears_modSio {α : Type} (s : State) (g k c : α → Nat) (l : List α) (f : Sio → Sio) :
    SioOnly s ((s.ioClears g k c l).modSio f) ∧ ((s.ioClears g k c l).modSio f).blk.sio = f s.blk.sio ∧
      ∀ v, s.inService v = true → (s.v v).recs.length + l.length ≤ 64 →
        (((s.ioClears g k c l).modSio f).v v).recs =
          (s.v v).recs ++ l.map (fun a => ⟨.ioClear, 0x10, ioBody (g a) (k a) (c a) 0 s.time⟩) := by
  refine ⟨SioOnly.modSio (SioOnly.ioClears g k c l (SioOnly.refl s)) f, ?_, fun v hin hroom => ?_⟩
  · rw [State.modSio, State.blk_ioClears]
  · exact State.recs_ioClears hin g k c l hroom

/-- An IO_FAULT record, with what it changes in the chip, is formed and changes nothing else. -/
theorem State.ioFault_recorded (s : State) (dt group kind chan val : Nat) (f : Sio → Sio) :
    IoRecorded s (((s.elapse dt).ioFault group kind chan val).modSio f) .ioFault group kind chan val (s.elapse dt).time :=
  fun _ hin hroom => State.recs_recBody (s := s.elapse dt) hin hroom _ _

theorem SioOnly.ioFault (u : State) (group kind chan val : Nat) (f : Sio → Sio) :
    SioOnly u ((u.ioFault group kind chan val).modSio f) :=
  SioOnly.modSio (SioOnly.recBody (SioOnly.refl u) _ _) f

end

end Sys2Proof.Machine


/-! PROOFS. The change of an input's class (R300, R307), and what a tick leaves of every input and pair (R309, R312 to R316). -/

namespace Sys2Proof.Machine

/-! ### The change of a class -/

section
variable {s : State}

/-- With no running slice that it names, a service request abandons none. -/
theorem State.serviceRequest_none {p : Nat → Bool} (h : ∀ r ∈ s.blk.bst.running, p r.n = false) :
    s.serviceRequest p = s := by
  have hnone : s.blk.bst.running.filter (fun r => p r.n && !r.reserved) = [] :=
    List.filter_eq_nil_iff.mpr fun r hr => by simp [h r hr]
  rw [State.serviceRequest, hnone]
  rfl

/-- The chip after input `i` has taken the class `new`: the change is dated where it is captured. -/
def State.newClass (s : State) (i new : Nat) (x : Sio) : Sio :=
  let y := x.setClass s.nt i new
  if s.captures i (s.blk.sio.input i).cls new then y.dateEdge s.time i (s.blk.sio.input i).cls new else y

theorem classRun_five {a b c d e : Nat} (hb : classOf b = classOf a) (hc : classOf c = classOf a)
    (hd : classOf d = classOf a) (he : classOf e = classOf a) : classRun ([a, b, c, d] ++ [e]) = some (classOf a) := by
  simp [classRun, hb, hc, hd, he]

/-- Five samples of a new class change the class of an input that does not hold it. -/
theorem exec_classChange_new {dt : Nat} {i : Fin 32} {before : List Nat} {cur new : Nat}
    (hrun : classRun (before ++ [cur]) = some new) (hheld : (s.elapse dt).inputHeld i.val = false)
    (hnew : (s.blk.sio.input i.val).cls ≠ new) :
    exec (.classChange dt i before cur) s =
      ok ((s.elapse dt).modSio ((s.elapse dt).newClass i.val new)) := by
  have hold : ((s.blk.sio.input i.val).cls == new) = false := beq_eq_false_iff_ne.mpr hnew
  have hidle : ∀ r ∈ (s.elapse dt).blk.bst.running, (r.n == i.val) = false := by
    have hslices := (Bool.or_eq_false_iff.mp hheld).2
    simpa using hslices
  have hsame : (s.elapse dt).serviceRequest (fun n => n == i.val) = s.elapse dt := State.serviceRequest_none hidle
  change execClassChange dt i before cur s = _
  simp only [execClassChange, hrun, State.elapse_blk, hold, Bool.false_eq_true, if_false,
    hsame, hheld, Bool.or_self]
  rfl

end

section
variable {x : Sio} {i : Nat}

theorem Sio.input_setClass_same (h : i < x.inputs.length) (nt new : Nat) :
    (x.setClass nt i new).input i =
      { x.input i with cls := new, leftAt := if (x.input i).cls = cClosed then some nt else (x.input i).leftAt } :=
  getD_modNth_same h _ _

theorem Sio.input_setClass_other {j : Nat} (h : j ≠ i) (nt new : Nat) : (x.setClass nt i new).input j = x.input j :=
  getD_modNth_other _ h _ _

/-- The dating of a change leaves the inputs. -/
theorem State.input_newClass (s : State) (i new : Nat) (x : Sio) (j : Nat) :
    (s.newClass i new x).input j = (x.setClass s.nt i new).input j := by
  unfold State.newClass
  dsimp only
  split <;> rfl

/-- A change that is not captured is not dated. -/
theorem State.edges_newClass_uncaptured {s : State} {new : Nat}
    (h : s.captures i (s.blk.sio.input i).cls new = false) :
    (s.newClass i new x).edges = x.edges ∧ (s.newClass i new x).eseq = x.eseq := by
  rw [State.newClass, if_neg (ne_true_of_eq_false h)]
  exact ⟨rfl, rfl⟩

/-- A captured change is dated at the first of its five samples, with the next ESEQ (R300). -/
theorem State.edges_newClass_captured {s : State} {new : Nat} (h : s.captures i (s.blk.sio.input i).cls new = true) :
    (s.newClass i new x).eseq = (x.eseq + 1) % 65536 ∧ (s.newClass i new x).edges = x.edges ++
      [⟨(s.time - 4000) / 1000 * 1000, i, new, (s.blk.sio.input i).cls, x.eseq, false, []⟩] := by
  rw [State.newClass, if_pos h]
  exact ⟨rfl, rfl⟩

end

/-! ### The inputs at a tick -/

section
variable (y : InputSt) (func : Nat)

@[simp] theorem InLatch.set_tick (l : InLatch) (present : Bool) : (l.tick present).set = l.set := by
  unfold InLatch.tick
  split <;> rfl

@[simp] theorem InputSt.cls_tick : (y.tick func).cls = y.cls := by
  unfold InputSt.tick
  dsimp only
  split <;> rfl

@[simp] theorem InputSt.leftAt_tick : (y.tick func).leftAt = y.leftAt := by
  unfold InputSt.tick
  dsimp only
  split <;> rfl

@[simp] theorem InputSt.latched_tick : (y.tick func).latched = y.latched := by
  unfold InputSt.tick
  dsimp only
  split <;> simp [InputSt.latched]

end

/-- The chip with its inputs after a tick. -/
def Sio.tickInputs (x : Sio) : Sio :=
  { x with inputs := x.inputs.zipIdx.map (fun q => InputSt.tick q.1 (x.func q.2)) }

section
variable (x : Sio) (nt i p : Nat)

/-- An input after a tick; one beyond the list, which reads as a fixed value, stays as it is. -/
theorem Sio.input_tickInputs : ∃ func, x.tickInputs.input i = (x.input i).tick func := by
  by_cases h : i < x.inputs.length
  · exact ⟨x.func i, by simp [Sio.tickInputs, Sio.input, List.getD_eq_getElem?_getD, h]⟩
  · exact ⟨0, by simp [Sio.tickInputs, Sio.input, List.getD_eq_getElem?_getD, h, InputSt.tick]⟩

@[simp] theorem Sio.cls_tickInputs : (x.tickInputs.input i).cls = (x.input i).cls := by
  obtain ⟨func, h⟩ := x.input_tickInputs i
  rw [h, InputSt.cls_tick]

@[simp] theorem Sio.leftAt_tickInputs : (x.tickInputs.input i).leftAt = (x.input i).leftAt := by
  obtain ⟨func, h⟩ := x.input_tickInputs i
  rw [h, InputSt.leftAt_tick]

@[simp] theorem Sio.latched_tickInputs : (x.tickInputs.input i).latched = (x.input i).latched := by
  obtain ⟨func, h⟩ := x.input_tickInputs i
  rw [h, InputSt.latched_tick]

theorem Sio.classes_tickInputs : x.tickInputs.inputs.map InputSt.cls = x.inputs.map InputSt.cls := by
  refine List.ext_getElem (by simp [Sio.tickInputs]) fun n h _ => ?_
  simp [Sio.tickInputs]

@[simp] theorem Sio.ossdOn_tickInputs : x.tickInputs.ossdOn nt i = x.ossdOn nt i := by
  simp only [Sio.ossdOn, Sio.cls_tickInputs, Sio.leftAt_tickInputs]
  rfl

@[simp] theorem Sio.func_tickInputs : x.tickInputs.func i = x.func i := rfl

@[simp] theorem Sio.perm_tickInputs : x.tickInputs.perm nt i = x.perm nt i := by
  simp only [Sio.perm, Sio.func_tickInputs, Sio.ossdOn_tickInputs, Sio.cls_tickInputs]

@[simp] theorem Sio.safe_tickInputs : x.tickInputs.safe nt i = x.safe nt i := by
  simp only [Sio.safe, Sio.func_tickInputs, Sio.ossdOn_tickInputs, Sio.cls_tickInputs]

@[simp] theorem Sio.both_tickInputs : x.tickInputs.both nt p = x.both nt p := by
  simp only [Sio.both, Sio.perm_tickInputs]

@[simp] theorem Sio.bothSafe_tickInputs : x.tickInputs.bothSafe nt p = x.bothSafe nt p := by
  simp only [Sio.bothSafe, Sio.safe_tickInputs]

end

/-! ### Steps that change one pair each -/

/-- The chip with other pairs. -/
def Sio.withPairs (x : Sio) (l : List PairSt) : Sio := { x with pairs := l }

/-- The step `f x p` changes pair `p` alone. -/
def Sio.PairStep (f : Sio → Nat → Sio) : Prop := ∀ x p, ∃ y, f x p = x.withPairs (setNth x.pairs p y)

theorem setNth_getD {α : Type} (l : List α) (i : Nat) (d : α) : setNth l i (l.getD i d) = l := by
  unfold setNth
  by_cases h : i < l.length
  · simp [h]
  · exact List.set_eq_of_length_le (Nat.not_lt.mp h)

section
variable {f : Sio → Nat → Sio} (hf : Sio.PairStep f)
include hf

theorem Sio.PairStep.pair_other {p q : Nat} (h : p ≠ q) (x : Sio) : (f x q).pair p = x.pair p := by
  obtain ⟨y, hy⟩ := hf x q
  rw [hy]
  simp [Sio.withPairs, Sio.pair, setNth, List.getD_eq_getElem?_getD, h.symm]

/-- Such steps, one for each element of a list, change pairs alone. -/
theorem Sio.PairStep.foldl (l : List Nat) (x : Sio) :
    ∃ ps, ps.length = x.pairs.length ∧ l.foldl f x = x.withPairs ps := by
  induction l generalizing x with
  | nil => exact ⟨x.pairs, rfl, rfl⟩
  | cons q l ih =>
    obtain ⟨y, hy⟩ := hf x q
    obtain ⟨ps, hlen, hps⟩ := ih (f x q)
    refine ⟨ps, ?_, ?_⟩
    · rw [hlen, hy]
      exact List.length_set
    · rw [List.foldl_cons, hps, hy]
      rfl

theorem Sio.PairStep.pair_foldl_other {p : Nat} {l : List Nat} (h : p ∉ l) (x : Sio) : (l.foldl f x).pair p = x.pair p := by
  induction l generalizing x with
  | nil => rfl
  | cons q l ih =>
    rw [List.mem_cons, not_or] at h
    rw [List.foldl_cons, ih h.2, hf.pair_other h.1]

/-- A pair of the list is as its own step leaves it, from a chip where it is still as before. -/
theorem Sio.PairStep.pair_foldl {p : Nat} {l : List Nat} (hl : l.Nodup) (hp : p ∈ l) (x : Sio) :
    ∃ ps, ps.length = x.pairs.length ∧ (x.withPairs ps).pair p = x.pair p ∧
      (l.foldl f x).pair p = (f (x.withPairs ps) p).pair p := by
  obtain ⟨before, after, rfl⟩ := List.append_of_mem hp
  obtain ⟨-, hafter, hdisjoint⟩ := List.nodup_append.mp hl
  have hbefore : p ∉ before := fun h => hdisjoint p h p List.mem_cons_self rfl
  obtain ⟨ps, hlen, hps⟩ := Sio.PairStep.foldl hf before x
  refine ⟨ps, hlen, ?_, ?_⟩
  · rw [← hps, hf.pair_foldl_other hbefore]
  · rw [List.foldl_append, List.foldl_cons, hf.pair_foldl_other (List.nodup_cons.mp hafter).1, hps]

end

/-! ### The pairs at a tick -/

section
variable {x : Sio} {p : Nat}

theorem Sio.pair_setPair (h : p < x.pairs.length) (y : PairSt) : (x.withPairs (setNth x.pairs p y)).pair p = y := by
  simp [Sio.withPairs, Sio.pair, setNth, List.getD_eq_getElem?_getD, h]

theorem Sio.pairStep_tickPair (nt : Nat) : Sio.PairStep (fun z p => z.tickPair nt p) := by
  intro x p
  unfold Sio.tickPair
  dsimp only
  split
  · exact ⟨x.pair p, by rw [Sio.pair, setNth_getD]; rfl⟩
  · split <;> exact ⟨_, rfl⟩

theorem Sio.pairStep_tickOut (nt : Nat) : Sio.PairStep (fun z p => z.tickOut nt p) := by
  intro x p
  unfold Sio.tickOut
  dsimp only
  split
  · exact ⟨_, rfl⟩
  · split <;> exact ⟨_, rfl⟩

/-- The discrepancy counter and latch of a pair in use after a tick (R315, R316). -/
def Sio.countedPair (x : Sio) (nt p : Nat) : PairSt :=
  if (x.pair p).disc && x.bothSafe nt p then { x.pair p with count := 0, disc := false }
  else { x.pair p with count := if x.perm nt (2 * p) = x.perm nt (2 * p + 1) then 0 else (x.pair p).count + 1 }

/-- Without its latch a pair counts on, or starts again. -/
theorem Sio.countedPair_running (h : (x.pair p).disc = false) (nt : Nat) :
    x.countedPair nt p =
      { x.pair p with count := if x.perm nt (2 * p) = x.perm nt (2 * p + 1) then 0 else (x.pair p).count + 1 } := by
  simp only [Sio.countedPair, h, Bool.false_and, Bool.false_eq_true, if_false]

/-- The latch of a pair clears where both channels show their safe class, and stands elsewhere. -/
theorem Sio.countedPair_latched (h : (x.pair p).disc = true) (nt : Nat) :
    (x.bothSafe nt p = true → (x.countedPair nt p).disc = false ∧ (x.countedPair nt p).count = 0) ∧
      (x.bothSafe nt p = false → (x.countedPair nt p).disc = true) := by
  constructor <;> intro hsafe <;> simp [Sio.countedPair, h, hsafe]

theorem Sio.pair_tickPair (hp : p < x.pairs.length) (hfunc : (x.cfg p).func ≠ 0) (nt : Nat) :
    (x.tickPair nt p).pair p = x.countedPair nt p := by
  simp only [Sio.tickPair, hfunc, if_false, Sio.countedPair, bne_iff_ne, ne_eq, ite_not]
  split <;> exact Sio.pair_setPair hp _

/-- The output of a pair leaves its counter and its latch. -/
theorem Sio.pair_tickOut_keeps (hp : p < x.pairs.length) (nt : Nat) :
    ((x.tickOut nt p).pair p).count = (x.pair p).count ∧ ((x.tickOut nt p).pair p).disc = (x.pair p).disc := by
  obtain ⟨y, hy, hcount, hdisc⟩ : ∃ y, x.tickOut nt p = x.withPairs (setNth x.pairs p y) ∧
      y.count = (x.pair p).count ∧ y.disc = (x.pair p).disc := by
    unfold Sio.tickOut
    dsimp only
    split
    · exact ⟨_, rfl, rfl, rfl⟩
    · split <;> exact ⟨_, rfl, rfl, rfl⟩
  rw [hy, Sio.pair_setPair hp]
  exact ⟨hcount, hdisc⟩

theorem Sio.handBase_of_not_inHand (h : x.inHand p = false) : x.handBase p = false := by
  refine Bool.eq_false_iff.mpr fun hbase => ?_
  have heven : p / 2 * 2 = p := by
    have hmod : p % 2 = 0 := by simpa [Sio.handBase] using (Bool.and_eq_true_iff.mp hbase).1
    omega
  rw [Sio.inHand, heven, hbase] at h
  exact absurd h (by decide)

/-- The output of a pair outside a two-hand function (R315). -/
theorem Sio.out_tickOut (hp : p < x.pairs.length) (hhand : x.inHand p = false) (nt : Nat) :
    ((x.tickOut nt p).pair p).out = ((x.cfg p).func != 0 && x.both nt p && !x.pairLatched p) := by
  simp only [Sio.tickOut, Sio.handBase_of_not_inHand hhand, hhand, Bool.false_eq_true, if_false]
  exact congrArg PairSt.out (Sio.pair_setPair hp _)

end

end Sys2Proof.Machine


/-! PROOFS. A tick as a whole, the latches of the inputs and of the pairs (R309, R312 to R318, R337), and O38. -/

namespace Sys2Proof.Machine

/-! ### A tick -/

/-- The chip with every pair counted, and with every output formed. -/
def Sio.tickPairs (x : Sio) (nt : Nat) : Sio := (List.range 16).foldl (fun z p => z.tickPair nt p) x

def Sio.tickOuts (x : Sio) (nt : Nat) : Sio := (List.range 16).foldl (fun z p => z.tickOut nt p) x

/-- A tick takes the inputs, then the counters, then the outputs (notes/assumptions/45.md). -/
theorem Sio.tick_eq (x : Sio) (nt : Nat) :
    x.tick nt =
      { ((x.tickInputs.tickPairs nt).tickOuts nt).stick with
        snap := ((x.tickInputs.tickPairs nt).tickOuts nt).inputs.map InputSt.cls
        snapOut := ((x.tickInputs.tickPairs nt).tickOuts nt).pairs.map PairSt.out
        lastTick := some nt } := rfl

/-- What the end of a tick shows and sticks leaves the pairs. -/
theorem Sio.pair_tick_outs (x : Sio) (nt p : Nat) :
    (x.tick nt).pair p = ((x.tickInputs.tickPairs nt).tickOuts nt).pair p := by
  rw [Sio.tick_eq]
  generalize (x.tickInputs.tickPairs nt).tickOuts nt = z
  rfl

section
variable {x : Sio} {p : Nat}

theorem Sio.tickPairs_eq (x : Sio) (nt : Nat) :
    ∃ ps, ps.length = x.pairs.length ∧ x.tickPairs nt = x.withPairs ps :=
  (Sio.pairStep_tickPair nt).foldl _ x

theorem Sio.tickOuts_eq (x : Sio) (nt : Nat) :
    ∃ ps, ps.length = x.pairs.length ∧ x.tickOuts nt = x.withPairs ps :=
  (Sio.pairStep_tickOut nt).foldl _ x

theorem Sio.pair_tickPairs (hsize : x.pairs.length = 16) (hp : p < 16) (hfunc : (x.cfg p).func ≠ 0) (nt : Nat) :
    (x.tickPairs nt).pair p = x.countedPair nt p := by
  obtain ⟨ps, hlen, hbefore, hpair⟩ :=
    (Sio.pairStep_tickPair nt).pair_foldl List.nodup_range (List.mem_range.mpr hp) x
  have hroom : p < (x.withPairs ps).pairs.length := Nat.lt_of_lt_of_eq hp (hlen.trans hsize).symm
  refine hpair.trans ((Sio.pair_tickPair hroom hfunc nt).trans ?_)
  rw [Sio.countedPair, hbefore]
  rfl

theorem Sio.pair_tickOuts (hsize : x.pairs.length = 16) (hp : p < 16) (nt : Nat) :
    ((x.tickOuts nt).pair p).count = (x.pair p).count ∧ ((x.tickOuts nt).pair p).disc = (x.pair p).disc ∧
      (x.inHand p = false →
        ((x.tickOuts nt).pair p).out = ((x.cfg p).func != 0 && x.both nt p && !x.pairLatched p)) := by
  obtain ⟨ps, hlen, hbefore, hpair⟩ :=
    (Sio.pairStep_tickOut nt).pair_foldl List.nodup_range (List.mem_range.mpr hp) x
  have hroom : p < (x.withPairs ps).pairs.length := Nat.lt_of_lt_of_eq hp (hlen.trans hsize).symm
  obtain ⟨hcount, hdisc⟩ := Sio.pair_tickOut_keeps hroom nt
  rw [hbefore] at hcount hdisc
  rw [Sio.tickOuts, hpair]
  refine ⟨hcount, hdisc, fun hhand => (Sio.out_tickOut hroom hhand nt).trans ?_⟩
  rw [Sio.pairLatched, hbefore]
  rfl

theorem Sio.countedPair_tickInputs (x : Sio) (nt p : Nat) : x.tickInputs.countedPair nt p = x.countedPair nt p := by
  simp only [Sio.countedPair, Sio.bothSafe_tickInputs, Sio.perm_tickInputs]
  rfl

/-- The classes of the inputs after a tick are those before it. -/
theorem Sio.snap_tick (x : Sio) (nt : Nat) : (x.tick nt).snap = x.inputs.map InputSt.cls := by
  obtain ⟨ps, -, hcounted⟩ := x.tickInputs.tickPairs_eq nt
  obtain ⟨qs, -, hout⟩ := (x.tickInputs.tickPairs nt).tickOuts_eq nt
  rw [Sio.tick_eq, hout, hcounted]
  exact x.classes_tickInputs

/-- A pair in use counts and clears at a tick, and then takes its output. -/
theorem Sio.pair_tick (hsize : x.pairs.length = 16) (hp : p < 16) (hfunc : (x.cfg p).func ≠ 0) (nt : Nat) :
    ((x.tick nt).pair p).count = (x.countedPair nt p).count ∧ ((x.tick nt).pair p).disc = (x.countedPair nt p).disc ∧
      (x.inHand p = false → ((x.tick nt).pair p).out = (x.both nt p &&
        !((x.countedPair nt p).disc || (x.input (2 * p)).latched || (x.input (2 * p + 1)).latched))) := by
  have hpair : (x.tickInputs.tickPairs nt).pair p = x.countedPair nt p :=
    (Sio.pair_tickPairs (x := x.tickInputs) hsize hp hfunc nt).trans (x.countedPair_tickInputs nt p)
  obtain ⟨ps, hlen, hcounted⟩ := x.tickInputs.tickPairs_eq nt
  rw [hcounted] at hpair
  obtain ⟨hcount, hdisc, hout⟩ := Sio.pair_tickOuts (x := x.tickInputs.withPairs ps) (hlen.trans hsize) hp nt
  rw [hpair] at hcount hdisc
  have htick : (x.tick nt).pair p = ((x.tickInputs.withPairs ps).tickOuts nt).pair p := by
    rw [Sio.pair_tick_outs, hcounted]
  rw [htick]
  refine ⟨hcount, hdisc, fun hhand => (hout hhand).trans ?_⟩
  have hused : (((x.tickInputs.withPairs ps).cfg p).func != 0) = true := bne_iff_ne.mpr hfunc
  have hboth : (x.tickInputs.withPairs ps).both nt p = x.both nt p := x.both_tickInputs nt p
  have hlatched (i : Nat) : ((x.tickInputs.withPairs ps).input i).latched = (x.input i).latched :=
    x.latched_tickInputs i
  rw [hused, hboth, Sio.pairLatched, hpair, hlatched, hlatched, Bool.true_and]

end

/-- The chip ticks: the latches that clear are recorded, and nothing else changes but the chip. -/
theorem exec_ioTick_due {dt : Nat} {s : State} (hfail : s.blk.sio.fail = false) (hdue : (s.elapse dt).tickDue = true) :
    ∃ t, exec (.ioTick dt) s = ok t ∧ SioOnly (s.elapse dt) t ∧ t.blk.sio = s.blk.sio.tick (s.elapse dt).nt ∧
      ∀ v, s.inService v = true → (s.v v).recs.length + (s.blk.sio.discClearing (s.elapse dt).nt).length ≤ 64 →
        (t.v v).recs = (s.v v).recs ++ (s.blk.sio.discClearing (s.elapse dt).nt).map (fun p =>
          ⟨.ioClear, 0x10, ioBody (p / 8) 1 p 0 (s.elapse dt).time⟩) := by
  refine ⟨_, ?_, State.ioClears_modSio (s.elapse dt) (· / 8) (fun _ => 1) (fun p => p)
    (s.blk.sio.discClearing (s.elapse dt).nt) (fun x => x.tick (s.elapse dt).nt)⟩
  change execIoTick dt s = _
  simp only [execIoTick, State.elapse_blk, hfail, hdue, Bool.not_true, Bool.or_self, Bool.false_eq_true, if_false]
  rfl

theorem exec_ioTick_idle {dt : Nat} {s : State} (h : s.blk.sio.fail = true ∨ (s.elapse dt).tickDue = false) :
    exec (.ioTick dt) s = ok (s.elapse dt) := by
  refine if_pos ?_
  obtain hfail | hnot := h
  · exact Bool.or_eq_true_iff.mpr (.inl hfail)
  · rw [hnot]
    exact Bool.or_true _

/-! ### What forces a pair off -/

section
variable {x : Sio} {p : Nat}

theorem Sio.inputs_forceBlock (x : Sio) (p : Nat) : (x.forceBlock p).inputs = x.inputs := by
  unfold Sio.forceBlock
  split <;> rfl

theorem Sio.disc_forceBlock (x : Sio) (p q : Nat) : ((x.forceBlock p).pair q).disc = (x.pair q).disc := by
  unfold Sio.forceBlock
  split <;> exact getD_modNth_keeps (g := PairSt.disc) _ _ _ (by intro; rfl) _

/-- A pair outside a two-hand function loses its output. -/
theorem Sio.forceBlock_alone (hp : p < x.pairs.length) (h : x.inHand p = false) :
    ((x.forceBlock p).pair p).out = false := by
  rw [Sio.forceBlock, if_neg (ne_true_of_eq_false h)]
  exact congrArg PairSt.out (getD_modNth_same hp _ _)

/-- A two-hand function is blocked (R317). -/
theorem Sio.forceBlock_hand (hp : p < x.pairs.length) (h : x.inHand p = true) :
    ((x.forceBlock p).pair (p / 2 * 2)).hand = .block ∧ ((x.forceBlock p).pair (p / 2 * 2)).out = false := by
  have hbase : p / 2 * 2 < x.pairs.length := by omega
  have hpair : (x.forceBlock p).pair (p / 2 * 2) = { x.pair (p / 2 * 2) with hand := .block, out := false } := by
    rw [Sio.forceBlock, if_pos h]
    exact getD_modNth_same hbase _ _
  rw [hpair]
  exact ⟨rfl, rfl⟩

/-- The chip with the DISCREPANCY latch of pair `p` set. -/
def Sio.latchDisc (x : Sio) (p : Nat) : Sio :=
  (({ x with pairs := modNth x.pairs p (fun y => { y with disc := true }) } : Sio).forceBlock p).stick

theorem Sio.disc_latchDisc (hp : p < x.pairs.length) : ((x.latchDisc p).pair p).disc = true :=
  (Sio.disc_forceBlock _ p p).trans (congrArg PairSt.disc (getD_modNth_same hp _ _))

theorem Sio.latchDisc_alone (hp : p < x.pairs.length) (h : x.inHand p = false) : ((x.latchDisc p).pair p).out = false :=
  Sio.forceBlock_alone (Nat.lt_of_lt_of_eq hp (length_modNth ..).symm) h

theorem Sio.latchDisc_hand (hp : p < x.pairs.length) (h : x.inHand p = true) :
    ((x.latchDisc p).pair (p / 2 * 2)).hand = .block ∧ ((x.latchDisc p).pair (p / 2 * 2)).out = false :=
  Sio.forceBlock_hand (Nat.lt_of_lt_of_eq hp (length_modNth ..).symm) h

/-- The chip with a latch of input `i` set by `f`. -/
def Sio.latchInput (x : Sio) (i : Nat) (f : InputSt → InputSt) : Sio :=
  (({ x with inputs := modNth x.inputs i f } : Sio).forceBlock (i / 2)).stick

theorem Sio.input_latchInput {i : Nat} (hi : i < x.inputs.length) (f : InputSt → InputSt) :
    (x.latchInput i f).input i = f (x.input i) := by
  change ((({ x with inputs := modNth x.inputs i f } : Sio).forceBlock (i / 2)).inputs).getD i _ = _
  rw [Sio.inputs_forceBlock]
  exact getD_modNth_same hi _ _

end

/-! ### The latches at a tick -/

section
variable {dt : Nat} {s : State}

theorem exec_discrepancyLatch_due {p : Fin 16} (htick : (s.elapse dt).atTick = true) (hfail : s.blk.sio.fail = false)
    (hfunc : (s.blk.sio.cfg p.val).func ≠ 0) (hcount : (s.blk.sio.pair p.val).count = (s.blk.sio.cfg p.val).dt)
    (hnew : (s.blk.sio.pair p.val).disc = false) (hlow : (s.elapse dt).supplyLow = false) :
    exec (.discrepancyLatch dt p) s =
      ok (((s.elapse dt).ioFault (p.val / 8) 1 p.val (s.blk.sio.pair p.val).count).modSio (·.latchDisc p.val)) := by
  refine if_pos ?_
  have hfunc' : ((s.blk.sio.cfg p.val).func != 0) = true := bne_iff_ne.mpr hfunc
  have hcount' : ((s.blk.sio.pair p.val).count == (s.blk.sio.cfg p.val).dt) = true := beq_iff_eq.mpr hcount
  rw [htick, hlow, State.elapse_blk, hfail, hfunc', hcount', hnew]
  rfl

/-- From the 20th tick in a fault class on, the class of the tick names the latch (R309, notes/assumptions/45.md). -/
theorem exec_inputFaultLatch_due {i : Fin 32} {cur : Nat} (htick : (s.elapse dt).atTick = true)
    (hfail : s.blk.sio.fail = false) (hfunc : s.blk.sio.func i.val ≠ 0) (hbad : 20 ≤ (s.blk.sio.input i.val).bad)
    (hlow : (s.elapse dt).supplyLow = false) :
    exec (.inputFaultLatch dt i cur) s =
      if (s.blk.sio.input i.val).cls = cBreak ∧ s.blk.sio.contact i.val = true ∧
          (s.blk.sio.input i.val).brk.set = false then
        ok (((s.elapse dt).ioFault (i.val / 16) 2 i.val cur).modSio
          (·.latchInput i.val (fun y => { y with brk := .fresh })))
      else if (s.blk.sio.input i.val).cls = cInter ∧ (s.blk.sio.input i.val).inter.set = false then
        ok (((s.elapse dt).ioFault (i.val / 16) 3 i.val cur).modSio
          (·.latchInput i.val (fun y => { y with inter := .fresh })))
      else ok (s.elapse dt) := by
  have hfunc' : (s.blk.sio.func i.val == 0) = false := beq_eq_false_iff_ne.mpr hfunc
  change execInputFaultLatch dt i cur s = _
  simp only [execInputFaultLatch, State.elapse_blk, htick, hfail, hfunc', Nat.not_lt.mpr hbad, decide_false, hlow,
    Bool.not_true, Bool.or_self, Bool.false_eq_true, if_false, Bool.not_eq_true']
  rfl

theorem exec_twohandTimeout_due {p : Fin 16} {b : Bool} {n : Nat} (htick : (s.elapse dt).atTick = true)
    (hfail : s.blk.sio.fail = false) (hone : (s.blk.sio.pair p.val).hand = .one b n)
    (hbase : s.blk.sio.handBase p.val = true) (hn : 501 ≤ n) :
    exec (.twohandTimeout dt p) s = ok ((s.elapse dt).modSio (fun x =>
      { x with pairs := modNth x.pairs p.val (fun y => { y with hand := .block, out := false }) })) := by
  change execTwohandTimeout dt p s = _
  simp only [execTwohandTimeout, State.elapse_blk, hone, htick, hfail, hbase, hn, and_self, if_true]

end

/-! ### The clearing of the latches of an input (R316) -/

/-- Both channels of the pair of input `i` show their safe class. -/
theorem pairSafe_iff (x : Sio) (nt i : Nat) : PairSafe x nt i ↔ x.bothSafe nt (i / 2) = true := by
  have heven : 2 * (i / 2) / 2 = i / 2 := by omega
  have hodd : (2 * (i / 2) + 1) / 2 = i / 2 := by omega
  have hodd' : (2 * (i / 2) + 1) % 2 = 1 := by omega
  have hfunc : x.func (2 * (i / 2)) = x.func i := by rw [Sio.func, heven]; rfl
  have hfunc' : x.func (2 * (i / 2) + 1) = x.func i := by rw [Sio.func, hodd]; rfl
  simp only [PairSafe, Sio.bothSafe, Sio.safe, hfunc, hfunc']
  match x.func i with
  | 0 => simp
  | 1 => simp [permClass]
  | 2 => simp [permClass, hodd', cOpen, cClosed]
  | 3 => simp [permClass, hodd', cOpen, cClosed]
  | 4 => simp
  | _ + 5 => simp [permClass]

theorem latchClears_iff (x : Sio) (nt i : Nat) (l : InLatch) : LatchClears x nt i l ↔ x.mayClear nt i l = true := by
  simp [LatchClears, Sio.mayClear, pairSafe_iff, and_assoc]

/-- The chip with latches of input `i` cleared: WIRE_BREAK, INTERMEDIATE and CROSS_SHORT where `b`, `n` and `c` say so. -/
def Sio.clearLatches (x : Sio) (i : Nat) (b n c : Bool) : Sio :=
  { x with
    inputs := modNth x.inputs i (fun y =>
      { y with
        brk := { y.brk with set := y.brk.set && !b }, inter := { y.inter with set := y.inter.set && !n },
        cross := { y.cross with set := y.cross.set && !c } }),
    pairs := if b || n || c then modNth x.pairs (i / 2) (fun q => { q with count := 0 }) else x.pairs }

section
variable {x : Sio} {i : Nat} {b n c : Bool}

theorem Sio.input_clearLatches (hi : i < x.inputs.length) (b n c : Bool) :
    ((x.clearLatches i b n c).input i).brk.set = ((x.input i).brk.set && !b) ∧
      ((x.clearLatches i b n c).input i).inter.set = ((x.input i).inter.set && !n) ∧
      ((x.clearLatches i b n c).input i).cross.set = ((x.input i).cross.set && !c) := by
  rw [show (x.clearLatches i b n c).input i = _ from getD_modNth_same hi _ _]
  exact ⟨rfl, rfl, rfl⟩

theorem Sio.count_clearLatches (hi : i / 2 < x.pairs.length) (h : (b || n || c) = true) :
    ((x.clearLatches i b n c).pair (i / 2)).count = 0 := by
  rw [Sio.pair, Sio.clearLatches]
  simp only [h, if_true]
  exact congrArg PairSt.count (getD_modNth_same hi _ _)

end

/-- The kinds of the latches that clear, in the order of their records (Table 10.9). -/
def clearedKinds (b n c : Bool) : List (Nat × Bool) := [(2, b), (3, n), (4, c)].filter Prod.snd

theorem exec_inputLatchClear_next {dt : Nat} {i : Fin 32} {s : State} {b n c : Bool}
    (hb : s.blk.sio.mayClear (s.elapse dt).nt i.val (s.blk.sio.input i.val).brk = b)
    (hn : s.blk.sio.mayClear (s.elapse dt).nt i.val (s.blk.sio.input i.val).inter = n)
    (hc : s.blk.sio.mayClear (s.elapse dt).nt i.val (s.blk.sio.input i.val).cross = c) :
    ∃ t, exec (.inputLatchClear dt i) s = ok t ∧ SioOnly (s.elapse dt) t ∧
      t.blk.sio = s.blk.sio.clearLatches i.val b n c ∧
      ∀ v, s.inService v = true → (s.v v).recs.length + (clearedKinds b n c).length ≤ 64 →
        (t.v v).recs = (s.v v).recs ++ (clearedKinds b n c).map (fun k =>
          ⟨.ioClear, 0x10, ioBody (i.val / 16) k.1 i.val 0 (s.elapse dt).time⟩) := by
  refine ⟨_, ?_, State.ioClears_modSio (s.elapse dt) (fun _ => i.val / 16) Prod.fst (fun _ => i.val)
    (clearedKinds b n c) (fun x => x.clearLatches i.val b n c)⟩
  change execInputLatchClear dt i s = _
  simp only [execInputLatchClear, State.elapse_blk, hb, hn, hc]
  cases b <;> cases n <;> cases c <;> rfl

theorem clearedKinds_length (b n c : Bool) : (clearedKinds b n c).length ≤ 3 := List.length_filter_le _ _

/-! ### O38 -/

/-- The classes, the dates of their changes, and the ticks. -/
theorem inputsAreEvaluated : InputsAreEvaluated := by
  intro dt s ⟨hinputs, hpairs, _⟩ u x
  refine ⟨fun i a b c d e hb hc hd he hheld hnew => ?_, fun i before cur hrun => ?_, fun hfail hdue => ?_,
    fun hidle => exec_ioTick_idle hidle⟩
  · have hi : i.val < x.inputs.length := Nat.lt_of_lt_of_eq i.isLt hinputs.symm
    exact ⟨_, exec_classChange_new (classRun_five hb hc hd he) hheld hnew, SioOnly.modSio (SioOnly.refl u) _, rfl,
      (u.input_newClass i.val (classOf a) x i.val).trans (Sio.input_setClass_same hi _ _),
      fun j hj => (u.input_newClass i.val (classOf a) x j).trans (Sio.input_setClass_other hj _ _),
      State.edges_newClass_uncaptured (s := u) (x := x), State.edges_newClass_captured (s := u) (x := x)⟩
  · change execClassChange dt i before cur s = _
    simp only [execClassChange, hrun]
    rfl
  · obtain ⟨t, hexec, honly, hsio, hrecs⟩ := exec_ioTick_due hfail hdue
    refine ⟨t, hexec, honly, ?_⟩
    rw [hsio]
    refine ⟨x.snap_tick u.nt, rfl, hrecs, fun p hp hfunc hdisc => ?_, fun p hp hfunc hdisc => ?_⟩
    all_goals obtain ⟨hcount, hlatch, hout⟩ := Sio.pair_tick hpairs hp hfunc u.nt
    · rw [Sio.countedPair_running hdisc] at hcount hlatch hout
      refine ⟨hlatch.trans hdisc, hcount, fun hhand => (hout hhand).trans ?_⟩
      rw [hdisc, Bool.false_or, Bool.not_or, Bool.and_assoc]
    · rw [hcount, hlatch]
      exact Sio.countedPair_latched hdisc u.nt

/-- The latches of pairs and inputs, their clearing, and the synchronism of a two-hand function. -/
theorem inputLatchesFollowTheirRules : InputLatchesFollowTheirRules := by
  intro dt s ⟨hinputs, hpairs, _⟩ u x
  have hinput (i : Fin 32) : i.val < x.inputs.length := Nat.lt_of_lt_of_eq i.isLt hinputs.symm
  have hpair (p : Fin 16) : p.val < x.pairs.length := Nat.lt_of_lt_of_eq p.isLt hpairs.symm
  refine ⟨fun p htick hfail hfunc hcount hnew hlow => ?_, fun i cur htick hfail hfunc hbad hlow => ?_,
    fun i => ?_, fun p b n htick hfail hone hbase hn => ?_⟩
  · exact ⟨_, exec_discrepancyLatch_due htick hfail hfunc hcount hnew hlow, SioOnly.ioFault u _ _ _ _ _,
      Sio.disc_latchDisc (hpair p), State.ioFault_recorded s dt _ _ _ _ _, Sio.latchDisc_alone (hpair p),
      Sio.latchDisc_hand (hpair p)⟩
  · have hlatch := exec_inputFaultLatch_due (cur := cur) htick hfail hfunc hbad hlow
    refine ⟨fun hcls hcontact hnew => ?_, fun hcls hnew => ?_⟩
    · exact ⟨_, hlatch.trans (if_pos ⟨hcls, hcontact, hnew⟩), SioOnly.ioFault u _ _ _ _ _,
        Sio.input_latchInput (hinput i) _, State.ioFault_recorded s dt _ _ _ _ _⟩
    · have hother : ¬ (x.input i.val).cls = cBreak := by rw [hcls]; decide
      exact ⟨_, hlatch.trans ((if_neg fun h => hother h.1).trans (if_pos ⟨hcls, hnew⟩)), SioOnly.ioFault u _ _ _ _ _,
        Sio.input_latchInput (hinput i) _, State.ioFault_recorded s dt _ _ _ _ _⟩
  · intro y b n c hb hn hc
    have hclears {l : InLatch} {q : Bool} (h : q = true ↔ LatchClears x u.nt i.val l) : x.mayClear u.nt i.val l = q :=
      Bool.eq_iff_iff.mpr ((latchClears_iff x u.nt i.val l).symm.trans h.symm)
    have hhalf : i.val / 2 < x.pairs.length := Nat.lt_of_lt_of_eq (show i.val / 2 < 16 by omega) hpairs.symm
    obtain ⟨t, hexec, honly, hsio, hrecs⟩ := exec_inputLatchClear_next (hclears hb) (hclears hn) (hclears hc)
    obtain ⟨hbrk, hinter, hcross⟩ := Sio.input_clearLatches (hinput i) b n c
    refine ⟨t, hexec, honly, ?_⟩
    rw [hsio]
    refine ⟨hbrk, hinter, hcross, Sio.count_clearLatches hhalf, fun v hin hroom => hrecs v hin ?_⟩
    have := clearedKinds_length b n c
    omega
  · exact ⟨_, exec_twohandTimeout_due htick hfail hone hbase hn, SioOnly.modSio (SioOnly.refl u) _, rfl,
      getD_modNth_same (hpair p) _ _⟩

/-- Settles O38: the inputs and their latches. -/
theorem inputsAndLatches : Obligations.InputsAndLatches := ⟨inputsAreEvaluated, inputLatchesFollowTheirRules⟩

end Sys2Proof.Machine

/-! PROOFS. The test-pulse outputs: the start of a pulse, its check, an overload and its end (R310, R311, R335, R337). -/

namespace Sys2Proof.Machine

/-! ### The start of a pulse (R310) -/

section
variable {dt : Nat} {k : Fin 4} {q : TpSt} {s : State}

/-- A due pulse that meets no slice of an input that it feeds starts. -/
theorem exec_tpPulseStart_due (hq : s.blk.sio.tps[k.val]? = some q) (hon : q.off = false)
    (hnew : q.pulseAt ≠ some (s.elapse dt).nt) (hdue : (s.elapse dt).pulseDue k.val = true)
    (hidle : ∀ r ∈ s.blk.bst.running, r.n < 32 → s.blk.sio.feed r.n ≠ k.val) :
    exec (.tpPulseStart dt k) s = ok ((s.elapse dt).modSio (fun x => x.startPulse k.val (s.elapse dt).nt)) := by
  have hsame : (s.elapse dt).serviceRequest (fun n => decide (n < 32) && s.blk.sio.feed n == k.val) = s.elapse dt :=
    State.serviceRequest_none fun r hr => by simpa using hidle r hr
  change execTpPulseStart dt k s = _
  simp only [execTpPulseStart, State.elapse_blk, hq, hon, beq_eq_false_iff_ne.mpr hnew, hdue, hsame, Bool.not_true,
    Bool.or_self, Bool.false_eq_true, if_false]

theorem exec_tpPulseStart_early (hq : s.blk.sio.tps[k.val]? = some q) (hearly : (s.elapse dt).pulseDue k.val = false) :
    exec (.tpPulseStart dt k) s = ok (s.elapse dt) := by
  change execTpPulseStart dt k s = _
  simp only [execTpPulseStart, State.elapse_blk, hq, hearly, Bool.not_false, Bool.or_true, if_true]

end

section
variable {x : Sio} {k : Nat} {q : TpSt}

theorem Sio.tps_startPulse (hq : x.tps[k]? = some q) (nt : Nat) :
    (x.startPulse k nt).tps[k]? = some { q with pulseAt := some nt, checked := false } := by
  simp only [Sio.startPulse, getElem?_modNth, hq, Option.map_some]

/-- A check that the pulse before did not make leaves no failure. -/
theorem Sio.inputs_startPulse (hq : x.tps[k]? = some q) (nt : Nat) :
    (x.startPulse k nt).inputs =
      if q.checked then x.inputs else x.inputs.map (fun y => { y with xfail := setNth y.xfail k false }) := by
  simp only [Sio.startPulse, hq]

end

/-! ### The check of one input (R311) -/

/-- The check of input `i` at a pulse of TP `k` latches CROSS_SHORT: it fails for the second time, and `low` does not hold it
back. -/
def Sio.crossLatches (x : Sio) (low : Bool) (k i cur : Nat) : Bool :=
  !x.pulsePass i k cur && (x.input i).xfail.getD k false && !(x.input i).cross.set && !low

/-- What the check of input `i` at a pulse of TP `k` makes of it. -/
def Sio.checkInput (x : Sio) (low : Bool) (k i cur : Nat) (y : InputSt) : InputSt :=
  if x.pulseApplies i then
    let z := y.checked k (x.feed i == k) (x.pulsePass i k cur)
    if x.crossLatches low k i cur then { z with cross := .fresh } else z
  else { y with xfail := setNth y.xfail k false }

section
variable {x : Sio} {k i cur : Nat}

theorem Sio.checkInput_exempt (h : x.pulseApplies i = false) (low : Bool) :
    x.checkInput low k i cur = fun y => { y with xfail := setNth y.xfail k false } :=
  funext fun _ => if_neg (ne_true_of_eq_false h)

theorem Sio.checkInput_unlatched (h : x.pulseApplies i = true) {low : Bool} (hlatch : x.crossLatches low k i cur = false) :
    x.checkInput low k i cur = fun y => y.checked k (x.feed i == k) (x.pulsePass i k cur) := by
  funext y
  simp only [Sio.checkInput, h, hlatch, Bool.false_eq_true, if_true, if_false]

theorem Sio.checkInput_latched (h : x.pulseApplies i = true) {low : Bool} (hlatch : x.crossLatches low k i cur = true) :
    x.checkInput low k i cur = fun y =>
      { y.checked k (x.feed i == k) (x.pulsePass i k cur) with cross := .fresh } := by
  funext y
  simp only [Sio.checkInput, h, hlatch, if_true]

theorem Sio.xfail_checkInput (h : x.pulseApplies i = true) (low : Bool) (y : InputSt) :
    (x.checkInput low k i cur y).xfail = setNth y.xfail k (!x.pulsePass i k cur) := by
  rw [Sio.checkInput, if_pos h]
  dsimp only
  split <;> rfl

/-- The second failure at one TP latches CROSS_SHORT. -/
theorem Sio.cross_checkInput (h : x.pulseApplies i = true) (hfails : x.pulsePass i k cur = false)
    (hbefore : (x.input i).xfail.getD k false = true) (hnew : (x.input i).cross.set = false) (y : InputSt) :
    (x.checkInput false k i cur y).cross = .fresh := by
  have hlatch : x.crossLatches false k i cur = true := by
    rw [Sio.crossLatches, hfails, hbefore, hnew]
    rfl
  rw [Sio.checkInput_latched h hlatch]

/-- The output that a latch withdraws leaves the chip but for its pairs. -/
theorem Sio.forceBlock_eq (x : Sio) (p : Nat) : ∃ ps, x.forceBlock p = x.withPairs ps := by
  unfold Sio.forceBlock
  split <;> exact ⟨_, rfl⟩

/-- A latch of input `i` leaves the chip but for that input, the pairs and the FAULT bits. -/
theorem Sio.latchInput_eq (x : Sio) (i : Nat) (f : InputSt → InputSt) :
    ∃ ps st, x.latchInput i f = { x with inputs := modNth x.inputs i f, pairs := ps, sticky := st } := by
  obtain ⟨ps, hps⟩ := Sio.forceBlock_eq { x with inputs := modNth x.inputs i f } (i / 2)
  exact ⟨ps, _, by rw [Sio.latchInput, hps]; rfl⟩

end

section
variable {s u : State}

theorem SioOnly.pulseInput (h : SioOnly u s) (k i cur : Nat) : SioOnly u (s.pulseInput k i cur) := by
  unfold State.pulseInput
  dsimp only
  split
  · exact SioOnly.modSio h _
  · refine SioOnly.modSio ?_ _
    split
    · exact SioOnly.recBody h _ _
    · exact h

/-- The check of an input changes that input, pairs and FAULT bits alone of the chip. -/
theorem State.sio_pulseInput (s : State) (k i cur : Nat) :
    ∃ ps st, (s.pulseInput k i cur).blk.sio =
      { s.blk.sio with
        inputs := modNth s.blk.sio.inputs i (s.blk.sio.checkInput s.supplyLow k i cur), pairs := ps, sticky := st } := by
  cases happlies : s.blk.sio.pulseApplies i with
  | false =>
    refine ⟨s.blk.sio.pairs, s.blk.sio.sticky, ?_⟩
    rw [Sio.checkInput_exempt happlies]
    simp only [State.pulseInput, happlies, Bool.not_false, if_true]
    rfl
  | true =>
    cases hlatch : s.blk.sio.crossLatches s.supplyLow k i cur with
    | false =>
      refine ⟨s.blk.sio.pairs, s.blk.sio.sticky, ?_⟩
      rw [Sio.checkInput_unlatched happlies hlatch]
      rw [Sio.crossLatches] at hlatch
      simp only [State.pulseInput, happlies, hlatch, Bool.not_true, Bool.false_eq_true, if_false]
      rfl
    | true =>
      obtain ⟨ps, st, heq⟩ := s.blk.sio.latchInput_eq i (s.blk.sio.checkInput s.supplyLow k i cur)
      refine ⟨ps, st, Eq.trans ?_ heq⟩
      rw [Sio.checkInput_latched happlies hlatch]
      rw [Sio.crossLatches] at hlatch
      simp only [State.pulseInput, happlies, hlatch, Bool.not_true, Bool.false_eq_true, if_false, if_true]
      rfl

@[simp] theorem State.tps_pulseInput (s : State) (k i cur : Nat) :
    (s.pulseInput k i cur).blk.sio.tps = s.blk.sio.tps := by
  obtain ⟨ps, st, h⟩ := s.sio_pulseInput k i cur
  rw [h]

@[simp] theorem State.length_pulseInput (s : State) (k i cur : Nat) :
    (s.pulseInput k i cur).blk.sio.inputs.length = s.blk.sio.inputs.length := by
  obtain ⟨ps, st, h⟩ := s.sio_pulseInput k i cur
  rw [h]
  exact length_modNth _ _ _

theorem State.input_pulseInput_same {i : Nat} (hi : i < s.blk.sio.inputs.length) (k cur : Nat) :
    (s.pulseInput k i cur).blk.sio.input i = s.blk.sio.checkInput s.supplyLow k i cur (s.blk.sio.input i) := by
  obtain ⟨ps, st, h⟩ := s.sio_pulseInput k i cur
  rw [h]
  exact getD_modNth_same hi _ _

theorem State.input_pulseInput_other {i j : Nat} (hj : j ≠ i) (k cur : Nat) :
    (s.pulseInput k i cur).blk.sio.input j = s.blk.sio.input j := by
  obtain ⟨ps, st, h⟩ := s.sio_pulseInput k i cur
  rw [h]
  exact getD_modNth_other _ hj _ _

@[simp] theorem State.supplyLow_pulseInput (s : State) (k i cur : Nat) :
    (s.pulseInput k i cur).supplyLow = s.supplyLow := by
  obtain ⟨ps, st, h⟩ := s.sio_pulseInput k i cur
  have hnt : (s.pulseInput k i cur).nt = s.nt := by
    obtain ⟨heq, -⟩ := SioOnly.pulseInput (SioOnly.refl s) k i cur
    rw [heq]
  simp only [State.supplyLow, hnt, h]

/-- What the check makes of an input depends on no other input. -/
theorem State.checkInput_pulseInput_other {i j : Nat} (hj : j ≠ i) (low : Bool) (k c cur : Nat) :
    (s.pulseInput k i c).blk.sio.checkInput low k j cur = s.blk.sio.checkInput low k j cur := by
  have hinput := State.input_pulseInput_other (s := s) hj k c
  obtain ⟨ps, st, h⟩ := s.sio_pulseInput k i c
  funext y
  simp only [Sio.checkInput, Sio.crossLatches, Sio.pulseApplies, hinput]
  rw [h]
  rfl

end

/-! ### The check of a pulse (R311) -/

/-- The inputs of a list are checked in their order; `currents` is the samples of all inputs. -/
def State.pulseInputs (s : State) (k : Nat) (currents : List Nat) (l : List Nat) : State :=
  l.foldl (fun u i => u.pulseInput k i (currents.getD i 0)) s

section
variable {s u : State} (k : Nat) (currents l : List Nat)

theorem SioOnly.pulseInputs (h : SioOnly u s) : SioOnly u (s.pulseInputs k currents l) := by
  induction l generalizing s with
  | nil => exact h
  | cons i l ih => exact ih (SioOnly.pulseInput h k i _)

theorem State.tps_pulseInputs : (s.pulseInputs k currents l).blk.sio.tps = s.blk.sio.tps := by
  induction l generalizing s with
  | nil => rfl
  | cons i l ih => exact ih.trans (s.tps_pulseInput k i _)

theorem State.input_pulseInputs_other {i : Nat} (hi : i ∉ l) :
    (s.pulseInputs k currents l).blk.sio.input i = s.blk.sio.input i := by
  induction l generalizing s with
  | nil => rfl
  | cons j l ih =>
    obtain ⟨hij, hrest⟩ := not_or.mp (mt List.mem_cons.mpr hi)
    exact (ih hrest).trans (State.input_pulseInput_other hij k _)

/-- Each input of the list is checked once, as it was before the first check. -/
theorem State.input_pulseInputs {i : Nat} (hi : i < s.blk.sio.inputs.length) (hl : l.Nodup) (hmem : i ∈ l) :
    (s.pulseInputs k currents l).blk.sio.input i =
      s.blk.sio.checkInput s.supplyLow k i (currents.getD i 0) (s.blk.sio.input i) := by
  induction l generalizing s with
  | nil => exact absurd hmem List.not_mem_nil
  | cons j l ih =>
    obtain ⟨hj, hl⟩ := List.nodup_cons.mp hl
    by_cases hij : i = j
    · subst hij
      exact (State.input_pulseInputs_other k currents l hj).trans (State.input_pulseInput_same hi k _)
    · have hmem : i ∈ l := (List.mem_cons.mp hmem).resolve_left hij
      refine (ih (s := s.pulseInput k j (currents.getD j 0)) (by rwa [State.length_pulseInput]) hl hmem).trans ?_
      rw [State.supplyLow_pulseInput, State.checkInput_pulseInput_other hij, State.input_pulseInput_other hij]

end

section
variable {dt : Nat} {k : Fin 4} {q : TpSt} {s : State} (hq : s.blk.sio.tps[k.val]? = some q)
include hq

/-- The sample 150 µs into a pulse checks the 32 inputs. -/
theorem exec_tpPulseCheck_due (hinputs : s.blk.sio.inputs.length = 32) {a : Nat} (hat : q.pulseAt = some a)
    (hnew : q.checked = false) (hfrom : 18750 ≤ (s.elapse dt).nt - a) (hto : (s.elapse dt).nt - a < 18875)
    (hfail : s.blk.sio.fail = false) (currents : List Nat) :
    ∃ t, exec (.tpPulseCheck dt k currents) s =
        ok (t.modSio (fun x => { x with tps := modNth x.tps k.val (fun t => { t with checked := true }) })) ∧
      SioOnly (s.elapse dt) t ∧ t.blk.sio.tps = s.blk.sio.tps ∧
      ∀ i, i < 32 → t.blk.sio.input i =
        s.blk.sio.checkInput (s.elapse dt).supplyLow k.val i (currents.getD i 0) (s.blk.sio.input i) := by
  refine ⟨(s.elapse dt).pulseInputs k.val currents (List.range 32), ?_,
    SioOnly.pulseInputs _ _ _ (SioOnly.refl _), State.tps_pulseInputs _ _ _, fun i hi => ?_⟩
  · have hfrom' : decide ((s.elapse dt).nt - a < usClocks 150) = false := decide_eq_false (Nat.not_lt.mpr hfrom)
    have hto' : decide (usClocks 151 ≤ (s.elapse dt).nt - a) = false := decide_eq_false (Nat.not_le.mpr hto)
    change execTpPulseCheck dt k currents s = _
    simp only [execTpPulseCheck, State.elapse_blk, hq, hat, hnew, hfrom', hto', hfail, Bool.or_self, Bool.false_eq_true,
      if_false]
    rfl
  · exact State.input_pulseInputs (s := s.elapse dt) _ _ _ (Nat.lt_of_lt_of_eq hi hinputs.symm) List.nodup_range
      (List.mem_range.mpr hi)

/-! ### Overload (R335) -/

/-- More than 150 mA for 1 ms switch the output off, with a record of a new latch. -/
theorem exec_tpOverload_due {cur us : Nat} (hon : q.off = false) (hcur : 15000 < cur) (hus : 1000 ≤ us) :
    exec (.tpOverload dt k cur us) s =
      ok ((if q.overload then s.elapse dt else (s.elapse dt).ioFault (k.val / 2) 0x05 k.val cur).modSio (fun x =>
        ({ x with
          tps := modNth x.tps k.val (fun t =>
            { t with off := true, overload := true, restoreAt := none, pulseAt := none }) } : Sio).stick)) := by
  change execTpOverload dt k cur us s = _
  simp only [execTpOverload, State.elapse_blk, hq, hon, decide_eq_false (Nat.not_le.mpr hcur),
    decide_eq_false (Nat.not_lt.mpr hus), Bool.or_self, Bool.false_eq_true, if_false]

/-- 1 ms after the output is on again, at most 150 mA for 1 ms clear the latch with a record. -/
theorem exec_tpRestoreEnd_due {cur us : Nat} (hrestored : q.restored (s.elapse dt).nt = true) (hon : q.off = false)
    (hcur : cur ≤ 15000) (hus : 1000 ≤ us) :
    exec (.tpRestoreEnd dt k cur us) s =
      ok (((s.elapse dt).ioClear (k.val / 2) 0x05 k.val cur).modSio (fun x =>
        { x with tps := modNth x.tps k.val (fun t => { t with overload := false, restoreAt := none }) })) := by
  change execTpRestoreEnd dt k cur us s = _
  simp only [execTpRestoreEnd, State.elapse_blk, hq, hon, hrestored, decide_eq_false (Nat.not_lt.mpr hcur),
    decide_eq_false (Nat.not_lt.mpr hus), Bool.not_true, Bool.or_self, Bool.false_eq_true, if_false]

end

/-! ### The first half of O39 -/

/-- The pulses, their checks, the overload of an output and its end. -/
theorem testPulsesAreChecked : TestPulsesAreChecked := by
  intro dt k q s ⟨hinputs, _⟩ hq u x
  have htp {y : Sio} (f : TpSt → TpSt) (hy : y.tps = modNth x.tps k.val f) : y.tps[k.val]? = some (f q) := by
    rw [hy, getElem?_modNth, hq, Option.map_some]
  refine ⟨fun hon hnew hdue hidle => ?start, exec_tpPulseStart_early hq,
    fun a currents hat hnew hfrom hto hfail => ?check, fun cur us hon hcur hus => ?overload,
    fun cur us hrestored hon hcur hus => ?restore⟩
  case start =>
    exact ⟨_, exec_tpPulseStart_due hq hon hnew hdue hidle, SioOnly.modSio (SioOnly.refl u) _, rfl,
      Sio.tps_startPulse hq u.nt, Sio.inputs_startPulse hq u.nt⟩
  case check =>
    let f : TpSt → TpSt := fun t => { t with checked := true }
    obtain ⟨t, hexec, honly, htps, hinput⟩ := exec_tpPulseCheck_due hq hinputs hat hnew hfrom hto hfail currents
    refine ⟨_, hexec, SioOnly.modSio honly _, htp f (congrArg (modNth · k.val f) htps), fun i hi => ?_⟩
    refine ⟨fun hexempt => (hinput i hi).trans (congrFun (Sio.checkInput_exempt hexempt _) _), fun happlies => ?_⟩
    refine ⟨(congrArg InputSt.xfail (hinput i hi)).trans (Sio.xfail_checkInput happlies _ _),
      fun hfails hbefore hfresh hlow => (congrArg InputSt.cross (hinput i hi)).trans ?_⟩
    rw [hlow]
    exact Sio.cross_checkInput happlies hfails hbefore hfresh _
  case overload =>
    refine ⟨_, exec_tpOverload_due hq hon hcur hus, ?_⟩
    let f : TpSt → TpSt := fun t => { t with off := true, overload := true, restoreAt := none, pulseAt := none }
    cases hlatched : q.overload with
    | false => exact ⟨SioOnly.ioFault u _ _ _ _ _, htp f rfl, fun _ => State.ioFault_recorded s dt _ _ _ _ _⟩
    | true => exact ⟨SioOnly.modSio (SioOnly.refl u) _, htp f rfl, nofun⟩
  case restore =>
    exact ⟨_, exec_tpRestoreEnd_due hq hrestored hon hcur hus,
      SioOnly.modSio (SioOnly.recBody (SioOnly.refl u) _ _) _,
      htp (fun t => { t with overload := false, restoreAt := none }) rfl,
      fun _ hin hroom => State.recs_recBody (s := u) hin hroom _ _⟩

end Sys2Proof.Machine

/-! PROOFS. What a latched fault of an output leaves (R325, R337), the tests of the outputs (R326, R327), the reset of their
latches (R335), and O39. -/

namespace Sys2Proof.Machine

/-! ### A latched fault of an output (R325) -/

@[simp] theorem QsFaults.any_latch (f : QsFaults) (k : QsKind) : (f.latch k).any = true := by
  cases k <;> simp [QsFaults.latch, QsFaults.any]

/-- The chip with fault `k` of QS output `n` latched: its switches are open. -/
def Sio.latchOut (x : Sio) (n : Nat) (k : QsKind) : Sio :=
  (({ x with qs := modNth x.qs n (fun q => { q with faults := q.faults.latch k }) } : Sio).stick).drive

section
variable {x : Sio} {n : Nat}

/-- An output with a latched fault keeps its switches open. -/
theorem Sio.qsDrive_faulty {q : QsSt} (h : q.faults.any = true) : x.qsDrive q = false := by
  simp [Sio.qsDrive, h]

theorem Sio.out_drive (hn : n < x.qs.length) : x.drive.out n = { x.out n with on := x.qsDrive (x.out n) } := by
  simp [Sio.drive, Sio.out, List.getD_eq_getElem?_getD, hn]

theorem Sio.out_modNth (hn : n < x.qs.length) (f : QsSt → QsSt) :
    ({ x with qs := modNth x.qs n f } : Sio).out n = f (x.out n) :=
  getD_modNth_same hn _ _

theorem Sio.length_latchOut (x : Sio) (n : Nat) (k : QsKind) : (x.latchOut n k).qs.length = x.qs.length :=
  List.length_map .. |>.trans (length_modNth _ _ _)

theorem Sio.out_latchOut (hn : n < x.qs.length) (k : QsKind) :
    (x.latchOut n k).out n = { x.out n with faults := (x.out n).faults.latch k, on := false } := by
  let y : Sio := { x with qs := modNth x.qs n (fun q => { q with faults := q.faults.latch k }) }
  have hout : y.stick.out n = { x.out n with faults := (x.out n).faults.latch k } := Sio.out_modNth hn _
  have hlen : n < y.stick.qs.length := Nat.lt_of_lt_of_eq hn (length_modNth x.qs n _).symm
  have hoff : y.stick.qsDrive (y.stick.out n) = false := Sio.qsDrive_faulty (by simp [hout])
  rw [show x.latchOut n k = y.stick.drive from rfl, Sio.out_drive hlen, hoff, hout]

end

section
variable {s u : State} (n : Nat) (k : QsKind) (val : Nat)

theorem SioOnly.qsFault (h : SioOnly u s) : SioOnly u (s.qsFault n k val) :=
  SioOnly.modSio (SioOnly.recBody h .ioFault (ioBody 2 k.code n val s.time)) (·.latchOut n k)

theorem State.recs_qsFault {v : Vtx} (hin : s.inService v = true) (hroom : (s.v v).recs.length < 64) :
    ((s.qsFault n k val).v v).recs = (s.v v).recs ++ [⟨.ioFault, 0x10, ioBody 2 k.code n val s.time⟩] :=
  State.recs_recBody hin hroom _ _

end

/-! ### The tests of the outputs (R326, R327) -/

section
variable {dt : Nat} {s : State}

/-- A test slot that meets no slice of its output starts the test of its switch, where one may run. -/
theorem exec_outputTestSlot_starts {k : Fin 32} (hgrid : (s.elapse dt).onGrid 31250000 0 = true)
    (hslot : (s.elapse dt).testSlot % 32 = k.val) (hnew : s.blk.sio.lastSlot ≠ some (s.elapse dt).testSlot)
    (hidle : ∀ r ∈ s.blk.bst.running, r.n ≠ 32 + k.val / 2) :
    exec (.outputTestSlot dt k) s = ok ((s.elapse dt).modSio (fun x =>
      { x with
        lastSlot := some (s.elapse dt).testSlot,
        tests := if x.mayTest (k.val / 2) then some ⟨k.val / 2, k.val % 2 == 1, (x.out (k.val / 2)).on, (s.elapse dt).nt⟩
          else x.tests })) := by
  have hsame : (s.elapse dt).serviceRequest (fun m => m == 32 + k.val / 2) = s.elapse dt :=
    State.serviceRequest_none fun r hr => beq_eq_false_iff_ne.mpr (hidle r hr)
  refine (if_pos ⟨hgrid, hslot, hnew⟩).trans ?_
  rw [hsame]

theorem exec_outputTestReading_expected {q : OutTest} {supply plus minus : Nat} (hq : s.blk.sio.tests = some q)
    (hread : q.expected (levelOf supply plus) (levelOf supply minus) = true) (hfrom : 2500 ≤ (s.elapse dt).nt - q.at_)
    (hto : (s.elapse dt).nt - q.at_ ≤ 37500) :
    exec (.outputTestReading dt supply plus minus) s = ok ((s.elapse dt).modSio (fun x => { x with tests := none })) := by
  have hfrom' : usClocks 20 ≤ (s.elapse dt).nt - q.at_ := hfrom
  have hto' : (s.elapse dt).nt - q.at_ ≤ usClocks 300 := hto
  change execOutputTestReading dt supply plus minus s = _
  simp only [execOutputTestReading, State.elapse_blk, hq, hread, hfrom', hto', decide_true, Bool.and_self, if_true]

/-- A test without its reading after 300 µs ends with its fault. -/
theorem exec_outputTestTimeout_latches {q : OutTest} (hq : s.blk.sio.tests = some q)
    (hlate : 37500 ≤ (s.elapse dt).nt - q.at_) (hnew : (s.blk.sio.out q.n).faults.has q.fault = false) (volt : Nat) :
    exec (.outputTestTimeout dt volt) s =
      ok (((s.elapse dt).modSio (fun x => { x with tests := none })).qsFault q.n q.fault volt) := by
  have hlate' : ¬ (s.elapse dt).nt - q.at_ < usClocks 300 := Nat.not_lt.mpr hlate
  have hlatch : ((s.elapse dt).modSio (fun x => { x with tests := none })).qsLatch q.n q.fault volt =
      ((s.elapse dt).modSio (fun x => { x with tests := none })).qsFault q.n q.fault volt :=
    if_neg (ne_true_of_eq_false hnew)
  change execOutputTestTimeout dt volt s = _
  simp only [execOutputTestTimeout, State.elapse_blk, hq, hlate', if_false, hlatch]

/-- The first test of the waiting ones runs again when its repeat is due and no test runs. -/
theorem exec_outputTestRepeat_due {r : Repeat} {rest : List Repeat} (hr : s.blk.sio.repeats = r :: rest)
    (hdue : (s.elapse dt).repeatDue r = true) (hidle : s.blk.sio.tests = none) :
    exec (.outputTestRepeat dt) s = ok ((s.elapse dt).modSio (fun x =>
      { x with
        repeats := rest,
        tests := if x.mayTest r.n then some ⟨r.n, r.low, (x.out r.n).on, (s.elapse dt).nt⟩ else x.tests })) := by
  change execOutputTestRepeat dt s = _
  simp only [execOutputTestRepeat, State.elapse_blk, hr, hdue, hidle, and_self, if_true]

end

/-! ### The reset of the latches of an output (R335) -/

/-- The reset test of QS output `n` is over. -/
def Sio.endReset (x : Sio) (n : Nat) : Sio := { x with qs := modNth x.qs n (fun q => { q with resetAt := none }) }

/-- No fault of QS output `n` is latched, and the outputs take their states. -/
def Sio.clearOut (x : Sio) (n : Nat) : Sio :=
  ({ x with qs := modNth x.qs n (fun q => { q with faults := .none }) } : Sio).drive

section
variable {x : Sio} {n : Nat}

theorem Sio.out_endReset (hn : n < x.qs.length) : (x.endReset n).out n = { x.out n with resetAt := none } :=
  Sio.out_modNth hn _

theorem Sio.length_endReset (x : Sio) (n : Nat) : (x.endReset n).qs.length = x.qs.length := length_modNth _ _ _

theorem Sio.out_clearOut (hn : n < x.qs.length) :
    ((x.clearOut n).out n).faults = .none ∧ ((x.clearOut n).out n).resetAt = (x.out n).resetAt := by
  have hlen : n < (modNth x.qs n (fun q => { q with faults := .none })).length :=
    Nat.lt_of_lt_of_eq hn (length_modNth _ _ _).symm
  rw [Sio.clearOut, Sio.out_drive hlen, Sio.out_modNth hn]
  exact ⟨rfl, rfl⟩

end

section
variable {dt : Nat} {n : Fin 16} {hs ls : TermReading} {s : State}

/-- Two good switches clear every latch of the output, each with a record. -/
theorem exec_latchResetTestEnd_good (hruns : (s.blk.sio.out n.val).resetRuns (s.elapse dt).nt = true)
    (hhigh : levelOf hs.supply hs.volt = .high) (hlow : levelOf ls.supply ls.volt = .low) :
    ∃ t, exec (.latchResetTestEnd dt n hs ls) s = ok t ∧ SioOnly (s.elapse dt) t ∧
      t.blk.sio = (s.blk.sio.endReset n.val).clearOut n.val ∧
      ∀ v, s.inService v = true →
        (s.v v).recs.length + (QsKind.all.filter (s.blk.sio.out n.val).faults.has).length ≤ 64 →
        (t.v v).recs = (s.v v).recs ++ (QsKind.all.filter (s.blk.sio.out n.val).faults.has).map (fun k =>
          ⟨.ioClear, 0x10, ioBody 2 k.code n.val 0 (s.elapse dt).time⟩) := by
  let l := QsKind.all.filter (s.blk.sio.out n.val).faults.has
  let done := (s.elapse dt).modSio (·.endReset n.val)
  obtain ⟨-, hsio, hrecs⟩ :=
    State.ioClears_modSio done (fun _ => 2) QsKind.code (fun _ => n.val) l (·.clearOut n.val)
  refine ⟨(done.ioClears (fun _ => 2) QsKind.code (fun _ => n.val) l).modSio (·.clearOut n.val), ?_,
    SioOnly.modSio (SioOnly.ioClears _ _ _ l (SioOnly.modSio (SioOnly.refl _) _)) _, hsio, hrecs⟩
  change execLatchResetTestEnd dt n hs ls s = _
  simp only [execLatchResetTestEnd, State.elapse_blk, hruns, hhigh, hlow, beq_self_eq_true, Bool.not_true,
    Bool.false_eq_true, if_false, Bool.and_self, if_true]
  rfl

/-- Each bad switch latches its fault, and no latch clears. -/
theorem exec_latchResetTestEnd_bad (hruns : (s.blk.sio.out n.val).resetRuns (s.elapse dt).nt = true)
    (hbad : ¬ (levelOf hs.supply hs.volt = .high ∧ levelOf ls.supply ls.volt = .low)) :
    let done := (s.elapse dt).modSio (·.endReset n.val)
    let t := if levelOf hs.supply hs.volt = .high then done else done.qsFault n.val .hsOff hs.volt
    exec (.latchResetTestEnd dt n hs ls) s =
      ok (if levelOf ls.supply ls.volt = .low then t else t.qsFault n.val .lsOff ls.volt) := by
  intro done t
  change execLatchResetTestEnd dt n hs ls s = _
  simp only [execLatchResetTestEnd, State.elapse_blk, hruns, Bool.not_true, Bool.false_eq_true, if_false,
    Bool.and_eq_true, beq_iff_eq, hbad]
  rfl

end

section
variable {s : State} {n : Nat} (hn : n < s.blk.sio.qs.length)
include hn

/-- The output whose reset test has found a bad switch. -/
theorem State.out_endReset_qsFault (k : QsKind) (val : Nat) :
    ((s.modSio (·.endReset n)).qsFault n k val).blk.sio.out n =
      { s.blk.sio.out n with resetAt := none, faults := (s.blk.sio.out n).faults.latch k, on := false } :=
  (Sio.out_latchOut (Nat.lt_of_lt_of_eq hn (Sio.length_endReset _ _).symm) k).trans (by rw [Sio.out_endReset hn])

/-- A reset test that has found one bad switch latches its fault with a record. -/
theorem State.endReset_qsFault (k : QsKind) (val : Nat) :
    let t := (s.modSio (·.endReset n)).qsFault n k val
    SioOnly s t ∧ (t.blk.sio.out n).resetAt = none ∧ (t.blk.sio.out n).faults = (s.blk.sio.out n).faults.latch k ∧
      (t.blk.sio.out n).on = false ∧ IoRecorded s t .ioFault 2 k.code n val s.time := by
  intro t
  have hout := State.out_endReset_qsFault hn k val
  exact ⟨SioOnly.qsFault n k val (SioOnly.modSio (SioOnly.refl s) _), congrArg QsSt.resetAt hout,
    congrArg QsSt.faults hout, congrArg QsSt.on hout, fun _ hin hroom =>
    State.recs_qsFault (s := s.modSio (·.endReset n)) n k val hin hroom⟩

/-- Also with a second fault the reset test of the output is over. -/
theorem State.endReset_qsFault_twice (j k : QsKind) (val val' : Nat) :
    let t := ((s.modSio (·.endReset n)).qsFault n j val).qsFault n k val'
    SioOnly s t ∧ (t.blk.sio.out n).resetAt = none := by
  intro t
  obtain ⟨honly, hover, -⟩ := State.endReset_qsFault hn j val
  have hlen : n < ((s.blk.sio.endReset n).latchOut n j).qs.length := by
    rwa [Sio.length_latchOut, Sio.length_endReset]
  exact ⟨SioOnly.qsFault n k val' honly, (congrArg QsSt.resetAt (Sio.out_latchOut hlen k)).trans hover⟩

end

/-! ### O39 -/

/-- The test slots, the end of a test, its repeat, and the reset test. -/
theorem outputTestsRun : OutputTestsRun := by
  intro dt s ⟨_, _, _, hqs, _⟩ u x
  refine ⟨fun k hgrid hslot hnew hidle => exec_outputTestSlot_starts hgrid hslot hnew hidle,
    fun q supply p m hq hread hfrom hto => exec_outputTestReading_expected hq hread hfrom hto,
    fun q volt hq hlate hn hnew => ?timeout, fun r rest hr hdue hidle => ?again, fun n hs ls hruns => ?reset⟩
  case timeout =>
    have hout := Sio.out_latchOut (x := { x with tests := none }) (Nat.lt_of_lt_of_eq hn hqs.symm) q.fault
    exact ⟨_, exec_outputTestTimeout_latches hq hlate hnew volt,
      SioOnly.qsFault _ _ _ (SioOnly.modSio (SioOnly.refl u) _), rfl, congrArg QsSt.faults hout, congrArg QsSt.on hout,
      fun _ hin hroom => State.recs_qsFault (s := u.modSio (fun x => { x with tests := none })) _ _ _ hin hroom⟩
  case again =>
    rw [exec_outputTestRepeat_due hr hdue hidle, ← hidle]
    rfl
  case reset =>
    have hn : n.val < x.qs.length := Nat.lt_of_lt_of_eq n.isLt hqs.symm
    intro f
    by_cases hbad : levelOf hs.supply hs.volt = .high ∧ levelOf ls.supply ls.volt = .low
    · obtain ⟨hhigh, hlow⟩ := hbad
      obtain ⟨t, hexec, honly, hsio, hrecs⟩ := exec_latchResetTestEnd_good hruns hhigh hlow
      obtain ⟨hfaults, hreset⟩ := Sio.out_clearOut (Nat.lt_of_lt_of_eq hn (x.length_endReset n.val).symm)
      have hkinds : (QsKind.all.filter f.has).length ≤ 6 := List.length_filter_le _ _
      refine ⟨t, hexec, honly, ?_, fun _ _ => ⟨?_, fun v hin hroom =>
        hrecs v hin (Nat.le_trans (Nat.add_le_add_left hkinds _) hroom)⟩,
        fun h _ => absurd hhigh h, fun _ h => absurd hlow h⟩
      · rw [hsio, hreset, Sio.out_endReset hn]
      · rw [hsio, hfaults]
    · have hexec := exec_latchResetTestEnd_bad hruns hbad
      dsimp only at hexec
      by_cases hhigh : levelOf hs.supply hs.volt = .high
      · have hlow : levelOf ls.supply ls.volt ≠ .low := fun h => hbad ⟨hhigh, h⟩
        rw [if_pos hhigh, if_neg hlow] at hexec
        obtain ⟨honly, hover, hfound⟩ := State.endReset_qsFault (s := u) hn .lsOff ls.volt
        exact ⟨_, hexec, honly, hover, fun _ h => absurd h hlow, fun h => absurd hhigh h, fun _ _ => hfound⟩
      · rw [if_neg hhigh] at hexec
        by_cases hlow : levelOf ls.supply ls.volt = .low
        · rw [if_pos hlow] at hexec
          obtain ⟨honly, hover, hfound⟩ := State.endReset_qsFault (s := u) hn .hsOff hs.volt
          exact ⟨_, hexec, honly, hover, fun h => absurd h hhigh, fun _ _ => hfound, fun h => absurd h hhigh⟩
        · rw [if_neg hlow] at hexec
          obtain ⟨honly, hover⟩ := State.endReset_qsFault_twice (s := u) hn .hsOff .lsOff hs.volt ls.volt
          exact ⟨_, hexec, honly, hover, fun h => absurd h hhigh, fun _ h => absurd h hlow, fun h => absurd h hhigh⟩

/-- Settles O39: the test pulses and the output tests. -/
theorem outputsAreTested : Obligations.OutputsAreTested := ⟨testPulsesAreChecked, outputTestsRun⟩

end Sys2Proof.Machine

/-! PROOFS. Every command ends in a state that comes after the one it starts from; O56, O57, O58, and the steps of O1 and O2. -/

namespace Sys2Proof.Machine

/-! ### Every command -/

/-- Each arm cites what its command leaves: a command that burns, programs or counts only adds, every other one leaves the values
of Permanent.lean after its time has passed. -/
theorem exec_endsAfter (c : Instr) (s : State) : EndsAfter s (exec c s) :=
  match c with
  | .powerOn .. => .of_elapse (.of_permOf (execPowerOn_perm ..))
  | .sealStateChange .. => .of_elapse (.of_permOf (execSealStateChange_perm ..))
  | .sealDisagree .. => .of_elapse (.of_permOf (execSealDisagree_perm ..))
  | .mailboxPoll .. => .of_elapse (.of_permOf (execMailboxPoll_perm ..))
  | .timeWait .. => .of_elapse (.of_permOf (execTimeWait_perm ..))
  | .furlongBoundary .. => .of_elapse (.of_permOf (execFurlongBoundary_perm ..))
  | .rodBoundary .. => .of_elapse (.of_permOf (execRodBoundary_perm ..))
  | .isolatedCleanCount .. => .of_elapse (.of_permOf (execIsolatedCleanCount_perm ..))
  | .resyncWaitExpiry .. => .of_elapse (.of_permOf (execResyncWaitExpiry_perm ..))
  | .latticePass .. => .of_elapse (.of_permOf (execLatticePass_perm ..))
  | .latticeOverrun .. => .of_elapse (.of_permOf (execLatticeOverrun_perm ..))
  | .taskStart .. => .of_permOf (execTaskStart_perm ..)
  | .budgetTrap .. => .of_permOf (execBudgetTrap_perm ..)
  | .strideClose .. => .of_permOf (execStrideClose_perm ..)
  | .phase2Start .. => .of_elapse (.of_permOf (execPhase2Start_perm ..))
  | .centroidEntry .. => .of_elapse (.of_permOf (execCentroidEntry_perm ..))
  | .wEnd .. => .of_elapse (.of_permOf (execWEnd_perm ..))
  | .vrdLimit .. => .of_elapse (.of_permOf (execVrdLimit_perm ..))
  | .keyWord .. => .of_elapse (.of_permOf (execKeyWord_perm ..))
  | .bankCopyBack .. => .of_elapse (.of_permOf (execBankCopyBack_perm ..))
  | .phase2End .. => .of_elapse (.of_permOf (execPhase2End_perm ..))
  | .watchdogTrip .. => .of_elapse (.of_permOf (execWatchdogTrip_perm ..))
  | .slotFetch .. => .of_elapse (.of_permOf (execSlotFetch_perm ..))
  | .slotTransmit .. => .of_elapse (.of_permOf (execSlotTransmit_perm ..))
  | .statusTransmit .. => .of_elapse (.of_permOf (execStatusTransmit_perm ..))
  | .arbWindowStart .. => .of_elapse (.of_permOf (execArbWindowStart_perm ..))
  | .arbSend .. => .of_elapse (.of_permOf (execArbSend_perm ..))
  | .eventCopyExpiry .. => .of_elapse (.of_permOf (execEventCopyExpiry_perm ..))
  | .launchTimeReached .. => .of_elapse (.of_permOf (execLaunchTimeReached_perm ..))
  | .frameForward .. => .of_elapse (.of_permOf (execFrameForward_perm ..))
  | .frameCopyReceive .. => .of_elapse (.of_permOf (execFrameCopyReceive_perm ..))
  | .combineWindowExpiry .. => .of_elapse (.of_permOf (execCombineWindowExpiry_perm ..))
  | .occurrenceDue .. => .of_elapse (.of_permOf (execOccurrenceDue_perm ..))
  | .linkChange .. => .of_elapse (.of_permOf (execLinkChange_perm ..))
  | .guardianBoundaryPulse .. => .of_elapse (.of_permOf (execGuardianBoundaryPulse_perm ..))
  | .babble .. => .of_elapse (.of_permOf (execBabble_perm ..))
  | .coldstartLtExpiry .. => .of_elapse (.of_permOf (execColdstartLtExpiry_perm ..))
  | .coldstartEnd .. => .of_elapse (.of_permOf (execColdstartEnd_perm ..))
  | .syncReceive .. => .of_elapse (.of_permOf (execSyncReceive_perm ..))
  | .announceReceive dt n .. => .of_elapse (.of_permOf (execAnnounceReceive_perm dt n ..))
  | .delayReqReceive dt n .. => .of_elapse (.of_permOf (execDelayReqReceive_perm dt n ..))
  | .delayRespReceive dt n .. => .of_elapse (.of_permOf (execDelayRespReceive_perm dt n ..))
  | .delayReqSend .. => .of_elapse (.of_permOf (execDelayReqSend_perm ..))
  | .masterSyncSend .. => .of_elapse (.of_permOf (execMasterSyncSend_perm ..))
  | .masterAnnounceSend .. => .of_elapse (.of_permOf (execMasterAnnounceSend_perm ..))
  | .syncTimeout .. => .of_elapse (.of_permOf (execSyncTimeout_perm ..))
  | .announceReceiptTimeout .. => .of_elapse (.of_permOf (execAnnounceReceiptTimeout_perm ..))
  | .waitMasterTimeout .. => .of_elapse (.of_permOf (execWaitMasterTimeout_perm ..))
  | .timeStore .. => .of_elapse (.of_permOf (execTimeStore_perm ..))
  | .inputEdgeEntry .. => .of_elapse (.of_permOf (execInputEdgeEntry_perm ..))
  | .classChange .. => .of_elapse (.of_permOf (execClassChange_perm ..))
  | .ioTick .. => .of_elapse (.of_permOf (execIoTick_perm ..))
  | .discrepancyLatch .. => .of_elapse (.of_permOf (execDiscrepancyLatch_perm ..))
  | .inputFaultLatch .. => .of_elapse (.of_permOf (execInputFaultLatch_perm ..))
  | .inputLatchClear .. => .of_elapse (.of_permOf (execInputLatchClear_perm ..))
  | .twohandTimeout .. => .of_elapse (.of_permOf (execTwohandTimeout_perm ..))
  | .tpPulseStart .. => .of_elapse (.of_permOf (execTpPulseStart_perm ..))
  | .tpPulseCheck .. => .of_elapse (.of_permOf (execTpPulseCheck_perm ..))
  | .tpOverload .. => .of_elapse (.of_permOf (execTpOverload_perm ..))
  | .outputTestSlot .. => .of_elapse (.of_permOf (execOutputTestSlot_perm ..))
  | .outputTestReading .. => .of_elapse (.of_permOf (execOutputTestReading_perm ..))
  | .outputTestTimeout .. => .of_elapse (.of_permOf (execOutputTestTimeout_perm ..))
  | .outputTestRepeat .. => .of_elapse (.of_permOf (execOutputTestRepeat_perm ..))
  | .latchResetTestEnd .. => .of_elapse (.of_permOf (execLatchResetTestEnd_perm ..))
  | .qsOvercurrent .. => .of_elapse (.of_permOf (execQsOvercurrent_perm ..))
  | .qsOpenLoad .. => .of_elapse (.of_permOf (execQsOpenLoad_perm ..))
  | .qsStuckOn .. => .of_elapse (.of_permOf (execQsStuckOn_perm ..))
  | .qaReadback .. => .of_elapse (.of_permOf (execQaReadback_perm ..))
  | .supplyWarn .. => .of_elapse (.of_permOf (execSupplyWarn_perm ..))
  | .supplyWarnClear .. => .of_elapse (.of_permOf (execSupplyWarnClear_perm ..))
  | .supplyLost .. => .of_elapse (.of_permOf (execSupplyLost_perm ..))
  | .supplyLostClear .. => .of_elapse (.of_permOf (execSupplyLostClear_perm ..))
  | .sioFail .. => .of_elapse (.of_permOf (execSioFail_perm ..))
  | .heartbeatSend .. => .of_elapse (.of_permOf (execHeartbeatSend_perm ..))
  | .heartbeatReceive .. => .of_elapse (.of_permOf (execHeartbeatReceive_perm ..))
  | .chordDown .. => .of_elapse (.of_permOf (execChordDown_perm ..))
  | .mdataReceive .. => .of_elapse (.of_permOf (execMdataReceive_perm ..))
  | .mcommitReceive .. => .of_elapse (.of_permOf (execMcommitReceive_perm ..))
  | .mirrorCutoff .. => .of_elapse (.of_permOf (execMirrorCutoff_perm ..))
  | .takeoverDecision .. => .of_elapse (.of_permOf (execTakeoverDecision_perm ..))
  | .takeover .. => .of_elapse (.of_permOf (execTakeover_perm ..))
  | .yieldStop .. => .of_elapse (.of_permOf (execYieldStop_perm ..))
  | .homeEligible .. => .of_elapse (.of_permOf (execHomeEligible_perm ..))
  | .supplyInput .. => .of_elapse (.of_permOf (execSupplyInput_perm ..))
  | .bothInputsLost .. => .of_elapse (.of_permOf (execBothInputsLost_perm ..))
  | .powerDownReset .. => .of_elapse (.of_permOf (execPowerDownReset_perm ..))
  | .resetRelease .. => .of_elapse (.of_permOf (execResetRelease_perm ..))
  | .preservingPiece .. => .of_elapse (.of_permOf (execPreservingPiece_perm ..))
  | .pieceComplete .. => .of_elapse (.of_permOf (execPieceComplete_perm ..))
  | .sliceStart .. => .of_elapse (.of_permOf (execSliceStart_perm ..))
  | .sliceAbandon .. => .of_elapse (.of_permOf (execSliceAbandon_perm ..))
  | .sliceComplete .. => .of_elapse (.of_permOf (execSliceComplete_perm ..))
  | .selftestOverdue .. => .of_elapse (.of_permOf (execSelftestOverdue_perm ..))
  | .statusMirrorIntake .. => execStatusMirrorIntake_after ..
  | .recordForm .. => .of_elapse (.of_permOf (execRecordForm_perm ..))
  | .recordCommit .. => execRecordCommit_after ..
  | .foldTimeout .. => .of_elapse (.of_permOf (execFoldTimeout_perm ..))
  | .counterSave .. => .of_elapse (.of_permOf (execCounterSave_perm ..))
  | .k3mWatchdogRestart .. => .of_elapse (.of_permOf (execK3mWatchdogRestart_perm ..))
  | .freezeTimeout .. => .of_elapse (.of_permOf (execFreezeTimeout_perm ..))
  | .probationCleanEnd .. => execProbationCleanEnd_after ..
  | .probationFaultRestart .. => .of_elapse (.of_permOf (execProbationFaultRestart_perm ..))
  | .sessionOpen .. => .of_elapse (.of_permOf (execSessionOpen_perm ..))
  | .sessionIdleTimeout .. => .of_elapse (.of_permOf (execSessionIdleTimeout_perm ..))
  | .lockoutExpiry .. => .of_elapse (.of_permOf (execLockoutExpiry_perm ..))
  | .login .. => .of_elapse (.of_permOf (execLogin_perm ..))
  | .logout .. => .of_elapse (.of_permOf (execLogout_perm ..))
  | .setpw .. => .of_elapse (.of_permOf (execSetpw_perm ..))
  | .clearpw .. => .of_elapse (.of_permOf (execClearpw_perm ..))
  | .info .. => .of_elapse (.of_permOf (execInfo_perm ..))
  | .freeze .. => .of_elapse (.of_permOf (execFreeze_perm ..))
  | .read .. => .of_elapse (.of_permOf (execRead_perm ..))
  | .readsent .. => .of_elapse (.of_permOf (execReadsent_perm ..))
  | .thaw .. => .of_elapse (.of_permOf (execThaw_perm ..))
  | .dlStart .. => .of_elapse (.of_permOf (execDlStart_perm ..))
  | .dlData .. => .of_elapse (.of_permOf (execDlData_perm ..))
  | .dlEnd .. => .of_elapse (.of_permOf (execDlEnd_perm ..))
  | .dlAbort .. => .of_elapse (.of_permOf (execDlAbort_perm ..))
  | .mailboxItem .. => .of_elapse (.of_permOf (execMailboxItem_perm ..))
  | .attest .. => execAttest_after ..
  | .localAct .. => .of_elapse (.of_permOf (execLocalAct_perm ..))
  | .setting .. => .of_elapse (.of_permOf (execSetting_perm ..))
  | .otpOperator .. => execOtpOperator_after ..
  | .mbctlPost .. => .of_elapse (.of_permOf (execMbctlPost_perm ..))
  | .hostAccess .. => .of_elapse (.of_permOf (execHostAccess_perm ..))
  | .hostGo .. => .of_elapse (.of_permOf (execHostGo_perm ..))
  | .hostResponse .. => .of_elapse (.of_permOf (execHostResponse_perm ..))
  | .hostAck .. => .of_elapse (.of_permOf (execHostAck_perm ..))
  | .restart .. => .of_permOf (execRestart_perm ..)
  | .enterMaint .. => .of_permOf (execEnterMaint_perm ..)
  | .endMaint .. => .of_permOf (execEndMaint_perm ..)
  | .withdraw .. => .of_permOf (execWithdraw_perm ..)
  | .debug .. => .of_permOf (execDebug_perm ..)
  | .debugEnd .. => .of_permOf (execDebugEnd_perm ..)
  | .rejoin .. => .of_permOf (execRejoin_perm ..)
  | .handover .. => .of_permOf (execHandover_perm ..)
  | .stagePatch a _ => .of_permOf (execStagePatch_perm a ..)
  | .stageIoParam a _ => .of_permOf (execStageIoParam_perm a ..)
  | .scheduleAct .. => .of_permOf (execScheduleAct_perm ..)
  | .confirm .. => .of_permOf (execConfirm_perm ..)
  | .cancelStage .. => .of_permOf (execCancelStage_perm ..)
  | .fuseBurn .. => .of_permOf (execFuseBurn_perm ..)
  | .fusectlBurn .. => execFusectlBurn_after ..
  | .pmctlReq .. => .of_permOf (execPmctlReq_perm ..)
  | .loutWrite .. => .of_permOf (execLoutWrite_perm ..)
  | .ptbWrite .. => .of_permOf (execPtbWrite_perm ..)
  | .dctlRun .. => .of_permOf (execDctlRun_perm ..)
  | .dctlStep .. => .of_permOf (execDctlStep_perm ..)
  | .tuseClr .. => .of_permOf (execTuseClr_perm ..)
  | .latCtlClr .. => .of_permOf (execLatCtlClr_perm ..)
  | .cenCtlClr .. => .of_permOf (execCenCtlClr_perm ..)
  | .ttbCtlClr .. => .of_permOf (execTtbCtlClr_perm ..)
  | .ttbFlagClear .. => .of_permOf (execTtbFlagClear_perm ..)
  | .ntmCtlClr .. => .of_permOf (execNtmCtlClr_perm ..)
  | .ntmFlagClear .. => .of_permOf (execNtmFlagClear_perm ..)
  | .sioCtlClr .. => .of_permOf (execSioCtlClr_perm ..)
  | .chdCtlClr .. => .of_permOf (execChdCtlClr_perm ..)
  | .memCtlClr .. => .of_permOf (execMemCtlClr_perm ..)
  | .memDoneClear .. => .of_permOf (execMemDoneClear_perm ..)
  | .bstCtlClr .. => .of_permOf (execBstCtlClr_perm ..)
  | .evrCtlClr .. => .of_permOf (execEvrCtlClr_perm ..)
  | .recnCtlClr => .of_permOf (execRecnCtlClr_perm ..)
  | .sentinelClear => .of_permOf (execSentinelClear_perm ..)
  | .hwinCtlClr => .of_permOf (execHwinCtlClr_perm ..)
  | .updmAbort .. => .of_elapse (.of_permOf (execUpdmAbort_perm ..))
  | .registerWrite .. => execRegisterWrite_after ..
  | .nop .. => .of_permOf (execNop_perm ..)
  | .trap .. => .of_permOf (execTrap_perm ..)
  | .evt .. => .of_permOf (execEvt_perm ..)
  | .rdtcw .. => .of_permOf (execRdtcw_perm ..)
  | .wrtcw .. => .of_permOf (execWrtcw_perm ..)
  | .mov .. => .of_permOf (execMov_perm ..)
  | .movi .. => .of_permOf (execMovi_perm ..)
  | .movis .. => .of_permOf (execMovis_perm ..)
  | .movhi .. => .of_permOf (execMovhi_perm ..)
  | .movx .. => .of_permOf (execMovx_perm ..)
  | .sel .. => .of_permOf (execSel_perm ..)
  | .ldb .. => .of_permOf (execLdb_perm ..)
  | .ldbs .. => .of_permOf (execLdbs_perm ..)
  | .ldh .. => .of_permOf (execLdh_perm ..)
  | .ldhs .. => .of_permOf (execLdhs_perm ..)
  | .ldw .. => .of_permOf (execLdw_perm ..)
  | .ldd .. => .of_permOf (execLdd_perm ..)
  | .stb .. => execStb_after ..
  | .sth .. => execSth_after ..
  | .stw .. => execStw_after ..
  | .std .. => execStd_after ..
  | .adds .. => .of_permOf (execAdds_perm ..)
  | .addu .. => .of_permOf (execAddu_perm ..)
  | .subs .. => .of_permOf (execSubs_perm ..)
  | .subu .. => .of_permOf (execSubu_perm ..)
  | .muls .. => .of_permOf (execMuls_perm ..)
  | .mulu .. => .of_permOf (execMulu_perm ..)
  | .divs .. => .of_permOf (execDivs_perm ..)
  | .divu .. => .of_permOf (execDivu_perm ..)
  | .rems .. => .of_permOf (execRems_perm ..)
  | .remu .. => .of_permOf (execRemu_perm ..)
  | .negs .. => .of_permOf (execNegs_perm ..)
  | .abss .. => .of_permOf (execAbss_perm ..)
  | .addl .. => .of_permOf (execAddl_perm ..)
  | .subl .. => .of_permOf (execSubl_perm ..)
  | .addsi .. => .of_permOf (execAddsi_perm ..)
  | .and .. => .of_permOf (execAnd_perm ..)
  | .or .. => .of_permOf (execOr_perm ..)
  | .xor .. => .of_permOf (execXor_perm ..)
  | .not .. => .of_permOf (execNot_perm ..)
  | .andi .. => .of_permOf (execAndi_perm ..)
  | .ori .. => .of_permOf (execOri_perm ..)
  | .xori .. => .of_permOf (execXori_perm ..)
  | .shl .. => .of_permOf (execShl_perm ..)
  | .shr .. => .of_permOf (execShr_perm ..)
  | .sar .. => .of_permOf (execSar_perm ..)
  | .ror .. => .of_permOf (execRor_perm ..)
  | .btst .. => .of_permOf (execBtst_perm ..)
  | .bset .. => .of_permOf (execBset_perm ..)
  | .bclr .. => .of_permOf (execBclr_perm ..)
  | .bext .. => .of_permOf (execBext_perm ..)
  | .bins .. => .of_permOf (execBins_perm ..)
  | .sand .. => .of_permOf (execSand_perm ..)
  | .sor .. => .of_permOf (execSor_perm ..)
  | .sxor .. => .of_permOf (execSxor_perm ..)
  | .snot .. => .of_permOf (execSnot_perm ..)
  | .stst .. => .of_permOf (execStst_perm ..)
  | .sfromb .. => .of_permOf (execSfromb_perm ..)
  | .stob .. => .of_permOf (execStob_perm ..)
  | .sget .. => .of_permOf (execSget_perm ..)
  | .sput .. => .of_permOf (execSput_perm ..)
  | .sandp .. => .of_permOf (execSandp_perm ..)
  | .sorp .. => .of_permOf (execSorp_perm ..)
  | .sall .. => .of_permOf (execSall_perm ..)
  | .cmp .. => .of_permOf (execCmp_perm ..)
  | .cmpi .. => .of_permOf (execCmpi_perm ..)
  | .cmpl .. => .of_permOf (execCmpl_perm ..)
  | .tst .. => .of_permOf (execTst_perm ..)
  | .b .. => .of_permOf (execB_perm ..)
  | .loopn .. => .of_permOf (execLoopn_perm ..)
  | .lend .. => .of_permOf (execLend_perm ..)
  | .callfb .. => .of_permOf (execCallfb_perm ..)
  | .retfb .. => .of_permOf (execRetfb_perm ..)
  | .rxslot .. => .of_permOf (execRxslot_perm ..)
  | .txslot .. => .of_permOf (execTxslot_perm ..)
  | .age .. => .of_permOf (execAge_perm ..)
  | .ton .. => .of_permOf (execTon_perm ..)
  | .tof .. => .of_permOf (execTof_perm ..)
  | .tp .. => .of_permOf (execTp_perm ..)
  | .rtrig .. => .of_permOf (execRtrig_perm ..)
  | .ftrig .. => .of_permOf (execFtrig_perm ..)
  | .query .. => .of_permOf (execQuery_perm ..)
  | .command .. => .of_permOf (execCommand_perm ..)
  | .alStart .. => .of_permOf (execAlStart_perm ..)
  | .alStop .. => .of_permOf (execAlStop_perm ..)
  | .lresv .. => .of_permOf (execLresv_perm ..)
  | .lrelRoute .. => .of_permOf (execLrelRoute_perm ..)
  | .lrelElement .. => .of_permOf (execLrelElement_perm ..)
  | .lstat .. => .of_permOf (execLstat_perm ..)
  | .rejoinSelfTestEnd .. => .of_elapse (.of_permOf (execRejoinSelfTestEnd_perm ..))
  | .rejoinCopySlack .. => .of_elapse (.of_permOf (execRejoinCopySlack_perm ..))
  | .guardianWindowExpiry .. => .of_elapse (.of_permOf (execGuardianWindowExpiry_perm ..))
  | .sessionEnd .. => .of_elapse (.of_permOf (execSessionEnd_perm ..))
  | .downloadCheckEnd .. => .of_elapse (.of_permOf (execDownloadCheckEnd_perm ..))
  | .passThroughRelease .. => .of_elapse (.of_permOf (execPassThroughRelease_perm ..))
  | .tpRestoreEnd .. => .of_elapse (.of_permOf (execTpRestoreEnd_perm ..))
  | .sectorEraseEnd .. => .of_elapse (.of_permOf (execSectorEraseEnd_perm ..))

/-! ### Steps -/

theorem step_of_pending_nil {s : State} (h : s.pending = []) : step s = .next (s.elapse 1) := by
  unfold step
  rw [h]

theorem step_of_pending_cons {s : State} {c : Instr} {rest : List Instr} (h : s.pending = c :: rest) :
    step s = exec c { s with pending := rest } := by
  unfold step
  rw [h]

/-- Settles O1. -/
theorem stepRunsTheFrontCommand : Obligations.StepRunsTheFrontCommand := fun _ _ => step_of_pending_cons rfl

/-- Settles O2. -/
theorem stepIdlesOnAnEmptyQueue : Obligations.StepIdlesOnAnEmptyQueue := fun _ => step_of_pending_nil

/-- Settles O56. -/
theorem everyCommandEndsInANextState : Obligations.EveryCommandEndsInANextState := fun c s =>
  let ⟨t, ht, _⟩ := exec_endsAfter c s
  ⟨t, ht⟩

theorem Grows.of_exec {c : Instr} {s t : State} (h : exec c s = .next t) : Grows s t := by
  obtain ⟨u, hu, hgrows⟩ := exec_endsAfter c s
  cases hu.symm.trans h
  exact hgrows

/-- Settles O57. -/
theorem commandsLeaveTheQueue : Obligations.CommandsLeaveTheQueue := fun _ _ _ h => (Grows.of_exec h).2

/-- Taking a command from the queue changes nothing that is permanent. -/
theorem Later.of_pending {s t : State} {l : List Instr} (h : Later { s with pending := l } t) : Later s t :=
  ⟨h.time, h.vendor, h.variant, h.serial, h.operator, h.svn, h.hssidx, h.seq, h.fuses, h.fusesSh⟩

/-- Settles O58: on an empty queue time passes, and a command at the front of the queue ends in a state that comes after. -/
theorem stepsNeverUndoWhatIsPermanent : Obligations.StepsNeverUndoWhatIsPermanent := by
  intro s t h
  cases hq : s.pending with
  | nil =>
    rw [step_of_pending_nil hq] at h
    cases h
    exact (Grows.elapse s 1).1
  | cons c rest =>
    rw [step_of_pending_cons hq] at h
    exact Later.of_pending (Grows.of_exec h).1

end Sys2Proof.Machine

/-! PROOFS. The canonical form of the memories (notes/assumptions/3.md): the operations on the memories of a vertex, on a vertex and on
the module that keep it. Where an operation leaves every cell as it is, its lemma is an equivalence; where it stores, an implication. -/

namespace Sys2Proof.Machine

/-! ### The memories of a vertex -/

@[simp] theorem VMem.wf_mk {code inst term imgIn out0 out1 : List Host.Cell} {work1 : Bool} {ecc ecc1 : List Nat} :
    VMem.wf ⟨code, inst, term, imgIn, out0, out1, work1, ecc, ecc1⟩ ↔
      Memory.wf code = true ∧ Memory.wf inst = true ∧ Memory.wf imgIn = true ∧ Memory.wf out0 = true ∧ Memory.wf out1 = true ∧
        Memory.wf term = true := Iff.rfl

@[simp] theorem VMem.wf_fold (m : VMem) :
    (Memory.wf m.code = true ∧ Memory.wf m.inst = true ∧ Memory.wf m.imgIn = true ∧ Memory.wf m.out0 = true ∧
      Memory.wf m.out1 = true ∧ Memory.wf m.term = true) ↔ m.wf := Iff.rfl

@[simp] theorem VMem.wf_correct_iff {m : VMem} (r : Region) (a : Nat) : (m.correct r a).wf ↔ m.wf := Iff.rfl

@[simp] theorem VMem.wf_switch {m : VMem} : m.switch.wf ↔ m.wf := Iff.rfl

theorem VMem.wf_foldl {α : Type} {f : VMem → α → VMem} (hf : ∀ m a, m.wf → (f m a).wf) (l : List α) {m : VMem} (h : m.wf) :
    (l.foldl f m).wf := by
  induction l generalizing m with
  | nil => exact h
  | cons a l ih => exact ih (hf m a h)

theorem VMem.wf_putIn {m : VMem} (h : m.wf) (a w : Nat) : (m.putIn a w).wf := VMem.wf_store h ..

theorem VMem.wf_putInAll {m : VMem} (h : m.wf) (a : Nat) (l : List Nat) : (m.putInAll a l).wf := by
  induction l generalizing m a with
  | nil => exact h
  | cons w ws ih => exact ih (VMem.wf_putIn h a w) (a + 4)

theorem VMem.wf_ageOut {m : VMem} (h : m.wf) (pay agedw len : Nat) : (m.ageOut pay agedw len).wf :=
  VMem.wf_foldl (fun _ _ h => VMem.wf_putIn h _ _) _ h

theorem VMem.wf_putChunk {m : VMem} (h : m.wf) (a : Nat) (b : List Byte) : (m.putChunk a b).wf :=
  VMem.wf_foldl (fun _ _ h => VMem.wf_store h _ _ _ _) _ h

theorem VMem.wf_copyInst {m src : VMem} (h : m.wf) (hsrc : src.wf) (a n : Nat) : (m.copyInst src a n).wf := by
  obtain ⟨hcode, hinst, hrest⟩ := h
  exact ⟨hcode, Memory.wf_copyRange (VMem.wf_cells hsrc .inst) hinst a n, hrest⟩

theorem VMem.wf_copyWork {m src : VMem} (h : m.wf) (hsrc : src.wf) (a n : Nat) : (m.copyWork src a n).wf :=
  VMem.wf_setCells h .imgOut (Memory.wf_copyRange (VMem.wf_cells hsrc .imgOut) (VMem.wf_cells h .imgOut) a n)

theorem VMem.wf_copyPage {m src : VMem} (h : m.wf) (hsrc : src.wf) (p : Nat) : (m.copyPage src p).wf := by
  unfold VMem.copyPage
  split
  · exact VMem.wf_copyInst h hsrc ..
  · exact VMem.wf_copyWork h hsrc ..

theorem VMem.wf_copyOutputs {m src : VMem} (h : m.wf) (hsrc : src.wf) : (m.copyOutputs src).wf := by
  obtain ⟨hcode, hinst, himg, -, -, hterm⟩ := h
  obtain ⟨-, -, -, hout0, hout1, -⟩ := hsrc
  exact ⟨hcode, hinst, himg, hout0, hout1, hterm⟩

theorem VMem.wf_copyBack {m : VMem} (h : m.wf) (addrs : List Nat) : (m.copyBack addrs).wf := by
  have hcells : ∀ (l : List Nat) (c : List Host.Cell), Memory.wf c = true →
      Memory.wf (l.foldl (fun c a => Memory.copyRange (m.cells .imgOut) c a 8) c) = true := by
    intro l
    induction l with
    | nil => exact fun _ hc => hc
    | cons a l ih => exact fun c hc => ih _ (Memory.wf_copyRange (VMem.wf_cells h .imgOut) hc a 8)
  exact VMem.wf_setCells h .imgOut (hcells _ _ (VMem.wf_transmit h))

/-! ### A vertex -/

@[simp] theorem Vertex.wf_touch {x : Vertex} (r : Region) (a : Nat) : (x.touch r a).mem.wf ↔ x.mem.wf := by
  unfold Vertex.touch
  split <;> rfl

@[simp] theorem Vertex.wf_fetchCorrect {x : Vertex} (n : Nat) : (x.fetchCorrect n).mem.wf ↔ x.mem.wf := by
  unfold Vertex.fetchCorrect
  split <;> simp

@[simp] theorem Vertex.feedAll_mem (x : Vertex) (l : List SigRec) : (x.feedAll l).mem = x.mem := by
  induction l generalizing x with
  | nil => rfl
  | cons r l ih => exact (ih _).trans (x.feed_mem r)

@[simp] theorem Vertex.placePass_mem (x : Vertex) : x.placePass.mem = x.mem := x.feedAll_mem _

@[simp] theorem Vertex.placeWaiting_mem (x : Vertex) (a : Nat) : (x.placeWaiting a).mem = x.mem := by
  unfold Vertex.placeWaiting
  split
  · exact x.placePass_mem
  · rfl

@[simp] theorem Vertex.phase0Store_mem (x : Vertex) (n a val : Nat) : (x.phase0Store n a val).mem = x.mem := x.feed_mem _

@[simp] theorem Vertex.setReg_mem (x : Vertex) (r : BitVec 4) (val : Word) : (x.setReg r val).mem = x.mem := by rfl

@[simp] theorem Vertex.setRegLocal_mem (x : Vertex) (r : BitVec 4) (val : Word) : (x.setRegLocal r val).mem = x.mem := by rfl

@[simp] theorem Vertex.setFlags_mem (x : Vertex) (f : Flags) : (x.setFlags f).mem = x.mem := by rfl

@[simp] theorem Vertex.loaded_mem (x : Vertex) (t : BitVec 4) (signed : Bool) (n val : Nat) :
    (x.loaded t signed n val).mem = x.mem := by
  unfold Vertex.loaded
  split <;> rfl

@[simp] theorem Vertex.latDone_mem (x : Vertex) (d : BitVec 4) (r : LatRes) : (x.latDone d r).mem = x.mem :=
  (Vertex.feedAll_mem _ _).trans x.placePass_mem

@[simp] theorem Vertex.addRec_mem (x : Vertex) (r : Rec) : (x.addRec r).mem = x.mem := by
  unfold Vertex.addRec
  split <;> rfl

@[simp] theorem Vertex.addEvent_mem (x : Vertex) (e : Event) : (x.addEvent e).mem = x.mem := by
  unfold Vertex.addEvent
  split <;> rfl

@[simp] theorem Vertex.debugAfter_mem (x : Vertex) (n : Nat) : (x.debugAfter n).mem = x.mem := by
  rw [Vertex.debugAfter_eq]

@[simp] theorem Vertex.meetBusy_mem (x : Vertex) (b : Bool) : (x.meetBusy b).mem = x.mem := by
  unfold Vertex.meetBusy
  split <;> rfl

@[simp] theorem Vertex.clearLat_mem (x : Vertex) : x.clearLat.mem = x.mem := by
  unfold Vertex.clearLat
  split <;> rfl

@[simp] theorem Vertex.wf_ite {c : Prop} [Decidable c] (x y : Vertex) :
    (if c then x else y).mem.wf ↔ if c then x.mem.wf else y.mem.wf := by
  split <;> rfl

@[simp] theorem Vertex.stop_mem (x : Vertex) : x.stop.mem = x.mem := by rfl

@[simp] theorem Vertex.nextStride_mem (x : Vertex) (sig : Long) : (x.nextStride sig).mem = x.mem := by rfl

@[simp] theorem Vertex.emptyBuffers_mem (x : Vertex) : x.emptyBuffers.mem = x.mem := by rfl

@[simp] theorem Vertex.debugPass_mem (x : Vertex) : x.debugPass.mem = x.mem := by rfl

@[simp] theorem Vertex.clearSkew_mem (x : Vertex) : x.clearSkew.mem = x.mem := by rfl

@[simp] theorem Vertex.clearUse_mem (x : Vertex) (k : Nat) : (x.clearUse k).mem = x.mem := by rfl

@[simp] theorem Vertex.newFurlong_mem (x : Vertex) (runs : Bool) (excl : Tri Bool) : (x.newFurlong runs excl).mem = x.mem := by rfl

@[simp] theorem Vertex.wf_scrubIf {x : Vertex} (p : Nat → Bool) : (x.scrubIf p).mem.wf ↔ x.mem.wf := by rfl

@[simp] theorem Vertex.wf_scrub {x : Vertex} (l : List Nat) : (x.scrub l).mem.wf ↔ x.mem.wf := by rfl

@[simp] theorem Vertex.wf_startTask {x : Vertex} (k : Nat) (l : List Nat) (d : TaskDecl) :
    (x.startTask k l d).mem.wf ↔ x.mem.wf := by rfl

@[simp] theorem Vertex.retire_mem (x0 x : Vertex) (m : IMeta) (npc : Option Word) (undo : List Host.Cell) :
    (x0.retire x m npc undo).mem = x.mem := by rfl

theorem Vertex.wf_storeRec {x : Vertex} (h : x.mem.wf) (r : Region) (a n val : Nat) : (x.storeRec r a n val).mem.wf := by
  rw [Vertex.storeRec, Vertex.feed_mem]
  refine VMem.wf_store ?_ ..
  split
  · exact h
  · exact (Vertex.wf_touch r a).mpr h

theorem Vertex.wf_storeWords {x : Vertex} (h : x.mem.wf) (r : Region) (a : Nat) (l : List Nat) :
    (x.storeWords r a l).mem.wf := by
  induction l generalizing x a with
  | nil => exact h
  | cons w ws ih => exact ih (Vertex.wf_storeRec h r a 4 w) (a + 4)

theorem Vertex.wf_storeTimer {x : Vertex} (h : x.mem.wf) (a : Nat) (t : TimerSlot) : (x.storeTimer a t).mem.wf :=
  Vertex.wf_storeRec (Vertex.wf_storeRec h ..) ..

theorem Vertex.wf_window {x : Vertex} (h : x.mem.wf) (r : Region) (a : Nat) (k : SigRec) (f : Word → Word) :
    (x.window r a k f).mem.wf := by
  rw [Vertex.window, Vertex.feed_mem]
  exact VMem.wf_store ((Vertex.wf_touch r a).mpr h) ..

theorem Vertex.wf_undoFirst {x : Vertex} (h : x.mem.wf) (l : LastIssue) : (x.undoFirst l).mem.wf := by
  obtain ⟨hcode, hinst, hrest⟩ := h
  exact ⟨hcode, Memory.wf_foldl_write _ hinst, hrest⟩

theorem Vertex.wf_afterMarch {x : Vertex} (h : x.mem.wf) : x.afterMarch.mem.wf := by
  obtain ⟨hcode, -, hrest⟩ := h
  exact ⟨hcode, rfl, hrest⟩

theorem Vertex.wf_loadInitial {x : Vertex} (h : x.mem.wf) (c : Content) : (x.loadInitial c).mem.wf := by
  obtain ⟨hcode, -, -, -, -, hterm⟩ := h
  exact ⟨hcode, Memory.wf_ofCells _, Memory.wf_ofCells _, Memory.wf_ofCells _, Memory.wf_ofCells _, hterm⟩

/-! ### The module -/

@[simp] theorem State.memWf_mk {a0 a1 a2 a3 a4 a5 a6 a7 a8 a9 a10 a11 a12 a13 a14 a15 a16 a17 a18 a19 a20 a21 a22 a23 a24 a25 a26 a27 a28 a29 a30 a31 a32 a33 a34 a35 a36 a37 a38 a39 a40 a41 a42 a43 a44 a45 a46 a47 a48 a49 a50 a51 a52 a53 a54 a55 a56 a57} : State.memWf (State.mk a0 a1 a2 a3 a4 a5 a6 a7 a8 a9 a10 a11 a12 a13 a14 a15 a16 a17 a18 a19 a20 a21 a22 a23 a24 a25 a26 a27 a28 a29 a30 a31 a32 a33 a34 a35 a36 a37 a38 a39 a40 a41 a42 a43 a44 a45 a46 a47 a48 a49 a50 a51 a52 a53 a54 a55 a56 a57) ↔
    (∀ v, (a2.get v).mem.wf) ∧ Memory.wf (HostWin.mem a36) = true := Iff.rfl

@[simp] theorem State.memWf_fold (s : State) : ((∀ v, (s.vtx.get v).mem.wf) ∧ Memory.wf s.hwin.mem = true) ↔ s.memWf := Iff.rfl

@[simp] theorem memWf_ite {c : Prop} [Decidable c] (s t : State) :
    (if c then s else t).memWf ↔ if c then s.memWf else t.memWf := by
  split <;> rfl

theorem memWf_foldl {α : Type} {f : State → α → State} (l : List α) {s : State} (h : ∀ t a, (f t a).memWf ↔ t.memWf) :
    (l.foldl f s).memWf ↔ s.memWf := by
  induction l generalizing s with
  | nil => rfl
  | cons a l ih => exact ih.trans (h s a)

theorem memWf_foldl_of {α : Type} {f : State → α → State} (l : List α) {s : State} (h : s.memWf)
    (hf : ∀ t a, t.memWf → (f t a).memWf) : (l.foldl f s).memWf := by
  induction l generalizing s with
  | nil => exact h
  | cons a l ih => exact ih (hf s a h)

theorem State.memWf_setV {s : State} (h : s.memWf) (v : Vtx) {x : Vertex} (hx : x.mem.wf) : (s.setV v x).memWf := by
  refine ⟨fun u => ?_, h.2⟩
  by_cases hu : u = v
  · rw [hu, State.v_setV]
    exact hx
  · rw [State.v_setV_other _ _ hu]
    exact h.1 u

theorem State.memWf_modV {s : State} (h : s.memWf) (v : Vtx) {f : Vertex → Vertex} (hf : (s.v v).mem.wf → (f (s.v v)).mem.wf) :
    (s.modV v f).memWf := State.memWf_setV h v (hf (h.1 v))

theorem State.memWf_modAll {s : State} (h : s.memWf) {f : Vtx → Vertex → Vertex}
    (hf : ∀ v, (s.v v).mem.wf → (f v (s.v v)).mem.wf) : (s.modAll f).memWf := by
  refine ⟨fun v => ?_, h.2⟩
  rw [State.v_modAll]
  exact hf v (h.1 v)

@[simp] theorem State.setV_memWf {s : State} {v : Vtx} {x : Vertex} (hx : x.mem.wf ↔ (s.v v).mem.wf) :
    (s.setV v x).memWf ↔ s.memWf := by
  constructor
  · intro h
    have hv := hx.mp (by simpa using h.1 v)
    simpa using State.memWf_setV h v hv
  · exact fun h => State.memWf_setV h v (hx.mpr (h.1 v))

@[simp] theorem State.modV_memWf {s : State} {v : Vtx} {f : Vertex → Vertex} (hf : (f (s.v v)).mem.wf ↔ (s.v v).mem.wf) :
    (s.modV v f).memWf ↔ s.memWf := State.setV_memWf hf

@[simp] theorem State.modAll_memWf {s : State} {f : Vtx → Vertex → Vertex}
    (hf : ∀ v, (f v (s.v v)).mem.wf ↔ (s.v v).mem.wf) : (s.modAll f).memWf ↔ s.memWf := by
  refine and_congr (forall_congr' fun v => ?_) Iff.rfl
  rw [State.v_modAll]
  exact hf v

@[simp] theorem State.elapse_memWf {s : State} (dt : Nat) : (s.elapse dt).memWf ↔ s.memWf := Iff.rfl

@[simp] theorem State.modUpd_memWf (s : State) (f : Update → Update) : (s.modUpd f).memWf ↔ s.memWf := Iff.rfl

@[simp] theorem State.modRec_memWf (s : State) (f : Recorder → Recorder) : (s.modRec f).memWf ↔ s.memWf := Iff.rfl

@[simp] theorem State.modCyc_memWf (s : State) (f : Cyc → Cyc) : (s.modCyc f).memWf ↔ s.memWf := by
  simp [State.modCyc]

@[simp] theorem State.modCen_memWf (s : State) (f : Cen → Cen) : (s.modCen f).memWf ↔ s.memWf := by
  simp [State.modCen]

@[simp] theorem State.modTtb_memWf (s : State) (f : Ttb → Ttb) : (s.modTtb f).memWf ↔ s.memWf := by
  simp [State.modTtb]

@[simp] theorem State.modNtm_memWf (s : State) (f : Ntm → Ntm) : (s.modNtm f).memWf ↔ s.memWf := by
  simp [State.modNtm]

@[simp] theorem State.modNic_memWf (s : State) (f : Nic → Nic) : (s.modNic f).memWf ↔ s.memWf := by
  simp [State.modNic]

@[simp] theorem State.recBody_memWf (s : State) (t : RecType) (body : List Byte) : (s.recBody t body).memWf ↔ s.memWf := by
  simp [State.recBody]

@[simp] theorem State.record_memWf (s : State) (t : RecType) (a1 a2 a3 : Nat) : (s.record t a1 a2 a3).memWf ↔ s.memWf := by
  simp [State.record]

@[simp] theorem State.recOwn_memWf (s : State) (v : Vtx) (t : RecType) (body : List Byte) :
    (s.recOwn v t body).memWf ↔ s.memWf := by
  simp [State.recOwn]

@[simp] theorem State.emit_memWf (s : State) (o : Out) : (s.emit o).memWf ↔ s.memWf := by
  simp [State.emit]

@[simp] theorem State.sendChord_memWf (s : State) (f : ChordFrame) : (s.sendChord f).memWf ↔ s.memWf := by
  simp [State.sendChord]

@[simp] theorem State.modSio_memWf (s : State) (f : Sio → Sio) : (s.modSio f).memWf ↔ s.memWf := by
  simp [State.modSio]

@[simp] theorem State.ioFault_memWf (s : State) (group kind chan val : Nat) :
    (s.ioFault group kind chan val).memWf ↔ s.memWf := by
  simp [State.ioFault]

@[simp] theorem State.ioClear_memWf (s : State) (group kind chan val : Nat) :
    (s.ioClear group kind chan val).memWf ↔ s.memWf := by
  simp [State.ioClear]

@[simp] theorem State.outputsFault_memWf (s : State) (kind val : Nat) : (s.outputsFault kind val).memWf ↔ s.memWf := by
  simp [State.outputsFault]

@[simp] theorem State.outputsClear_memWf (s : State) (kind val : Nat) : (s.outputsClear kind val).memWf ↔ s.memWf := by
  simp [State.outputsClear]

@[simp] theorem State.drive_memWf (s : State) : s.drive.memWf ↔ s.memWf := by
  simp [State.drive]

@[simp] theorem State.outputsMode_memWf (s : State) : s.outputsMode.memWf ↔ s.memWf := by
  simp [State.outputsMode]

@[simp] theorem State.sioFailRecords_memWf (s : State) : s.sioFailRecords.memWf ↔ s.memWf := by
  simp [State.sioFailRecords]

@[simp] theorem State.modBst_memWf (s : State) (f : Bst → Bst) : (s.modBst f).memWf ↔ s.memWf := by
  simp [State.modBst]

@[simp] theorem State.modPtb_memWf (s : State) (f : Ptb → Ptb) : (s.modPtb f).memWf ↔ s.memWf := by
  simp [State.modPtb]

@[simp] theorem State.modChd_memWf (s : State) (f : Chd → Chd) : (s.modChd f).memWf ↔ s.memWf := by
  simp [State.modChd]

@[simp] theorem State.modPair_memWf (s : State) (f : PairSt2 → PairSt2) : (s.modPair f).memWf ↔ s.memWf := by
  simp [State.modPair]

@[simp] theorem State.endSlices_memWf (s : State) : s.endSlices.memWf ↔ s.memWf := by
  simp [State.endSlices]

@[simp] theorem State.sioFail_memWf (s : State) : s.sioFail.memWf ↔ s.memWf := by
  simp [State.sioFail]

@[simp] theorem State.ptbClear_memWf (s : State) : s.ptbClear.memWf ↔ s.memWf := by
  simp [State.ptbClear]

@[simp] theorem State.cutSet_memWf (s : State) : s.cutSet.memWf ↔ s.memWf := by
  simp only [State.cutSet]; repeat' split
  all_goals simp

@[simp] theorem State.serviceRequest_memWf (s : State) (p : Nat → Bool) : (s.serviceRequest p).memWf ↔ s.memWf :=
    memWf_foldl _ fun _ _ => Iff.rfl

@[simp] theorem State.abdicate_memWf (s : State) : s.abdicate.memWf ↔ s.memWf := by
  simp [State.abdicate]

@[simp] theorem State.journal_memWf (s : State) (f : Journal → Journal) : (s.journal f).memWf ↔ s.memWf := by
  simp [State.journal]

@[simp] theorem State.probationHalt_memWf (s : State) : s.probationHalt.memWf ↔ s.memWf := by
  simp [State.probationHalt]

@[simp] theorem State.haltEffects_memWf (s : State) : s.haltEffects.memWf ↔ s.memWf := by
  simp [State.haltEffects]

@[simp] theorem State.pairMode_memWf (s : State) (was : Mode) : (s.pairMode was).memWf ↔ s.memWf := by
  simp [State.pairMode]

@[simp] theorem State.setMode_memWf (s : State) (m : Mode) (c : MCause) : (s.setMode m c).memWf ↔ s.memWf := by
  simp [State.setMode]

@[simp] theorem State.rejoinFail_memWf (s : State) (reason : Nat) : (s.rejoinFail reason).memWf ↔ s.memWf := by
  unfold State.rejoinFail
  repeat' split
  all_goals simp

@[simp] theorem State.halt_memWf (s : State) (c : MCause) : (s.halt c).memWf ↔ s.memWf := by
  simp [State.halt]

@[simp] theorem State.noMajority_memWf (s : State) (typ seq : Nat) : (s.noMajority typ seq).memWf ↔ s.memWf := by
  simp [State.noMajority]

@[simp] theorem State.cancelWithdraw_memWf (s : State) : s.cancelWithdraw.memWf ↔ s.memWf := by
  unfold State.cancelWithdraw
  repeat' split
  all_goals simp

@[simp] theorem State.takeOut_memWf (s : State) (v : Vtx) (c : XCause) (typ seq deciders : Nat) :
    (s.takeOut v c typ seq deciders).memWf ↔ s.memWf := by
  simp [State.takeOut]

@[simp] theorem State.exclude_memWf (s : State) (v : Vtx) (c : XCause) (typ seq deciders : Nat) :
    (s.exclude v c typ seq deciders).memWf ↔ s.memWf := by
  simp [State.exclude]

@[simp] theorem State.sendEntry_memWf (s : State) (v : Vtx) (e : Entry) : (s.sendEntry v e).memWf ↔ s.memWf := by
  simp [State.sendEntry]

@[simp] theorem State.selfFault_memWf (s : State) (v : Vtx) (c : XCause) : (s.selfFault v c).memWf ↔ s.memWf := by
  simp [State.selfFault]

@[simp] theorem State.trapOutcome_memWf (s : State) (v : Vtx) (c : TrapCause) (task : Nat) (pc : Word) :
    (s.trapOutcome v c task pc).memWf ↔ s.memWf := by
  simp [State.trapOutcome]

@[simp] theorem State.raiseTrap_memWf (s : State) (v : Vtx) (c : TrapCause) (user addr : Nat) (pc : Word) (count : Nat) :
    (s.raiseTrap v c user addr pc count).memWf ↔ s.memWf := by
  simp [State.raiseTrap]

@[simp] theorem State.badRegister_memWf (s : State) (v : Vtx) (a : Nat) : (s.badRegister v a).memWf ↔ s.memWf := by
  simp [State.badRegister]

@[simp] theorem State.closeFull_memWf (s : State) (v : Vtx) : (s.closeFull v).memWf ↔ s.memWf := by
  simp [State.closeFull]

@[simp] theorem State.phase0Store_memWf (s : State) (v : Vtx) (n a val : Nat) : (s.phase0Store v n a val).memWf ↔ s.memWf := by
  simp [State.phase0Store]

@[simp] theorem State.trapInstr_memWf {s : State} (h : s.memWf) (v : Vtx) (m : IMeta) (c : TrapCause × Nat × Nat) :
    (s.trapInstr v m c).memWf := by
  simp only [State.trapInstr]
  split
  · rw [State.raiseTrap_memWf]
    exact State.memWf_setV h v (Vertex.wf_undoFirst (h.1 v) _)
  · simpa using h
  · simpa using h

/-- Where the body of an instruction is done, the memories of its vertex are in canonical form. -/
def IRes.canonical : IRes → Prop
  | .trap .. => True
  | .done x .. => x.mem.wf

@[simp] theorem IRes.canonical_trap (c : TrapCause) (user addr : Nat) : (IRes.trap c user addr).canonical := trivial

@[simp] theorem IRes.canonical_done {x : Vertex} {npc : Option Word} {undo : List Host.Cell} :
    (IRes.done x npc undo).canonical ↔ x.mem.wf := Iff.rfl

theorem State.instr_memWf {s : State} (h : s.memWf) {v : Vtx} {m : Vertex → IMeta} {bad : Bool} {body : Vertex → IRes}
    {post : State → State} (hbody : ∀ x, x.mem.wf → (body x).canonical) (hpost : ∀ t, t.memWf → (post t).memWf) :
    (s.instr v m bad body post).memWf := by
  have hclose : (s.closeFull v).memWf := (State.closeFull_memWf s v).mpr h
  simp only [State.instr]
  split
  · exact h
  · split
    · simpa using h
    · split
      · exact State.trapInstr_memWf hclose ..
      · exact State.trapInstr_memWf hclose ..
      · next y npc undo _ hdone =>
        have hy := hbody _ ((Vertex.wf_fetchCorrect (m ((s.closeFull v).v v)).words).mpr (hclose.1 v))
        rw [hdone] at hy
        refine hpost _ (State.memWf_setV hclose v ?_)
        split <;> simpa using hy

theorem State.run_memWf {s : State} (h : s.memWf) {v : Vtx} {m : Vertex → IMeta} {bad : Bool} {body : Vertex → IRes}
    (hbody : ∀ x, x.mem.wf → (body x).canonical) : (s.run v m bad body).memWf :=
  State.instr_memWf h hbody fun _ ht => ht

@[simp] theorem State.runReg_memWf {s : State} (h : s.memWf) (v : Vtx) (m : IMeta) (bad : Bool) (d : BitVec 4)
    (val : Vertex → Word) :
    (s.runReg v m bad d val).memWf := State.run_memWf h fun _ hx => hx

@[simp] theorem State.runAlu_memWf {s : State} (h : s.memWf) (v : Vtx) (m : IMeta) (bad : Bool) (d : BitVec 4)
    (f : Vertex → Alu) :
    (s.runAlu v m bad d f).memWf := State.run_memWf h fun _ hx => hx

@[simp] theorem State.runAlu64_memWf {s : State} (h : s.memWf) (v : Vtx) (m : IMeta) (bad : Bool) (d : BitVec 4)
    (f : Vertex → Alu64) :
    (s.runAlu64 v m bad d f).memWf := State.run_memWf h fun _ hx => hx

@[simp] theorem State.runFlags_memWf {s : State} (h : s.memWf) (v : Vtx) (m : IMeta) (bad : Bool) (f : Vertex → Flags) :
    (s.runFlags v m bad f).memWf := State.run_memWf h fun _ hx => hx

@[simp] theorem State.pulseInput_memWf (s : State) (k i cur : Nat) : (s.pulseInput k i cur).memWf ↔ s.memWf := by
  simp [State.pulseInput]

@[simp] theorem State.qsFault_memWf (s : State) (n : Nat) (k : QsKind) (val : Nat) : (s.qsFault n k val).memWf ↔ s.memWf := by
  simp [State.qsFault]

@[simp] theorem State.qsLatch_memWf (s : State) (n : Nat) (k : QsKind) (val : Nat) : (s.qsLatch n k val).memWf ↔ s.memWf := by
  simp [State.qsLatch]

@[simp] theorem State.qaClears_memWf (s : State) (rst a b : Nat) : (s.qaClears rst a b).memWf ↔ s.memWf := by
  simp [State.qaClears, memWf_foldl]

@[simp] theorem State.shadowDiff_memWf (s : State) (a b : Nat) : (s.shadowDiff a b).memWf ↔ s.memWf := by
  simp [State.shadowDiff]

@[simp] theorem State.commitOutputs_memWf (s : State) (u w : Vtx) : (s.commitOutputs u w).memWf ↔ s.memWf := by
  simp [State.commitOutputs]

@[simp] theorem State.watchdogTrip_memWf (s : State) : s.watchdogTrip.memWf ↔ s.memWf := by
  simp [State.watchdogTrip]

@[simp] theorem State.supplyWarnRec_memWf (s : State) (volt : Nat) : (s.supplyWarnRec volt).memWf ↔ s.memWf := by
  simp [State.supplyWarnRec]

@[simp] theorem State.recBy_memWf (s : State) (v : Vtx) (t : RecType) (a1 a2 a3 : Nat) :
    (s.recBy v t a1 a2 a3).memWf ↔ s.memWf := by
  simp [State.recBy]

@[simp] theorem State.addVote_memWf (s : State) (v : Vtx) (addr : Nat) (val : Word) :
    (s.addVote v addr val).memWf ↔ s.memWf := by
  simp [State.addVote]

@[simp] theorem State.voted_memWf (s : State) (v : Vtx) (addr : Nat) (val : Word) (f : State → State) (hf : ∀ t,
    (f t).memWf ↔ t.memWf) :
    (s.voted v addr val f).memWf ↔ s.memWf := by
  simp only [State.voted]
  split
  · rfl
  · split <;> simp [hf]

@[simp] theorem State.writeRefused_memWf (s : State) (v : Vtx) (addr : Nat) : (s.writeRefused v addr).memWf ↔ s.memWf := by
  simp [State.writeRefused]

@[simp] theorem State.sealRefused_memWf (s : State) (v : Vtx) (addr : Nat) : (s.sealRefused v addr).memWf ↔ s.memWf := by
  simp [State.sealRefused]

@[simp] theorem State.portFault_memWf (s : State) (p : Port) : (s.portFault p).memWf ↔ s.memWf := by
  unfold State.portFault
  repeat' split
  all_goals simp

@[simp] theorem State.k3mFail_memWf (s : State) : s.k3mFail.memWf ↔ s.memWf := by
  simp [State.k3mFail]

@[simp] theorem State.syncLost_memWf (s : State) (n : Net) : (s.syncLost n).memWf ↔ s.memWf := by
  simp [State.syncLost]

@[simp] theorem State.modEngine_memWf (s : State) (v : Vtx) (b : Nat) (f : Engine → Engine) :
    (s.modEngine v b f).memWf ↔ s.memWf := by
  simp [State.modEngine]

@[simp] theorem State.pieceFails_memWf (s : State) (chip : Vtx) (b : Nat) : (s.pieceFails chip b).memWf ↔ s.memWf := by
  simp [State.pieceFails]

@[simp] theorem State.pmctlWrite_memWf (s : State) (v : Vtx) (val : Word) : (s.pmctlWrite v val).memWf ↔ s.memWf := by
  simp [State.pmctlWrite]

@[simp] theorem State.marchRequests_memWf (s : State) : s.marchRequests.memWf ↔ s.memWf := by
  simp [State.marchRequests]

@[simp] theorem ifClr_memWf (val : Word) (s t : State) (h : t.memWf ↔ s.memWf) : (ifClr val s t).memWf ↔ s.memWf := by
  simp [ifClr, h]

@[simp] theorem State.memCtl_memWf (s : State) (v : Vtx) : (s.memCtl v).memWf ↔ s.memWf := by
  simp only [State.memCtl]
  rw [State.voted_memWf] <;> intros <;> simp

@[simp] theorem State.memDoneWrite_memWf (s : State) (v : Vtx) (val : Word) : (s.memDoneWrite v val).memWf ↔ s.memWf := by
  simp only [State.memDoneWrite]
  rw [State.voted_memWf] <;> intros <;> simp

@[simp] theorem State.fuseResult_memWf (s : State) (v : Vtx) (done : Bool) : (s.fuseResult v done).memWf ↔ s.memWf := by
  simp [State.fuseResult]

@[simp] theorem State.sliceFails_memWf (s : State) (n : Nat) : (s.sliceFails n).memWf ↔ s.memWf := by
  simp [State.sliceFails]

@[simp] theorem State.bstCtl_memWf (s : State) (v : Vtx) : (s.bstCtl v).memWf ↔ s.memWf := by
  simp [State.bstCtl]

@[simp] theorem State.ptbSet_memWf (s : State) (v : Vtx) (off : BitVec 12) (val : Word) :
    (s.ptbSet v off val).memWf ↔ s.memWf := by
  simp [State.ptbSet]

@[simp] theorem State.ptbBoundary_memWf (s : State) : s.ptbBoundary.memWf ↔ s.memWf := by
  simp [State.ptbBoundary]

@[simp] theorem State.k3mRec_memWf (s : State) (source : Nat) (t : RecType) (body : List Byte) :
    (s.k3mRec source t body).memWf ↔ s.memWf := by
  simp [State.k3mRec]

@[simp] theorem State.recRec_memWf (s : State) (t : RecType) (a1 a2 a3 : Nat) : (s.recRec t a1 a2 a3).memWf ↔ s.memWf := by
  simp [State.recRec]

@[simp] theorem State.updRec_memWf (s : State) (code a1 a2 a3 : Nat) : (s.updRec code a1 a2 a3).memWf ↔ s.memWf := by
  simp [State.updRec]

@[simp] theorem State.takeRecords_memWf (s : State) : s.takeRecords.memWf ↔ s.memWf := by
  simp [State.takeRecords]

@[simp] theorem State.holdOverflow_memWf (s : State) : s.holdOverflow.memWf ↔ s.memWf := by
  simp [State.holdOverflow]

@[simp] theorem State.thaw_memWf (s : State) : s.thaw.memWf ↔ s.memWf := by
  simp [State.thaw]

@[simp] theorem State.evrCtl_memWf (s : State) (v : Vtx) : (s.evrCtl v).memWf ↔ s.memWf := by
  simp [State.evrCtl]

@[simp] theorem State.sentinelClear_memWf (s : State) : s.sentinelClear.memWf ↔ s.memWf := by
  simp [State.sentinelClear]

@[simp] theorem State.latch_memWf (s : State) : s.latch.memWf ↔ s.memWf := by
  simp [State.latch]

@[simp] theorem State.deliver_memWf (s : State) (f start : Nat) : (s.deliver f start).memWf ↔ s.memWf := by
  simp [State.deliver, State.modAll]

@[simp] theorem State.babbleOn_memWf (s : State) (n : Net) : (s.babbleOn n).memWf ↔ s.memWf := by
  simp [State.babbleOn]

@[simp] theorem State.sendOn_memWf (s : State) (n : Net) (f : Frame) : (s.sendOn n f).memWf ↔ s.memWf := by
  unfold State.sendOn
  repeat' split
  all_goals simp

@[simp] theorem State.sendSlot_memWf (s : State) (n : Net) (f : Frame) (dur : Nat) : (s.sendSlot n f dur).memWf ↔ s.memWf := by
  simp [State.sendSlot]

@[simp] theorem State.dropQueue_memWf (s : State) (n : Nat) : (s.dropQueue n).memWf ↔ s.memWf := by
  simp [State.dropQueue]

@[simp] theorem State.queuePtp_memWf (s : State) (m : TxPtp) : (s.queuePtp m).memWf ↔ s.memWf := by
  simp [State.queuePtp]

@[simp] theorem State.portEcc_memWf (s : State) (v : Vtx) (bad : Bool) : (s.portEcc v bad).memWf ↔ s.memWf := by
  simp [State.portEcc]

@[simp] theorem State.meetBusy_memWf (s : State) (v : Vtx) (n : Nat) : (s.meetBusy v n).memWf ↔ s.memWf := by
  simp [State.meetBusy]

@[simp] theorem State.outMismatch_memWf (s : State) (rod slot : Nat) : (s.outMismatch rod slot).memWf ↔ s.memWf := by
  simp [State.outMismatch]

@[simp] theorem State.enterQueue_memWf (s : State) (e : TxEvent) : (s.enterQueue e).memWf ↔ s.memWf := by
  simp [State.enterQueue]

@[simp] theorem State.queueEvent_memWf (s : State) (e : TxEvent) : (s.queueEvent e).memWf ↔ s.memWf := by
  simp [State.queueEvent]

@[simp] theorem State.laterFrames_memWf (s : State) : s.laterFrames.memWf ↔ s.memWf := by
  simp [State.laterFrames, memWf_foldl]

@[simp] theorem State.sendWaiting_memWf (s : State) (n : Net) (w : Waiting) : (s.sendWaiting n w).memWf ↔ s.memWf := by
  unfold State.sendWaiting
  repeat' split
  all_goals simp

@[simp] theorem State.sendLate_memWf (s : State) (n : Net) (w : Waiting) (ns : Nat) : (s.sendLate n w ns).memWf ↔ s.memWf := by
  simp only [State.sendLate]
  split
  · simp
  · rw [State.babbleOn_memWf]
    split <;> rw [← State.sendWaiting_memWf s n w] <;> rfl

@[simp] theorem State.heardPartner_memWf (s : State) (mode strength : Nat) :
    (s.heardPartner mode strength).memWf ↔ s.memWf := by
  simp [State.heardPartner]

@[simp] theorem State.evidence_memWf (s : State) (mode : Nat) : (s.evidence mode).memWf ↔ s.memWf := by
  simp [State.evidence]

@[simp] theorem State.partnerStatus_memWf (s : State) (f : Frame) : (s.partnerStatus f).memWf ↔ s.memWf := by
  unfold State.partnerStatus
  repeat' split
  all_goals simp

@[simp] theorem State.splitBrain_memWf (s : State) : s.splitBrain.memWf ↔ s.memWf := by
  simp [State.splitBrain]

@[simp] theorem State.forwardOut_memWf (s : State) (p : Port) (f : AnyFrame) (ns : Nat) :
    (s.forwardOut p f ns).memWf ↔ s.memWf := by
  unfold State.forwardOut
  repeat' split
  all_goals simp

@[simp] theorem State.busEnter_memWf (s : State) (b : BusState) : (s.busEnter b).memWf ↔ s.memWf := by
  simp [State.busEnter]

@[simp] theorem State.integrated_memWf (s : State) (rank : Nat) : (s.integrated rank).memWf ↔ s.memWf := by
  simp [State.integrated]

@[simp] theorem State.loseTime_memWf (s : State) : s.loseTime.memWf ↔ s.memWf := by
  simp [State.loseTime]

@[simp] theorem State.coldYield_memWf (s : State) (rank : Nat) : (s.coldYield rank).memWf ↔ s.memWf := by
  simp [State.coldYield]

@[simp] theorem State.integrateFrame_memWf (s : State) (consistent cold settles : Bool) (rank : Option Nat) :
    (s.integrateFrame consistent cold settles rank).memWf ↔ s.memWf := by
  unfold State.integrateFrame
  cases consistent
  all_goals
    dsimp only
    repeat' split
    all_goals simp

@[simp] theorem State.countErr_memWf (s : State) (n : Net) (f : ErrCnt → ErrCnt) : (s.countErr n f).memWf ↔ s.memWf := by
  simp [State.countErr]

@[simp] theorem State.acceptEvent_memWf (s : State) (ch : Channel) (r : RxFrame) : (s.acceptEvent ch r).memWf ↔ s.memWf := by
  simp [State.acceptEvent]

@[simp] theorem State.acceptMgmt_memWf (s : State) (f : Frame) : (s.acceptMgmt f).memWf ↔ s.memWf := by
  simp [State.acceptMgmt]

@[simp] theorem State.acceptFrame_memWf (s : State) (role : FrameRole) (f : Frame) (fromX fromY : Bool) (at_ : Nat) :
    (s.acceptFrame role f fromX fromY at_).memWf ↔ s.memWf := by
  unfold State.acceptFrame
  repeat' split
  all_goals simp

@[simp] theorem State.netDisagree_memWf (s : State) (f : Frame) : (s.netDisagree f).memWf ↔ s.memWf := by
  simp [State.netDisagree]

@[simp] theorem State.decideFrame_memWf (s : State) (f : Frame) (x y acc : Bool) :
    (s.decideFrame f x y acc).memWf ↔ s.memWf := by
  simp [State.decideFrame]

@[simp] theorem State.countSingle_memWf (s : State) (n : Net) : (s.countSingle n).memWf ↔ s.memWf := by
  simp [State.countSingle]

@[simp] theorem State.acceptSingle_memWf (s : State) (o : OpenCopy) : (s.acceptSingle o).memWf ↔ s.memWf := by
  simp [State.acceptSingle]

@[simp] theorem State.combine_memWf (s : State) (n : Net) (f : Frame) (role : FrameRole) :
    (s.combine n f role).memWf ↔ s.memWf := by
  unfold State.combine
  repeat' split
  all_goals simp

@[simp] theorem State.closeWindows_memWf (s : State) : s.closeWindows.memWf ↔ s.memWf := by
  simp [State.closeWindows, memWf_foldl]

@[simp] theorem State.guardPulse_memWf (s : State) (n : Net) (off : Int) : (s.guardPulse n off).memWf ↔ s.memWf := by
  simp [State.guardPulse]

@[simp] theorem State.guardMiss_memWf (s : State) (n : Net) : (s.guardMiss n).memWf ↔ s.memWf := by
  simp [State.guardMiss]

@[simp] theorem State.babbleNote_memWf (s : State) (n : Net) : (s.babbleNote n).memWf ↔ s.memWf := by
  simp only [State.babbleNote]
  split <;> split <;> simp

@[simp] theorem State.cutForward_memWf (s : State) (p : Port) (n : Net) (f : AnyFrame) (ns : Nat) :
    (s.cutForward p n f ns).memWf ↔ s.memWf := by
  simp only [State.cutForward]
  split <;> simp

@[simp] theorem State.sendCold_memWf (s : State) : s.sendCold.memWf ↔ s.memWf := by
  simp [State.sendCold]

@[simp] theorem State.enterColdstart_memWf (s : State) : s.enterColdstart.memWf ↔ s.memWf := by
  simp [State.enterColdstart]

@[simp] theorem State.ltExpiry_memWf (s : State) : s.ltExpiry.memWf ↔ s.memWf := by
  simp [State.ltExpiry]

@[simp] theorem State.coldEnd_memWf (s : State) : s.coldEnd.memWf ↔ s.memWf := by
  simp [State.coldEnd]

@[simp] theorem State.enterReset_memWf (s : State) : s.enterReset.memWf ↔ s.memWf := by
  simp [State.enterReset]

@[simp] theorem State.lastDelivery_memWf (s : State) : s.lastDelivery.memWf ↔ s.memWf := by
  simp [State.lastDelivery]

@[simp] theorem State.endDebug_memWf (s : State) (v : Vtx) : (s.endDebug v).memWf ↔ s.memWf := by
  simp [State.endDebug]

@[simp] theorem State.endDebugs_memWf (s : State) : s.endDebugs.memWf ↔ s.memWf := by
  simp [State.endDebugs, memWf_foldl]

@[simp] theorem State.tuningCleared_memWf (s : State) : s.tuningCleared.memWf ↔ s.memWf := by
  simp [State.tuningCleared]

@[simp] theorem State.setArea_memWf (s : State) (n : Nat) (g : Stg) (b : List Byte) : (s.setArea n g b).memWf ↔ s.memWf := by
  simp [State.setArea]

@[simp] theorem State.clearArea_memWf (s : State) (n : Nat) : (s.clearArea n).memWf ↔ s.memWf := by
  simp [State.clearArea]

@[simp] theorem State.patchDiscarded_memWf (s : State) (b : List Byte) (why item : Nat) :
    (s.patchDiscarded b why item).memWf ↔ s.memWf := by
  simp [State.patchDiscarded]

@[simp] theorem State.paramDiscarded_memWf (s : State) (b : List Byte) (why : Nat) :
    (s.paramDiscarded b why).memWf ↔ s.memWf := by
  simp [State.paramDiscarded]

@[simp] theorem State.discard_memWf (s : State) (n why : Nat) : (s.discard n why).memWf ↔ s.memWf := by
  unfold State.discard
  repeat' split
  all_goals simp

@[simp] theorem State.staleList_memWf (s : State) : s.staleList.memWf ↔ s.memWf := by
  simp [State.staleList]

@[simp] theorem State.keepWithdrawn_memWf (s : State) : s.keepWithdrawn.memWf ↔ s.memWf := by
  simp [State.keepWithdrawn]

@[simp] theorem State.eccTrap_memWf (s : State) (v : Vtx) (a : Nat) : (s.eccTrap v a).memWf ↔ s.memWf := by
  simp [State.eccTrap]

@[simp] theorem State.modRunning_memWf {s : State} {v : Vtx} {f : Vertex → Vertex}
    (hf : (f (s.v v)).mem.wf ↔ (s.v v).mem.wf) : (s.modRunning v f).memWf ↔ s.memWf := by
  simp [State.modRunning, hf]

@[simp] theorem State.localCleared_memWf (s : State) : s.localCleared.memWf ↔ s.memWf := by
  simp [State.localCleared]

@[simp] theorem State.restart_memWf (s : State) : s.restart.memWf ↔ s.memWf := by
  simp [State.restart]

@[simp] theorem State.activateReset_memWf (s : State) : s.activateReset.memWf ↔ s.memWf := by
  simp [State.activateReset]

@[simp] theorem State.respond_memWf (s : State) (c : Chan) (code : Nat) (tag : BitVec 16) (r : Res) (body : List Byte) :
    (s.respond c code tag r body).memWf ↔ s.memWf := by
  simp [State.respond]

@[simp] theorem State.touchSess_memWf (s : State) (n : Sess) : (s.touchSess n).memWf ↔ s.memWf := by
  simp [State.touchSess]

@[simp] theorem State.changeLog_memWf (s : State) (role chan code sess item : Nat) (r : Res) :
    (s.changeLog role chan code sess item r).memWf ↔ s.memWf := by
  simp [State.changeLog]

@[simp] theorem State.answer_memWf (s : State) (n : Sess) (code : Nat) (tag : BitVec 16) (item : Nat) (r : Res) :
    (s.answer n code tag item r).memWf ↔ s.memWf := by
  simp [State.answer]

@[simp] theorem State.request_memWf (s : State) (n : Sess) (code : Nat) (tag : BitVec 16) (item : Nat) (r : Res)
    (f : State → State) (hf : ∀ t, (f t).memWf ↔ t.memWf) :
    (s.request n code tag item r f).memWf ↔ s.memWf := by
  simp only [State.request]
  split
  · rfl
  · split <;> simp [hf]

@[simp] theorem State.query_memWf (s : State) (n : Sess) (code : Nat) (tag : BitVec 16) (r : Res) (body : List Byte)
    (f : State → State) (hf : ∀ t, (f t).memWf ↔ t.memWf) :
    (s.query n code tag r body f).memWf ↔ s.memWf := by
  simp only [State.query]
  split
  · rfl
  · split <;> simp [hf]

@[simp] theorem State.dropDownload_memWf (s : State) (why : Nat) : (s.dropDownload why).memWf ↔ s.memWf := by
  simp [State.dropDownload]

@[simp] theorem State.closeSess_memWf (s : State) (n : Sess) : (s.closeSess n).memWf ↔ s.memWf := by
  simp only [State.closeSess, State.modUpd_memWf]
  split <;> split <;> simp

@[simp] theorem State.loginFails_memWf (s : State) (r : Role) : (s.loginFails r).memWf ↔ s.memWf := by
  simp [State.loginFails]

@[simp] theorem State.placeItem_memWf (s : State) (chan role kind : Nat) (cmd : Word) (body : List Byte) :
    (s.placeItem chan role kind cmd body).memWf ↔ s.memWf := by
  simp [State.placeItem]

@[simp] theorem State.postItem_memWf (s : State) : s.postItem.memWf ↔ s.memWf := Iff.rfl

@[simp] theorem State.writeHstat_memWf {s : State} (h : s.memWf) (ready : Bool) : (s.writeHstat ready).memWf :=
    ⟨h.1, Memory.wf_store h.2 ..⟩

@[simp] theorem State.modPtp_memWf (s : State) (f : Ptp → Ptp) : (s.modPtp f).memWf ↔ s.memWf := by
  simp [State.modPtp]

@[simp] theorem State.ignoreProfile_memWf (s : State) : s.ignoreProfile.memWf ↔ s.memWf := by
  simp [State.ignoreProfile]

@[simp] theorem State.clockState_memWf (s : State) (c : ClkState) : (s.clockState c).memWf ↔ s.memWf := by
  simp [State.clockState]

@[simp] theorem State.setRate_memWf (s : State) (r : Int) : (s.setRate r).memWf ↔ s.memWf := by
  simp [State.setRate]

@[simp] theorem State.showMaster_memWf (s : State) (id : Long) (cls prio1 prio2 steps : Nat) :
    (s.showMaster id cls prio1 prio2 steps).memWf ↔ s.memWf := by
  simp [State.showMaster]

@[simp] theorem State.selectMaster_memWf (s : State) (m : MasterInfo) : (s.selectMaster m).memWf ↔ s.memWf := by
  unfold State.selectMaster
  repeat' split
  all_goals simp

@[simp] theorem State.becomeMaster_memWf (s : State) : s.becomeMaster.memWf ↔ s.memWf := by
  simp [State.becomeMaster]

@[simp] theorem State.timeAcquired_memWf (s : State) : s.timeAcquired.memWf ↔ s.memWf := by
  simp [State.timeAcquired]

@[simp] theorem State.betterMaster_memWf (s : State) (c : Long) : (s.betterMaster c).memWf ↔ s.memWf := by
  simp [State.betterMaster]

@[simp] theorem State.announce_memWf (s : State) (m : MasterInfo) : (s.announce m).memWf ↔ s.memWf := by
  unfold State.announce
  repeat' split
  all_goals simp

@[simp] theorem State.keepUtc_memWf (s : State) (c : Long) (u : Int) : (s.keepUtc c u).memWf ↔ s.memWf := by
  simp [State.keepUtc]

@[simp] theorem State.beginChoice_memWf (s : State) (m : MasterInfo) : (s.beginChoice m).memWf ↔ s.memWf := by
  simp [State.beginChoice]

@[simp] theorem State.netDiff_memWf (s : State) (n : Net) : (s.netDiff n).memWf ↔ s.memWf := by
  unfold State.netDiff
  repeat' split
  all_goals simp

@[simp] theorem State.stepClock_memWf (s : State) (n : Net) (origin : Nat) (corr : Int) :
    (s.stepClock n origin corr).memWf ↔ s.memWf := by
  simp [State.stepClock]

@[simp] theorem State.servo_memWf (s : State) (base : Int) : (s.servo base).memWf ↔ s.memWf := by
  simp [State.servo]

@[simp] theorem State.timeJump_memWf (s : State) (prev : Option Int) (off : Int) : (s.timeJump prev off).memWf ↔ s.memWf := by
  simp [State.timeJump]

@[simp] theorem State.syncUsed_memWf (s : State) (n : Net) (origin : Nat) (corr off : Int) (prev : Option Int) :
    (s.syncUsed n origin corr off prev).memWf ↔ s.memWf := by
  unfold State.syncUsed
  repeat' split
  all_goals simp

@[simp] theorem State.measureRate_memWf (s : State) (n : Net) (origin : Nat) (corr : Int) :
    (s.measureRate n origin corr).memWf ↔ s.memWf := by
  simp [State.measureRate]

@[simp] theorem State.sync_memWf (s : State) (n : Net) (origin : Nat) (corr : Int) :
    (s.sync n origin corr).memWf ↔ s.memWf := by
  simp [State.sync]

@[simp] theorem State.firstPath_memWf (s : State) (n : Net) (d pd0 : Nat) : (s.firstPath n d pd0).memWf ↔ s.memWf := by
  simp [State.firstPath]

@[simp] theorem State.storeEdge_memWf (s : State) (e : EdgeEntry) : (s.storeEdge e).memWf ↔ s.memWf := by
  simp [State.storeEdge]

@[simp] theorem State.takeEdge_memWf (s : State) (copies : Tri EdgeEntry) : (s.takeEdge copies).memWf ↔ s.memWf := by
  unfold State.takeEdge
  dsimp only
  repeat' split
  all_goals simp

@[simp] theorem State.stage_memWf (s : State) (n target : Nat) (b : List Byte) : (s.stage n target b).memWf ↔ s.memWf := by
  simp [State.stage]

@[simp] theorem State.copySet_memWf (s : State) (n kind : Nat) : (s.copySet n kind).memWf ↔ s.memWf := by
  simp [State.copySet]

@[simp] theorem State.copyOne_memWf (s : State) (n : Nat) (v : Vtx) (b : List Byte) : (s.copyOne n v b).memWf ↔ s.memWf := by
  simp [State.copyOne, memWf_foldl]

@[simp] theorem State.makeCopies_memWf (s : State) : s.makeCopies.memWf ↔ s.memWf := by
  simp [State.makeCopies, memWf_foldl]

@[simp] theorem State.setStore_memWf {s : State} (h : s.memWf) (v : Vtx) (n a val : Nat) : (s.setStore v n a val).memWf := by
  simp only [State.setStore]
  split
  · exact h
  · split
    · simpa using h
    · rw [State.phase0Store_memWf]
      refine State.memWf_modV h v fun hv => VMem.wf_store ?_ ..
      split <;> simpa using hv

@[simp] theorem State.tuneStore_memWf {s : State} (h : s.memWf) (v : Vtx) (k : Nat) (t : Tunable) (val : Nat) :
    (s.tuneStore v k t val).memWf := by
  simpa [State.tuneStore] using State.setStore_memWf h v (tunableSize t.typ) t.addr (val % 2 ^ (8 * tunableSize t.typ))

@[simp] theorem State.tuneOne_memWf {s : State} (hs : s.memWf) (h : AppHeader) (v : Vtx) : (s.tuneOne h v).memWf := by
  rw [State.tuneOne, State.modRunning_memWf Iff.rfl]
  exact memWf_foldl_of _ hs fun _ _ ht => State.tuneStore_memWf ht ..

@[simp] theorem State.applyPatch_memWf {s : State} (hs : s.memWf) (h : AppHeader) (b : List Byte) : (s.applyPatch h b).memWf := by
  simp only [State.applyPatch, State.clearArea_memWf, State.recBody_memWf]
  exact memWf_foldl_of _ hs fun _ _ ht => State.tuneOne_memWf ht ..

@[simp] theorem State.patchDue_memWf {s : State} (h : s.memWf) : s.patchDue.memWf := by
  unfold State.patchDue
  repeat' split
  all_goals simp [h]

@[simp] theorem State.renewClears_memWf (s : State) (p : IoParams) : (s.renewClears p).memWf ↔ s.memWf := by
  unfold State.renewClears
  refine memWf_foldl _ fun t k => (memWf_foldl _ fun u i => ?_).trans ?_
  · simp
  · simp

@[simp] theorem State.ioDue_memWf (s : State) : s.ioDue.memWf ↔ s.memWf := by
  unfold State.ioDue
  repeat' split
  all_goals simp

@[simp] theorem State.requestMode_memWf (s : State) (m : Mode) (c : MCause) (w : Word) :
    (s.requestMode m c w).memWf ↔ s.memWf := by
  simp [State.requestMode]

@[simp] theorem takeIf_memWf (good : Bool) (r : Res) (s t : State) (h : t.memWf ↔ s.memWf) :
    (takeIf good r s t).2.memWf ↔ s.memWf := by
  unfold takeIf
  split
  · exact h
  · rfl

@[simp] theorem State.takeWithdraw_memWf (s : State) (v : Vtx) (w : Word) : (s.takeWithdraw v w).2.memWf ↔ s.memWf := by
  simp [State.takeWithdraw]

@[simp] theorem State.takeDebug_memWf (s : State) (v : Vtx) (ends : Bool) : (s.takeDebug v ends).2.memWf ↔ s.memWf := by
  unfold State.takeDebug
  repeat' split
  all_goals simp

@[simp] theorem State.takeRejoin_memWf (s : State) (v : Vtx) (w : Word) : (s.takeRejoin v w).2.memWf ↔ s.memWf := by
  simp [State.takeRejoin]

@[simp] theorem State.takeHandover_memWf (s : State) (w : Word) : (s.takeHandover w).2.memWf ↔ s.memWf := by
  unfold State.takeHandover
  repeat' split
  all_goals simp

@[simp] theorem State.stagePatch_memWf (s : State) : s.stagePatch.2.memWf ↔ s.memWf := by
  simp only [State.stagePatch]
  repeat' split
  all_goals simp

@[simp] theorem State.stageIo_memWf (s : State) : s.stageIo.2.memWf ↔ s.memWf := by
  simp only [State.stageIo]
  repeat' split
  all_goals simp

@[simp] theorem State.takeSchedule_memWf (s : State) : s.takeSchedule.2.memWf ↔ s.memWf := by
  simp only [State.takeSchedule]
  repeat' split
  all_goals simp

@[simp] theorem State.runCmd_memWf (s : State) (c : Cmd) (arg : Nat) (w : Word) : (s.runCmd c arg w).2.memWf ↔ s.memWf := by
  unfold State.runCmd
  dsimp only
  repeat' split
  all_goals simp

@[simp] theorem State.checkCmd_memWf (s : State) (w : Word) : (s.checkCmd w).2.memWf ↔ s.memWf := by
  unfold State.checkCmd
  repeat' split
  all_goals simp

@[simp] theorem State.cmdRec_memWf (s : State) (w : Word) (r : Res) : (s.cmdRec w r).memWf ↔ s.memWf := by
  simp [State.cmdRec]

@[simp] theorem State.finishCmd_memWf (q : Taken) (w : Word) : (State.finishCmd q w).memWf ↔ q.2.memWf := by
  unfold State.finishCmd
  dsimp only
  split <;> simp

@[simp] theorem State.takeCommand_memWf (s : State) (w : Word) : (s.takeCommand w).memWf ↔ s.memWf := by
  unfold State.takeCommand
  repeat' split
  all_goals simp

@[simp] theorem State.takeFirmware_memWf (s : State) (w : Word) : (s.takeFirmware w).memWf ↔ s.memWf := by
  simp only [State.takeFirmware]
  repeat' split
  all_goals simp

@[simp] theorem State.firmware_memWf (s : State) : s.firmware.memWf ↔ s.memWf := by
  simp [State.firmware]

@[simp] theorem State.timerInstr_memWf {s : State} (h : s.memWf) (v : Vtx) (f : FmtI) (w kind : Nat)
    (stp : Nat → Nat → Nat → Bool → TimerSlot → TimerSlot) :
    (s.timerInstr v f w kind stp).memWf := by
  refine State.run_memWf h fun x hx => ?_
  dsimp only
  repeat' split
  all_goals simp [Vertex.wf_storeTimer, hx]

@[simp] theorem State.edgeInstr_memWf {s : State} (h : s.memWf) (v : Vtx) (f : FmtM) (w : Nat) (q : Bool → Bool → Bool) :
    (s.edgeInstr v f w q).memWf := by
  refine State.run_memWf h fun x hx => ?_
  dsimp only
  repeat' split
  all_goals simp [Vertex.wf_storeRec hx]

@[simp] theorem State.latInstr_memWf {s : State} (h : s.memWf) (v : Vtx) (f : FmtR) (bad : Bool) (wait : Vertex → Nat)
    (trap : Vertex → Bool) (words : Vertex → List Nat) (op : Vertex → LatRes) :
    (s.latInstr v f bad wait trap words op).memWf := by
  unfold State.latInstr
  extract_lets m body x
  have hbody : ∀ x, x.mem.wf → (body x).canonical := by
    intro x hx
    by_cases htrap : trap x = true
    · simp [body, htrap]
    · cases hbad : x.mem.firstBad (words x) <;> simp [body, htrap, hbad, hx]
  split
  · exact h
  · exact State.run_memWf h hbody

@[simp] theorem State.lreqInstr_memWf {s : State} (h : s.memWf) (v : Vtx) (f : FmtR) : (s.lreqInstr v f).memWf := by
  simp [State.lreqInstr, h]

@[simp] theorem State.lrelInstr_memWf {s : State} (h : s.memWf) (v : Vtx) (f : FmtR) : (s.lrelInstr v f).memWf := by
  simp [State.lrelInstr, h]

@[simp] theorem State.writeLaunch_memWf (s : State) (v : Vtx) (f : OwnWrites → OwnWrites) :
    (s.writeLaunch v f).memWf ↔ s.memWf := by
  simp [State.writeLaunch]

@[simp] theorem State.writeLout_memWf (s : State) (v : Vtx) (val : Word) : (s.writeLout v val).memWf ↔ s.memWf := by
  simp [State.writeLout]

@[simp] theorem State.ttbCtl_memWf (s : State) (v : Vtx) : (s.ttbCtl v).memWf ↔ s.memWf := by
  simp [State.ttbCtl]

@[simp] theorem State.ttbFlagWrite_memWf (s : State) (v : Vtx) (val : Word) : (s.ttbFlagWrite v val).memWf ↔ s.memWf := by
  simp [State.ttbFlagWrite]

@[simp] theorem State.ntmCtl_memWf (s : State) (v : Vtx) : (s.ntmCtl v).memWf ↔ s.memWf := by
  simp [State.ntmCtl]

@[simp] theorem State.ntmFlagWrite_memWf (s : State) (v : Vtx) (val : Word) : (s.ntmFlagWrite v val).memWf ↔ s.memWf := by
  simp [State.ntmFlagWrite]

@[simp] theorem State.sioCtl_memWf (s : State) (v : Vtx) : (s.sioCtl v).memWf ↔ s.memWf := by
  simp [State.sioCtl]

@[simp] theorem State.chdCtl_memWf (s : State) (v : Vtx) : (s.chdCtl v).memWf ↔ s.memWf := by
  simp [State.chdCtl]

@[simp] theorem State.writeCyc_memWf (s : State) (v : Vtx) (off : Nat) (val : Word) :
    (s.writeCyc v off val).memWf ↔ s.memWf := by
  unfold State.writeCyc
  repeat' split
  all_goals simp

@[simp] theorem State.writeNtm_memWf (s : State) (v : Vtx) (off : Nat) (val : Word) :
    (s.writeNtm v off val).memWf ↔ s.memWf := by
  unfold State.writeNtm
  repeat' split
  all_goals simp

@[simp] theorem State.debugStart_memWf (s : State) (v : Vtx) (one : Bool) : (s.debugStart v one).memWf ↔ s.memWf := by
  simp only [State.debugStart]
  split <;> simp

@[simp] theorem State.debugGo_memWf (s : State) (v : Vtx) (one : Bool) : (s.debugGo v one).memWf ↔ s.memWf := by
  simp [State.debugGo]

@[simp] theorem State.writeDbg_memWf (s : State) (v : Vtx) (off : Nat) (val : Word) :
    (s.writeDbg v off val).memWf ↔ s.memWf := by
  unfold State.writeDbg
  repeat' split
  all_goals simp

@[simp] theorem State.writeMbox_memWf (s : State) (off : Nat) (val : Word) : (s.writeMbox off val).memWf ↔ s.memWf := by
  simp only [State.writeMbox]
  split
  · split <;> simp
  · split
    · simp
    · split <;> simp

@[simp] theorem State.writeRecn_memWf (s : State) (val : Word) : (s.writeRecn val).memWf ↔ s.memWf := by
  simp only [State.writeRecn]
  repeat' split
  all_goals simp

@[simp] theorem State.hwinClear_memWf (s : State) : s.hwinClear.memWf ↔ s.memWf := by
  simp [State.hwinClear]

@[simp] theorem State.scrubShared_memWf (s : State) (p : Nat × Nat → Bool) : (s.scrubShared p).memWf ↔ s.memWf := by
  unfold State.scrubShared; split <;> rfl

@[simp] theorem State.windowStore_memWf {s : State} (h : s.memWf) (a n x : Nat) : (s.windowStore a n x).memWf := by
  have hs : (s.scrubShared (inWindowWords a n)).memWf := (State.scrubShared_memWf ..).mpr h
  exact ⟨hs.1, Memory.wf_store hs.2 ..⟩

@[simp] theorem State.busError_memWf (s : State) (a : Nat) : (s.busError a).memWf ↔ s.memWf := by
  simp [State.busError]

@[simp] theorem State.k3mWrite_memWf {s : State} (h : s.memWf) (a : Nat) (val : Word) : (s.k3mWrite a val).memWf := by
  unfold State.k3mWrite
  repeat' split
  all_goals simp [h]

theorem State.modMem_memWf {s : State} (h : s.memWf) {f : VMem → VMem} (hf : ∀ m, m.wf → (f m).wf) : (s.modMem f).memWf :=
  State.memWf_modAll h fun _ => hf _

@[simp] theorem State.freezeSlot_memWf {s : State} (h : s.memWf) (n : Nat) (b : Binding) (l : List (Nat × SlotDesc)) :
    (s.freezeSlot n b l).memWf := by
  unfold State.freezeSlot
  split
  · exact State.modMem_memWf h fun _ hm => VMem.wf_putIn hm ..
  · dsimp only
    split
    · exact State.modMem_memWf h fun _ hm => VMem.wf_putIn (VMem.wf_putInAll hm ..) ..
    · rw [State.modTtb_memWf]
      exact State.modMem_memWf h fun _ hm => VMem.wf_putIn (VMem.wf_ageOut hm ..) ..

@[simp] theorem State.freezeEvent_memWf {s : State} (h : s.memWf) (n : Nat) (b : Binding) : (s.freezeEvent n b).memWf := by
  simp only [State.freezeEvent, State.modNic_memWf]
  exact State.modMem_memWf h fun _ hm => VMem.wf_putIn (VMem.wf_putInAll hm ..) ..

@[simp] theorem State.freezeLocal_memWf {s : State} (h : s.memWf) (b : Binding) (good : Tri Bool) :
    (s.freezeLocal b good).memWf := by
  simp only [State.freezeLocal, State.modSio_memWf]
  exact State.memWf_modAll h fun _ hv => VMem.wf_putIn (VMem.wf_putInAll hv ..) ..

@[simp] theorem State.freezeEdge_memWf {s : State} (h : s.memWf) (b : Binding) : (s.freezeEdge b).memWf := by
  have hput : ∀ words, (s.modMem fun m => (m.putInAll (imageWord b.pay) words).putIn (imageWord b.stat) 0).memWf := fun _ =>
    State.modMem_memWf h fun _ hm => VMem.wf_putIn (VMem.wf_putInAll hm ..) ..
  exact hput _

@[simp] theorem State.freezeBinding_memWf {s : State} (hs : s.memWf) (h : AppHeader) (good : Tri Bool) (n : Nat) (b : Binding) :
    (s.freezeBinding h good n b).memWf := by
  unfold State.freezeBinding
  repeat' split
  all_goals simp [hs]

@[simp] theorem State.freezeInputs_memWf {s : State} (h : s.memWf) (tasks : List Nat) (good : Tri Bool) :
    (s.freezeInputs tasks good).memWf := by
  unfold State.freezeInputs
  split
  · exact h
  · exact memWf_foldl_of _ h fun _ _ ht => State.freezeBinding_memWf ht ..

@[simp] theorem State.sendChunks_memWf (s : State) (img img1 img2 : List Byte) (n : Nat) :
    (s.sendChunks img img1 img2 n).memWf ↔ s.memWf := by
  simp [State.sendChunks, memWf_foldl]

@[simp] theorem State.readMirror_memWf (s : State) (l : List Vtx) : (s.readMirror l).memWf ↔ s.memWf := by
  simp [State.readMirror, memWf_foldl]

@[simp] theorem State.abandonBad_memWf (s : State) (l : List Vtx) : (s.abandonBad l).memWf ↔ s.memWf := by
  simp only [State.abandonBad, State.modChd_memWf]
  refine memWf_foldl _ fun t v => ?_
  split <;> simp

@[simp] theorem State.sendImages_memWf (s : State) (u w : Vtx) : (s.sendImages u w).memWf ↔ s.memWf := by
  simp only [State.sendImages]
  repeat' split
  all_goals simp

@[simp] theorem State.sendSet_memWf (s : State) (u w : Vtx) : (s.sendSet u w).memWf ↔ s.memWf := by
  simp only [State.sendSet]
  split <;> simp

@[simp] theorem State.applyTuning_memWf {s : State} (h : s.memWf) (v : Vtx) (b : List Byte) (l : List Tunable) :
    (s.applyTuning v b l).memWf := by
  simp only [State.applyTuning]
  rw [State.modRunning_memWf Iff.rfl]
  refine memWf_foldl_of _ h fun t p ht => ?_
  split
  · exact ht
  · rw [State.modRunning_memWf Iff.rfl]
    exact State.setStore_memWf ht ..

@[simp] theorem State.streamStaging_memWf (s : State) (v : Vtx) (g : List Byte) : (s.streamStaging v g).memWf ↔ s.memWf := by
  simp [State.streamStaging, memWf_foldl]

@[simp] theorem State.writeLattice_memWf (s : State) (v : Vtx) (b : List Byte) : (s.writeLattice v b).memWf ↔ s.memWf := by
  simp only [State.writeLattice]
  refine (memWf_foldl _ fun _ _ => by simp).trans ((memWf_foldl _ fun _ _ => by simp).trans ?_)
  exact State.modV_memWf Iff.rfl

@[simp] theorem State.applyLattice_memWf (s : State) (v : Vtx) (b : List Byte) : (s.applyLattice v b).memWf ↔ s.memWf := by
  simp only [State.applyLattice]
  repeat' split
  all_goals simp

@[simp] theorem State.applyRegions_memWf {s : State} (h : s.memWf) (v : Vtx) (l : List (Nat × Nat)) (b : List Byte) :
    (s.applyRegions v l b).memWf := by
  induction l generalizing s b with
  | nil => exact h
  | cons p l ih => exact ih (memWf_foldl_of _ h fun _ _ ht => State.setStore_memWf ht ..) _

@[simp] theorem State.applySet_memWf {s : State} (h : s.memWf) (v : Vtx) : (s.applySet v).memWf := by
  simp [State.applySet, h]

@[simp] theorem State.takeStaging_memWf (s : State) (b : List Byte) : (s.takeStaging b).memWf ↔ s.memWf := by
  simp [State.takeStaging]

@[simp] theorem State.applyAll_memWf {s : State} (h : s.memWf) (r : RxSet) : (s.applyAll r).memWf := by
  have htraps : (s.appliers.foldl (fun u v =>
      match (u.v v).mem.firstBad u.receiveWords with
      | some a => u.eccTrap v a
      | none => u) s).memWf := by
    refine (memWf_foldl _ fun t v => ?_).mpr h
    split <;> simp
  simp only [State.applyAll, State.modChd_memWf, State.takeStaging_memWf]
  refine memWf_foldl_of _ (State.memWf_modAll htraps fun v hv => ?_) fun _ _ ht => State.applySet_memWf ht ..
  split <;> exact hv

@[simp] theorem State.setAtBoundary_memWf {s : State} (h : s.memWf) (f : Nat) : (s.setAtBoundary f).1.memWf := by
  simp only [State.setAtBoundary]
  repeat' split
  all_goals simp [h]

@[simp] theorem State.chordErr_memWf (s : State) (l : Link) : (s.chordErr l).memWf ↔ s.memWf := by
  simp [State.chordErr]

@[simp] theorem State.seniorConflict_memWf (s : State) (build mid : Nat) : (s.seniorConflict build mid).memWf ↔ s.memWf := by
  simp [State.seniorConflict]

@[simp] theorem State.buildMismatch_memWf (s : State) (b : Beat) : (s.buildMismatch b).memWf ↔ s.memWf := by
  simp [State.buildMismatch]

@[simp] theorem State.joinHandover_memWf (s : State) (b : Nat) : (s.joinHandover b).memWf ↔ s.memWf := by
  unfold State.joinHandover
  repeat' split
  all_goals simp

@[simp] theorem State.nowReady_memWf (s : State) : s.nowReady.memWf ↔ s.memWf := by
  unfold State.nowReady
  repeat' split
  all_goals simp

@[simp] theorem State.judgeHandover_memWf (s : State) (b : Nat) : (s.judgeHandover b).memWf ↔ s.memWf := by
  unfold State.judgeHandover
  dsimp only
  repeat' split
  all_goals simp

@[simp] theorem State.handoverBits_memWf (s : State) (b : Beat) : (s.handoverBits b).memWf ↔ s.memWf := by
  simp [State.handoverBits]

@[simp] theorem State.abdicated_memWf (s : State) : s.abdicated.memWf ↔ s.memWf := by
  simp [State.abdicated]

@[simp] theorem State.acceptBeat_memWf (s : State) (b : Beat) : (s.acceptBeat b).memWf ↔ s.memWf := by
  simp [State.acceptBeat]

@[simp] theorem State.becomeActive_memWf (s : State) (m : MCause) (cause : Nat) : (s.becomeActive m cause).memWf ↔ s.memWf := by
  simp [State.becomeActive]

@[simp] theorem State.homeReturn_memWf (s : State) : s.homeReturn.memWf ↔ s.memWf := by
  simp [State.homeReturn]

@[simp] theorem State.readPosition_memWf (s : State) (j : Tri J6Sample) : (s.readPosition j).memWf ↔ s.memWf := by
  unfold State.readPosition
  rw [memWf_foldl]
  · rfl
  · intro t a; split <;> simp

@[simp] theorem State.modSeals_memWf (s : State) (f : Seals → Seals) : (s.modSeals f).memWf ↔ s.memWf := by
  simp [State.modSeals]

@[simp] theorem State.countSeal_memWf (s : State) (k : Nat) : (s.countSeal k).memWf ↔ s.memWf := by
  simp [State.countSeal]

@[simp] theorem State.sealChange_memWf (s : State) (k : Nat) : (s.sealChange k).memWf ↔ s.memWf := by
  unfold State.sealChange
  repeat' split
  all_goals simp

@[simp] theorem State.sealDisagree_memWf (s : State) (k : Nat) : (s.sealDisagree k).memWf ↔ s.memWf := by
  simp [State.sealDisagree]

@[simp] theorem State.readSeals_memWf (s : State) (r : Tri (BitVec 4)) : (s.readSeals r).memWf ↔ s.memWf := by
  simp [State.readSeals, memWf_foldl]

@[simp] theorem State.setSeals_memWf (s : State) (r : Tri (BitVec 4)) : (s.setSeals r).memWf ↔ s.memWf := by
  simp only [State.setSeals]
  rw [memWf_foldl]
  · simp
  · intro t a; split <;> simp

@[simp] theorem State.mailboxCopy_memWf (s : State) : s.mailboxCopy.memWf ↔ s.memWf := by
  simp [State.mailboxCopy]

@[simp] theorem State.k3mLive_memWf (s : State) (g : Nat) : (s.k3mLive g).memWf ↔ s.memWf := by
  simp [State.k3mLive]

@[simp] theorem State.endOfCycle_memWf (s : State) (v : Vtx) : (s.endOfCycle v).memWf ↔ s.memWf := by
  simp [State.endOfCycle, memWf_foldl]

@[simp] theorem State.clockTrap_memWf {s : State} (h : s.memWf) (v : Vtx) (c : TrapCause) (count : Nat) :
    (s.clockTrap v c count).memWf := by
  simp only [State.clockTrap]
  split
  · rw [State.raiseTrap_memWf]
    exact State.memWf_setV h v (Vertex.wf_undoFirst (h.1 v) _)
  · simpa using h

@[simp] theorem State.latchShadows_memWf (s : State) : s.latchShadows.memWf ↔ s.memWf := by
  simp [State.latchShadows]

@[simp] theorem State.phase2Vertex_memWf {s : State} (h : s.memWf) (v : Vtx) : (s.phase2Vertex v).memWf := by
  unfold State.phase2Vertex
  dsimp only
  repeat' split
  all_goals simp [h]

@[simp] theorem State.modSlice_memWf (s : State) (y : Vtx) (f : Slice → Slice) : (s.modSlice y f).memWf ↔ s.memWf := by
  simp [State.modSlice]

@[simp] theorem State.sliceNoMaj_memWf (s : State) (y : Vtx) (typ seq : Nat) : (s.sliceNoMaj y typ seq).memWf ↔ s.memWf := by
  simp [State.sliceNoMaj]

@[simp] theorem State.sliceDrop_memWf (s : State) (y v : Vtx) (c : XCause) (typ seq : Nat) :
    (s.sliceDrop y v c typ seq).memWf ↔ s.memWf := by
  simp only [State.sliceDrop]
  repeat' split
  all_goals simp

@[simp] theorem State.sliceExclude_memWf (s : State) (y v : Vtx) (c : XCause) (typ seq : Nat) :
    (s.sliceExclude y v c typ seq).memWf ↔ s.memWf := by
  simp [State.sliceExclude]

@[simp] theorem State.sendVrd_memWf (s : State) (y : Vtx) : (s.sendVrd y).memWf ↔ s.memWf := by
  simp [State.sendVrd]

@[simp] theorem State.sendKey_memWf (s : State) (y : Vtx) (verdict : Nat) : (s.sendKey y verdict).memWf ↔ s.memWf := by
  simp [State.sendKey]

@[simp] theorem State.keyDue_memWf (s : State) (y : Vtx) : (s.keyDue y).memWf ↔ s.memWf := by
  unfold State.keyDue
  repeat' split
  all_goals simp

@[simp] theorem State.acceptEntry_memWf (s : State) (y : Vtx) (blind : Bool) (ms : List Vtx) (e : Entry) :
    (s.acceptEntry y blind ms e).memWf ↔ s.memWf := by
  unfold State.acceptEntry
  dsimp only
  repeat' split
  all_goals simp

@[simp] theorem State.outvoted_memWf (s : State) (y v x : Vtx) (d : Long) (seq : Nat) :
    (s.outvoted y v x d seq).memWf ↔ s.memWf := by
  simp only [State.outvoted]
  split <;> simp

theorem State.splitVerdict_memWf (s : State) (y u v : Vtx) (a b : Entry) (t : State)
    (h : s.splitVerdict y u v a b = some t) : t.memWf ↔ s.memWf := by
  unfold State.splitVerdict at h
  repeat' split at h
  all_goals cases h
  all_goals simp

theorem State.decideOne_memWf (s : State) (y : Vtx) (blind : Bool) (t : State) (h : s.decideOne y blind = some t) :
    t.memWf ↔ s.memWf := by
  unfold State.decideOne at h
  dsimp only at h
  repeat' split at h
  any_goals cases h
  any_goals simp
  all_goals exact State.splitVerdict_memWf _ _ _ _ _ _ _ h

@[simp] theorem State.decideAll_memWf (s : State) (y : Vtx) (blind : Bool) (n : Nat) :
    (s.decideAll y blind n).memWf ↔ s.memWf := by
  induction n generalizing s with
  | zero => rfl
  | succ n ih =>
    rw [State.decideAll]
    split
    · next t h => rw [ih, State.decideOne_memWf s y blind t h]
    · rfl

@[simp] theorem State.decideSlice_memWf (s : State) (y : Vtx) (blind : Bool) : (s.decideSlice y blind).memWf ↔ s.memWf := by
  simp [State.decideSlice]

@[simp] theorem State.takeVrd_memWf (s : State) (y x : Vtx) (blind : Bool) (e : Entry) :
    (s.takeVrd y x blind e).memWf ↔ s.memWf := by
  simp [State.takeVrd]

@[simp] theorem State.verdictLimit_memWf (s : State) (y : Vtx) : (s.verdictLimit y).memWf ↔ s.memWf := by
  simp only [State.verdictLimit]
  split <;> simp

@[simp] theorem State.compareTrial_memWf (s : State) (y r : Vtx) : (s.compareTrial y r).memWf ↔ s.memWf := by
  simp [State.compareTrial]

@[simp] theorem State.trialCheck_memWf (s : State) (y : Vtx) : (s.trialCheck y).memWf ↔ s.memWf := by
  unfold State.trialCheck
  repeat' split
  all_goals simp

@[simp] theorem State.skewCheck_memWf (s : State) (y : Vtx) : (s.skewCheck y).memWf ↔ s.memWf := by
  unfold State.skewCheck
  repeat' split
  all_goals simp

@[simp] theorem State.takeEntry_memWf (s : State) (y x : Vtx) (blind : Bool) (e : Entry) :
    (s.takeEntry y x blind e).memWf ↔ s.memWf := by
  simp only [State.takeEntry]
  repeat' split
  all_goals simp

@[simp] theorem State.takeTrial_memWf (s : State) (y x : Vtx) (e : Entry) : (s.takeTrial y x e).memWf ↔ s.memWf := by
  simp only [State.takeTrial]
  repeat' split
  all_goals simp

@[simp] theorem State.excludeLate_memWf (s : State) (y : Vtx) (n : Nat) : (s.excludeLate y n).memWf ↔ s.memWf := by
  simp [State.excludeLate, memWf_foldl]

@[simp] theorem State.flushWd_memWf (s : State) : s.flushWd.memWf ↔ s.memWf := by
  refine memWf_foldl _ fun t v => ?_
  split
  · split <;> simp
  · rfl

@[simp] theorem State.trialLate_memWf (s : State) (n : Nat) : (s.trialLate n).memWf ↔ s.memWf := by
  unfold State.trialLate
  repeat' split
  all_goals simp

@[simp] theorem State.loadInitial_memWf {s : State} (h : s.memWf) : s.loadInitial.memWf := by
  unfold State.loadInitial
  split
  · exact h
  · next c _ =>
    have hload : (s.modAll fun _ x => x.loadInitial c).memWf := State.memWf_modAll h fun _ hv => Vertex.wf_loadInitial hv c
    simpa using hload

@[simp] theorem State.soloStart_memWf {s : State} (h : s.memWf) : s.soloStart.memWf := by
  simp [State.soloStart, h]

@[simp] theorem State.modRejoin_memWf (s : State) (f : Rejoin → Rejoin) : (s.modRejoin f).memWf ↔ s.memWf := by
  simp [State.modRejoin]

@[simp] theorem State.rejoinStep_memWf (s : State) (k : Nat) : (s.rejoinStep k).memWf ↔ s.memWf := by
  simp [State.rejoinStep]

@[simp] theorem State.rejoinNext_memWf (s : State) (k : Nat) : (s.rejoinNext k).memWf ↔ s.memWf := by
  simp [State.rejoinNext]

@[simp] theorem State.copyPages_memWf {s : State} (h : s.memWf) (u v : Vtx) (l : List Nat) : (s.copyPages u v l).memWf := by
  have hpages : (s.modV v fun x => { x with mem := l.foldl (fun q p => q.copyPage (s.v u).mem p) x.mem }).memWf :=
    State.memWf_modV h v fun hv => VMem.wf_foldl (fun _ p hm => VMem.wf_copyPage hm (h.1 u) p) l hv
  exact State.memWf_modV hpages u fun hu => hu

@[simp] theorem State.copyBulk_memWf {s : State} (h : s.memWf) (u v : Vtx) : (s.copyBulk u v).memWf := by
  have hcopy : ∀ a n, (s.modV v fun x => { x with mem := x.mem.copyInst (s.v u).mem a n }).memWf := fun a n =>
    State.memWf_modV h v fun hv => VMem.wf_copyInst hv (h.1 u) a n
  simp only [State.copyBulk]
  split
  · simpa using h
  · split <;> simpa using hcopy _ _

@[simp] theorem State.copyFinal_memWf {s : State} (h : s.memWf) (u v : Vtx) (pages : List Nat) :
    (s.copyFinal u v pages).memWf := by
  simp only [State.copyFinal]
  split
  · simpa using h
  · have hpages := State.copyPages_memWf h u v pages
    have hread : ((s.copyPages u v pages).modV u fun y => y.scrub (s.fixedWords (s.v u))).memWf :=
      State.memWf_modV hpages u fun hu => hu
    rw [State.modRejoin_memWf, State.rejoinStep_memWf]
    exact State.memWf_modV hread v fun hv => VMem.wf_copyOutputs hv (h.1 u)

@[simp] theorem State.copyRound_memWf {s : State} (h : s.memWf) (u v : Vtx) : (s.copyRound u v).memWf := by
  simp only [State.copyRound]
  repeat' split
  all_goals simp [h]

@[simp] theorem State.copyShare_memWf {s : State} (h : s.memWf) (u v : Vtx) : (s.copyShare u v).memWf := by
  simp only [State.copyShare]
  repeat' split
  all_goals simp [h]

@[simp] theorem State.rejoinClear_memWf (s : State) : s.rejoinClear.memWf ↔ s.memWf := by
  simp [State.rejoinClear]

@[simp] theorem State.rejoinStart_memWf (s : State) : s.rejoinStart.memWf ↔ s.memWf := by
  simp [State.rejoinStart]

@[simp] theorem State.rejoinMark_memWf (s : State) : s.rejoinMark.memWf ↔ s.memWf := by
  unfold State.rejoinMark
  repeat' split
  all_goals simp

@[simp] theorem State.rejoinEnter_memWf (s : State) (k : Nat) : (s.rejoinEnter k).memWf ↔ s.memWf := by
  simp [State.rejoinEnter]

@[simp] theorem State.readmit_memWf (s : State) (v : Vtx) : (s.readmit v).memWf ↔ s.memWf := by
  simp only [State.readmit, State.record_memWf]
  exact (State.modAll_memWf fun _ => Iff.rfl).trans (State.modCen_memWf ..)

@[simp] theorem State.rejoinCount_memWf (s : State) : s.rejoinCount.memWf ↔ s.memWf := by
  simp [State.rejoinCount]

@[simp] theorem State.rejoinLimit_memWf (s : State) : s.rejoinLimit.memWf ↔ s.memWf := by
  simp [State.rejoinLimit]

@[simp] theorem State.rejoinBoundary_memWf (s : State) : s.rejoinBoundary.memWf ↔ s.memWf := by
  simp only [State.rejoinBoundary]
  repeat' split
  all_goals simp

@[simp] theorem State.coldRods_memWf (s : State) : s.coldRods.memWf ↔ s.memWf := by
  simp only [State.coldRods]
  repeat' split
  all_goals simp

@[simp] theorem State.takeoverDue_memWf (s : State) : s.takeoverDue.memWf ↔ s.memWf := by
  unfold State.takeoverDue
  repeat' split
  all_goals simp

@[simp] theorem State.yieldDue_memWf (s : State) : s.yieldDue.memWf ↔ s.memWf := by
  simp [State.yieldDue]

@[simp] theorem State.rodWork_memWf (s : State) : s.rodWork.memWf ↔ s.memWf := by
  simp [State.rodWork]

@[simp] theorem State.countClean_memWf (s : State) : s.countClean.memWf ↔ s.memWf := by
  simp [State.countClean]

@[simp] theorem State.lastFields_memWf (s : State) : s.lastFields.memWf ↔ s.memWf := by
  simp [State.lastFields]

@[simp] theorem State.openVertices_memWf (s : State) : s.openVertices.memWf ↔ s.memWf := by
  simp [State.openVertices]

@[simp] theorem State.openFurlong_memWf (s : State) : s.openFurlong.memWf ↔ s.memWf := by
  simp [State.openFurlong]

@[simp] theorem State.superviseClocks_memWf (s : State) (n : Tri Nat) : (s.superviseClocks n).memWf ↔ s.memWf := by
  simp [State.superviseClocks, memWf_foldl]

@[simp] theorem State.positionIsolate_memWf (s : State) : s.positionIsolate.memWf ↔ s.memWf := by
  simp [State.positionIsolate]

@[simp] theorem State.dropChange_memWf (s : State) : s.dropChange.memWf ↔ s.memWf := by
  unfold State.dropChange
  repeat' split
  all_goals simp

@[simp] theorem State.commandedChange_memWf (s : State) : s.commandedChange.memWf ↔ s.memWf := by
  unfold State.commandedChange
  repeat' split
  all_goals simp

@[simp] theorem State.busBoundary_memWf (s : State) : s.busBoundary.memWf ↔ s.memWf := by
  unfold State.busBoundary
  dsimp only
  repeat' split
  all_goals simp

@[simp] theorem State.isolatedDone_memWf (s : State) : s.isolatedDone.memWf ↔ s.memWf := by
  simp [State.isolatedDone]

@[simp] theorem State.startRule_memWf {s : State} (h : s.memWf) : s.startRule.memWf := by
  simp only [State.startRule]
  repeat' split
  all_goals simp [h]

@[simp] theorem State.resyncBoundary_memWf {s : State} (h : s.memWf) (applied : Bool) : (s.resyncBoundary applied).memWf := by
  unfold State.resyncBoundary
  split <;> simp [h]

@[simp] theorem State.cancelHandover_memWf (s : State) : s.cancelHandover.memWf ↔ s.memWf := by
  simp [State.cancelHandover]

@[simp] theorem State.toStandby_memWf (s : State) (c : MCause) : (s.toStandby c).memWf ↔ s.memWf := by
  simp [State.toStandby]

@[simp] theorem State.yieldBoundary_memWf (s : State) : s.yieldBoundary.memWf ↔ s.memWf := by
  simp only [State.yieldBoundary]
  repeat' split
  all_goals simp

@[simp] theorem State.pairBoundary_memWf (s : State) : s.pairBoundary.memWf ↔ s.memWf := by
  simp [State.pairBoundary]

@[simp] theorem State.ownChange_memWf {s : State} (h : s.memWf) (applied : Bool) : (s.ownChange applied).memWf := by
  unfold State.ownChange
  split <;> simp [h]

@[simp] theorem State.boundaryModes_memWf {s : State} (h : s.memWf) (applied halted : Bool) :
    (s.boundaryModes applied halted).memWf := by
  have hown : (s.ownChange applied).memWf := State.ownChange_memWf h applied
  simp only [State.boundaryModes]
  repeat' split
  all_goals simp [h, hown]

@[simp] theorem State.judgePosition_memWf (s : State) : s.judgePosition.memWf ↔ s.memWf := by
  simp [State.judgePosition]

@[simp] theorem State.withdrawBoundary_memWf (s : State) : s.withdrawBoundary.memWf ↔ s.memWf := by
  unfold State.withdrawBoundary
  repeat' split
  all_goals simp

@[simp] theorem State.patchBoundary_memWf {s : State} (h : s.memWf) (applied : Bool) (before : Mode) :
    (s.patchBoundary applied before).memWf := by
  unfold State.patchBoundary
  split <;> simp [h]

@[simp] theorem State.activationDue_memWf (s : State) : s.activationDue.memWf ↔ s.memWf := by
  simp [State.activationDue]

@[simp] theorem State.stagedBoundary_memWf {s : State} (h : s.memWf) (applied : Bool) (before : Mode) :
    (s.stagedBoundary applied before).memWf := by
  simp [State.stagedBoundary, h]

@[simp] theorem State.homeSeconds_memWf (s : State) (formed applied : Bool) :
    (s.homeSeconds formed applied).memWf ↔ s.memWf := by
  simp [State.homeSeconds]

@[simp] theorem State.boundaryFields_memWf (s : State) : s.boundaryFields.memWf ↔ s.memWf := by
  unfold State.boundaryFields
  repeat' split
  all_goals simp

@[simp] theorem State.boundaryLinks_memWf (s : State) (good : Tri Bool) : (s.boundaryLinks good).memWf ↔ s.memWf := by
  unfold State.boundaryLinks
  dsimp only
  split <;> simp

@[simp] theorem State.boundarySupply_memWf (s : State) (b : BoundaryIn) : (s.boundarySupply b).memWf ↔ s.memWf := by
  simp [State.boundarySupply]

@[simp] theorem State.clearHeard_memWf (s : State) : s.clearHeard.memWf ↔ s.memWf := by
  simp [State.clearHeard]

@[simp] theorem State.release_memWf {s : State} (h : s.memWf) (good : Tri Bool) : (s.release good).memWf := by
  unfold State.release
  split
  · exact h
  · refine State.freezeInputs_memWf (State.memWf_modAll h fun v hv => ?_) ..
    split <;> exact hv

@[simp] theorem State.phaseZeroEnd_memWf {s : State} (h : s.memWf) (b : BoundaryIn) : (s.phaseZeroEnd b).memWf := by
  simp [State.phaseZeroEnd, h]

@[simp] theorem State.wrongHandover_memWf (s : State) : s.wrongHandover.memWf ↔ s.memWf := by
  unfold State.wrongHandover
  repeat' split
  all_goals simp

@[simp] theorem State.phaseZero_memWf {s : State} (h : s.memWf) (b : BoundaryIn) (formed : Bool) (before : Mode) :
    (s.phaseZero b formed before).memWf := by
  simp only [State.phaseZero]
  have hread : ((s.readPosition b.j6).readSeals b.seals).memWf := by simpa using h
  have hset := State.setAtBoundary_memWf hread (s.fnum - 1)
  generalize ((s.readPosition b.j6).readSeals b.seals).setAtBoundary (s.fnum - 1) = q at hset ⊢
  have hmodes := fun halted => State.boundaryModes_memWf hset q.2 halted
  repeat' split
  all_goals simp [hmodes]

@[simp] theorem State.furlongBoundary_memWf {s : State} (h : s.memWf) (b : BoundaryIn) : (s.furlongBoundary b).memWf := by
  simp [State.furlongBoundary, h]

theorem State.modHwin_memWf {s : State} (h : s.memWf) {f : HostWin → HostWin} (hf : Memory.wf (f s.hwin).mem = true) :
    (s.modHwin f).memWf := ⟨h.1, hf⟩

@[simp] theorem State.j7Serve_memWf (s : State) (m : Message) : (s.j7Serve m).1.memWf ↔ s.memWf := by
  unfold State.j7Serve
  repeat' split
  all_goals simp

@[simp] theorem State.modKey_memWf (s : State) (r : Receiver) (f : KeyRx → KeyRx) : (s.modKey r f).memWf ↔ s.memWf := by
  unfold State.modKey
  repeat' split
  all_goals simp

@[simp] theorem State.queueFrames_memWf (s : State) (c : Channel) (l : List (List Word × List Word × List Word))
    (launch : Option Nat) :
    (s.queueFrames c l launch).memWf ↔ s.memWf := by
  simp [State.queueFrames, memWf_foldl]

@[simp] theorem State.suppressFrames_memWf (s : State) (n : Nat) : (s.suppressFrames n).memWf ↔ s.memWf := by
  simp [State.suppressFrames]

@[simp] theorem State.scrubTx_memWf (s : State) (v : Vtx) (l : List Nat) : (s.scrubTx v l).memWf ↔ s.memWf := by
  simp [State.scrubTx]

@[simp] theorem State.readTx_memWf (s : State) (vs : List Vtx) (l : List Nat) : (s.readTx vs l).memWf ↔ s.memWf := by
  simp [State.readTx, memWf_foldl]

@[simp] theorem State.commitChannel_memWf (s : State) (u w : Vtx) (c : Channel) (b : Binding) (told : Bool) :
    (s.commitChannel u w c b told).memWf ↔ s.memWf := by
  unfold State.commitChannel
  dsimp only
  repeat' split
  all_goals simp

@[simp] theorem State.commitChannels_memWf (s : State) (u w : Vtx) (told : List Nat) (l : List (Channel × Binding)) :
    (s.commitChannels u w told l).memWf ↔ s.memWf := by
  induction l generalizing s told with
  | nil => rfl
  | cons p l ih => rw [State.commitChannels, ih, State.commitChannel_memWf]

@[simp] theorem State.commitEvents_memWf (s : State) (u w : Vtx) (tasks : Nat) :
    (s.commitEvents u w tasks).memWf ↔ s.memWf := by
  simp [State.commitEvents]

@[simp] theorem State.commitNt_memWf (s : State) (u w : Vtx) (word : BitVec 48) : (s.commitNt u w word).memWf ↔ s.memWf := by
  simp [State.commitNt]

@[simp] theorem State.commit_memWf (s : State) (r : Receiver) (u w : Vtx) (word : BitVec 48) :
    (s.commit r u w word).memWf ↔ s.memWf := by
  unfold State.commit
  repeat' split
  all_goals simp

@[simp] theorem State.takeKey_memWf (s : State) (r : Receiver) (ok : Bool) (w : BitVec 48) :
    (s.takeKey r ok w).memWf ↔ s.memWf := by
  unfold State.takeKey
  dsimp only
  repeat' split
  all_goals simp

@[simp] theorem State.formCommit_memWf (s : State) (r : Receiver) : (s.formCommit r).memWf ↔ s.memWf := by
  unfold State.formCommit
  dsimp only
  split <;> simp

@[simp] theorem State.minorities_memWf (s : State) (r : Receiver) (n : Nat) : (s.minorities r n).memWf ↔ s.memWf := by
  simp [State.minorities, memWf_foldl]

@[simp] theorem State.missedCommit_memWf (s : State) : s.missedCommit.memWf ↔ s.memWf := by
  simp [State.missedCommit]

theorem State.loadBody_canonical (s : State) (v : Vtx) (f : LoadForm) (signed busy : Bool) (n : Nat) {x : Vertex}
    (hx : x.mem.wf) : (s.loadBody v f signed busy n x).canonical := by
  unfold State.loadBody
  repeat' split
  all_goals simp [hx]

@[simp] theorem State.loadInstr_memWf {s : State} (h : s.memWf) (v : Vtx) (f : LoadForm) (signed busy : Bool) (n w : Nat) :
    (s.loadInstr v f signed busy n w).memWf := by
  simp only [State.loadInstr]
  split
  · exact h
  · exact State.run_memWf h fun _ => s.loadBody_canonical v f signed busy n

theorem State.storeBody_canonical (s : State) (v : Vtx) (f : StoreForm) (n : Nat) {x : Vertex} (hx : x.mem.wf) :
    (s.storeBody v f n x).canonical := by
  unfold State.storeBody
  repeat' split
  all_goals simp [Vertex.wf_storeRec, Vertex.wf_window, hx]

@[simp] theorem State.modSupply_memWf (s : State) (f : Supply → Supply) : (s.modSupply f).memWf ↔ s.memWf := by
  simp [State.modSupply]

theorem State.later_memWf (s : State) (d : Nat) {f : State → State} (hf : ∀ t, (f t).memWf ↔ t.memWf) :
    (s.later d f).memWf ↔ s.memWf := hf _

@[simp] theorem State.supplyBack_memWf (s : State) : s.supplyBack.memWf ↔ s.memWf := by
  unfold State.supplyBack
  split <;> simp

@[simp] theorem State.k3mPowerLoss_memWf {s : State} (h : s.memWf) : s.k3mPowerLoss.memWf := ⟨h.1, rfl⟩

@[simp] theorem State.restartK3m_memWf (s : State) : s.restartK3m.memWf ↔ s.memWf := by
  simp [State.restartK3m]

@[simp] theorem State.fresh_memWf (s : State) : s.fresh.memWf := ⟨State.memWf_reset.1, rfl⟩

@[simp] theorem State.powerUpK3m_memWf (s : State) (p : PowerOnIn) : (s.powerUpK3m p).memWf ↔ s.memWf := by
  simp only [State.powerUpK3m, State.modUpd_memWf, State.dropDownload_memWf, State.memWf_mk, State.memWf_fold, State.modRec_memWf]
  repeat' split
  all_goals simp

@[simp] theorem State.stillWithdrawn_memWf (s : State) (w : Tri Bool) : (s.stillWithdrawn w).memWf ↔ s.memWf := by
  simp [State.stillWithdrawn]

@[simp] theorem State.showMode_memWf {s : State} (h : s.memWf) : s.showMode.memWf := by
  unfold State.showMode
  split <;> simp [h]

@[simp] theorem State.tornJournal_memWf (s : State) (p : PowerOnIn) : (s.tornJournal p).memWf ↔ s.memWf := by
  simp only [State.tornJournal]
  split <;> simp

@[simp] theorem State.stepOne_memWf (s : State) (p : PowerOnIn) : (s.stepOne p).memWf := by
  unfold State.stepOne
  dsimp only
  repeat' split
  all_goals simp

@[simp] theorem State.repairRecords_memWf (s : State) (v : Option Vtx) (l : List Repair) :
    (s.repairRecords v l).memWf ↔ s.memWf := by
  unfold State.repairRecords
  repeat' split
  all_goals simp [memWf_foldl]

@[simp] theorem State.marchAll_memWf (s : State) (l : List MarchFail) : (s.marchAll l).memWf ↔ s.memWf := by
  simp [State.marchAll, memWf_foldl]

@[simp] theorem State.rejected_memWf (s : State) (bank reason build : Nat) :
    (s.rejected bank reason build).memWf ↔ s.memWf := by
  simp [State.rejected]

@[simp] theorem State.revert_memWf (s : State) (cause : Nat) : (s.revert cause).memWf ↔ s.memWf := by
  simp [State.revert]

@[simp] theorem State.takeFlag_memWf (s : State) : s.takeFlag.memWf ↔ s.memWf := by
  unfold State.takeFlag
  repeat' split
  all_goals simp

@[simp] theorem State.bootArmed_memWf (s : State) : s.bootArmed.memWf ↔ s.memWf := by
  simp [State.bootArmed]

@[simp] theorem State.blockWrites_memWf (s : State) (first last : Nat) : (s.blockWrites first last).memWf ↔ s.memWf := by
  simp [State.blockWrites, memWf_foldl]

@[simp] theorem State.bootCopying_memWf (s : State) (resumed : Bool) (bad : Option Nat) :
    (s.bootCopying resumed bad).memWf ↔ s.memWf := by
  simp only [State.bootCopying]
  repeat' split
  all_goals simp

@[simp] theorem State.settingsRule_memWf (s : State) (schema : Nat) : (s.settingsRule schema).memWf ↔ s.memWf := by
  simp [State.settingsRule]

@[simp] theorem State.bootCopied_memWf (s : State) : s.bootCopied.memWf ↔ s.memWf := by
  simp [State.bootCopied]

@[simp] theorem State.bootFault_memWf (s : State) : s.bootFault.memWf ↔ s.memWf := by
  simp [State.bootFault]

@[simp] theorem State.bootVerify_memWf (s : State) : s.bootVerify.1.memWf ↔ s.memWf := by
  simp only [State.bootVerify]
  repeat' split
  all_goals simp

@[simp] theorem State.stepThree_memWf (s : State) (copyFail : Option Nat) : (s.stepThree copyFail).1.memWf ↔ s.memWf := by
  simp [State.stepThree]

@[simp] theorem State.takeLoad_memWf {s : State} (h : s.memWf) (c : Content) (sched : Tri (List Nat)) :
    (s.takeLoad c sched).memWf := by
  simp only [State.takeLoad]
  refine State.loadInitial_memWf (State.memWf_modAll ?_ fun v hv => ?_)
  · simpa using h
  · obtain ⟨-, hinst, himg, hout0, hout1, -⟩ := hv
    exact ⟨Memory.wf_ofCells _, hinst, himg, hout0, hout1, Memory.wf_ofCells _⟩

@[simp] theorem State.stepFour_memWf {s : State} (h : s.memWf) (sched : Tri (List Nat)) : (s.stepFour sched).1.memWf := by
  simp only [State.stepFour]
  repeat' split
  all_goals simp [h]

@[simp] theorem State.stepFive_memWf (s : State) (p : PowerOnIn) : (s.stepFive p).memWf ↔ s.memWf := by
  simp only [State.stepFive]
  repeat' split
  all_goals simp

@[simp] theorem State.atStep_memWf (s : State) (n : Nat) : (s.atStep n).memWf ↔ s.memWf := by
  simp [State.atStep]

@[simp] theorem State.stepFourVoted_memWf {s : State} (h : s.memWf) (p : PowerOnIn) : (s.stepFourVoted p).1.memWf := by
  simp only [State.stepFourVoted]
  repeat' split
  all_goals simp [h]

@[simp] theorem State.stepsFourFive_memWf {s : State} (h : s.memWf) (p : PowerOnIn) : (s.stepsFourFive p).memWf := by
  simp only [State.stepsFourFive]
  split <;> simp [h]

@[simp] theorem State.powerDown_memWf {s : State} (h : s.memWf) : s.powerDown.memWf := by
  simp [State.powerDown, h]

theorem State.stepThreeCut_memWf (s : State) (c : PowerCut) (t : State) (h : s.stepThreeCut c = some t) :
    t.memWf ↔ s.memWf := by
  unfold State.stepThreeCut at h
  dsimp only at h
  repeat' split at h
  all_goals cases h
  all_goals simp

theorem State.cutAt_memWf (s : State) (p : PowerOnIn) (t : State) (h : s.cutAt p = some t) : t.memWf ↔ s.memWf := by
  obtain ⟨c, -, hc⟩ := Option.bind_eq_some_iff.mp h
  exact State.stepThreeCut_memWf s c t hc

@[simp] theorem State.stepsThreeOn_memWf {s : State} (h : s.memWf) (p : PowerOnIn) : (s.stepsThreeOn p).memWf := by
  simp only [State.stepsThreeOn]
  split
  · next t hcut => exact State.powerDown_memWf ((State.cutAt_memWf _ p t hcut).mpr h)
  · repeat' split
    all_goals simp [h]

@[simp] theorem State.stepsTwoOn_memWf {s : State} (h : s.memWf) (p : PowerOnIn) : (s.stepsTwoOn p).memWf := by
  simp [State.stepsTwoOn, h]

@[simp] theorem State.runSbool_memWf {s : State} (h : s.memWf) (v : Vtx) (m : IMeta) (bad : Bool) (d : BitVec 4)
    (valid : Vertex → Bool) (val : Vertex → Word) (z : Vertex → Bool) :
    (s.runSbool v m bad d valid val z).memWf := by
  refine State.run_memWf h fun x hx => ?_
  split
  · exact hx
  · trivial

@[simp] theorem State.runS2_memWf {s : State} (h : s.memWf) (v : Vtx) (f : FmtR) (op : Bool → Bool → Bool) :
    (s.runS2 v f op).memWf := by
  simp [State.runS2, h]

@[simp] theorem State.runP2_memWf {s : State} (h : s.memWf) (v : Vtx) (f : FmtR) (op : Bool → Bool → Bool) :
    (s.runP2 v f op).memWf := by
  simp [State.runP2, h]

/-! ### What a step may add to -/

@[simp] theorem State.burn_memWf (s : State) (v : Vtx) (b : Nat) (ok : Bool) : (s.burn v b ok).1.memWf ↔ s.memWf := by
  unfold State.burn
  dsimp only
  split
  · rfl
  · refine (memWf_foldl _ fun _ _ => by split <;> simp).trans ?_
    split <;> simp

@[simp] theorem State.fuseWrite_memWf (s : State) (v : Vtx) (val : Word) (ok : Bool) :
    (s.fuseWrite v val ok).memWf ↔ s.memWf := by
  unfold State.fuseWrite
  dsimp only
  repeat' split
  all_goals simp [memWf_foldl]

@[simp] theorem State.writeMem_memWf (s : State) (v : Vtx) (off : Nat) (val : Word) :
    (s.writeMem v off val).memWf ↔ s.memWf := by
  unfold State.writeMem
  split <;> simp

@[simp] theorem State.writeReg_memWf (s : State) (v : Vtx) (a : Nat) (val : Word) :
    (s.writeReg v a val).memWf ↔ s.memWf := by
  unfold State.writeReg
  dsimp only
  repeat' split
  all_goals simp

@[simp] theorem State.storeInstr_memWf {s : State} (h : s.memWf) (v : Vtx) (f : StoreForm) (n w : Nat) :
    (s.storeInstr v f n w).memWf := by
  simp only [State.storeInstr]
  split
  · exact h
  · refine State.instr_memWf h (fun _ => s.storeBody_canonical v f n) fun t ht => ?_
    unfold State.storePost
    split <;> simp [ht]

@[simp] theorem State.endProbation_memWf (s : State) (cause : Nat) : (s.endProbation cause).memWf ↔ s.memWf := by
  unfold State.endProbation
  repeat' split
  all_goals simp

theorem State.chordReject_memWf (s : State) (l : Link) (kind : BitVec 8) (mid : Word) (f : ChordFrame) (t : State)
    (h : s.chordReject l kind mid f = some t) : t.memWf ↔ s.memWf := by
  unfold State.chordReject at h
  dsimp only at h
  repeat' split at h
  all_goals cases h
  all_goals simp

@[simp] theorem State.mirrorPoll_memWf {s : State} (h : s.memWf) : s.mirrorPoll.memWf := by
  unfold State.mirrorPoll
  split
  · exact h
  · exact State.showMode_memWf (by simpa using h)

@[simp] theorem State.sealWatch_memWf (s : State) : s.sealWatch.memWf ↔ s.memWf := by
  unfold State.sealWatch
  split <;> simp

@[simp] theorem State.countUnused_memWf (s : State) (f : AnyFrame) : (s.countUnused f).memWf ↔ s.memWf := by
  unfold State.countUnused
  split <;> simp

@[simp] theorem State.fetchSlot_memWf (s : State) (u w : Vtx) (rod slot : Nat) (l : List Nat) (busy : Tri Nat) :
    (s.fetchSlot u w rod slot l busy).memWf ↔ s.memWf := by
  simp [State.fetchSlot, memWf_foldl]

@[simp] theorem State.afterK3mRead_memWf (s : State) (a : Nat) : (s.afterK3mRead a).memWf ↔ s.memWf := by
  unfold State.afterK3mRead
  repeat' split
  all_goals simp

/-! ### Each command -/

/-- Where the command ends in a next state, its memories are in canonical form. -/
def EndsCanonical : Host.Outcome State Fault Refusal → Prop
  | .next t => t.memWf
  | .fault _ => True
  | .refused _ => True

@[simp] theorem endsCanonical_ok {s : State} : EndsCanonical (ok s) ↔ s.memWf := Iff.rfl

@[simp] theorem endsCanonical_ite {c : Prop} [Decidable c] (o p : Host.Outcome State Fault Refusal) :
    EndsCanonical (if c then o else p) ↔ if c then EndsCanonical o else EndsCanonical p := by
  split <;> rfl

theorem EndsCanonical.ok {s : State} (h : s.memWf) : EndsCanonical (ok s) := endsCanonical_ok.mpr h

theorem execSel_canonical {s : State} (hmem : s.memWf) (v : Vtx) (f : FmtR) : EndsCanonical (execSel v f s) := by
  simp [execSel, hmem]

theorem execDivs_canonical {s : State} (hmem : s.memWf) (v : Vtx) (f : FmtR) : EndsCanonical (execDivs v f s) := by
  refine .ok (State.run_memWf hmem fun x hx => ?_)
  split <;> simp [hx]

theorem execDivu_canonical {s : State} (hmem : s.memWf) (v : Vtx) (f : FmtR) : EndsCanonical (execDivu v f s) := by
  refine .ok (State.run_memWf hmem fun x hx => ?_)
  split <;> simp [hx]

theorem execRems_canonical {s : State} (hmem : s.memWf) (v : Vtx) (f : FmtR) : EndsCanonical (execRems v f s) := by
  refine .ok (State.run_memWf hmem fun x hx => ?_)
  split <;> simp [hx]

theorem execRemu_canonical {s : State} (hmem : s.memWf) (v : Vtx) (f : FmtR) : EndsCanonical (execRemu v f s) := by
  refine .ok (State.run_memWf hmem fun x hx => ?_)
  split <;> simp [hx]

theorem execClassChange_canonical {s : State} (hmem : s.memWf) (dt : Nat) (input : Fin 32) (before : List Nat) (cur : Nat) :
    EndsCanonical (execClassChange dt input before cur s) := by
  unfold execClassChange
  dsimp only
  repeat' split
  all_goals simp [hmem]

theorem execIoTick_canonical {s : State} (hmem : s.memWf) (dt : Nat) : EndsCanonical (execIoTick dt s) := by
  simp only [execIoTick]
  split
  · simpa using hmem
  · rw [endsCanonical_ok, State.modSio_memWf]
    exact (memWf_foldl _ fun _ _ => State.ioClear_memWf ..).mpr hmem

theorem execDiscrepancyLatch_canonical {s : State} (hmem : s.memWf) (dt : Nat) (pair : Fin 16) :
    EndsCanonical (execDiscrepancyLatch dt pair s) := by
  simp [execDiscrepancyLatch, hmem]

theorem execInputFaultLatch_canonical {s : State} (hmem : s.memWf) (dt : Nat) (input : Fin 32) (cur : Nat) :
    EndsCanonical (execInputFaultLatch dt input cur s) := by
  simp [execInputFaultLatch, hmem]

theorem execInputLatchClear_canonical {s : State} (hmem : s.memWf) (dt : Nat) (input : Fin 32) :
    EndsCanonical (execInputLatchClear dt input s) := by
  unfold execInputLatchClear
  dsimp only
  repeat' split
  all_goals simp [hmem]

theorem execTwohandTimeout_canonical {s : State} (hmem : s.memWf) (dt : Nat) (pair : Fin 16) :
    EndsCanonical (execTwohandTimeout dt pair s) := by
  unfold execTwohandTimeout
  dsimp only
  repeat' split
  all_goals simp [hmem]

theorem execTpPulseStart_canonical {s : State} (hmem : s.memWf) (dt : Nat) (tp : Fin 4) :
    EndsCanonical (execTpPulseStart dt tp s) := by
  unfold execTpPulseStart
  dsimp only
  repeat' split
  all_goals simp [hmem]

theorem execTpPulseCheck_canonical {s : State} (hmem : s.memWf) (dt : Nat) (tp : Fin 4) (currents : List Nat) :
    EndsCanonical (execTpPulseCheck dt tp currents s) := by
  simp only [execTpPulseCheck]
  repeat' split
  · simpa using hmem
  · simpa using hmem
  · simpa using hmem
  · rw [endsCanonical_ok, State.modSio_memWf]
    exact (memWf_foldl _ fun _ _ => State.pulseInput_memWf ..).mpr hmem

theorem execTpOverload_canonical {s : State} (hmem : s.memWf) (dt : Nat) (tp : Fin 4) (cur us : Nat) :
    EndsCanonical (execTpOverload dt tp cur us s) := by
  unfold execTpOverload
  dsimp only
  repeat' split
  all_goals simp [hmem]

theorem execQsOvercurrent_canonical {s : State} (hmem : s.memWf) (dt : Nat) (n : Fin 16) (cur us : Nat) :
    EndsCanonical (execQsOvercurrent dt n cur us s) := by
  simp [execQsOvercurrent, hmem]

theorem execQsOpenLoad_canonical {s : State} (hmem : s.memWf) (dt : Nat) (n : Fin 16) (cur us : Nat) :
    EndsCanonical (execQsOpenLoad dt n cur us s) := by
  simp [execQsOpenLoad, hmem]

theorem execQsStuckOn_canonical {s : State} (hmem : s.memWf) (dt : Nat) (n : Fin 16) (plus minus supply : Nat) :
    EndsCanonical (execQsStuckOn dt n plus minus supply s) := by
  simp [execQsStuckOn, hmem]

theorem execQaReadback_canonical {s : State} (hmem : s.memWf) (dt : Nat) (j : Fin 8) (readOn : Bool) (us volt : Nat) :
    EndsCanonical (execQaReadback dt j readOn us volt s) := by
  simp [execQaReadback, hmem]

theorem execOutputTestSlot_canonical {s : State} (hmem : s.memWf) (dt : Nat) (k : Fin 32) :
    EndsCanonical (execOutputTestSlot dt k s) := by
  unfold execOutputTestSlot
  dsimp only
  repeat' split
  all_goals simp [hmem]

theorem execOutputTestReading_canonical {s : State} (hmem : s.memWf) (dt supply plus minus : Nat) :
    EndsCanonical (execOutputTestReading dt supply plus minus s) := by
  unfold execOutputTestReading
  dsimp only
  repeat' split
  all_goals simp [hmem]

theorem execOutputTestTimeout_canonical {s : State} (hmem : s.memWf) (dt volt : Nat) :
    EndsCanonical (execOutputTestTimeout dt volt s) := by
  unfold execOutputTestTimeout
  dsimp only
  repeat' split
  all_goals simp [hmem]

theorem execOutputTestRepeat_canonical {s : State} (hmem : s.memWf) (dt : Nat) : EndsCanonical (execOutputTestRepeat dt s) := by
  unfold execOutputTestRepeat
  dsimp only
  repeat' split
  all_goals simp [hmem]

theorem execLatchResetTestEnd_canonical {s : State} (hmem : s.memWf) (dt : Nat) (n : Fin 16) (hs ls : TermReading) :
    EndsCanonical (execLatchResetTestEnd dt n hs ls s) := by
  have hclear : ∀ (l : List QsKind) (t : State), t.memWf →
      (l.foldl (fun u k => u.ioClear 2 k.code n.val 0) t).memWf := fun l t ht =>
    (memWf_foldl l fun _ _ => State.ioClear_memWf ..).mpr ht
  simp only [execLatchResetTestEnd]
  repeat' split
  all_goals simp [hclear, hmem]

theorem execTpRestoreEnd_canonical {s : State} (hmem : s.memWf) (dt : Nat) (tp : Fin 4) (cur us : Nat) :
    EndsCanonical (execTpRestoreEnd dt tp cur us s) := by
  unfold execTpRestoreEnd
  dsimp only
  repeat' split
  all_goals simp [hmem]

theorem execWatchdogTrip_canonical {s : State} (hmem : s.memWf) (dt oscNs : Nat) :
    EndsCanonical (execWatchdogTrip dt oscNs s) := by
  simp [execWatchdogTrip, hmem]

theorem execSupplyWarn_canonical {s : State} (hmem : s.memWf) (dt volt : Nat) : EndsCanonical (execSupplyWarn dt volt s) := by
  simp [execSupplyWarn, hmem]

theorem execSupplyWarnClear_canonical {s : State} (hmem : s.memWf) (dt : Nat) : EndsCanonical (execSupplyWarnClear dt s) := by
  simp [execSupplyWarnClear, hmem]

theorem execSupplyLost_canonical {s : State} (hmem : s.memWf) (dt volt run : Nat) :
    EndsCanonical (execSupplyLost dt volt run s) := by
  simp [execSupplyLost, hmem]

theorem execSupplyLostClear_canonical {s : State} (hmem : s.memWf) (dt : Nat) : EndsCanonical (execSupplyLostClear dt s) := by
  simp [execSupplyLostClear, hmem]

theorem execPreservingPiece_canonical {s : State} (hmem : s.memWf) (dt : Nat) (chip : Vtx) (bank : Fin 8) :
    EndsCanonical (execPreservingPiece dt chip bank s) := by
  simp [execPreservingPiece, hmem]

theorem execPieceComplete_canonical {s : State} (hmem : s.memWf) (dt : Nat) (chip : Vtx) (bank : Fin 8) (r : TestResult)
    (word bit : Nat) :
    EndsCanonical (execPieceComplete dt chip bank r word bit s) := by
  unfold execPieceComplete
  dsimp only
  repeat' split
  all_goals simp [hmem]

theorem execSliceStart_canonical {s : State} (hmem : s.memWf) (dt n : Nat) : EndsCanonical (execSliceStart dt n s) := by
  simp [execSliceStart, hmem]

theorem execSliceAbandon_canonical {s : State} (hmem : s.memWf) (dt n : Nat) : EndsCanonical (execSliceAbandon dt n s) := by
  simp [execSliceAbandon, hmem]

theorem execSliceComplete_canonical {s : State} (hmem : s.memWf) (dt n : Nat) (r : TestResult) :
    EndsCanonical (execSliceComplete dt n r s) := by
  simp [execSliceComplete, hmem]

theorem execSelftestOverdue_canonical {s : State} (hmem : s.memWf) (dt n : Nat) :
    EndsCanonical (execSelftestOverdue dt n s) := by
  unfold execSelftestOverdue
  dsimp only
  repeat' split
  all_goals simp [hmem]

theorem execRecordForm_canonical {s : State} (hmem : s.memWf) (dt : Nat) : EndsCanonical (execRecordForm dt s) := by
  unfold execRecordForm
  dsimp only
  repeat' split
  all_goals simp [hmem]

theorem execFoldTimeout_canonical {s : State} (hmem : s.memWf) (dt : Nat) : EndsCanonical (execFoldTimeout dt s) := by
  simp [execFoldTimeout, hmem]

theorem execRecordCommit_canonical {s : State} (hmem : s.memWf) (dt : Nat) (o : NorOutcome) :
    EndsCanonical (execRecordCommit dt o s) := by
  unfold execRecordCommit
  dsimp only
  repeat' split
  all_goals simp [hmem]

theorem execSectorEraseEnd_canonical {s : State} (hmem : s.memWf) (dt : Nat) (okay : Bool) :
    EndsCanonical (execSectorEraseEnd dt okay s) := by
  simp [execSectorEraseEnd, hmem]

theorem execCounterSave_canonical {s : State} (hmem : s.memWf) (dt : Nat) : EndsCanonical (execCounterSave dt s) := by
  simp [execCounterSave, hmem]

theorem execFreezeTimeout_canonical {s : State} (hmem : s.memWf) (dt : Nat) : EndsCanonical (execFreezeTimeout dt s) := by
  simp [execFreezeTimeout, hmem]

theorem execSlotFetch_canonical {s : State} (hmem : s.memWf) (dt rod slot : Nat) (busy : Tri Nat) :
    EndsCanonical (execSlotFetch dt rod slot busy s) := by
  unfold execSlotFetch
  dsimp only
  repeat' split
  all_goals simp [hmem]

theorem execSlotTransmit_canonical {s : State} (hmem : s.memWf) (dt rod slot : Nat) :
    EndsCanonical (execSlotTransmit dt rod slot s) := by
  unfold execSlotTransmit
  dsimp only
  repeat' split
  all_goals simp [hmem]

theorem execStatusTransmit_canonical {s : State} (hmem : s.memWf) (dt rod slot : Nat) :
    EndsCanonical (execStatusTransmit dt rod slot s) := by
  unfold execStatusTransmit
  dsimp only
  repeat' split
  all_goals simp [hmem]

theorem execArbWindowStart_canonical {s : State} (hmem : s.memWf) (dt : Nat) (net : Net) :
    EndsCanonical (execArbWindowStart dt net s) := by
  simp [execArbWindowStart, hmem]

theorem execArbSend_canonical {s : State} (hmem : s.memWf) (dt : Nat) (net : Net) (idle len : Nat) :
    EndsCanonical (execArbSend dt net idle len s) := by
  unfold execArbSend
  dsimp only
  repeat' split
  all_goals simp [hmem]

theorem execEventCopyExpiry_canonical {s : State} (hmem : s.memWf) (dt : Nat) (net : Net) (queue : Nat) :
    EndsCanonical (execEventCopyExpiry dt net queue s) := by
  simp [execEventCopyExpiry, hmem]

theorem execLaunchTimeReached_canonical {s : State} (hmem : s.memWf) (dt queue : Nat) :
    EndsCanonical (execLaunchTimeReached dt queue s) := by
  simp [execLaunchTimeReached, hmem]

theorem execFrameForward_canonical {s : State} (hmem : s.memWf) (dt : Nat) (port : Port) (busy : Bool) (f : AnyFrame) :
    EndsCanonical (execFrameForward dt port busy f s) := by
  unfold execFrameForward
  dsimp only
  repeat' split
  all_goals simp [hmem]

theorem execPassThroughRelease_canonical {s : State} (hmem : s.memWf) (dt : Nat) (port : Port) :
    EndsCanonical (execPassThroughRelease dt port s) := by
  unfold execPassThroughRelease
  dsimp only
  repeat' split
  all_goals simp [hmem]

theorem execFrameCopyReceive_canonical {s : State} (hmem : s.memWf) (dt : Nat) (net : Net) (pre : Nat) (f : Frame) :
    EndsCanonical (execFrameCopyReceive dt net pre f s) := by
  unfold execFrameCopyReceive
  dsimp only
  repeat' split
  all_goals simp [hmem]

theorem execCombineWindowExpiry_canonical {s : State} (hmem : s.memWf) (dt : Nat) (src rodslot : BitVec 16) (seq : Word) :
    EndsCanonical (execCombineWindowExpiry dt src rodslot seq s) := by
  unfold execCombineWindowExpiry
  dsimp only
  repeat' split
  all_goals simp [hmem]

theorem execOccurrenceDue_canonical {s : State} (hmem : s.memWf) (dt desc : Nat) :
    EndsCanonical (execOccurrenceDue dt desc s) := by
  unfold execOccurrenceDue
  dsimp only
  repeat' split
  all_goals simp [hmem]

theorem execLinkChange_canonical {s : State} (hmem : s.memWf) (dt : Nat) (port : Port) (e : LinkEvent) :
    EndsCanonical (execLinkChange dt port e s) := by
  unfold execLinkChange
  dsimp only
  repeat' split
  all_goals simp [hmem]

theorem execBabble_canonical {s : State} (hmem : s.memWf) (dt : Nat) (net : Net) : EndsCanonical (execBabble dt net s) := by
  simp [execBabble, hmem]

theorem execSessionOpen_canonical {s : State} (hmem : s.memWf) (dt : Nat) : EndsCanonical (execSessionOpen dt s) := by
  unfold execSessionOpen
  dsimp only
  repeat' split
  all_goals simp [hmem]

theorem execSessionIdleTimeout_canonical {s : State} (hmem : s.memWf) (dt : Nat) (n : Sess) :
    EndsCanonical (execSessionIdleTimeout dt n s) := by
  unfold execSessionIdleTimeout
  dsimp only
  repeat' split
  all_goals simp [hmem]

theorem execSessionEnd_canonical {s : State} (hmem : s.memWf) (dt : Nat) (n : Sess) :
    EndsCanonical (execSessionEnd dt n s) := by
  simp [execSessionEnd, hmem]

theorem execDlStart_canonical {s : State} (hmem : s.memWf) (dt : Nat) (n : Sess) (tag : BitVec 16) (length : Nat)
    (man : Manifest) :
    EndsCanonical (execDlStart dt n tag length man s) := by
  simp [execDlStart, hmem]

theorem execDlData_canonical {s : State} (hmem : s.memWf) (dt : Nat) (n : Sess) (tag : BitVec 16) (off : Nat)
    (data : List Byte) :
    EndsCanonical (execDlData dt n tag off data s) := by
  simp [execDlData, hmem]

theorem execDlEnd_canonical {s : State} (hmem : s.memWf) (dt : Nat) (n : Sess) (tag : BitVec 16) (got : LoadSet) :
    EndsCanonical (execDlEnd dt n tag got s) := by
  simp [execDlEnd, hmem]

theorem execDownloadCheckEnd_canonical {s : State} (hmem : s.memWf) (dt : Nat) : EndsCanonical (execDownloadCheckEnd dt s) := by
  unfold execDownloadCheckEnd
  dsimp only
  repeat' split
  all_goals simp [hmem]

theorem execDlAbort_canonical {s : State} (hmem : s.memWf) (dt : Nat) (n : Sess) (tag : BitVec 16) :
    EndsCanonical (execDlAbort dt n tag s) := by
  simp [execDlAbort, hmem]

theorem execLogin_canonical {s : State} (hmem : s.memWf) (dt : Nat) (n : Sess) (tag : BitVec 16) (r : Role) (pw : List Byte) :
    EndsCanonical (execLogin dt n tag r pw s) := by
  simp [execLogin, hmem]

theorem execLockoutExpiry_canonical {s : State} (hmem : s.memWf) (dt : Nat) (r : Role) :
    EndsCanonical (execLockoutExpiry dt r s) := by
  unfold execLockoutExpiry
  dsimp only
  repeat' split
  all_goals simp [hmem]

theorem execLogout_canonical {s : State} (hmem : s.memWf) (dt : Nat) (n : Sess) (tag : BitVec 16) :
    EndsCanonical (execLogout dt n tag s) := by
  simp [execLogout, hmem]

theorem execSetpw_canonical {s : State} (hmem : s.memWf) (dt : Nat) (n : Sess) (tag : BitVec 16) (r : Role)
    (pw : List Byte) (salt : BitVec 128) :
    EndsCanonical (execSetpw dt n tag r pw salt s) := by
  simp [execSetpw, hmem]

theorem execClearpw_canonical {s : State} (hmem : s.memWf) (dt : Nat) (n : Sess) (tag : BitVec 16) :
    EndsCanonical (execClearpw dt n tag s) := by
  simp [execClearpw, hmem]

theorem execInfo_canonical {s : State} (hmem : s.memWf) (dt : Nat) (n : Sess) (tag : BitVec 16) :
    EndsCanonical (execInfo dt n tag s) := by
  simp [execInfo, hmem]

theorem execFreeze_canonical {s : State} (hmem : s.memWf) (dt : Nat) (n : Sess) (tag : BitVec 16) :
    EndsCanonical (execFreeze dt n tag s) := by
  simp [execFreeze, hmem]

theorem execRead_canonical {s : State} (hmem : s.memWf) (dt : Nat) (n : Sess) (tag : BitVec 16) (fromSeq max : Nat) :
    EndsCanonical (execRead dt n tag fromSeq max s) := by
  simp [execRead, hmem]

theorem execReadsent_canonical {s : State} (hmem : s.memWf) (dt : Nat) (n : Sess) (tag : BitVec 16) :
    EndsCanonical (execReadsent dt n tag s) := by
  simp [execReadsent, hmem]

theorem execThaw_canonical {s : State} (hmem : s.memWf) (dt : Nat) (n : Sess) (tag : BitVec 16) :
    EndsCanonical (execThaw dt n tag s) := by
  simp [execThaw, hmem]

theorem execMailboxItem_canonical {s : State} (hmem : s.memWf) (dt : Nat) (n : Sess) (tag : BitVec 16) (kind : Nat)
    (cmd : Word) (body : List Byte) :
    EndsCanonical (execMailboxItem dt n tag kind cmd body s) := by
  simp [execMailboxItem, hmem]

theorem execAttest_canonical {s : State} (hmem : s.memWf) (dt : Nat) (n : Sess) (tag : BitVec 16) (nonce : BitVec 256) :
    EndsCanonical (execAttest dt n tag nonce s) := by
  simp [execAttest, hmem]

theorem execLocalAct_canonical {s : State} (hmem : s.memWf) (dt : Nat) (n : Sess) (tag : BitVec 16) :
    EndsCanonical (execLocalAct dt n tag s) := by
  simp [execLocalAct, hmem]

theorem execSetting_canonical {s : State} (hmem : s.memWf) (dt : Nat) (n : Sess) (tag : BitVec 16) (id : Nat) (value : Word) :
    EndsCanonical (execSetting dt n tag id value s) := by
  simp [execSetting, hmem]

theorem execOtpOperator_canonical {s : State} (hmem : s.memWf) (dt : Nat) (n : Sess) (tag : BitVec 16)
    (h1 h2 h3 h4 : BitVec 384) :
    EndsCanonical (execOtpOperator dt n tag h1 h2 h3 h4 s) := by
  simp [execOtpOperator, hmem]

theorem execProbationCleanEnd_canonical {s : State} (hmem : s.memWf) (dt : Nat) :
    EndsCanonical (execProbationCleanEnd dt s) := by
  simp [execProbationCleanEnd, hmem]

theorem execProbationFaultRestart_canonical {s : State} (hmem : s.memWf) (dt : Nat) :
    EndsCanonical (execProbationFaultRestart dt s) := by
  unfold execProbationFaultRestart
  dsimp only
  repeat' split
  all_goals simp [hmem]

theorem execStatusMirrorIntake_canonical {s : State} (hmem : s.memWf) (dt : Nat) :
    EndsCanonical (execStatusMirrorIntake dt s) := by
  unfold execStatusMirrorIntake
  dsimp only
  repeat' split
  all_goals simp [hmem]

theorem execK3mWatchdogRestart_canonical {s : State} (hmem : s.memWf) (dt : Nat) :
    EndsCanonical (execK3mWatchdogRestart dt s) := by
  refine .ok ((State.dropDownload_memWf ..).mpr ((State.k3mRec_memWf ..).mpr ?_))
  exact ⟨hmem.1, rfl⟩

theorem execAnnounceReceive_canonical {s : State} (hmem : s.memWf) (dt : Nat) (_net : Net) (h : PtpHdr) (clockId : Long)
    (prio1 cls acc var prio2 steps : Nat) :
    EndsCanonical (execAnnounceReceive dt _net h clockId prio1 cls acc var prio2 steps s) := by
  unfold execAnnounceReceive
  dsimp only
  repeat' split
  all_goals simp [hmem]

theorem execAnnounceReceiptTimeout_canonical {s : State} (hmem : s.memWf) (dt : Nat) :
    EndsCanonical (execAnnounceReceiptTimeout dt s) := by
  unfold execAnnounceReceiptTimeout
  dsimp only
  repeat' split
  all_goals simp [hmem]

theorem execWaitMasterTimeout_canonical {s : State} (hmem : s.memWf) (dt : Nat) :
    EndsCanonical (execWaitMasterTimeout dt s) := by
  unfold execWaitMasterTimeout
  dsimp only
  repeat' split
  all_goals simp [hmem]

theorem execSyncReceive_canonical {s : State} (hmem : s.memWf) (dt : Nat) (net : Net) (h : PtpHdr) (clockId : Long)
    (origin : Nat) (corr : Int) :
    EndsCanonical (execSyncReceive dt net h clockId origin corr s) := by
  simp [execSyncReceive, hmem]

theorem execSyncTimeout_canonical {s : State} (hmem : s.memWf) (dt : Nat) : EndsCanonical (execSyncTimeout dt s) := by
  unfold execSyncTimeout
  dsimp only
  repeat' split
  all_goals simp [hmem]

theorem execDelayReqSend_canonical {s : State} (hmem : s.memWf) (dt : Nat) : EndsCanonical (execDelayReqSend dt s) := by
  unfold execDelayReqSend
  dsimp only
  repeat' split
  all_goals simp [hmem]

theorem execDelayReqReceive_canonical {s : State} (hmem : s.memWf) (dt : Nat) (_net : Net) (h : PtpHdr) (clockId : Long)
    (seqId : Nat) (corr : Int) :
    EndsCanonical (execDelayReqReceive dt _net h clockId seqId corr s) := by
  unfold execDelayReqReceive
  dsimp only
  repeat' split
  all_goals simp [hmem]

theorem execDelayRespReceive_canonical {s : State} (hmem : s.memWf) (dt : Nat) (_net : Net) (h : PtpHdr)
    (clockId reqId : Long) (seqId receive : Nat) (corr : Int) :
    EndsCanonical (execDelayRespReceive dt _net h clockId reqId seqId receive corr s) := by
  unfold execDelayRespReceive
  dsimp only
  repeat' split
  all_goals simp [hmem]

theorem execMasterSyncSend_canonical {s : State} (hmem : s.memWf) (dt : Nat) : EndsCanonical (execMasterSyncSend dt s) := by
  unfold execMasterSyncSend
  dsimp only
  repeat' split
  all_goals simp [hmem]

theorem execMasterAnnounceSend_canonical {s : State} (hmem : s.memWf) (dt : Nat) :
    EndsCanonical (execMasterAnnounceSend dt s) := by
  unfold execMasterAnnounceSend
  dsimp only
  repeat' split
  all_goals simp [hmem]

theorem execTimeStore_canonical {s : State} (hmem : s.memWf) (dt : Nat) : EndsCanonical (execTimeStore dt s) := by
  simp [execTimeStore, hmem]

theorem execInputEdgeEntry_canonical {s : State} (hmem : s.memWf) (dt : Nat) (copies : EdgeCopies) :
    EndsCanonical (execInputEdgeEntry dt copies s) := by
  unfold execInputEdgeEntry
  dsimp only
  repeat' split
  all_goals simp [hmem]

theorem execB_canonical {s : State} (hmem : s.memWf) (v : Vtx) (f : FmtB) : EndsCanonical (execB v f s) := by
  refine .ok (State.run_memWf hmem fun x hx => ?_)
  dsimp only
  repeat' split
  all_goals simp [hx]

theorem execLoopn_canonical {s : State} (hmem : s.memWf) (v : Vtx) (f : FmtL) : EndsCanonical (execLoopn v f s) := by
  refine .ok (State.run_memWf hmem fun x hx => ?_)
  dsimp only
  repeat' split
  all_goals simp [hx]

theorem execLend_canonical {s : State} (hmem : s.memWf) (v : Vtx) (f : FmtN) : EndsCanonical (execLend v f s) := by
  refine .ok (State.run_memWf hmem fun x hx => ?_)
  dsimp only
  repeat' split
  all_goals simp [hx]

theorem execCallfb_canonical {s : State} (hmem : s.memWf) (v : Vtx) (f : FmtC) (w : Nat) :
    EndsCanonical (execCallfb v f w s) := by
  refine .ok (State.run_memWf hmem fun x hx => ?_)
  dsimp only
  split
  · trivial
  · exact Vertex.wf_storeWords (by simpa using hx) ..

theorem execRetfb_canonical {s : State} (hmem : s.memWf) (v : Vtx) (f : FmtN) (w : Nat) :
    EndsCanonical (execRetfb v f w s) := by
  refine .ok (State.instr_memWf hmem (fun x hx => ?_) fun t ht => ?_)
  · dsimp only
    repeat' split
    all_goals simp [hx]
  · split
    · exact State.memWf_modV ht v fun hv => by split <;> exact hv
    · exact ht

theorem execRxslot_canonical {s : State} (hmem : s.memWf) (v : Vtx) (f : FmtS) (w : Nat) (busy : Bool) :
    EndsCanonical (execRxslot v f w busy s) := by
  refine .ok (State.run_memWf hmem fun x hx => ?_)
  dsimp only
  repeat' split
  all_goals simp [hx]

theorem execTxslot_canonical {s : State} (hmem : s.memWf) (v : Vtx) (f : FmtS) (w : Nat) :
    EndsCanonical (execTxslot v f w s) := by
  refine .ok (State.run_memWf hmem fun x hx => ?_)
  dsimp only
  repeat' split
  all_goals simp [Vertex.wf_storeRec, hx]

theorem execAge_canonical {s : State} (hmem : s.memWf) (v : Vtx) (f : FmtI) : EndsCanonical (execAge v f s) := by
  simp [execAge, hmem]

theorem execLatticePass_canonical {s : State} (hmem : s.memWf) (dt : Nat) (v : Vtx) (wait : Nat) :
    EndsCanonical (execLatticePass dt v wait s) := by
  unfold execLatticePass
  dsimp only
  repeat' split
  · simpa using hmem
  · exact .ok (State.memWf_setV hmem v (hmem.1 v))
  · simpa using hmem

theorem execLatticeOverrun_canonical {s : State} (hmem : s.memWf) (dt : Nat) (v : Vtx) :
    EndsCanonical (execLatticeOverrun dt v s) := by
  simp [execLatticeOverrun, hmem]

theorem execRegisterWrite_canonical {s : State} (hmem : s.memWf) (who : Writer) (addr val : Word) :
    EndsCanonical (execRegisterWrite who addr val s) := by
  unfold execRegisterWrite
  dsimp only
  repeat' split
  all_goals simp [hmem]

theorem execHeartbeatSend_canonical {s : State} (hmem : s.memWf) (dt : Nat) : EndsCanonical (execHeartbeatSend dt s) := by
  unfold execHeartbeatSend
  dsimp only
  repeat' split
  all_goals simp [hmem]

theorem execHeartbeatReceive_canonical {s : State} (hmem : s.memWf) (dt : Nat) (l : Link) (pre : Nat) (f : ChordFrame) :
    EndsCanonical (execHeartbeatReceive dt l pre f s) := by
  simp only [execHeartbeatReceive]
  repeat' split
  · simpa using hmem
  · next t hreject => exact .ok ((State.chordReject_memWf _ _ _ _ _ t hreject).mpr hmem)
  · simpa using hmem
  · rw [endsCanonical_ok, State.later_memWf _ _ fun t => State.acceptBeat_memWf t _]
    simpa using hmem

theorem execChordDown_canonical {s : State} (hmem : s.memWf) (dt : Nat) (l : Link) : EndsCanonical (execChordDown dt l s) := by
  simp [execChordDown, hmem]

theorem execMdataReceive_canonical {s : State} (hmem : s.memWf) (dt : Nat) (l : Link) (f : ChordFrame) :
    EndsCanonical (execMdataReceive dt l f s) := by
  simp only [execMdataReceive]
  repeat' split
  · simpa using hmem
  · next t hreject => exact .ok ((State.chordReject_memWf _ _ _ _ _ t hreject).mpr hmem)
  · simpa using hmem
  · simpa using hmem
  · rw [endsCanonical_ok, State.nowReady_memWf, State.modPair_memWf]
    exact State.memWf_modAll hmem fun _ hv => VMem.wf_putChunk hv ..

theorem execMcommitReceive_canonical {s : State} (hmem : s.memWf) (dt : Nat) (l : Link) (f : ChordFrame) :
    EndsCanonical (execMcommitReceive dt l f s) := by
  simp only [execMcommitReceive]
  repeat' split
  case h_1 t hreject => exact .ok ((State.chordReject_memWf _ _ _ _ _ t hreject).mpr hmem)
  all_goals simpa using hmem

theorem execMirrorCutoff_canonical {s : State} (hmem : s.memWf) (dt : Nat) : EndsCanonical (execMirrorCutoff dt s) := by
  unfold execMirrorCutoff
  dsimp only
  repeat' split
  all_goals simp [hmem]

theorem execTakeoverDecision_canonical {s : State} (hmem : s.memWf) (dt : Nat) : EndsCanonical (execTakeoverDecision dt s) := by
  simp [execTakeoverDecision, hmem]

theorem execTakeover_canonical {s : State} (hmem : s.memWf) (dt : Nat) : EndsCanonical (execTakeover dt s) := by
  simp [execTakeover, hmem]

theorem execYieldStop_canonical {s : State} (hmem : s.memWf) (dt : Nat) : EndsCanonical (execYieldStop dt s) := by
  unfold execYieldStop
  dsimp only
  repeat' split
  all_goals simp [hmem]

theorem execHomeEligible_canonical {s : State} (hmem : s.memWf) (dt : Nat) : EndsCanonical (execHomeEligible dt s) := by
  simp [execHomeEligible, hmem]

theorem execMailboxPoll_canonical {s : State} (hmem : s.memWf) (dt : Nat) (r : Tri (BitVec 4)) :
    EndsCanonical (execMailboxPoll dt r s) := by
  simp only [execMailboxPoll]
  split
  · simpa using hmem
  · refine .ok ((State.sealWatch_memWf _).mpr (State.mirrorPoll_memWf ?_))
    simpa using hmem

theorem execTaskStart_canonical {s : State} (hmem : s.memWf) (v : Vtx) : EndsCanonical (execTaskStart v s) := by
  unfold execTaskStart
  dsimp only
  repeat' split
  all_goals simp [hmem]

theorem execBudgetTrap_canonical {s : State} (hmem : s.memWf) (v : Vtx) (stall : Nat) :
    EndsCanonical (execBudgetTrap v stall s) := by
  simp [execBudgetTrap, hmem]

theorem execStrideClose_canonical {s : State} (hmem : s.memWf) (v : Vtx) : EndsCanonical (execStrideClose v s) := by
  simp [execStrideClose, hmem]

theorem execPhase2Start_canonical {s : State} (hmem : s.memWf) (dt : Nat) : EndsCanonical (execPhase2Start dt s) := by
  simp only [execPhase2Start]
  split
  · exact .ok (memWf_foldl_of _ (by simpa using hmem) fun _ _ ht => State.phase2Vertex_memWf ht _)
  · simpa using hmem

theorem execCentroidEntry_canonical {s : State} (hmem : s.memWf) (dt : Nat) (slice sender : Vtx) (err : LinkErr) :
    EndsCanonical (execCentroidEntry dt slice sender err s) := by
  unfold execCentroidEntry
  dsimp only
  repeat' split
  all_goals simp [hmem]

theorem execWEnd_canonical {s : State} (hmem : s.memWf) (dt : Nat) : EndsCanonical (execWEnd dt s) := by
  simp only [execWEnd]
  split
  · refine .ok ((memWf_foldl _ fun t y => ?_).mpr (by simpa using hmem))
    split <;> simp
  · simpa using hmem

theorem execVrdLimit_canonical {s : State} (hmem : s.memWf) (dt : Nat) : EndsCanonical (execVrdLimit dt s) := by
  simp only [execVrdLimit]
  split
  · refine .ok ((memWf_foldl _ fun t y => ?_).mpr (by simpa using hmem))
    split <;> simp
  · simpa using hmem

theorem execRejoinCopySlack_canonical {s : State} (hmem : s.memWf) (dt : Nat) : EndsCanonical (execRejoinCopySlack dt s) := by
  unfold execRejoinCopySlack
  dsimp only
  repeat' split
  all_goals simp [hmem]

theorem execRejoinSelfTestEnd_canonical {s : State} (hmem : s.memWf) (dt : Nat) (testOk checkOk : Bool) :
    EndsCanonical (execRejoinSelfTestEnd dt testOk checkOk s) := by
  simp only [execRejoinSelfTestEnd]
  split
  · simpa using hmem
  split
  · simpa using hmem
  split
  · simpa using hmem
  split
  · simpa using hmem
  · exact .ok ((State.rejoinNext_memWf ..).mpr (State.memWf_modV hmem _ Vertex.wf_afterMarch))

theorem execRodBoundary_canonical {s : State} (hmem : s.memWf) (dt : Nat) : EndsCanonical (execRodBoundary dt s) := by
  simp [execRodBoundary, hmem]

theorem execFurlongBoundary_canonical {s : State} (hmem : s.memWf) (dt : Nat) (b : BoundaryIn) :
    EndsCanonical (execFurlongBoundary dt b s) := by
  simp [execFurlongBoundary, hmem]

theorem execIsolatedCleanCount_canonical {s : State} (hmem : s.memWf) (dt : Nat) :
    EndsCanonical (execIsolatedCleanCount dt s) := by
  simp [execIsolatedCleanCount, hmem]

theorem execResyncWaitExpiry_canonical {s : State} (hmem : s.memWf) (dt : Nat) : EndsCanonical (execResyncWaitExpiry dt s) := by
  simp [execResyncWaitExpiry, hmem]

theorem execTimeWait_canonical {s : State} (hmem : s.memWf) (dt : Nat) : EndsCanonical (execTimeWait dt s) := by
  unfold execTimeWait
  dsimp only
  repeat' split
  all_goals simp [hmem]

theorem execHostAccess_canonical {s : State} (hmem : s.memWf) (dt : Nat) (wr : Bool) (ha : BitVec 15) (data : BitVec 16)
    (c : Collide) :
    EndsCanonical (execHostAccess dt wr ha data c s) := by
  unfold execHostAccess
  have h : (s.elapse dt).memWf := hmem
  generalize s.elapse dt = u at h ⊢
  dsimp only
  split
  · exact .ok h
  · split
    · exact .ok (State.modHwin_memWf h h.2)
    · split
      · exact .ok (State.modHwin_memWf h h.2)
      · split
        · have hstore := State.windowStore_memWf h (2 * ha.toNat) 2 data.toNat
          exact .ok (State.modHwin_memWf hstore hstore.2)
        · have hread := (State.scrubShared_memWf u (inWindowWords (2 * ha.toNat) 2)).mpr h
          exact .ok (State.modHwin_memWf hread hread.2)

theorem execHostGo_canonical {s : State} (hmem : s.memWf) (dt : Nat) : EndsCanonical (execHostGo dt s) := by
  simp only [execHostGo]
  split
  · refine .ok (State.writeHstat_memWf ?_ _)
    have hread := (State.scrubShared_memWf (s.elapse dt)
      (inWindowWords 0x10 (8 + min (ofBe ((s.elapse dt).windowBytes 0x10 4)) 32744))).mpr hmem
    exact State.modHwin_memWf (State.modHwin_memWf hread hread.2) (Memory.wf_store hread.2 ..)
  · simpa using hmem

theorem execHostResponse_canonical {s : State} (hmem : s.memWf) (dt : Nat) : EndsCanonical (execHostResponse dt s) := by
  unfold execHostResponse
  have h : (s.elapse dt).memWf := hmem
  generalize s.elapse dt = u at h ⊢
  dsimp only
  split
  · exact .ok h
  · next l _ =>
    split
    · exact .ok h
    · have hserve := (State.j7Serve_memWf u (messageOf l)).mpr h
      generalize u.j7Serve (messageOf l) = q at hserve ⊢
      rw [endsCanonical_ok, State.respond_memWf]
      exact State.writeHstat_memWf (State.modHwin_memWf hserve (Memory.wf_put hserve.2 ..)) _

theorem execHostAck_canonical {s : State} (hmem : s.memWf) (dt : Nat) : EndsCanonical (execHostAck dt s) := by
  unfold execHostAck
  have h : (s.elapse dt).memWf := hmem
  generalize s.elapse dt = u at h ⊢
  dsimp only
  split
  · exact .ok (State.writeHstat_memWf (State.modHwin_memWf h (Memory.wf_store h.2 ..)) _)
  · exact .ok h

theorem execKeyWord_canonical {s : State} (hmem : s.memWf) (dt : Nat) (rx : Receiver) (manchesterOk : Bool) (word : KeyEnds) :
    EndsCanonical (execKeyWord dt rx manchesterOk word s) := by
  simp only [execKeyWord]
  split
  · simpa using hmem
  · rw [endsCanonical_ok, State.formCommit_memWf]
    exact (memWf_foldl _ fun _ _ => State.takeKey_memWf ..).mpr hmem

theorem execBankCopyBack_canonical {s : State} (hmem : s.memWf) (dt : Nat) : EndsCanonical (execBankCopyBack dt s) := by
  unfold execBankCopyBack
  have h : (s.elapse dt).memWf := hmem
  generalize s.elapse dt = u at h ⊢
  dsimp only
  split
  · rw [endsCanonical_ok, memWf_foldl _ fun _ _ => State.portEcc_memWf .., State.modNic_memWf]
    refine State.memWf_modAll ((memWf_foldl _ fun _ _ => State.scrubTx_memWf ..).mpr h) fun v hv => ?_
    exact VMem.wf_copyBack hv _
  · exact .ok h

theorem execPhase2End_canonical {s : State} (hmem : s.memWf) (dt : Nat) : EndsCanonical (execPhase2End dt s) := by
  simp [execPhase2End, hmem]

theorem execSupplyInput_canonical {s : State} (hmem : s.memWf) (dt : Nat) (p : Pwr) (volt overUs : Nat) :
    EndsCanonical (execSupplyInput dt p volt overUs s) := by
  unfold execSupplyInput
  dsimp only
  repeat' split
  all_goals simp [hmem]

theorem execBothInputsLost_canonical {s : State} (hmem : s.memWf) (dt : Nat) : EndsCanonical (execBothInputsLost dt s) := by
  simp [execBothInputsLost, hmem]

theorem execPowerDownReset_canonical {s : State} (hmem : s.memWf) (dt : Nat) (store : Nat) :
    EndsCanonical (execPowerDownReset dt store s) := by
  simp [execPowerDownReset, hmem]

theorem execResetRelease_canonical {s : State} (hmem : s.memWf) (dt : Nat) : EndsCanonical (execResetRelease dt s) := by
  simp [execResetRelease, hmem]

theorem execPowerOn_canonical {s : State} (hmem : s.memWf) (dt : Nat) (p : PowerOnIn) : EndsCanonical (execPowerOn dt p s) := by
  simp [execPowerOn, hmem]

theorem execStst_canonical {s : State} (hmem : s.memWf) (v : Vtx) (f : FmtR) : EndsCanonical (execStst v f s) := by
  refine .ok (State.run_memWf hmem fun x hx => ?_)
  split <;> simp [hx]

/-! ### Every command, and O59 -/

theorem exec_canonical {s : State} (hmem : s.memWf) (c : Instr) : EndsCanonical (exec c s) :=
  match c with
  | .powerOn .. => execPowerOn_canonical hmem ..
  | .sealStateChange .. => .ok ((State.sealChange_memWf ..).mpr hmem)
  | .sealDisagree .. => .ok ((State.sealDisagree_memWf ..).mpr hmem)
  | .mailboxPoll .. => execMailboxPoll_canonical hmem ..
  | .timeWait .. => execTimeWait_canonical hmem ..
  | .furlongBoundary .. => execFurlongBoundary_canonical hmem ..
  | .rodBoundary .. => execRodBoundary_canonical hmem ..
  | .isolatedCleanCount .. => execIsolatedCleanCount_canonical hmem ..
  | .resyncWaitExpiry .. => execResyncWaitExpiry_canonical hmem ..
  | .latticePass .. => execLatticePass_canonical hmem ..
  | .latticeOverrun .. => execLatticeOverrun_canonical hmem ..
  | .taskStart .. => execTaskStart_canonical hmem ..
  | .budgetTrap .. => execBudgetTrap_canonical hmem ..
  | .strideClose .. => execStrideClose_canonical hmem ..
  | .phase2Start .. => execPhase2Start_canonical hmem ..
  | .centroidEntry .. => execCentroidEntry_canonical hmem ..
  | .wEnd .. => execWEnd_canonical hmem ..
  | .vrdLimit .. => execVrdLimit_canonical hmem ..
  | .keyWord .. => execKeyWord_canonical hmem ..
  | .bankCopyBack .. => execBankCopyBack_canonical hmem ..
  | .phase2End .. => execPhase2End_canonical hmem ..
  | .watchdogTrip .. => execWatchdogTrip_canonical hmem ..
  | .slotFetch .. => execSlotFetch_canonical hmem ..
  | .slotTransmit .. => execSlotTransmit_canonical hmem ..
  | .statusTransmit .. => execStatusTransmit_canonical hmem ..
  | .arbWindowStart .. => execArbWindowStart_canonical hmem ..
  | .arbSend .. => execArbSend_canonical hmem ..
  | .eventCopyExpiry .. => execEventCopyExpiry_canonical hmem ..
  | .launchTimeReached .. => execLaunchTimeReached_canonical hmem ..
  | .frameForward .. => execFrameForward_canonical hmem ..
  | .frameCopyReceive .. => execFrameCopyReceive_canonical hmem ..
  | .combineWindowExpiry .. => execCombineWindowExpiry_canonical hmem ..
  | .occurrenceDue .. => execOccurrenceDue_canonical hmem ..
  | .linkChange .. => execLinkChange_canonical hmem ..
  | .guardianBoundaryPulse .. => .ok ((State.guardPulse_memWf ..).mpr hmem)
  | .babble .. => execBabble_canonical hmem ..
  | .coldstartLtExpiry .. => .ok ((State.ltExpiry_memWf ..).mpr hmem)
  | .coldstartEnd .. => .ok ((State.coldEnd_memWf ..).mpr hmem)
  | .syncReceive .. => execSyncReceive_canonical hmem ..
  | .announceReceive dt n .. => execAnnounceReceive_canonical hmem dt n ..
  | .delayReqReceive dt n .. => execDelayReqReceive_canonical hmem dt n ..
  | .delayRespReceive dt n .. => execDelayRespReceive_canonical hmem dt n ..
  | .delayReqSend .. => execDelayReqSend_canonical hmem ..
  | .masterSyncSend .. => execMasterSyncSend_canonical hmem ..
  | .masterAnnounceSend .. => execMasterAnnounceSend_canonical hmem ..
  | .syncTimeout .. => execSyncTimeout_canonical hmem ..
  | .announceReceiptTimeout .. => execAnnounceReceiptTimeout_canonical hmem ..
  | .waitMasterTimeout .. => execWaitMasterTimeout_canonical hmem ..
  | .timeStore .. => execTimeStore_canonical hmem ..
  | .inputEdgeEntry .. => execInputEdgeEntry_canonical hmem ..
  | .classChange .. => execClassChange_canonical hmem ..
  | .ioTick .. => execIoTick_canonical hmem ..
  | .discrepancyLatch .. => execDiscrepancyLatch_canonical hmem ..
  | .inputFaultLatch .. => execInputFaultLatch_canonical hmem ..
  | .inputLatchClear .. => execInputLatchClear_canonical hmem ..
  | .twohandTimeout .. => execTwohandTimeout_canonical hmem ..
  | .tpPulseStart .. => execTpPulseStart_canonical hmem ..
  | .tpPulseCheck .. => execTpPulseCheck_canonical hmem ..
  | .tpOverload .. => execTpOverload_canonical hmem ..
  | .outputTestSlot .. => execOutputTestSlot_canonical hmem ..
  | .outputTestReading .. => execOutputTestReading_canonical hmem ..
  | .outputTestTimeout .. => execOutputTestTimeout_canonical hmem ..
  | .outputTestRepeat .. => execOutputTestRepeat_canonical hmem ..
  | .latchResetTestEnd .. => execLatchResetTestEnd_canonical hmem ..
  | .qsOvercurrent .. => execQsOvercurrent_canonical hmem ..
  | .qsOpenLoad .. => execQsOpenLoad_canonical hmem ..
  | .qsStuckOn .. => execQsStuckOn_canonical hmem ..
  | .qaReadback .. => execQaReadback_canonical hmem ..
  | .supplyWarn .. => execSupplyWarn_canonical hmem ..
  | .supplyWarnClear .. => execSupplyWarnClear_canonical hmem ..
  | .supplyLost .. => execSupplyLost_canonical hmem ..
  | .supplyLostClear .. => execSupplyLostClear_canonical hmem ..
  | .sioFail .. => .ok ((State.sioFail_memWf ..).mpr hmem)
  | .heartbeatSend .. => execHeartbeatSend_canonical hmem ..
  | .heartbeatReceive .. => execHeartbeatReceive_canonical hmem ..
  | .chordDown .. => execChordDown_canonical hmem ..
  | .mdataReceive .. => execMdataReceive_canonical hmem ..
  | .mcommitReceive .. => execMcommitReceive_canonical hmem ..
  | .mirrorCutoff .. => execMirrorCutoff_canonical hmem ..
  | .takeoverDecision .. => execTakeoverDecision_canonical hmem ..
  | .takeover .. => execTakeover_canonical hmem ..
  | .yieldStop .. => execYieldStop_canonical hmem ..
  | .homeEligible .. => execHomeEligible_canonical hmem ..
  | .supplyInput .. => execSupplyInput_canonical hmem ..
  | .bothInputsLost .. => execBothInputsLost_canonical hmem ..
  | .powerDownReset .. => execPowerDownReset_canonical hmem ..
  | .resetRelease .. => execResetRelease_canonical hmem ..
  | .preservingPiece .. => execPreservingPiece_canonical hmem ..
  | .pieceComplete .. => execPieceComplete_canonical hmem ..
  | .sliceStart .. => execSliceStart_canonical hmem ..
  | .sliceAbandon .. => execSliceAbandon_canonical hmem ..
  | .sliceComplete .. => execSliceComplete_canonical hmem ..
  | .selftestOverdue .. => execSelftestOverdue_canonical hmem ..
  | .statusMirrorIntake .. => execStatusMirrorIntake_canonical hmem ..
  | .recordForm .. => execRecordForm_canonical hmem ..
  | .recordCommit .. => execRecordCommit_canonical hmem ..
  | .foldTimeout .. => execFoldTimeout_canonical hmem ..
  | .counterSave .. => execCounterSave_canonical hmem ..
  | .k3mWatchdogRestart .. => execK3mWatchdogRestart_canonical hmem ..
  | .freezeTimeout .. => execFreezeTimeout_canonical hmem ..
  | .probationCleanEnd .. => execProbationCleanEnd_canonical hmem ..
  | .probationFaultRestart .. => execProbationFaultRestart_canonical hmem ..
  | .sessionOpen .. => execSessionOpen_canonical hmem ..
  | .sessionIdleTimeout .. => execSessionIdleTimeout_canonical hmem ..
  | .lockoutExpiry .. => execLockoutExpiry_canonical hmem ..
  | .login .. => execLogin_canonical hmem ..
  | .logout .. => execLogout_canonical hmem ..
  | .setpw .. => execSetpw_canonical hmem ..
  | .clearpw .. => execClearpw_canonical hmem ..
  | .info .. => execInfo_canonical hmem ..
  | .freeze .. => execFreeze_canonical hmem ..
  | .read .. => execRead_canonical hmem ..
  | .readsent .. => execReadsent_canonical hmem ..
  | .thaw .. => execThaw_canonical hmem ..
  | .dlStart .. => execDlStart_canonical hmem ..
  | .dlData .. => execDlData_canonical hmem ..
  | .dlEnd .. => execDlEnd_canonical hmem ..
  | .dlAbort .. => execDlAbort_canonical hmem ..
  | .mailboxItem .. => execMailboxItem_canonical hmem ..
  | .attest .. => execAttest_canonical hmem ..
  | .localAct .. => execLocalAct_canonical hmem ..
  | .setting .. => execSetting_canonical hmem ..
  | .otpOperator .. => execOtpOperator_canonical hmem ..
  | .mbctlPost .. => .ok ((State.postItem_memWf ..).mpr hmem)
  | .hostAccess .. => execHostAccess_canonical hmem ..
  | .hostGo .. => execHostGo_canonical hmem ..
  | .hostResponse .. => execHostResponse_canonical hmem ..
  | .hostAck .. => execHostAck_canonical hmem ..
  | .restart .. => .ok ((State.takeCommand_memWf ..).mpr hmem)
  | .enterMaint .. => .ok ((State.takeCommand_memWf ..).mpr hmem)
  | .endMaint .. => .ok ((State.takeCommand_memWf ..).mpr hmem)
  | .withdraw .. => .ok ((State.takeCommand_memWf ..).mpr hmem)
  | .debug .. => .ok ((State.takeCommand_memWf ..).mpr hmem)
  | .debugEnd .. => .ok ((State.takeCommand_memWf ..).mpr hmem)
  | .rejoin .. => .ok ((State.takeCommand_memWf ..).mpr hmem)
  | .handover .. => .ok ((State.takeCommand_memWf ..).mpr hmem)
  | .stagePatch .. => .ok ((State.takeCommand_memWf ..).mpr hmem)
  | .stageIoParam .. => .ok ((State.takeCommand_memWf ..).mpr hmem)
  | .scheduleAct .. => .ok ((State.takeCommand_memWf ..).mpr hmem)
  | .confirm .. => .ok ((State.takeCommand_memWf ..).mpr hmem)
  | .cancelStage .. => .ok ((State.takeCommand_memWf ..).mpr hmem)
  | .fuseBurn .. => .ok ((State.takeCommand_memWf ..).mpr hmem)
  | .fusectlBurn .. => .ok ((State.fuseWrite_memWf ..).mpr hmem)
  | .pmctlReq .. => .ok ((State.pmctlWrite_memWf ..).mpr hmem)
  | .loutWrite .. => .ok ((State.writeLout_memWf ..).mpr hmem)
  | .ptbWrite .. => .ok ((State.ptbSet_memWf ..).mpr hmem)
  | .dctlRun .. => .ok (by simp [hmem])
  | .dctlStep .. => .ok ((State.debugGo_memWf ..).mpr hmem)
  | .tuseClr .. => .ok (by simp [hmem])
  | .latCtlClr .. => .ok (by simp [hmem])
  | .cenCtlClr .. => .ok (by simp [hmem])
  | .ttbCtlClr .. => .ok ((State.ttbCtl_memWf ..).mpr hmem)
  | .ttbFlagClear .. => .ok ((State.ttbFlagWrite_memWf ..).mpr hmem)
  | .ntmCtlClr .. => .ok ((State.ntmCtl_memWf ..).mpr hmem)
  | .ntmFlagClear .. => .ok ((State.ntmFlagWrite_memWf ..).mpr hmem)
  | .sioCtlClr .. => .ok ((State.sioCtl_memWf ..).mpr hmem)
  | .chdCtlClr .. => .ok ((State.chdCtl_memWf ..).mpr hmem)
  | .memCtlClr .. => .ok ((State.memCtl_memWf ..).mpr hmem)
  | .memDoneClear .. => .ok ((State.memDoneWrite_memWf ..).mpr hmem)
  | .bstCtlClr .. => .ok ((State.bstCtl_memWf ..).mpr hmem)
  | .evrCtlClr .. => .ok ((State.evrCtl_memWf ..).mpr hmem)
  | .recnCtlClr => .ok ((State.modRec_memWf ..).mpr hmem)
  | .sentinelClear => .ok ((State.sentinelClear_memWf ..).mpr hmem)
  | .hwinCtlClr => .ok ((State.hwinClear_memWf ..).mpr hmem)
  | .updmAbort .. => .ok ((State.dropDownload_memWf ..).mpr hmem)
  | .registerWrite .. => execRegisterWrite_canonical hmem ..
  | .nop .. => .ok (State.run_memWf hmem fun _ hx => hx)
  | .trap .. => .ok (State.run_memWf hmem fun _ _ => trivial)
  | .evt .. => .ok (State.run_memWf hmem fun x hx => (congrArg VMem.wf (x.addEvent_mem _)).mpr hx)
  | .rdtcw .. => .ok (State.runReg_memWf hmem ..)
  | .wrtcw .. => .ok (State.runFlags_memWf hmem ..)
  | .mov .. => .ok (State.runReg_memWf hmem ..)
  | .movi .. => .ok (State.runReg_memWf hmem ..)
  | .movis .. => .ok (State.runReg_memWf hmem ..)
  | .movhi .. => .ok (State.runReg_memWf hmem ..)
  | .movx .. => .ok (State.runReg_memWf hmem ..)
  | .sel .. => execSel_canonical hmem ..
  | .ldb .. => .ok (State.loadInstr_memWf hmem ..)
  | .ldbs .. => .ok (State.loadInstr_memWf hmem ..)
  | .ldh .. => .ok (State.loadInstr_memWf hmem ..)
  | .ldhs .. => .ok (State.loadInstr_memWf hmem ..)
  | .ldw .. => .ok (State.loadInstr_memWf hmem ..)
  | .ldd .. => .ok (State.loadInstr_memWf hmem ..)
  | .stb .. => .ok (State.storeInstr_memWf hmem ..)
  | .sth .. => .ok (State.storeInstr_memWf hmem ..)
  | .stw .. => .ok (State.storeInstr_memWf hmem ..)
  | .std .. => .ok (State.storeInstr_memWf hmem ..)
  | .adds .. => .ok (State.runAlu_memWf hmem ..)
  | .addu .. => .ok (State.runAlu_memWf hmem ..)
  | .subs .. => .ok (State.runAlu_memWf hmem ..)
  | .subu .. => .ok (State.runAlu_memWf hmem ..)
  | .muls .. => .ok (State.runAlu_memWf hmem ..)
  | .mulu .. => .ok (State.runAlu_memWf hmem ..)
  | .divs .. => execDivs_canonical hmem ..
  | .divu .. => execDivu_canonical hmem ..
  | .rems .. => execRems_canonical hmem ..
  | .remu .. => execRemu_canonical hmem ..
  | .negs .. => .ok (State.runAlu_memWf hmem ..)
  | .abss .. => .ok (State.runAlu_memWf hmem ..)
  | .addl .. => .ok (State.runAlu64_memWf hmem ..)
  | .subl .. => .ok (State.runAlu64_memWf hmem ..)
  | .addsi .. => .ok (State.runAlu_memWf hmem ..)
  | .and .. => .ok (State.runAlu_memWf hmem ..)
  | .or .. => .ok (State.runAlu_memWf hmem ..)
  | .xor .. => .ok (State.runAlu_memWf hmem ..)
  | .not .. => .ok (State.runAlu_memWf hmem ..)
  | .andi .. => .ok (State.runAlu_memWf hmem ..)
  | .ori .. => .ok (State.runAlu_memWf hmem ..)
  | .xori .. => .ok (State.runAlu_memWf hmem ..)
  | .shl .. => .ok (State.runAlu_memWf hmem ..)
  | .shr .. => .ok (State.runAlu_memWf hmem ..)
  | .sar .. => .ok (State.runAlu_memWf hmem ..)
  | .ror .. => .ok (State.runAlu_memWf hmem ..)
  | .btst .. => .ok (State.runFlags_memWf hmem ..)
  | .bset .. => .ok (State.runAlu_memWf hmem ..)
  | .bclr .. => .ok (State.runAlu_memWf hmem ..)
  | .bext .. => .ok (State.runAlu_memWf hmem ..)
  | .bins .. => .ok (State.runAlu_memWf hmem ..)
  | .sand .. => .ok (State.runS2_memWf hmem ..)
  | .sor .. => .ok (State.runS2_memWf hmem ..)
  | .sxor .. => .ok (State.runS2_memWf hmem ..)
  | .snot .. => .ok (State.runSbool_memWf hmem ..)
  | .stst .. => execStst_canonical hmem ..
  | .sfromb .. => .ok (State.runSbool_memWf hmem ..)
  | .stob .. => .ok (State.runSbool_memWf hmem ..)
  | .sget .. => .ok (State.runSbool_memWf hmem ..)
  | .sput .. => .ok (State.runSbool_memWf hmem ..)
  | .sandp .. => .ok (State.runP2_memWf hmem ..)
  | .sorp .. => .ok (State.runP2_memWf hmem ..)
  | .sall .. => .ok (State.runSbool_memWf hmem ..)
  | .cmp .. => .ok (State.runFlags_memWf hmem ..)
  | .cmpi .. => .ok (State.runFlags_memWf hmem ..)
  | .cmpl .. => .ok (State.runFlags_memWf hmem ..)
  | .tst .. => .ok (State.runFlags_memWf hmem ..)
  | .b .. => execB_canonical hmem ..
  | .loopn .. => execLoopn_canonical hmem ..
  | .lend .. => execLend_canonical hmem ..
  | .callfb .. => execCallfb_canonical hmem ..
  | .retfb .. => execRetfb_canonical hmem ..
  | .rxslot .. => execRxslot_canonical hmem ..
  | .txslot .. => execTxslot_canonical hmem ..
  | .age .. => execAge_canonical hmem ..
  | .ton .. => .ok (State.timerInstr_memWf hmem ..)
  | .tof .. => .ok (State.timerInstr_memWf hmem ..)
  | .tp .. => .ok (State.timerInstr_memWf hmem ..)
  | .rtrig .. => .ok (State.edgeInstr_memWf hmem ..)
  | .ftrig .. => .ok (State.edgeInstr_memWf hmem ..)
  | .query .. => .ok (State.lreqInstr_memWf hmem ..)
  | .command .. => .ok (State.lreqInstr_memWf hmem ..)
  | .alStart .. => .ok (State.lreqInstr_memWf hmem ..)
  | .alStop .. => .ok (State.lreqInstr_memWf hmem ..)
  | .lresv .. => .ok (State.latInstr_memWf hmem ..)
  | .lrelRoute .. => .ok (State.lrelInstr_memWf hmem ..)
  | .lrelElement .. => .ok (State.lrelInstr_memWf hmem ..)
  | .lstat .. => .ok (State.latInstr_memWf hmem ..)
  | .rejoinSelfTestEnd .. => execRejoinSelfTestEnd_canonical hmem ..
  | .rejoinCopySlack .. => execRejoinCopySlack_canonical hmem ..
  | .guardianWindowExpiry .. => .ok ((State.guardMiss_memWf ..).mpr hmem)
  | .sessionEnd .. => execSessionEnd_canonical hmem ..
  | .downloadCheckEnd .. => execDownloadCheckEnd_canonical hmem ..
  | .passThroughRelease .. => execPassThroughRelease_canonical hmem ..
  | .tpRestoreEnd .. => execTpRestoreEnd_canonical hmem ..
  | .sectorEraseEnd .. => execSectorEraseEnd_canonical hmem ..

/-- Settles O59: time passes without a change of memory, and a command at the front of the queue keeps every memory canonical. -/
theorem stepsKeepMemoryCanonical : Obligations.StepsKeepMemoryCanonical := by
  intro s t hmem h
  cases hq : s.pending with
  | nil =>
    rw [step_of_pending_nil hq] at h
    cases h
    exact (State.elapse_memWf 1).mpr hmem
  | cons c rest =>
    rw [step_of_pending_cons hq] at h
    have hend := exec_canonical (s := { s with pending := rest }) hmem c
    rw [h] at hend
    exact hend

end Sys2Proof.Machine

/-! PROOFS. The moves (Table 4.5), and O3: each is a register or a flag result of the runners in Results.lean. -/

namespace Sys2Proof.Machine

section

variable {s : State} {v : Vtx} {m : IMeta} (h : MayIssue s v m)

include h

/-- A register-only instruction writes its register and leaves the flags. -/
theorem State.runReg_writesReg (d : BitVec 4) (val : Vertex → Word) :
    WritesReg s (s.runReg v m false d val) v m d (val (s.issueVertex v m.words)) (s.issueVertex v m.words).core.fl :=
  State.run_writesRegOn h rfl rfl rfl

theorem State.runFlags_writesFlags (f : Vertex → Flags) :
    WritesFlags s (s.runFlags v m false f) v m (f (s.issueVertex v m.words)) := State.run_writesFlags h rfl rfl

end

/-- MOVHI replaces the upper half of the register. -/
theorem append_extractLsb'_eq_ofNat (i : BitVec 16) (w : Word) :
    i ++ w.extractLsb' 0 16 = BitVec.ofNat 32 (i.toNat * 2 ^ 16 + w.toNat % 2 ^ 16) := by
  refine BitVec.eq_of_toNat_eq ?_
  have hi := i.isLt
  have hlow : w.toNat % 2 ^ 16 < 2 ^ 16 := Nat.mod_lt _ (by decide)
  have hor : i.toNat <<< 16 ||| w.toNat % 2 ^ 16 = i.toNat * 2 ^ 16 + w.toNat % 2 ^ 16 := by
    rw [Nat.shiftLeft_eq, Nat.mul_comm, Nat.two_pow_add_eq_or_of_lt hlow]
  have hfits : i.toNat * 2 ^ 16 + w.toNat % 2 ^ 16 < 2 ^ 32 := by omega
  rw [BitVec.toNat_append, BitVec.extractLsb'_toNat, Nat.shiftRight_zero, hor, BitVec.toNat_ofNat, Nat.mod_eq_of_lt hfits]

/-- Settles O3: the word of each move is well formed where its unused fields are 0. -/
theorem movesWriteTheirResult : Obligations.MovesWriteTheirResult := by
  intro s v
  refine ⟨fun f hz hcode h => ?nop, fun f ha hb hmod h => ?rdtcw, fun f hd hb hmod h => ?wrtcw, fun f hb hmod h => ?mov,
    fun f ha h => ?movi, fun f ha h => ?movis, fun f ha h => ?movhi, fun f hz h => ?movx, fun f hmod => ?sel⟩
  case nop =>
    refine ⟨_, rfl, ?_⟩
    rw [hz, hcode]
    exact State.run_writesFlags h rfl rfl
  case rdtcw =>
    refine ⟨_, rfl, ?_⟩
    rw [ha, hb, hmod]
    exact State.runReg_writesReg h f.d fun x => w32 x.core.tcw
  case wrtcw =>
    refine ⟨_, rfl, ?_⟩
    rw [hd, hb, hmod]
    exact State.runFlags_writesFlags h fun x => flagsOf (x.reg f.a)
  case mov =>
    refine ⟨_, rfl, ?_⟩
    rw [hb, hmod]
    exact State.runReg_writesReg h f.d fun x => x.reg f.a
  case movi =>
    refine ⟨_, rfl, ?_⟩
    rw [ha]
    exact State.runReg_writesReg h f.d fun _ => immZ f.imm
  case movis =>
    refine ⟨_, rfl, ?_⟩
    rw [ha]
    exact State.runReg_writesReg h f.d fun _ => immS f.imm
  case movhi =>
    intro x
    refine ⟨_, rfl, ?_⟩
    rw [ha, ← append_extractLsb'_eq_ofNat]
    exact State.runReg_writesReg h f.d fun x => f.imm ++ (x.reg f.d).extractLsb' 0 16
  case movx =>
    refine ⟨_, rfl, ?_⟩
    rw [hz]
    exact State.runReg_writesReg h f.d fun _ => f.imm
  case sel =>
    intro cond m h x
    refine ⟨_, rfl, ?_⟩
    rw [hmod]
    exact State.runReg_writesReg h f.d fun x => if condHolds cond x.core.fl then x.reg f.a else x.reg f.b

end Sys2Proof.Machine

/-! PROOFS. The commands of the boundary group before their instant (notes/assumptions/1.md), and O22. -/

namespace Sys2Proof.Machine

theorem State.boundaryDue_eq_false {s : State}
    (h : s.onGrid (furlongNs s.profile) 0 = false ∨ s.start.acquired = false ∨ s.inReset = true) : s.boundaryDue = false := by
  rcases h with h | h | h <;> simp [State.boundaryDue, h]

theorem State.atRod_eq_false {s : State}
    (h : s.onGrid (rodNs s.profile) 0 = false ∨ s.boundaries = false ∨ s.inReset = true) : s.atRod = false := by
  rcases h with h | h | h <;> simp [State.atRod, h]

theorem State.ruleApplies_eq_false {s : State} (h : s.mode ≠ .resync) : s.ruleApplies = false := by
  simp [State.ruleApplies, h]

/-- Settles O22: each condition that fails is one that the command asks for. -/
theorem boundaryCommandsWaitForTheirInstant : Obligations.BoundaryCommandsWaitForTheirInstant := by
  intro dt s
  refine ⟨fun b h => ?furlong, fun h => ?rod, fun h => ?clean, fun h => ?resync, fun p h => ?power⟩
  case furlong =>
    have hdue : ¬ (s.elapse dt).boundaryDue = true := by simp [State.boundaryDue_eq_false (s := s.elapse dt) h]
    exact if_neg hdue
  case rod =>
    have hrod : (s.elapse dt).atRod = false := State.atRod_eq_false h
    change execRodBoundary dt s = _
    simp [execRodBoundary, hrod, ok]
  case clean => exact if_neg fun hclean => h hclean.1
  case resync =>
    have hrule : ¬ (s.elapse dt).ruleApplies = true := by simp [State.ruleApplies_eq_false (s := s.elapse dt) h]
    exact if_neg hrule
  case power =>
    have hreset : (s.elapse dt).inReset = false := h
    change execPowerOn dt p s = _
    simp [execPowerOn, hreset, ok]

end Sys2Proof.Machine

/-! PROOFS. The chords: what a HEARTBEAT says (Table 11.2), what hearing the partner leaves when its handover bits are judged,
the receipt of a mirror set (R353), and O41. -/

namespace Sys2Proof.Machine

/-! ### What is sent -/

theorem beBytes_length (n x : Nat) : (beBytes n x).length = n := List.length_reverse.trans (leBytes_length n x)

theorem ofLe_leBytes (n x : Nat) : ofLe (leBytes n x) = x % 256 ^ n := by
  induction n generalizing x with
  | zero => rw [Nat.pow_zero, Nat.mod_one]; rfl
  | succ n ih => rw [leBytes, ofLe, ih, Nat.pow_succ', Nat.mod_mul, BitVec.toNat_ofNat]

/-- A field behind a part of a payload is read at its place in what follows that part. -/
theorem payloadField_append {pre : List Byte} {at_ : Nat} (h : pre.length ≤ at_) (b : List Byte) (n : Nat) :
    payloadField (pre ++ b) at_ n = payloadField b (at_ - pre.length) n := by
  rw [payloadField, List.drop_append, List.drop_eq_nil_of_le h, List.nil_append, payloadField]

theorem payloadField_cons (x : Byte) (b : List Byte) (at_ n : Nat) :
    payloadField (x :: b) (at_ + 1) n = payloadField b at_ n := rfl

/-- A field written most significant byte first is read back. -/
@[simp] theorem payloadField_beBytes (n x : Nat) (post : List Byte) : payloadField (beBytes n x ++ post) 0 n = x % 256 ^ n := by
  rw [payloadField, List.drop_zero, List.take_left' (beBytes_length n x), beBytes, List.reverse_reverse, ofLe_leBytes]

/-- A code formed over a frame is right: the codes do not cover themselves (Table 11.1). -/
theorem ChordFrame.coded_codesOk (f : ChordFrame) (mid : Word) : (f.coded mid).codesOk mid = true := by
  simp [ChordFrame.codesOk, ChordFrame.coded, chordCovered]

section

variable (s : State) (ts : Nat) (abdicate : Bool)

theorem State.heartbeat_length : (s.heartbeat ts abdicate).payload.length = 32 := by
  simp [State.heartbeat, ChordFrame.coded, leBytes_length, beBytes_length]

theorem State.heartbeat_codesOk : (s.heartbeat ts abdicate).codesOk 0 = true := ChordFrame.coded_codesOk _ 0

theorem State.heartbeat_mode : (beatOf (s.heartbeat ts abdicate).payload).mode = modeCode s.mode := by
  cases h : s.mode <;> simp [State.heartbeat, ChordFrame.coded, beatOf, payloadField, leBytes, modeCode, ofLe, h]

theorem State.heartbeat_furlong : (beatOf (s.heartbeat ts abdicate).payload).furlong = s.fnum % 2 ^ 32 := by
  simp (disch := simp [beBytes_length]) [State.heartbeat, ChordFrame.coded, beatOf, payloadField_append, payloadField_cons]

/-- MSEQ of an ACTIVE module is the set that it has formed (R345). -/
theorem State.heartbeat_mseq (h : s.mode = .active) :
    (beatOf (s.heartbeat ts abdicate).payload).mseq = s.pair.formed.toNat := by
  have hfits : s.pair.formed.toNat % 256 ^ 4 = s.pair.formed.toNat := Nat.mod_eq_of_lt s.pair.formed.isLt
  simpa (disch := simp [beBytes_length]) [State.heartbeat, ChordFrame.coded, beatOf, payloadField_append, payloadField_cons,
    beBytes_length, h] using hfits

end

theorem State.sendChord_eq (s : State) (f : ChordFrame) :
    s.sendChord f = { s with
      out := (if s.pair.c2.down then [] else [.chord .C2 f]) ++ (if s.pair.c1.down then [] else [.chord .C1 f]) ++ s.out } := by
  cases h1 : s.pair.c1.down <;> cases h2 : s.pair.c2.down <;> simp [State.sendChord, State.emit, h1, h2]

/-! ### What is heard -/

/-- What the module knows of its partner from the HEARTBEATs that it has accepted. -/
structure Hearing where
  mode : Mode
  c1 : ChordRx
  c2 : ChordRx
  up : Bool × Bool
  heard : Bool
  pmode : Nat
  partner : Bool
  evidActive : Option Nat

def State.hearing (s : State) : Hearing :=
  { mode := s.mode, c1 := s.pair.c1, c2 := s.pair.c2, up := s.blk.chd.up, heard := s.blk.chd.heard, pmode := s.blk.chd.pmode,
    partner := s.blk.cyc.partner, evidActive := s.pair.evidActive }

section

variable (s : State)

theorem State.joinHandover_hearing (b : Nat) : (s.joinHandover b).hearing = s.hearing := by
  unfold State.joinHandover
  cases s.pair.target <;> cases s.pair.req <;> simp only <;> split <;> rfl

theorem State.nowReady_hearing : s.nowReady.hearing = s.hearing := by
  unfold State.nowReady
  split
  · split <;> rfl
  · rfl

theorem State.judgeHandover_hearing (b : Nat) : (s.judgeHandover b).hearing = s.hearing := by
  unfold State.judgeHandover
  split
  · rfl
  · dsimp only
    split
    · rfl
    · split
      · exact (State.nowReady_hearing _).trans (State.joinHandover_hearing _ b)
      · rfl

theorem State.handoverBits_hearing (b : Beat) : (s.handoverBits b).hearing = s.hearing := by
  unfold State.handoverBits
  dsimp only
  split
  · rfl
  · have hjudge := s.judgeHandover_hearing (nearBoundary s.fnum b.target)
    generalize s.judgeHandover (nearBoundary s.fnum b.target) = t at hjudge
    split
    · exact hjudge
    · rw [← hjudge]
      repeat' split
      all_goals rfl

theorem State.abdicated_hearing : s.abdicated.hearing = s.hearing := by
  unfold State.abdicated
  split <;> rfl

theorem State.buildMismatch_hearing (b : Beat) : (s.buildMismatch b).hearing = s.hearing := by
  unfold State.buildMismatch
  dsimp only
  split <;> rfl

/-- Only a HEARTBEAT of an ACTIVE partner is evidence of one. -/
theorem State.evidence_hearing (m : Nat) :
    (s.evidence m).hearing = { s.hearing with evidActive := if m = 4 then some s.nt else s.pair.evidActive } := by
  unfold State.evidence
  split
  · rfl
  · split <;> rfl

theorem State.splitBrain_eq (h : s.mode ≠ .active) : s.splitBrain = s := if_pos (.inl h)

/-- The partner is heard with what its HEARTBEAT `b` says of itself. -/
def State.heardBeat (b : Beat) : State :=
  (s.heardPartner b.mode b.strength).modChd fun c => { c with phome := testB b.flags 5, prseq := b.rseq }

/-- What a partner of the same set says is noted. -/
def State.noteBeat (b : Beat) : State :=
  s.modPair fun p =>
    { p with
      pbuild := b.build, pmid := b.mid, pmseq := w32 b.mseq, pstrength := b.strength,
      standFor := if b.mode = modeCode .resync ∨ b.mode = modeCode .standby then some s.fnum else p.standFor }

theorem State.noteBeat_hearing (b : Beat) : (s.noteBeat b).hearing = s.hearing := rfl

theorem State.heardBeat_hearing (b : Beat) :
    (s.heardBeat b).hearing = { s.hearing with heard := true, pmode := b.mode % 8, partner := true } := rfl

/-- In a module that is not ACTIVE a HEARTBEAT shows no split brain (R361). -/
theorem State.acceptBeat_eq (b : Beat) (h : s.mode ≠ .active) :
    s.acceptBeat b =
      if !s.sameSet b then (s.heardBeat b).buildMismatch b
      else if testB b.flags 1 then ((s.heardBeat b).noteBeat b).abdicated
      else (((s.heardBeat b).noteBeat b).evidence b.mode).handoverBits b := by
  have hsplit : (if b.mode = modeCode .active then (s.heardBeat b).splitBrain else s.heardBeat b) = s.heardBeat b := by
    rw [State.splitBrain_eq (s.heardBeat b) h, ite_self]
  rw [State.acceptBeat, ← State.heardBeat]
  simp only [hsplit]
  rfl

/-- What an accepted HEARTBEAT leaves known of the partner, in a module that is not ACTIVE. -/
theorem State.acceptBeat_hearing (b : Beat) (h : s.mode ≠ .active) :
    (s.acceptBeat b).hearing =
      { s.hearing with
        heard := true
        pmode := b.mode % 8
        partner := true
        evidActive := if s.sameSet b = true ∧ testB b.flags 1 = false ∧ b.mode = 4 then some s.nt else s.pair.evidActive } := by
  rw [State.acceptBeat_eq s b h]
  cases hset : s.sameSet b with
  | false =>
    simp only [Bool.not_false, if_true, Bool.false_eq_true, false_and, if_false]
    rw [State.buildMismatch_hearing, State.heardBeat_hearing]
    rfl
  | true =>
    cases habd : testB b.flags 1 with
    | true =>
      simp only [Bool.not_true, Bool.false_eq_true, if_true, Bool.true_eq_false, false_and, and_false, if_false]
      rw [State.abdicated_hearing, State.noteBeat_hearing, State.heardBeat_hearing]
      rfl
    | false =>
      simp only [Bool.not_true, Bool.false_eq_true, true_and, if_false]
      rw [State.handoverBits_hearing, State.evidence_hearing, State.noteBeat_hearing, State.heardBeat_hearing]
      rfl

theorem State.acceptBeat_buildmm {b : Beat} (h : s.sameSet b = false) : (s.acceptBeat b).blk.chd.buildmm = true := by
  simp [State.acceptBeat, State.buildMismatch, State.modChd, h]

end

section

variable {dt : Nat} {l : Link} {f : ChordFrame} {s : State}

/-- A HEARTBEAT that passes steps 1 to 3 and fails step 4. -/
theorem exec_heartbeatReceive_late {pre : Nat} (hon : (s.elapse dt).chordOn l = true)
    (hchecks : (s.elapse dt).chordReject l kHeartbeat 0 f = none)
    (hfour : (s.pair.link l).stepFour (pre + (s.elapse dt).chordLate l) f = false) :
    exec (.heartbeatReceive dt l pre f) s = .next ((s.elapse dt).chordErr l) := by
  have hfour' : ((s.elapse dt).pair.link l).stepFour (pre + (s.elapse dt).chordLate l) f = false := hfour
  change execHeartbeatReceive dt l pre f s = _
  simp only [execHeartbeatReceive, hon, hchecks, hfour', Bool.not_true, Bool.not_false, Bool.false_eq_true, if_true, if_false,
    ok]

/-- The link of an accepted HEARTBEAT is UP and takes its number. -/
def State.linkUp (s : State) (l : Link) (q : Word) : State :=
  (s.modPair fun p => p.setLink l { p.link l with lastAt := some (s.nt + s.chordDelay l), lastSeq := some q }).modChd fun c =>
    { c with up := setLinkOf c.up l true }

/-- A HEARTBEAT that passes every check. -/
theorem exec_heartbeatReceive_accepted {pre : Nat} (hon : (s.elapse dt).chordOn l = true)
    (hchecks : (s.elapse dt).chordReject l kHeartbeat 0 f = none)
    (hfour : (s.pair.link l).stepFour (pre + (s.elapse dt).chordLate l) f = true) :
    exec (.heartbeatReceive dt l pre f) s =
      .next (((s.elapse dt).linkUp l f.seq).later ((s.elapse dt).chordDelay l) fun t => t.acceptBeat (beatOf f.payload)) := by
  have hfour' : ((s.elapse dt).pair.link l).stepFour (pre + (s.elapse dt).chordLate l) f = true := hfour
  change execHeartbeatReceive dt l pre f s = _
  simp only [execHeartbeatReceive, hon, hchecks, hfour', Bool.not_true, Bool.false_eq_true, if_false, ok, State.linkUp]

end

theorem State.linkUp_link (s : State) (l : Link) (q : Word) :
    (s.linkUp l q).pair.link l = { s.pair.link l with lastAt := some (s.nt + s.chordDelay l), lastSeq := some q } := by
  cases l <;> rfl

theorem State.linkUp_evidActive (s : State) (l : Link) (q : Word) : (s.linkUp l q).pair.evidActive = s.pair.evidActive := by
  cases l <;> rfl

theorem linkOf_setLinkOf {α : Type} (p : α × α) (l : Link) (x : α) : linkOf (setLinkOf p l x) l = x := by
  cases l <;> rfl

theorem PairSt2.link_congr {p q : PairSt2} (h1 : p.c1 = q.c1) (h2 : p.c2 = q.c2) (l : Link) : p.link l = q.link l := by
  cases l
  · exact h1
  · exact h2

/-- CHORD_DOWN 300 µs after the last accepted HEARTBEAT (R347). -/
theorem exec_chordDown {dt : Nat} {l : Link} {s : State} (hup : linkOf s.blk.chd.up l = true)
    (hlast : ∀ a, (s.pair.link l).lastAt = some a → 37500 < (s.elapse dt).nt - a) (hreset : s.inReset = false) :
    exec (.chordDown dt l) s =
      .next ((((s.elapse dt).record .chordDown (linkNum l) 0 0).modChd fun c =>
        { c with up := setLinkOf c.up l false, down := setLinkOf c.down l (satInc 8 (linkOf c.down l)) }).modPair
          fun p => { p with cleanFail := true }) := by
  have hlost : (s.elapse dt).within ((s.elapse dt).pair.link l).lastAt us300 = false := by
    change (s.elapse dt).within (s.pair.link l).lastAt us300 = false
    cases hat : (s.pair.link l).lastAt with
    | none => rfl
    | some a => exact decide_eq_false (Nat.not_le_of_lt (hlast a hat))
  have hup' : linkOf (s.elapse dt).blk.chd.up l = true := hup
  have hreset' : (s.elapse dt).inReset = false := hreset
  exact if_pos (by rw [hup', hlost, hreset']; simp)

/-- HEARTBEATs and the chords that carry them (R343 to R347, R356, R387). -/
theorem heartbeatsTellOfThePartner : HeartbeatsTellOfThePartner := by
  intro dt l s
  refine ⟨fun hmode hsilent hbound hreset hgrid => ?send, fun pre f hon hchecks =>
    ⟨exec_heartbeatReceive_late hon hchecks, fun hfour hmode => ?receive⟩, fun hup hlast hreset => ?down⟩
  case send =>
    let ts := (s.elapse dt).time / 25000 * 25000
    have hsend : exec (.heartbeatSend dt) s = .next ((s.elapse dt).sendChord ((s.elapse dt).heartbeat ts false)) :=
      if_pos ⟨hmode, hsilent, hbound, hreset, hgrid⟩
    have hseq : ts / 25000 = (s.elapse dt).time / 25000 := Nat.mul_div_cancel _ (by decide)
    refine ⟨_, hsend.trans (congrArg Host.Outcome.next (State.sendChord_eq _ _)), rfl, rfl, rfl, State.heartbeat_length _ _ _,
      State.heartbeat_codesOk _ _ _, congrArg w32 hseq, State.heartbeat_mode _ _ _, State.heartbeat_mseq _ _ _,
      State.heartbeat_furlong _ _ _⟩
  case receive =>
    let d := (s.elapse dt).chordDelay l
    let w : State := (s.elapse dt).linkUp l f.seq
    let x : State := { w with nt := w.nt + d, clock := w.clock.advance w.blk.ntm.rate d }
    have hknown := x.acceptBeat_hearing (beatOf f.payload) hmode
    have hlink := (PairSt2.link_congr (q := w.pair) (congrArg Hearing.c1 hknown) (congrArg Hearing.c2 hknown) l).trans
      (State.linkUp_link _ l f.seq)
    refine ⟨_, exec_heartbeatReceive_accepted hon hchecks hfour, ?_, congrArg ChordRx.lastAt hlink,
      congrArg ChordRx.lastSeq hlink, congrArg Hearing.heard hknown, congrArg Hearing.pmode hknown,
      congrArg Hearing.partner hknown, congrArg Hearing.mode hknown, fun hother => ⟨x.acceptBeat_buildmm hother, ?_⟩,
      fun hsame hm habd _ => ?_⟩
    · exact (congrArg (linkOf · l) (congrArg Hearing.up hknown)).trans (linkOf_setLinkOf _ l true)
    · have hset : x.sameSet (beatOf f.payload) = false := hother
      exact (congrArg Hearing.evidActive hknown).trans
        ((if_neg (not_and_of_not_left _ (ne_true_of_eq_false hset))).trans (State.linkUp_evidActive _ l f.seq))
    · exact (congrArg Hearing.evidActive hknown).trans (if_pos ⟨hsame, habd, hm⟩)
  case down =>
    refine ⟨_, exec_chordDown hup hlast hreset, linkOf_setLinkOf _ l false, linkOf_setLinkOf _ l _, rfl, fun v hin hroom => ?_⟩
    exact State.recs_record (s := s.elapse dt) hin hroom .chordDown (linkNum l) 0 0

/-! ### Mirror sets (R352, R353) -/

theorem State.nowReady_pair (s : State) : s.nowReady.pair = s.pair := by
  unfold State.nowReady
  split
  · split <;> rfl
  · rfl

theorem State.nowReady_vtx (s : State) : s.nowReady.vtx = s.vtx := by
  unfold State.nowReady
  split
  · split <;> rfl
  · rfl

theorem State.nowReady_mode (s : State) : s.nowReady.mode = s.mode := congrArg Hearing.mode s.nowReady_hearing

/-- The chunk that MDATA frame `f` brings is written into the receive area of every vertex and belongs to the set. -/
def State.keepChunk (s : State) (f : ChordFrame) : State :=
  (s.modAll fun _ x =>
    { x with mem := x.mem.putChunk (mirrorBase s.profile + 1024 * f.idx.toNat) f.payload }).modPair fun p =>
      { p with rx := some { s.rxSet f.seq with chunks := f.idx.toNat :: (s.rxSet f.seq).chunks } }

section

variable {dt : Nat} {l : Link} {f : ChordFrame} {s : State}

/-- What becomes of an MDATA frame that passes steps 1 to 3. -/
theorem exec_mdataReceive (hon : (s.elapse dt).chordOn l = true)
    (hchecks : (s.elapse dt).chordReject l kMdata s.blk.ttb.mid f = none) :
    exec (.mdataReceive dt l f) s =
      if !(s.elapse dt).inTime l f then .next ((s.elapse dt).chordErr l)
      else if (s.rxSet f.seq).chunks.contains f.idx.toNat ∨ s.blk.chd.nchunk ≤ f.idx.toNat then .next (s.elapse dt)
      else .next ((s.elapse dt).keepChunk f).nowReady := by
  have hchecks' : (s.elapse dt).chordReject l kMdata (s.elapse dt).blk.ttb.mid f = none := hchecks
  change execMdataReceive dt l f s = _
  simp only [execMdataReceive, hon, hchecks', Bool.not_true, Bool.false_eq_true, if_false, ok]
  rfl

/-- What becomes of an MCOMMIT frame that passes steps 1 to 3, received in time. -/
theorem exec_mcommitReceive (hon : (s.elapse dt).chordOn l = true)
    (hchecks : (s.elapse dt).chordReject l kMcommit s.blk.ttb.mid f = none) (htime : (s.elapse dt).inTime l f = true) :
    exec (.mcommitReceive dt l f) s =
      if s.mcommitOk f.payload then
        .next ((s.elapse dt).modPair fun p => { p with rx := some { s.rxSet f.seq with commit := true } }).nowReady
      else .next (s.elapse dt) := by
  have hchecks' : (s.elapse dt).chordReject l kMcommit (s.elapse dt).blk.ttb.mid f = none := hchecks
  change execMcommitReceive dt l f s = _
  simp only [execMcommitReceive, hon, hchecks', htime, Bool.not_true, Bool.false_eq_true, if_false, ok]
  rfl

/-- MIRROR_CUTOFF, 20 µs before the boundary or later (R352). -/
theorem exec_mirrorCutoff {x : TxSet} (htx : s.pair.tx = some x)
    (hcut : (s.elapse dt).furlongStart (s.fnum + 1) ≤ (s.elapse dt).time + 20000) :
    exec (.mirrorCutoff dt) s =
      if x.doneAt ≤ (s.elapse dt).nt then
        .next (((s.elapse dt).modPair fun p => { p with tx := none }).modChd fun c => { c with sent := satInc 16 c.sent })
      else
        .next (((s.elapse dt).modPair fun p => { p with tx := none }).modChd fun c =>
          { c with abandon := satInc 8 c.abandon }) := by
  have htx' : (s.elapse dt).pair.tx = some x := htx
  change execMirrorCutoff dt s = _
  simp only [execMirrorCutoff, htx', ok]
  exact if_neg (Nat.not_lt.mpr hcut)

end

/-- Frames of a mirror set and the cut-off of the own one. -/
theorem mirrorSetsAreReceived : MirrorSetsAreReceived := by
  intro dt l f s
  refine ⟨fun hon hchecks => ⟨fun htime => ?late, fun htime hnew hchunk => ?chunk⟩,
    fun hon hchecks htime => ⟨fun hvals => ?commit, fun hvals => ?other⟩,
    fun x htx hcut => ⟨fun hsent => ?sent, fun hsent => ?abandon⟩⟩
  case late =>
    rw [exec_mdataReceive hon hchecks, htime]
    rfl
  case chunk =>
    have hkept : ¬ ((s.rxSet f.seq).chunks.contains f.idx.toNat = true ∨ s.blk.chd.nchunk ≤ f.idx.toNat) := by
      rw [hnew]
      simpa using hchunk
    have hrun : exec (.mdataReceive dt l f) s = .next ((s.elapse dt).keepChunk f).nowReady := by
      rw [exec_mdataReceive hon hchecks, htime, if_neg hkept]
      rfl
    refine ⟨_, hrun, congrArg PairSt2.rx (State.nowReady_pair _), State.nowReady_mode _, fun v => ?_⟩
    rw [State.v, State.nowReady_vtx]
    cases v <;> rfl
  case commit =>
    refine ⟨_, (exec_mcommitReceive hon hchecks htime).trans (if_pos hvals), congrArg PairSt2.rx (State.nowReady_pair _),
      State.nowReady_vtx _, State.nowReady_mode _⟩
  case other => exact (exec_mcommitReceive hon hchecks htime).trans (if_neg (by simp [hvals]))
  case sent => exact (exec_mirrorCutoff htx hcut).trans (if_pos hsent)
  case abandon => exact (exec_mirrorCutoff htx hcut).trans (if_neg (Nat.not_le.mpr hsent))

/-- Settles O41: the HEARTBEATs and the mirror sets, each command by what it does. -/
theorem pairPartners : Obligations.PairPartners := ⟨heartbeatsTellOfThePartner, mirrorSetsAreReceived⟩

end Sys2Proof.Machine

/-! PROOFS. Takeover, yield and the return to the preferred home (R357 to R365), and O42. -/

namespace Sys2Proof.Machine

section

variable {s : State}

theorem State.cyc_endDebug (v : Vtx) : (s.endDebug v).blk.cyc = s.blk.cyc := by
  unfold State.endDebug
  split <;> rfl

theorem State.cyc_endDebugs : s.endDebugs.blk.cyc = s.blk.cyc :=
  (State.cyc_endDebug .C).trans ((State.cyc_endDebug .B).trans (State.cyc_endDebug .A))

/-- The change of mode of a takeover. -/
theorem State.cyc_becomeActive (m : MCause) (cause : Nat) :
    (s.becomeActive m cause).blk.cyc = { s.blk.cyc with mode := .active, cause := m } := by
  have hmode := State.cyc_setMode s.endDebugs .active m
  rw [State.cyc_endDebugs] at hmode
  rw [← hmode, State.becomeActive]
  generalize s.endDebugs.setMode .active m = t
  rfl

theorem State.becomeActive_fnum (m : MCause) (cause : Nat) : (s.becomeActive m cause).fnum = s.fnum := by
  rw [State.fnum, State.cyc_becomeActive, State.fnum]

theorem State.becomeActive_tookOver (m : MCause) (cause : Nat) : (s.becomeActive m cause).pair.tookOver = some s.fnum := rfl

/-- A takeover decided at least 20 µs ago (R358). -/
theorem State.takeoverDue_ripe {a cause : Nat} (hdec : s.pair.decided = some (a, cause)) (hmode : s.mode = .standby)
    (hage : 2500 ≤ s.nt - a) (hmay : s.pair.noTakeover = false) : s.takeoverDue = s.becomeActive .takeover cause := by
  have hripe : s.takeoverRipe = true := by
    have hold : decide (us20 ≤ s.nt - a) = true := decide_eq_true hage
    simp [State.takeoverRipe, hdec, hmode, hmay, hold]
  simp only [State.takeoverDue, hdec, hripe, if_true]

/-- A takeover decided less than 20 µs ago waits. -/
theorem State.takeoverDue_unripe {a cause : Nat} (hdec : s.pair.decided = some (a, cause)) (hage : s.nt - a < 2500) :
    s.takeoverDue = s := by
  have hunripe : s.takeoverRipe = false := by
    have hyoung : decide (us20 ≤ s.nt - a) = false := decide_eq_false (Nat.not_le_of_lt hage)
    simp [State.takeoverRipe, hdec, hyoung]
  simp only [State.takeoverDue, hdec, hunripe, Bool.false_eq_true, if_false]

/-- The return of the home module in its window (R365). -/
theorem State.homeReturn_eq (hel : s.homeEligible = true) (hwin : s.inWindow = true) (htgt : s.pair.target = none)
    (htries : s.pair.tries < 16) (hstr : s.strength = 3) :
    s.homeReturn = ((s.record .homeReturn (s.fnum % 2 ^ 32) 0 0).modPair fun p =>
      { p.dropHandover with
        target := some (s.fnum + 2), judged := some (s.fnum + 2), tries := p.tries + 1 }).modChd fun c =>
          { c with host := .horeq } := by
  simp [State.homeReturn, hel, hwin, htgt, htries, hstr]

end

/-- Settles O42: each command by the test that it makes at its instant. -/
theorem takeoverYieldAndReturn : Obligations.TakeoverYieldAndReturn := by
  intro dt s
  refine ⟨fun hsilence => if_pos hsilence, fun a cause hdec hmode hage hmay hrod => ?takeover, fun a cause hdec hwait => ?wait,
    fun a hyield hmode hage hrod => ?yield, fun hel hbound hwin htgt htries hstr => ?home⟩
  case takeover =>
    have hrun : exec (.takeover dt) s = .next ((s.elapse dt).becomeActive .takeover cause) :=
      (if_pos hrod).trans (congrArg Host.Outcome.next (State.takeoverDue_ripe (s := s.elapse dt) hdec hmode hage hmay))
    have hcyc := State.cyc_becomeActive (s := s.elapse dt) .takeover cause
    exact ⟨_, hrun, congrArg Cyc.mode hcyc, congrArg Cyc.cause hcyc, rfl, rfl, State.becomeActive_tookOver _ _,
      State.becomeActive_fnum _ _⟩
  case wait =>
    rcases hwait with hage | hrod
    · have hstay : (s.elapse dt).takeoverDue = s.elapse dt := State.takeoverDue_unripe (s := s.elapse dt) hdec hage
      exact (congrArg (ite _ · _) (congrArg Host.Outcome.next hstay)).trans (ite_self _)
    · exact if_neg (ne_true_of_eq_false hrod)
  case yield =>
    have hyield' : (s.elapse dt).pair.yieldAt = some a := hyield
    change execYieldStop dt s = _
    simp only [execYieldStop, hyield']
    exact if_pos ⟨hrod, hmode, hage⟩
  case home =>
    have hel' : (s.elapse dt).homeEligible = true := hel
    have hrun : exec (.homeEligible dt) s = .next (s.elapse dt).homeReturn := if_pos (by rw [hel']; exact hbound)
    rw [State.homeReturn_eq (s := s.elapse dt) hel hwin htgt htries hstr] at hrun
    refine ⟨_, hrun, rfl, rfl, rfl, rfl, rfl, fun v hin hroom => ?_⟩
    exact State.recs_record (s := s.elapse dt) hin hroom .homeReturn (s.fnum % 2 ^ 32) 0 0

end Sys2Proof.Machine

/-! PROOFS. What a store leaves to be read of whole numbers, the state word of the J7 host window, and O50. -/

namespace Sys2Proof.Machine

/-! ### Numbers of several bytes -/

theorem Memory.bytes_put_same {m : List Host.Cell} (hm : Memory.wf m = true) (a : Nat) (l : List Byte) :
    Memory.bytes (Memory.put m a l) a l.length = l := by
  induction l generalizing m a with
  | nil => rfl
  | cons x l ih =>
    have hhead : Memory.read (Memory.put (Memory.write m a x) (a + 1) l) a = x :=
      (Memory.read_put_other l _ (.inl a.lt_succ_self)).trans (Memory.read_write_same hm a x)
    rw [Memory.put, List.length_cons, Memory.bytes, hhead, ih (Memory.wf_write hm a x)]

theorem Memory.bytes_put_other (l : List Byte) (m : List Host.Cell) {a b n : Nat} (h : b + n ≤ a ∨ a + l.length ≤ b) :
    Memory.bytes (Memory.put m a l) b n = Memory.bytes m b n := by
  induction n generalizing b with
  | zero => rfl
  | succ n ih => rw [Memory.bytes, Memory.bytes, Memory.read_put_other l m (by omega), ih (by omega)]

theorem Memory.bytes_eq_map (m : List Host.Cell) (a n : Nat) :
    Memory.bytes m a n = (List.range n).map fun i => Memory.read m (a + i) := by
  induction n generalizing a with
  | zero => rfl
  | succ n ih =>
    rw [Memory.bytes, ih, List.range_succ_eq_map, List.map_cons, List.map_map]
    exact congrArg _ (List.map_congr_left fun i _ => congrArg (Memory.read m) (Nat.succ_add_eq_add_succ a i))

/-- A number stored is read back as far as its bytes hold it. -/
theorem Memory.load_store_same {m : List Host.Cell} (hm : Memory.wf m = true) (a n x : Nat) :
    Memory.load (Memory.store m a n x) a n = x % 256 ^ n := by
  have hbytes := Memory.bytes_put_same hm a (leBytes n x)
  rw [leBytes_length] at hbytes
  rw [Memory.load, Memory.store, hbytes, ofLe_leBytes]

theorem Memory.load_store_other (m : List Host.Cell) {a n b k : Nat} (x : Nat) (h : b + k ≤ a ∨ a + n ≤ b) :
    Memory.load (Memory.store m a n x) b k = Memory.load m b k :=
  congrArg ofLe (Memory.bytes_put_other _ m (by rwa [leBytes_length]))

/-- A bit that a 16-bit mask lacks is 0 after the number has been stored with it. -/
theorem and_toNat_bit {x mask : BitVec 16} {k : Nat} (h : mask.toNat / 2 ^ k % 2 = 0) : (x &&& mask).toNat / 2 ^ k % 2 = 0 := by
  rw [BitVec.toNat_and, Nat.and_div_two_pow, ← Nat.pow_one 2, Nat.and_mod_two_pow, Nat.pow_one, h, Nat.and_zero]

/-! ### The window -/

section

variable {s : State}

theorem State.scrubShared_eq (h : s.shEcc.soft = []) (p : Nat × Nat → Bool) : s.scrubShared p = s := by
  simp [State.scrubShared, h]

theorem State.scrubShared_hwin (p : Nat × Nat → Bool) : (s.scrubShared p).hwin = s.hwin := by
  unfold State.scrubShared
  split <;> rfl

/-- Only the count and the errors are changed where words are corrected. -/
theorem State.scrubShared_rest (p : Nat × Nat → Bool) :
    s.scrubShared p = { s with shEcc := (s.scrubShared p).shEcc, blk := (s.scrubShared p).blk } := by
  unfold State.scrubShared
  split <;> rfl

theorem State.windowStore_mem (a n x : Nat) : (s.windowStore a n x).hwin.mem = Memory.store s.hwin.mem a n x :=
  congrArg (fun h : HostWin => Memory.store h.mem a n x) (State.scrubShared_hwin _)

theorem State.windowBytes_eq (h : s.shEcc.hard = []) (a n : Nat) : s.windowBytes a n = Memory.bytes s.hwin.mem a n := by
  rw [Memory.bytes_eq_map, State.windowBytes, h]
  rfl

/-- The state word at offset 0 says whether a response waits. -/
theorem State.writeHstat_ready (hm : Memory.wf s.hwin.mem = true) (r : Bool) : (s.writeHstat r).hwin.ready = r := by
  have hword : Memory.load (s.writeHstat r).hwin.mem 0 2 = s.hstat r s.hwin.request.isSome % 256 ^ 2 :=
    Memory.load_store_same hm 0 2 _
  have hparity : s.hstat r s.hwin.request.isSome % 2 = bit r % 2 := by
    rw [State.hstat]
    omega
  rw [HostWin.ready, hword, testB, Nat.pow_zero, Nat.div_one, Nat.mod_mod_of_dvd _ (by decide), hparity]
  cases r <;> rfl

/-- The request flags at offset 8 are no part of the state word. -/
theorem State.writeHstat_flags (r : Bool) : Memory.load (s.writeHstat r).hwin.mem 8 2 = Memory.load s.hwin.mem 8 2 :=
  Memory.load_store_other _ _ (.inr (by decide))

theorem State.changeLog_window (role chan code sess item : Nat) (r : Res) :
    (s.changeLog role chan code sess item r).hwin = s.hwin ∧ (s.changeLog role chan code sess item r).out = s.out := by
  unfold State.changeLog State.k3mRec
  split <;> exact ⟨rfl, rfl⟩

/-- A request that is turned away is logged where it would change something (R438). -/
theorem State.turnedAway_window (c : Bool) (role chan code sess item : Nat) (r : Res) :
    (if c then s.changeLog role chan code sess item r else s).hwin = s.hwin ∧
      (if c then s.changeLog role chan code sess item r else s).out = s.out := by
  cases c with
  | false => exact ⟨rfl, rfl⟩
  | true => exact State.changeLog_window role chan code sess item r

/-- Serving a request of the window leaves the window and sends nothing. -/
theorem State.j7Serve_window (m : Message) : (s.j7Serve m).1.hwin = s.hwin ∧ (s.j7Serve m).1.out = s.out := by
  unfold State.j7Serve
  dsimp only
  split
  · exact State.turnedAway_window ..
  split
  · exact State.turnedAway_window ..
  split
  · exact ⟨rfl, rfl⟩
  split
  · split <;> exact ⟨rfl, rfl⟩
  split
  · exact ⟨(State.changeLog_window ..).1.trans ((apply_ite State.hwin _ _ _).trans (ite_self _)),
      (State.changeLog_window ..).2.trans ((apply_ite State.out _ _ _).trans (ite_self _))⟩
  · exact State.turnedAway_window ..

/-- A strict module answers every request of the window with WRONG_MODE (R476). -/
theorem State.j7Serve_strict (h : s.strict = true) (m : Message) : (s.j7Serve m).2.1 = .wrongMode := by
  simp [State.j7Serve, h]

end

/-! ### The commands -/

section

variable {dt : Nat} {s : State}

/-- A response is written behind the state word, and sent (R461). -/
def State.windowResponse (t : State) (m : Message) (r : Res) (b : List Byte) : State :=
  ((t.modHwin fun h =>
    { h with
      mem := Memory.put h.mem 0x8000 (Response.bytes ⟨.j7, m.code + 0x8000, m.tag, r.code, b⟩)
      request := none
      reqs := satInc 16 h.reqs }).writeHstat true).respond .j7 m.code m.tag r b

theorem State.windowResponse_out (t : State) (m : Message) (r : Res) (b : List Byte) :
    (t.windowResponse m r b).out = .response ⟨.j7, m.code + 0x8000, m.tag, r.code, b⟩ :: t.out := rfl

theorem State.windowResponse_reqs (t : State) (m : Message) (r : Res) (b : List Byte) :
    (t.windowResponse m r b).hwin.reqs = satInc 16 t.hwin.reqs := rfl

theorem exec_hostResponse {l : List Byte} (hup : s.j7Up = true) (hreq : s.hwin.request = some l) :
    exec (.hostResponse dt) s =
      .next (((s.elapse dt).j7Serve (messageOf l)).1.windowResponse (messageOf l) ((s.elapse dt).j7Serve (messageOf l)).2.1
        ((s.elapse dt).j7Serve (messageOf l)).2.2) := by
  have hup' : (s.elapse dt).j7Up = true := hup
  have hreq' : (s.elapse dt).hwin.request = some l := hreq
  change execHostResponse dt s = _
  simp only [execHostResponse, hreq', hup', Bool.not_true, Bool.false_eq_true, if_false]
  rfl

/-- The request flags as HOST_GO leaves them, with the request taken. -/
def State.takeRequest (s : State) (l : List Byte) : State :=
  (s.modHwin fun h =>
    { h with
      request := some l
      mem := Memory.store h.mem 8 2 ((BitVec.ofNat 16 (Memory.load h.mem 8 2)) &&& 0xFFFE).toNat }).writeHstat false

theorem exec_hostGo (hup : s.j7Up = true) (hready : s.hwin.ready = false) (hreq : s.hwin.request = none)
    (hecc : s.shEcc = ⟨[], []⟩) :
    exec (.hostGo dt) s =
      .next ((s.elapse dt).takeRequest
        (Memory.bytes s.hwin.mem 0x10 (8 + min (ofBe (Memory.bytes s.hwin.mem 0x10 4)) 32744))) := by
  have hup' : (s.elapse dt).j7Up = true := hup
  have hready' : (s.elapse dt).hwin.ready = false := hready
  have hreq' : (s.elapse dt).hwin.request = none := hreq
  have hsoft : (s.elapse dt).shEcc.soft = [] := congrArg SharedEcc.soft hecc
  have hhard : (s.elapse dt).shEcc.hard = [] := congrArg SharedEcc.hard hecc
  change execHostGo dt s = _
  simp only [execHostGo, hup', hready', hreq', State.scrubShared_eq hsoft, State.windowBytes_eq hhard]
  rfl

theorem State.takeRequest_ready (hm : Memory.wf s.hwin.mem = true) (l : List Byte) :
    (s.takeRequest l).hwin.ready = false := State.writeHstat_ready (Memory.wf_store hm 8 2 _) false

/-- A flag that HOST_GO or HOST_ACK masks is clear. -/
theorem State.writeHstat_masked {m : List Host.Cell} {x mask : BitVec 16} {k : Nat} (hm : Memory.wf m = true)
    (hmem : s.hwin.mem = Memory.store m 8 2 (x &&& mask).toNat) (hmask : mask.toNat / 2 ^ k % 2 = 0) (r : Bool) :
    Memory.load (s.writeHstat r).hwin.mem 8 2 / 2 ^ k % 2 = 0 := by
  rw [State.writeHstat_flags, hmem, Memory.load_store_same hm 8 2, Nat.mod_eq_of_lt (b := 256 ^ 2) (x &&& mask).isLt]
  exact and_toNat_bit hmask

/-- HOST_GO clears GO. -/
theorem State.takeRequest_flags (hm : Memory.wf s.hwin.mem = true) (l : List Byte) :
    Memory.load (s.takeRequest l).hwin.mem 8 2 % 2 = 0 := by
  have hmasked : Memory.load (s.takeRequest l).hwin.mem 8 2 / 2 ^ 0 % 2 = 0 :=
    State.writeHstat_masked (mask := 0xFFFE) hm rfl (by decide) false
  rwa [Nat.pow_zero, Nat.div_one] at hmasked

/-- The request flags with RSPRDY taken back, as HOST_ACK leaves them. -/
def State.acknowledge (s : State) : State :=
  (s.modHwin fun h =>
    { h with mem := Memory.store h.mem 8 2 ((BitVec.ofNat 16 (Memory.load h.mem 8 2)) &&& 0xFFFD).toNat }).writeHstat false

theorem State.acknowledge_ready (hm : Memory.wf s.hwin.mem = true) : s.acknowledge.hwin.ready = false :=
  State.writeHstat_ready (Memory.wf_store hm 8 2 _) false

/-- HOST_ACK clears ACK. -/
theorem State.acknowledge_flags (hm : Memory.wf s.hwin.mem = true) :
    Memory.load s.acknowledge.hwin.mem 8 2 / 2 % 2 = 0 :=
  State.writeHstat_masked (mask := 0xFFFD) (k := 1) hm rfl (by decide) false

theorem exec_hostAck (hup : s.j7Up = true) (hready : s.hwin.ready = true) :
    exec (.hostAck dt) s = .next (s.elapse dt).acknowledge := by
  have hup' : (s.elapse dt).j7Up = true := hup
  have hready' : (s.elapse dt).hwin.ready = true := hready
  exact if_pos (by rw [hup', hready']; rfl)

/-- An access of the host to a port that answers (R460, R373). -/
theorem exec_hostAccess (hup : s.j7Up = true) (wr : Bool) (ha : BitVec 15) (d : BitVec 16) (c : Collide) :
    exec (.hostAccess dt wr ha d c) s =
      if c = .write ∧ s.hwin.owed ≠ some (2 * ha.toNat / 8) then
        .next ((s.elapse dt).modHwin fun h =>
          { h with
            busy := true, data := none, hostBusy := satInc 16 h.hostBusy, owed := some (2 * ha.toNat / 8) })
      else if wr then
        .next (((s.elapse dt).windowStore (2 * ha.toNat) 2 d.toNat).modHwin fun h =>
          { h with
            busy := false, data := none, owed := none
            k3mBusy := if c = .read then satInc 16 h.k3mBusy else h.k3mBusy })
      else
        .next (((s.elapse dt).scrubShared (inWindowWords (2 * ha.toNat) 2)).modHwin fun h =>
          { h with
            busy := false, data := some (BitVec.ofNat 16 (ofLe ((s.elapse dt).windowBytes (2 * ha.toNat) 2)))
            owed := none }) := by
  have hup' : (s.elapse dt).j7Up = true := hup
  have hen : (s.elapse dt).hwin.en = true := by
    simp only [State.j7Up, Bool.and_eq_true] at hup'
    exact hup'.1.1
  change execHostAccess dt wr ha d c s = _
  simp only [execHostAccess, hup', hen, Bool.not_true, Bool.false_eq_true, if_false]
  rfl

/-- The K3M does not write the word of the access, or has left it to the port (R373). -/
theorem not_busy {c : Collide} {ha : BitVec 15} (hfree : c ≠ .write ∨ s.hwin.owed = some (2 * ha.toNat / 8)) :
    ¬ (c = .write ∧ s.hwin.owed ≠ some (2 * ha.toNat / 8)) := by
  rintro ⟨hwrite, howed⟩
  exact hfree.elim (· hwrite) howed

end

/-- Settles O50: each access and each step of a request by what it does. -/
theorem hostWindowServes : Obligations.HostWindowServes := by
  intro dt s hm
  refine ⟨fun wr ha d c hen => ?disabled, fun wr ha d c hen hdown => ?down, ?hbusy, fun wr ha d hup howed => ?busy,
    fun ha d c hup hfree => ?write, fun ha d c hup hfree hecc => ?read, fun hup hready hreq hecc => ?go,
    fun l hup hreq => ?response, fun hup hready => ?ack⟩
  case disabled =>
    have hen' : (s.elapse dt).hwin.en = false := hen
    exact if_pos (by rw [hen']; rfl)
  case down =>
    have hen' : (s.elapse dt).hwin.en = true := hen
    have hdown' : (s.elapse dt).j7Up = false := hdown
    exact (if_neg (by simp [hen'])).trans (if_pos (by rw [hdown']; rfl))
  case hbusy =>
    rw [State.hbusyLow, State.j7Up]
    cases s.hwin.en <;> cases s.k3m.failed <;> cases s.inReset <;> decide
  case busy => exact (exec_hostAccess hup wr ha d .write).trans (if_pos ⟨rfl, howed⟩)
  case write =>
    have hrun := ((exec_hostAccess (dt := dt) hup true ha d c).trans (if_neg (not_busy hfree))).trans (if_pos rfl)
    refine ⟨_, hrun, ?_, fun hsoft => ?_, rfl, rfl, ?_, fun a hother => ?_⟩
    · rw [State.windowStore, State.scrubShared_rest]
      rfl
    · rw [State.windowStore, State.scrubShared_eq (s := s.elapse dt) hsoft]
      exact ⟨rfl, rfl⟩
    · exact (congrArg (Memory.load · _ 2) (State.windowStore_mem (s := s.elapse dt) _ 2 _)).trans
        ((Memory.load_store_same hm _ 2 _).trans (Nat.mod_eq_of_lt (b := 256 ^ 2) d.isLt))
    · exact (congrArg (Memory.read · a) (State.windowStore_mem (s := s.elapse dt) _ 2 _)).trans
        (Memory.read_put_other _ _ (by rwa [leBytes_length]))
  case read =>
    have hrun := ((exec_hostAccess (dt := dt) hup false ha d c).trans (if_neg (not_busy hfree))).trans
      (if_neg Bool.false_ne_true)
    rw [State.windowBytes_eq (s := s.elapse dt) (congrArg SharedEcc.hard hecc),
      State.scrubShared_eq (s := s.elapse dt) (congrArg SharedEcc.soft hecc)] at hrun
    exact hrun
  case go =>
    exact ⟨_, _, exec_hostGo hup hready hreq hecc, rfl, rfl, rfl, State.takeRequest_ready hm _, State.takeRequest_flags hm _⟩
  case response =>
    let m := messageOf l
    obtain ⟨hwin, hout⟩ := (s.elapse dt).j7Serve_window m
    have hput : ∀ b, Memory.wf (Memory.put ((s.elapse dt).j7Serve m).1.hwin.mem 0x8000 b) = true := fun b => by
      rw [hwin]
      exact Memory.wf_put hm _ b
    refine ⟨_, ((s.elapse dt).j7Serve m).2.1, ((s.elapse dt).j7Serve m).2.2, exec_hostResponse hup hreq, rfl,
      State.writeHstat_ready (hput _) true, ?_, ?_, fun hstrict => State.j7Serve_strict (s := s.elapse dt) hstrict m⟩
    · rw [State.windowResponse_reqs, hwin]
      rfl
    · rw [State.windowResponse_out, hout]
      rfl
  case ack =>
    exact ⟨_, exec_hostAck hup hready, rfl, State.acknowledge_ready hm, State.acknowledge_flags hm⟩

end Sys2Proof.Machine

/-! PROOFS. The answer to a request of a service session (R435), the record of the journal in force after a write (R422), and
O48. -/

namespace Sys2Proof.Machine

/-! ### The journal -/

theorem JSlots.cur_of_lt {x y : Journal} (h : x.jseq.toNat < y.jseq.toNat) : (JSlots.mk (some x) (some y)).cur = y :=
  if_neg (Nat.not_le.mpr h)

theorem JSlots.cur_of_le {x y : Journal} (h : y.jseq.toNat ≤ x.jseq.toNat) : (JSlots.mk (some x) (some y)).cur = x := if_pos h

/-- The record that a write of the journal leaves in force, as long as JSEQ does not wrap. -/
theorem JSlots.cur_write {j : JSlots} (h : j.cur.jseq.toNat + 1 < 2 ^ 32) (f : Journal → Journal) :
    (j.write f).cur = { f j.cur with jseq := j.cur.jseq + 1 } := by
  have hnext : (j.cur.jseq + 1).toNat = j.cur.jseq.toNat + 1 := (BitVec.toNat_add _ _).trans (Nat.mod_eq_of_lt h)
  have hlt : j.cur.jseq.toNat < (j.cur.jseq + 1).toNat := Nat.lt_of_lt_of_eq (Nat.lt_succ_self _) hnext.symm
  obtain ⟨a, b⟩ := j
  cases a with
  | none =>
    cases b with
    | none => rfl
    | some y => exact JSlots.cur_of_le (Nat.le_of_lt hlt)
  | some x =>
    cases b with
    | none => exact JSlots.cur_of_lt hlt
    | some y =>
      by_cases hle : y.jseq.toNat ≤ x.jseq.toNat
      · rw [JSlots.cur_of_le hle] at hlt ⊢
        simpa [JSlots.write, JSlots.newestA, hle, JSlots.cur_of_le hle] using JSlots.cur_of_lt hlt
      · rw [JSlots.cur_of_lt (Nat.not_le.mp hle)] at hlt ⊢
        simpa [JSlots.write, JSlots.newestA, hle, JSlots.cur_of_lt (Nat.not_le.mp hle)] using JSlots.cur_of_le (Nat.le_of_lt hlt)

/-! ### What a request leaves -/

/-- What a request of a session leaves of the module: it sends nothing of its own and changes neither the mode nor a vertex. -/
structure ServiceOnly (s t : State) : Prop where
  out : t.out = s.out
  mode : t.mode = s.mode
  vtx : t.vtx = s.vtx

section

variable (s : State)

theorem State.k3mRec_eq (source : Nat) (t : RecType) (body : List Byte) :
    s.k3mRec source t body = { s with recorder := (s.k3mRec source t body).recorder } := by
  unfold State.k3mRec
  split <;> rfl

theorem State.updRec_eq (code a1 a2 a3 : Nat) :
    s.updRec code a1 a2 a3 = { s with recorder := (s.updRec code a1 a2 a3).recorder } := State.k3mRec_eq ..

theorem State.answer_eq (n : Sess) (code : Nat) (tag : BitVec 16) (item : Nat) (r : Res) :
    ∃ rec, s.answer n code tag item r =
      { s with recorder := rec, out := .response ⟨.s1, code + 0x8000, tag, r.code, []⟩ :: s.out } := by
  refine ⟨(s.changeLog (s.roleOf n) 0 code (sessNum n) item r).recorder, ?_⟩
  rw [State.answer, State.changeLog, State.k3mRec_eq]
  rfl

/-- A request that arrives changes only what the session notes of it. -/
theorem State.touchSess_elapse_upd (dt : Nat) (n : Sess) :
    ∃ clean sec a b, ((s.elapse dt).touchSess n).upd = { s.upd with clean := clean, secNt := sec, s0 := a, s1 := b } := by
  unfold State.elapse Update.elapse
  split <;> cases n <;> exact ⟨_, _, _, _, rfl⟩

end

section

variable {s : State} {dt : Nat} {n : Sess} {code item : Nat} {tag : BitVec 16} {r : Res} {f : State → State} {P : State → Prop}

theorem State.open_elapse : (s.elapse dt).open_ n = s.open_ n := by
  unfold State.elapse Update.elapse
  split <;> rfl

/-- A request on an open session is answered with its result; where accepted, with its effect. -/
theorem answered_request (hopen : s.open_ n = true) (hf : ∀ t, ServiceOnly t (f t))
    (hP : ∀ t, t.upd = (if r = .accepted then f ((s.elapse dt).touchSess n) else (s.elapse dt).touchSess n).upd →
      t.mbox = (if r = .accepted then f ((s.elapse dt).touchSess n) else (s.elapse dt).touchSess n).mbox → P t) :
    Answered s (.next ((s.elapse dt).request n code tag item r f)) code tag r [] P := by
  have hserved : ServiceOnly s (if r = .accepted then f ((s.elapse dt).touchSess n) else (s.elapse dt).touchSess n) := by
    split
    · exact ⟨(hf _).out, (hf _).mode, (hf _).vtx⟩
    · exact ⟨rfl, rfl, rfl⟩
  have hrun : (s.elapse dt).request n code tag item r f =
      (if r = .accepted then f ((s.elapse dt).touchSess n) else (s.elapse dt).touchSess n).answer n code tag item r := by
    rw [State.request, State.open_elapse, hopen]
    exact (apply_ite (fun t : State => t.answer n code tag item r) _ _ _).symm
  generalize (if r = .accepted then f ((s.elapse dt).touchSess n) else (s.elapse dt).touchSess n) = w at hserved hrun hP
  obtain ⟨rec, hans⟩ := w.answer_eq n code tag item r
  exact ⟨_, congrArg _ (hrun.trans hans), congrArg _ hserved.out, hserved.mode, hserved.vtx, hP _ rfl rfl⟩

/-- A request that the log does not name is answered with its body where accepted. -/
theorem answered_query {body : List Byte} (hopen : s.open_ n = true) (hf : ∀ t, ServiceOnly t (f t))
    (hP : ∀ t, t.upd = (if r = .accepted then f ((s.elapse dt).touchSess n) else (s.elapse dt).touchSess n).upd → P t) :
    Answered s (.next ((s.elapse dt).query n code tag r body f)) code tag r (if r = .accepted then body else []) P := by
  have hserved : ServiceOnly s (if r = .accepted then f ((s.elapse dt).touchSess n) else (s.elapse dt).touchSess n) := by
    split
    · exact ⟨(hf _).out, (hf _).mode, (hf _).vtx⟩
    · exact ⟨rfl, rfl, rfl⟩
  have hrun : (s.elapse dt).query n code tag r body f =
      (if r = .accepted then f ((s.elapse dt).touchSess n) else (s.elapse dt).touchSess n).respond .s1 code tag r
        (if r = .accepted then body else []) := by
    rw [State.query, State.open_elapse, hopen]
    rfl
  exact ⟨_, congrArg _ hrun, congrArg _ hserved.out, hserved.mode, hserved.vtx, hP _ rfl⟩

end

/-! ### What the requests decide on -/

section

variable (s : State) (dt : Nat) (n : Sess)

theorem State.itemRes_elapse (ok : Bool) (kind : Nat) (cmd : Word) (body : List Byte) :
    (s.elapse dt).itemRes ok kind cmd body = s.itemRes ok kind cmd body := rfl

theorem State.hasRole_elapse (r : Role) (always : Bool) : (s.elapse dt).hasRole n r always = s.hasRole n r always := by
  unfold State.elapse Update.elapse
  split <;> rfl

theorem State.localActRes_elapse : (s.elapse dt).localActRes n = s.localActRes n := by
  unfold State.elapse Update.elapse
  split <;> rfl

theorem State.otpRes_elapse (h1 h2 : BitVec 384) : (s.elapse dt).otpRes n h1 h2 = s.otpRes n h1 h2 := by
  unfold State.elapse Update.elapse
  split <;> rfl

end

/-- LOCAL_ACT arms the journal and posts a command item with RESTART (R428). -/
def State.armLocally (t : State) (role : Nat) (tag : BitVec 16) : State :=
  ((t.journal fun j =>
    { j with
      state := .armed
      dig16 := match t.upd.staging with
        | some l => dig16 l.man
        | none => 0
      group := 0 }).placeItem 0 role 1 (0x00000001#32 ||| (tag.zeroExtend 32 <<< 16)) []).postItem

theorem State.armLocally_serviceOnly (t : State) (role : Nat) (tag : BitVec 16) : ServiceOnly t (t.armLocally role tag) :=
  ⟨rfl, rfl, rfl⟩

theorem State.armLocally_slots {t : State} {l : LoadSet} (hseq : t.upd.slots.cur.jseq.toNat + 1 < 2 ^ 32)
    (hset : t.upd.staging = some l) (role : Nat) (tag : BitVec 16) :
    (t.armLocally role tag).upd.slots.cur =
      { t.upd.slots.cur with state := .armed, dig16 := dig16 l.man, group := 0, jseq := t.upd.slots.cur.jseq + 1 } := by
  refine (JSlots.cur_write hseq _).trans ?_
  rw [hset]

theorem exec_localAct (dt : Nat) (n : Sess) (tag : BitVec 16) (s : State) :
    exec (.localAct dt n tag) s =
      .next ((s.elapse dt).request n 0x41 tag (buildOf (s.elapse dt).upd.staging) (s.localActRes n) fun t =>
        t.armLocally ((s.elapse dt).roleOf n) tag) := by
  rw [← State.localActRes_elapse s dt n]
  rfl

theorem exec_setting (dt : Nat) (n : Sess) (tag : BitVec 16) (id : Nat) (value : Word) (s : State) :
    exec (.setting dt n tag id value) s =
      .next ((s.elapse dt).request n 0x42 tag id
        (if s.mode ≠ .commission then .wrongMode else if !s.hasRole n .commissioner true then .auth else .accepted) fun t =>
          t.modUpd fun u =>
            { u with settings := { u.settings with vals := (id, value) :: u.settings.vals.filter fun q => q.1 != id } }) := by
  rw [← State.hasRole_elapse s dt n]
  rfl

/-- ATTEST advances the index (R439). -/
def State.sign (t : State) : State :=
  ({ t with free := t.free + 1 }.updRec 0x0A0F t.upd.hssidx 0 0).modUpd fun u =>
    { u with hssidx := u.hssidx + 1, lastAttest := some t.nt }

theorem State.sign_upd (t : State) : t.sign.upd = { t.upd with hssidx := t.upd.hssidx + 1, lastAttest := some t.nt } := by
  rw [State.sign, State.updRec_eq]
  rfl

theorem State.sign_serviceOnly (t : State) : ServiceOnly t t.sign := by
  rw [State.sign, State.updRec_eq]
  exact ⟨rfl, rfl, rfl⟩

theorem exec_attest (dt : Nat) (n : Sess) (tag : BitVec 16) (nonce : BitVec 256) (s : State) :
    ∃ body, exec (.attest dt n tag nonce) s =
      .next ((s.elapse dt).query n 0x40 tag (if (s.elapse dt).attestReady then .accepted else .notReady) body State.sign) :=
  ⟨_, rfl⟩

/-- OTP_OPERATOR programs the operator roots (R418). -/
def State.programRoots (t : State) (h3 h4 : BitVec 384) : State :=
  (t.updRec 0x0A10 0 0 0).modUpd fun u => { u with otp := { u.otp with operator := some (h3, h4) } }

theorem State.programRoots_upd (h3 h4 : BitVec 384) (t : State) :
    (t.programRoots h3 h4).upd = { t.upd with otp := { t.upd.otp with operator := some (h3, h4) } } := by
  rw [State.programRoots, State.updRec_eq]
  rfl

theorem State.programRoots_serviceOnly (h3 h4 : BitVec 384) (t : State) : ServiceOnly t (t.programRoots h3 h4) := by
  rw [State.programRoots, State.updRec_eq]
  exact ⟨rfl, rfl, rfl⟩

theorem exec_otpOperator (dt : Nat) (n : Sess) (tag : BitVec 16) (h1 h2 h3 h4 : BitVec 384) (s : State) :
    exec (.otpOperator dt n tag h1 h2 h3 h4) s =
      .next ((s.elapse dt).request n 0x43 tag 0 (s.otpRes n h1 h2) fun t => t.programRoots h3 h4) := by
  rw [← State.otpRes_elapse s dt n]
  rfl

/-- The word of the RESTART item has code 1, whatever its TAG. -/
theorem restartWord_code (tag : BitVec 16) : (0x00000001#32 ||| (tag.zeroExtend 32 <<< 16)).extractLsb' 0 8 = 1#8 := by
  ext i hi
  simp
  omega

/-- Settles O48: what each request leaves of the session, the mailbox and the update path. -/
theorem serviceRequestsAct : Obligations.ServiceRequestsAct := by
  intro dt n tag s
  refine ⟨rfl, fun hopen => ⟨fun kind cmd body hrole hcmd => ?item, fun l hres hset hseq => ?armed, fun hres => ?unarmed,
    fun id value hmode => ?notSet, fun id value hmode hrole => ?set, fun nonce hready => ?signed, fun nonce hready => ?unsigned,
    fun h1 h2 h3 h4 hres => ?programmed, fun h1 h2 h3 h4 hres => ?kept⟩⟩
  case item =>
    have hneed : (if kind = 1 ∧ cmd.extractLsb' 0 8 = 12 then Role.commissioner else .maintainer) = .maintainer :=
      if_neg fun h => hcmd h.2
    have hrun : exec (.mailboxItem dt n tag kind cmd body) s =
        .next ((s.elapse dt).request n 0x30 tag cmd.toNat (s.itemRes true kind cmd body) fun t =>
          t.placeItem 0 ((s.elapse dt).roleOf n) kind cmd body) := by
      change execMailboxItem dt n tag kind cmd body s = _
      simp only [execMailboxItem, hneed, State.hasRole_elapse, hrole, State.itemRes_elapse, ok]
    rw [hrun]
    refine answered_request hopen (fun t => ⟨rfl, rfl, rfl⟩) fun t _ hmbox => ⟨fun hacc => ?_, fun href => ?_⟩
    · rw [hmbox, if_pos hacc]
      exact ⟨rfl, rfl, rfl, rfl, rfl, rfl, rfl⟩
    · rw [hmbox, if_neg href]
      rfl
  case armed =>
    rw [exec_localAct, hres]
    refine answered_request hopen (fun t => t.armLocally_serviceOnly _ tag) fun t hupd hmbox => ?_
    rw [if_pos rfl] at hupd hmbox
    obtain ⟨clean, sec, a, b, htouch⟩ := s.touchSess_elapse_upd dt n
    have hslots := State.armLocally_slots (t := (s.elapse dt).touchSess n) (l := l) (by rw [htouch]; exact hseq)
      (by rw [htouch]; exact hset) ((s.elapse dt).roleOf n) tag
    rw [← hupd] at hslots
    rw [hslots, hmbox]
    exact ⟨rfl, rfl, rfl, rfl, restartWord_code tag⟩
  case unarmed =>
    rw [exec_localAct]
    refine answered_request hopen (fun t => t.armLocally_serviceOnly _ tag) fun t hupd hmbox => ?_
    rw [if_neg hres] at hupd hmbox
    obtain ⟨clean, sec, a, b, htouch⟩ := s.touchSess_elapse_upd dt n
    exact ⟨by rw [hupd, htouch], hmbox⟩
  case notSet =>
    rw [exec_setting, if_pos hmode]
    refine answered_request hopen (fun t => ⟨rfl, rfl, rfl⟩) fun t hupd _ => ?_
    obtain ⟨clean, sec, a, b, htouch⟩ := s.touchSess_elapse_upd dt n
    rw [hupd, if_neg (by decide), htouch]
  case set =>
    have hmay : s.hasRole n .commissioner true = true := decide_eq_true hrole
    rw [exec_setting, if_neg (not_not_intro hmode), hmay]
    refine answered_request hopen (fun t => ⟨rfl, rfl, rfl⟩) fun t hupd _ => ?_
    rw [hupd]
    exact List.find?_cons_of_pos (beq_self_eq_true id)
  case signed =>
    obtain ⟨body, hrun⟩ := exec_attest dt n tag nonce s
    rw [hrun, hready]
    refine ⟨_, answered_query (r := .accepted) hopen State.sign_serviceOnly fun t hupd => ?_⟩
    obtain ⟨clean, sec, a, b, htouch⟩ := s.touchSess_elapse_upd dt n
    rw [if_pos rfl, State.sign_upd, htouch] at hupd
    rw [hupd]
    exact ⟨rfl, rfl⟩
  case unsigned =>
    obtain ⟨body, hrun⟩ := exec_attest dt n tag nonce s
    rw [hrun, hready]
    refine answered_query (r := .notReady) hopen State.sign_serviceOnly fun t hupd => ?_
    obtain ⟨clean, sec, a, b, htouch⟩ := s.touchSess_elapse_upd dt n
    rw [hupd, if_neg (by decide), htouch]
  case programmed =>
    rw [exec_otpOperator, hres]
    refine answered_request hopen (State.programRoots_serviceOnly h3 h4) fun t hupd _ => ?_
    obtain ⟨clean, sec, a, b, htouch⟩ := s.touchSess_elapse_upd dt n
    rw [hupd, if_pos rfl, State.programRoots_upd, htouch]
  case kept =>
    rw [exec_otpOperator]
    refine answered_request hopen (State.programRoots_serviceOnly h3 h4) fun t hupd _ => ?_
    obtain ⟨clean, sec, a, b, htouch⟩ := s.touchSess_elapse_upd dt n
    rw [hupd, if_neg hres, htouch]

end Sys2Proof.Machine

/-! PROOFS. The requests of a download (R423, R424), what a restart leaves of the update path, and O49. -/

namespace Sys2Proof.Machine

/-! ### Downloads -/

section

variable (s : State) (dt : Nat) (n : Sess)

theorem State.dlStartRes_elapse (len : Nat) (m : Manifest) : (s.elapse dt).dlStartRes n len m = s.dlStartRes n len m := by
  unfold State.elapse Update.elapse
  split <;> rfl

theorem State.dlDataRes_elapse (off len : Nat) : (s.elapse dt).dlDataRes n off len = s.dlDataRes n off len := by
  unfold State.elapse Update.elapse
  split <;> rfl

theorem State.dlEndRes_elapse : (s.elapse dt).dlEndRes n = s.dlEndRes n := by
  unfold State.elapse Update.elapse
  split <;> rfl

theorem State.sstate_elapse : (s.elapse dt).upd.sstate = s.upd.sstate := by
  unfold State.elapse Update.elapse
  split <;> rfl

theorem State.staging_elapse : (s.elapse dt).upd.staging = s.upd.staging := by
  unfold State.elapse Update.elapse
  split <;> rfl

end

/-- DL_START erases STAGING (R423). -/
def State.startDownload (t : State) (n : Sess) (len : Nat) (man : Manifest) : State :=
  (t.updRec 0x0A01 len 0 0).modUpd fun u =>
    { u with
      staging := none, sstate := .loading, dlMan := some man, dlLen := len, dlPos := 4096, dlBytes := []
      dlSess := some n }

theorem State.startDownload_upd (t : State) (n : Sess) (len : Nat) (man : Manifest) :
    (t.startDownload n len man).upd =
      { t.upd with
        staging := none, sstate := .loading, dlMan := some man, dlLen := len, dlPos := 4096, dlBytes := []
        dlSess := some n } := by
  rw [State.startDownload, State.updRec_eq]
  rfl

theorem State.startDownload_serviceOnly (t : State) (n : Sess) (len : Nat) (man : Manifest) :
    ServiceOnly t (t.startDownload n len man) := by
  rw [State.startDownload, State.updRec_eq]
  exact ⟨rfl, rfl, rfl⟩

/-- The state after a download has been abandoned (R424). -/
theorem State.dropDownload_eq {t : State} (h : t.upd.sstate = .loading) (why : Nat) :
    t.dropDownload why =
      { t with
        recorder := (t.updRec 0x0A03 why 0 0).recorder
        upd := { t.upd with
          staging := none, sstate := .empty, dlMan := none, dlLen := 0, dlPos := 0, dlBytes := [], dlSess := none } } := by
  rw [State.dropDownload, if_pos h, State.updRec_eq]
  rfl

theorem State.dropDownload_serviceOnly (t : State) (why : Nat) : ServiceOnly t (t.dropDownload why) := by
  by_cases h : t.upd.sstate = .loading
  · rw [State.dropDownload_eq h]
    exact ⟨rfl, rfl, rfl⟩
  · rw [State.dropDownload, if_neg h]
    exact ⟨rfl, rfl, rfl⟩

section

variable (dt : Nat) (n : Sess) (tag : BitVec 16) (s : State)

theorem exec_dlStart (len : Nat) (man : Manifest) :
    exec (.dlStart dt n tag len man) s =
      .next ((s.elapse dt).request n 0x20 tag man.build.toNat (s.dlStartRes n len man) fun t =>
        t.startDownload n len man) := by
  rw [← State.dlStartRes_elapse s dt n]
  rfl

theorem exec_dlData (off : Nat) (data : List Byte) :
    exec (.dlData dt n tag off data) s =
      .next ((s.elapse dt).request n 0x21 tag (s.elapse dt).dlBuild (s.dlDataRes n off data.length) fun t =>
        t.modUpd fun u => { u with dlPos := u.dlPos + data.length, dlBytes := u.dlBytes ++ data }) := by
  rw [← State.dlDataRes_elapse s dt n]
  rfl

theorem exec_dlEnd (got : LoadSet) :
    exec (.dlEnd dt n tag got) s =
      .next ((s.elapse dt).request n 0x22 tag (s.elapse dt).dlBuild (s.dlEndRes n) fun t =>
        t.modUpd fun u =>
          { u with
            staging := some (u.received (u.dlMan.getD got.man) got.content), sstate := .loaded, dlSess := none }) := by
  rw [← State.dlEndRes_elapse s dt n]
  rfl

theorem exec_dlAbort {s : State} (hrole : s.hasRole n .maintainer false = true) (hload : s.upd.sstate = .loading) :
    exec (.dlAbort dt n tag) s =
      .next ((s.elapse dt).request n 0x23 tag (s.elapse dt).dlBuild .accepted fun t => t.dropDownload 2) := by
  change execDlAbort dt n tag s = _
  simp [execDlAbort, State.hasRole_elapse, State.sstate_elapse, hrole, hload, ok]

end

/-- The check of the set in STAGING ends (R423). -/
def State.closeCheck (t : State) (l : LoadSet) : State :=
  (t.updRec 0x0A02 (downloadReason l) l.man.build.toNat 0).modUpd fun u =>
    { u with
      sstate := if downloadReason l = 0 then .checked else .rejected
      vreason := if downloadReason l = 0 then u.vreason else downloadReason l }

theorem State.closeCheck_eq (t : State) (l : LoadSet) :
    t.closeCheck l =
      { t with
        recorder := (t.updRec 0x0A02 (downloadReason l) l.man.build.toNat 0).recorder
        upd := { t.upd with
          sstate := if downloadReason l = 0 then .checked else .rejected
          vreason := if downloadReason l = 0 then t.upd.vreason else downloadReason l } } := by
  rw [State.closeCheck, State.updRec_eq]
  rfl

theorem exec_downloadCheckEnd (dt : Nat) {s : State} {l : LoadSet} (hset : s.upd.staging = some l)
    (hload : s.upd.sstate = .loaded) (hrun : s.k3m.failed = false) :
    exec (.downloadCheckEnd dt) s = .next ((s.elapse dt).closeCheck l) := by
  have hset' : (s.elapse dt).upd.staging = some l := (State.staging_elapse s dt).trans hset
  have hload' : (s.elapse dt).upd.sstate = .loaded := (State.sstate_elapse s dt).trans hload
  have hrun' : (s.elapse dt).k3m.failed = false := hrun
  change execDownloadCheckEnd dt s = _
  simp only [execDownloadCheckEnd, hset']
  exact if_pos ⟨hload', by rw [hrun']; rfl⟩

/-- The requests of a download and its check. -/
theorem downloadsFillStaging : DownloadsFillStaging := by
  intro dt n tag s hopen
  obtain ⟨clean, sec, a, b, htouch⟩ := s.touchSess_elapse_upd dt n
  refine ⟨fun len man => ?start, fun off data => ?data, fun got => ?ended, fun hrole hload => ?abort, fun hload => ?dropped,
    fun l hset hload => ?check⟩
  case start =>
    rw [exec_dlStart]
    refine answered_request hopen (fun t => t.startDownload_serviceOnly n len man) fun t hupd _ =>
      ⟨fun hacc => ?_, fun href => ?_⟩
    · rw [if_pos hacc, State.startDownload_upd] at hupd
      rw [hupd]
      exact ⟨rfl, rfl, rfl, rfl, rfl, rfl, rfl⟩
    · rw [if_neg href, htouch] at hupd
      rw [hupd]
      exact ⟨rfl, rfl⟩
  case data =>
    rw [exec_dlData]
    refine answered_request hopen (fun t => ⟨rfl, rfl, rfl⟩) fun t hupd _ => ?_
    by_cases hacc : s.dlDataRes n off data.length = .accepted
    · rw [if_pos hacc, State.modUpd, htouch] at hupd
      rw [hupd, if_pos hacc, if_pos hacc]
      exact ⟨rfl, rfl, rfl⟩
    · rw [if_neg hacc, htouch] at hupd
      rw [hupd, if_neg hacc, if_neg hacc]
      exact ⟨rfl, rfl, rfl⟩
  case ended =>
    rw [exec_dlEnd]
    refine answered_request hopen (fun t => ⟨rfl, rfl, rfl⟩) fun t hupd _ => ⟨fun hacc => ?_, fun href => ?_⟩
    · rw [if_pos hacc, State.modUpd, htouch] at hupd
      rw [hupd]
      exact ⟨rfl, rfl, rfl⟩
    · rw [if_neg href, htouch] at hupd
      rw [hupd]
      exact ⟨rfl, rfl⟩
  case abort =>
    rw [exec_dlAbort dt n tag hrole hload]
    refine answered_request hopen (fun t => t.dropDownload_serviceOnly 2) fun t hupd _ => ?_
    rw [if_pos rfl, State.dropDownload_eq (by rw [htouch]; exact hload)] at hupd
    rw [hupd]
    exact ⟨rfl, rfl⟩
  case dropped =>
    have hload' : (s.elapse dt).upd.sstate = .loading := (State.sstate_elapse s dt).trans hload
    refine ⟨_, congrArg Host.Outcome.next (State.dropDownload_eq hload' 2), rfl, rfl, rfl, rfl, rfl⟩
  case check =>
    have hrun : s.k3m.failed = false := by simpa using (Bool.and_eq_true_iff.mp hopen).2
    refine ⟨_, (exec_downloadCheckEnd dt hset hload hrun).trans (congrArg _ (State.closeCheck_eq _ l)), rfl, fun hbad => ?_,
      (State.staging_elapse s dt).trans hset, rfl⟩
    exact if_neg hbad

/-! ### Probation -/

theorem State.onProbation_elapse (s : State) (dt : Nat) : (s.elapse dt).upd.onProbation = s.upd.onProbation := by
  unfold State.elapse Update.elapse
  split <;> rfl

theorem State.slots_elapse (s : State) (dt : Nat) : (s.elapse dt).upd.slots = s.upd.slots := by
  unfold State.elapse Update.elapse
  split <;> rfl

theorem State.clean_le_elapse {s : State} (h : 86400 ≤ s.upd.clean) (dt : Nat) : 86400 ≤ (s.elapse dt).upd.clean := by
  unfold State.elapse Update.elapse
  split
  · exact Nat.le_min.mpr ⟨Nat.le_refl _, Nat.le_trans h (Nat.le_add_right _ _)⟩
  · exact h

theorem exec_probationCleanEnd (dt : Nat) {s : State} (hprob : s.upd.onProbation = true) (hclean : 86400 ≤ s.upd.clean)
    (hrun : s.k3m.failed = false) : exec (.probationCleanEnd dt) s = .next ((s.elapse dt).endProbation 2) := by
  have hprob' : (s.elapse dt).upd.onProbation = true := (State.onProbation_elapse s dt).trans hprob
  have hrun' : (s.elapse dt).k3m.failed = false := hrun
  exact if_pos (by rw [hprob', hrun', decide_eq_true (State.clean_le_elapse hclean dt)]; rfl)

theorem Update.onProbation_eq (u : Update) : u.onProbation = (u.slots.cur.state == .probation) := by
  unfold Update.onProbation JSlots.cur
  cases u.slots.a <;> cases u.slots.b
  · rfl
  · rfl
  · rfl
  · dsimp only
    split <;> rfl

/-- The SVN counter after a probation of the ACTIVE set (R419). -/
def Update.raisedSvn (u : Update) : Nat :=
  match u.active with
  | some l => if l.man.raise ∧ u.otp.svn < l.man.svn then l.man.svn else u.otp.svn
  | none => u.otp.svn

theorem State.raisedSvn_elapse (s : State) (dt : Nat) : (s.elapse dt).upd.raisedSvn = s.upd.raisedSvn := by
  unfold State.elapse Update.elapse
  split <;> rfl

theorem Update.raisedSvn_eq_max {u : Update} {l : LoadSet} (hact : u.active = some l) (hraise : l.man.raise = true) :
    u.raisedSvn = max u.otp.svn l.man.svn := by
  simp only [Update.raisedSvn, hact, hraise, true_and]
  split
  next hlt => exact (Nat.max_eq_right (Nat.le_of_lt hlt)).symm
  next hge => exact (Nat.max_eq_left (Nat.not_lt.mp hge)).symm

theorem State.updRec_log (s : State) (code a1 a2 a3 : Nat) : ∃ log, s.updRec code a1 a2 a3 = { s with recorder := log } :=
  ⟨_, s.updRec_eq code a1 a2 a3⟩

/-- The probation is over, and the retained settings go (R432). -/
def State.toIdle (s : State) (cause : Nat) : State :=
  ((s.journal fun j => { j with state := .idle, clean := s.upd.clean }).modUpd fun u =>
    { u with retained := none, commanded := none }).updRec 0x0A08 cause 0 0

theorem State.toIdle_eq (s : State) (cause : Nat) :
    ∃ log, s.toIdle cause =
      { s with
        recorder := log
        upd := { s.upd with
          slots := s.upd.slots.write fun j => { j with state := .idle, clean := s.upd.clean }
          retained := none, commanded := none } } :=
  State.updRec_log _ 0x0A08 cause 0 0

/-- The end of a probation changes the update path and the log alone. -/
theorem State.endProbation_eq (s : State) (cause : Nat) :
    ∃ log, s.endProbation cause =
      { s with
        recorder := log
        upd := { s.upd with
          slots := s.upd.slots.write fun j => { j with state := .idle, clean := s.upd.clean }
          retained := none, commanded := none
          otp := { s.upd.otp with svn := s.upd.raisedSvn } } } := by
  obtain ⟨log, hidle⟩ := s.toIdle_eq cause
  rw [State.endProbation, ← State.toIdle, Update.raisedSvn]
  cases s.upd.active with
  | none => exact ⟨log, hidle⟩
  | some l =>
    dsimp only
    split
    · obtain ⟨log', hraised⟩ := State.updRec_log (s.toIdle cause) 0x0A0B s.upd.otp.svn l.man.svn 0
      rw [hraised, hidle]
      exact ⟨log', rfl⟩
    · exact ⟨log, hidle⟩

/-! ### Restart -/

section

variable (s : State)

theorem State.endDebug_upd (v : Vtx) : (s.endDebug v).upd = s.upd := by
  unfold State.endDebug
  split <;> rfl

theorem State.endDebugs_upd : s.endDebugs.upd = s.upd :=
  (State.endDebug_upd _ .C).trans ((State.endDebug_upd _ .B).trans (State.endDebug_upd _ .A))

theorem State.staleList_upd : s.staleList.upd = s.upd := by
  unfold State.staleList
  split <;> rfl

theorem State.localCleared_upd : s.localCleared.upd = s.upd := by
  unfold State.localCleared
  split
  · exact State.staleList_upd _
  · rfl

theorem State.outputsMode_upd : s.outputsMode.upd = s.upd := by
  unfold State.outputsMode
  split <;> rfl

theorem State.sendChord_upd (f : ChordFrame) : (s.sendChord f).upd = s.upd := by
  rw [State.sendChord_eq]

theorem State.cutSet_upd : s.cutSet.upd = s.upd := by
  unfold State.cutSet
  split
  · split <;> rfl
  · rfl

theorem State.abdicate_upd : s.abdicate.upd = s.upd := (State.sendChord_upd _ _).trans (State.cutSet_upd s)

theorem State.pairMode_upd (was : Mode) : (s.pairMode was).upd = s.upd := by
  simp only [State.pairMode, State.modPair, State.modChd, apply_ite State.upd, State.abdicate_upd, ite_self]

theorem State.setMode_upd (m : Mode) (c : MCause) : (s.setMode m c).upd = s.upd :=
  (State.pairMode_upd _ _).trans (State.outputsMode_upd _)

theorem State.takeRecords_upd : s.takeRecords.upd = s.upd := by
  unfold State.takeRecords
  dsimp only
  split
  · rw [State.recRec, State.k3mRec_eq]
    rfl
  · rfl

theorem State.deliver_upd (f start : Nat) : (s.deliver f start).upd = s.upd := rfl

theorem State.lastDelivery_upd : s.lastDelivery.upd = s.upd := by
  unfold State.lastDelivery
  dsimp only
  split
  · rfl
  · rw [State.takeRecords_upd, State.deliver_upd]
    split
    · exact State.takeRecords_upd s
    · rfl

/-- The reset leaves the update path, puts the module into START and raises no boundary. -/
theorem State.enterReset_rest :
    s.enterReset.upd = s.upd ∧ s.enterReset.inReset = true ∧ s.enterReset.mode = .start ∧ s.enterReset.boundaries = false :=
  ⟨rfl, rfl, rfl, rfl⟩

/-- A restart leaves the update path. -/
theorem State.restart_rest :
    s.restart.upd = s.upd ∧ s.restart.inReset = true ∧ s.restart.mode = .start ∧ s.restart.boundaries = false := by
  obtain ⟨hupd, hreset, hmode, hbound⟩ :=
    (s.keepWithdrawn.endDebugs.localCleared.setMode .start .restartCmd).lastDelivery.enterReset_rest
  rw [State.lastDelivery_upd, State.setMode_upd, State.localCleared_upd, State.endDebugs_upd] at hupd
  exact ⟨hupd, hreset, hmode, hbound⟩

theorem State.haltNt_elapse (dt : Nat) : (s.elapse dt).upd.haltNt = s.upd.haltNt := by
  unfold State.elapse Update.elapse
  split <;> rfl

end

theorem exec_probationFaultRestart (dt : Nat) {s : State} {a : Nat} (hprob : s.upd.onProbation = true)
    (hhalt : s.upd.haltNt = some a) (hage : 125000000 ≤ (s.elapse dt).nt - a) (hrun : s.k3m.failed = false) :
    exec (.probationFaultRestart dt) s = .next ((s.elapse dt).modUpd fun u => { u with haltNt := none }).restart := by
  have hprob' : (s.elapse dt).upd.onProbation = true := (State.onProbation_elapse s dt).trans hprob
  have hhalt' : (s.elapse dt).upd.haltNt = some a := (State.haltNt_elapse s dt).trans hhalt
  have hrun' : (s.elapse dt).k3m.failed = false := hrun
  change execProbationFaultRestart dt s = _
  simp only [execProbationFaultRestart, hhalt']
  exact if_pos (by rw [hprob', hrun', decide_eq_true hage]; rfl)

/-- The end of a probation, clean or after a fault. -/
theorem probationEnds : ProbationEnds := by
  intro dt s hprob hrun
  refine ⟨fun hclean hseq => ?clean, fun a hhalt hage => ?fault⟩
  case clean =>
    obtain ⟨log, hend⟩ := (s.elapse dt).endProbation_eq 2
    have hseq' : (s.elapse dt).upd.slots.cur.jseq.toNat + 1 < 2 ^ 32 := by rwa [State.slots_elapse]
    have hidle := congrArg Journal.state (JSlots.cur_write hseq' fun j =>
      { j with state := .idle, clean := (s.elapse dt).upd.clean })
    refine ⟨_, (exec_probationCleanEnd dt hprob hclean hrun).trans (congrArg _ hend), hidle, ?_, rfl, rfl,
      fun l hact hraise => ?_⟩
    · rw [Update.onProbation_eq]
      exact congrArg (· == JState.probation) hidle
    · exact (State.raisedSvn_elapse s dt).trans (Update.raisedSvn_eq_max hact hraise)
  case fault =>
    obtain ⟨hupd, hreset, hmode, hbound⟩ := ((s.elapse dt).modUpd fun u => { u with haltNt := none }).restart_rest
    exact ⟨_, exec_probationFaultRestart dt hprob hhalt hage hrun, hreset, hmode, congrArg Update.haltNt hupd, hbound⟩

/-- Settles O49: the requests of a download and the two ends of a probation. -/
theorem downloadsAndProbation : Obligations.DownloadsAndProbation := ⟨downloadsFillStaging, probationEnds⟩

end Sys2Proof.Machine

/-! PROOFS. What the steps of the power-on sequence leave of the mode and of the reset (Table 2.7), and O20. -/

namespace Sys2Proof.Machine

/-! ### Mode and reset -/

/-- The mode, and whether the module is in reset. -/
def State.standing (s : State) : Mode × Bool := (s.mode, s.inReset)

theorem standing_foldl {α : Type} {f : State → α → State} (hf : ∀ t a, (f t a).standing = t.standing) (l : List α) (s : State) :
    (l.foldl f s).standing = s.standing := by
  induction l generalizing s with
  | nil => rfl
  | cons a l ih => exact (ih _).trans (hf s a)

section

variable (s : State)

@[simp] theorem State.modUpd_standing (f : Update → Update) : (s.modUpd f).standing = s.standing := by rfl

@[simp] theorem State.modRec_standing (f : Recorder → Recorder) : (s.modRec f).standing = s.standing := by rfl

@[simp] theorem State.journal_standing (f : Journal → Journal) : (s.journal f).standing = s.standing := by rfl

theorem State.standing_k3m (k : K3m) : ({ s with k3m := k } : State).standing = s.standing := rfl

theorem State.standing_stageCopy (l : List (Nat × Tri (List Byte))) :
    ({ s with stageCopy := l } : State).standing = s.standing := rfl

theorem State.standing_resync (x : PairSt2) (f : Nat) :
    ({ s with pair := x, resyncF := f } : State).standing = s.standing := rfl

@[simp] theorem State.modPair_standing (f : PairSt2 → PairSt2) : (s.modPair f).standing = s.standing := by rfl

@[simp] theorem State.modTtb_standing (f : Ttb → Ttb) : (s.modTtb f).standing = s.standing := by rfl

@[simp] theorem State.modNic_standing (f : Nic → Nic) : (s.modNic f).standing = s.standing := by rfl

@[simp] theorem State.modChd_standing (f : Chd → Chd) : (s.modChd f).standing = s.standing := by rfl

@[simp] theorem State.modSio_standing (f : Sio → Sio) : (s.modSio f).standing = s.standing := by rfl

@[simp] theorem State.modNtm_standing (f : Ntm → Ntm) : (s.modNtm f).standing = s.standing := by rfl

@[simp] theorem State.modCen_standing (f : Cen → Cen) : (s.modCen f).standing = s.standing := by rfl

@[simp] theorem State.modAll_standing (f : Vtx → Vertex → Vertex) : (s.modAll f).standing = s.standing := by rfl

@[simp] theorem State.updRec_standing (code a1 a2 a3 : Nat) : (s.updRec code a1 a2 a3).standing = s.standing := by
  rw [State.updRec_eq]
  rfl

@[simp] theorem State.recRec_standing (t : RecType) (a1 a2 a3 : Nat) : (s.recRec t a1 a2 a3).standing = s.standing := by
  rw [State.recRec, State.k3mRec_eq]
  rfl

/-! ### Step 1 -/

@[simp] theorem State.dropDownload_standing (why : Nat) : (s.dropDownload why).standing = s.standing := by
  unfold State.dropDownload
  split <;> simp

@[simp] theorem State.thaw_standing : s.thaw.standing = s.standing := by
  unfold State.thaw State.holdOverflow
  split <;> rfl

@[simp] theorem State.closeSess_standing (n : Sess) : (s.closeSess n).standing = s.standing := by
  simp only [State.closeSess, State.modUpd_standing, apply_ite State.standing, State.thaw_standing, State.dropDownload_standing,
    ite_self]

@[simp] theorem State.restartK3m_standing : s.restartK3m.standing = s.standing := by simp [State.restartK3m]

@[simp] theorem State.tornJournal_standing (p : PowerOnIn) : (s.tornJournal p).standing = s.standing := by
  unfold State.tornJournal
  split <;> simp

theorem State.powerUpK3m_standing (p : PowerOnIn) : (s.powerUpK3m p).standing = s.standing := by
  unfold State.powerUpK3m
  dsimp only
  rw [State.modUpd_standing, State.dropDownload_standing]
  refine (State.standing_k3m _ _).trans ((State.modRec_standing _ _).trans ?_)
  repeat' split
  all_goals simp

theorem State.localCleared_standing : s.localCleared.standing = s.standing := by
  unfold State.localCleared State.staleList
  split
  · split <;> rfl
  · rfl

theorem State.showMode_standing : s.showMode.standing = s.standing := by
  unfold State.showMode
  split <;> rfl

theorem State.sendChord_standing (f : ChordFrame) : (s.sendChord f).standing = s.standing := by
  rw [State.sendChord_eq]
  rfl

theorem State.cutSet_standing : s.cutSet.standing = s.standing := by
  unfold State.cutSet
  split
  · split <;> rfl
  · rfl

theorem State.abdicate_standing : s.abdicate.standing = s.standing :=
  (State.sendChord_standing _ _).trans (State.cutSet_standing s)

theorem State.outputsMode_standing : s.outputsMode.standing = s.standing := by
  unfold State.outputsMode
  split <;> rfl

theorem State.pairMode_standing (was : Mode) : (s.pairMode was).standing = s.standing := by
  simp only [State.pairMode, apply_ite State.standing, State.standing_resync, State.modPair_standing, State.modChd_standing,
    State.abdicate_standing, ite_self]

theorem State.setMode_standing (m : Mode) (c : MCause) : (s.setMode m c).standing = (m, s.inReset) :=
  (State.pairMode_standing _ _).trans (State.outputsMode_standing _)

theorem State.setMode_shows (m : Mode) (c : MCause) :
    (s.setMode m c).mode = m ∧ (s.setMode m c).blk.cyc.cause = c := by
  rw [State.mode, State.cyc_setMode]
  exact ⟨rfl, rfl⟩

/-- Step 1 takes the module out of reset, in START. -/
theorem State.stepOne_standing (p : PowerOnIn) : (s.stepOne p).standing = (.start, false) := by
  unfold State.stepOne
  dsimp only
  rw [State.showMode_standing]
  split
  · have hstart := ((State.localCleared_standing _).trans (State.powerUpK3m_standing _ p)).trans
      (State.tornJournal_standing { s.fresh with hwin := { s.fresh.hwin with pres := p.hpres, en := p.hpres } } p)
    exact (State.setMode_standing _ _ _).trans (congrArg (Mode.start, ·) (congrArg Prod.snd hstart))
  · exact State.restartK3m_standing _

/-! ### A change to HALT -/

theorem State.rejoinFail_standing (reason : Nat) : (s.rejoinFail reason).standing = s.standing := by
  unfold State.rejoinFail
  split
  · rfl
  · split <;> rfl

theorem State.haltEffects_standing : s.haltEffects.standing = s.standing := by
  unfold State.haltEffects State.probationHalt State.ptbClear
  split <;> split <;> rfl

/-- A module in START that halts is in HALT with the cause, and not in reset. -/
theorem State.halts {s : State} (h : s.standing = (.start, false)) (c : MCause) :
    (s.halt c).mode = .halt ∧ (s.halt c).blk.cyc.cause = c ∧ (s.halt c).inReset = false := by
  have hmode : s.mode ≠ .halt := by
    rw [show s.mode = .start from congrArg Prod.fst h]
    decide
  have hcyc := State.cyc_halt hmode c
  have hreset : (s.halt c).inReset = s.inReset := by
    rw [State.halt, if_neg hmode]
    exact congrArg Prod.snd ((State.haltEffects_standing _).trans ((State.modAll_standing _ _).trans
      ((State.setMode_standing _ _ _).trans (congrArg (Mode.halt, ·) (congrArg Prod.snd (State.rejoinFail_standing s 6))))))
  exact ⟨congrArg Cyc.mode hcyc, congrArg Cyc.cause hcyc, hreset.trans (congrArg Prod.snd h)⟩

/-! ### Step 2 -/

theorem State.repairRecords_standing (v : Option Vtx) (l : List Repair) : (s.repairRecords v l).standing = s.standing :=
  standing_foldl (fun t r => by cases v <;> rfl) l s

theorem State.atStep_standing (n : Nat) : (s.atStep n).standing = s.standing := rfl

theorem State.marchAll_standing (l : List MarchFail) : (s.marchAll l).standing = s.standing :=
  (State.repairRecords_standing _ none _).trans (standing_foldl (fun t _ => State.repairRecords_standing t _ _) _ s)

/-! ### Step 3 -/

@[simp] theorem State.rejected_standing (bank reason build : Nat) : (s.rejected bank reason build).standing = s.standing := by
  simp [State.rejected]

@[simp] theorem State.revert_standing (cause : Nat) : (s.revert cause).standing = s.standing := by simp [State.revert]

@[simp] theorem State.takeFlag_standing : s.takeFlag.standing = s.standing := by
  unfold State.takeFlag
  dsimp only
  split
  · rfl
  · split <;> split <;> simp

@[simp] theorem State.bootArmed_standing : s.bootArmed.standing = s.standing := by
  unfold State.bootArmed
  dsimp only
  split
  · rfl
  · split <;> simp

@[simp] theorem State.blockWrites_standing (first last : Nat) : (s.blockWrites first last).standing = s.standing :=
  standing_foldl (fun t _ => t.journal_standing _) _ s

@[simp] theorem State.bootCopying_standing (resumed : Bool) (bad : Option Nat) :
    (s.bootCopying resumed bad).standing = s.standing := by
  unfold State.bootCopying
  dsimp only
  split
  · rfl
  · have hresumed : (if resumed then s.updRec 0x0A07 s.upd.slots.cur.block 0 0 else s).standing = s.standing := by
      split <;> simp
    split <;> simp [hresumed]

@[simp] theorem State.settingsRule_standing (schema : Nat) : (s.settingsRule schema).standing = s.standing := by
  unfold State.settingsRule
  dsimp only
  split <;> simp

@[simp] theorem State.bootCopied_standing : s.bootCopied.standing = s.standing := by
  unfold State.bootCopied
  dsimp only
  split
  · rfl
  · split <;> simp

@[simp] theorem State.bootFault_standing : s.bootFault.standing = s.standing := by
  unfold State.bootFault
  split <;> simp

@[simp] theorem State.bootVerify_standing : s.bootVerify.1.standing = s.standing := by
  unfold State.bootVerify
  dsimp only
  split
  · rfl
  · split
    · split <;> simp
    · simp

theorem State.stepThree_standing (copyFail : Option Nat) : (s.stepThree copyFail).1.standing = s.standing := by
  simp [State.stepThree]

/-! ### Step 4 -/

theorem State.clearArea_standing (n : Nat) : (s.clearArea n).standing = s.standing := by
  have harea : (s.setArea n ⟨0, 0⟩ []).standing = s.standing := by
    unfold State.setArea
    split <;> rfl
  unfold State.clearArea
  dsimp only
  split
  · rw [State.modAll_standing, harea]
  · exact harea

theorem State.loadInitial_standing : s.loadInitial.standing = s.standing := by
  unfold State.loadInitial
  split
  · rfl
  · refine (State.standing_stageCopy _ []).trans ?_
    rw [State.clearArea_standing, State.clearArea_standing, State.clearArea_standing, State.modAll_standing]

theorem State.takeLoad_standing (c : Content) (sched : Tri (List Nat)) : (s.takeLoad c sched).standing = s.standing := by
  simp only [State.takeLoad, State.loadInitial_standing, State.modAll_standing, State.modCen_standing, State.modNtm_standing,
    State.modSio_standing, State.modChd_standing, State.modNic_standing, State.modTtb_standing]
  rfl

theorem State.stepFour_standing (sched : Tri (List Nat)) : (s.stepFour sched).1.standing = s.standing := by
  unfold State.stepFour
  dsimp only
  split
  · rfl
  · split
    · simp
    · split
      · simp
      · exact State.takeLoad_standing ..

/-! ### Steps 4 and 5 -/

section

variable {s} {p : PowerOnIn} {q : State × Bool} (hq : (s.atStep 4).stepFour p.sched = q)

include hq

/-- A set that step 4 or a majority refuses ends in HALT with LOADSET_FAIL (R420). -/
theorem State.stepsFourFive_refused (h : q.2 = false ∨ 2 ≤ (differing p.found).length) :
    ∃ t : State, t.standing = s.standing ∧ s.stepsFourFive p = t.halt .loadsetFail := by
  subst hq
  cases hfour : ((s.atStep 4).stepFour p.sched).2 with
  | false =>
    refine ⟨_, (State.stepFour_standing _ p.sched).trans (State.atStep_standing s 4), ?_⟩
    simp only [State.stepsFourFive, State.stepFourVoted, hfour, Bool.not_false, if_true]
  | true =>
    have htwo := h.resolve_left (by simp [hfour])
    match hd : differing p.found with
    | [] => simp [hd] at htwo
    | [_] => simp [hd] at htwo
    | v :: w :: l =>
      refine ⟨_, (State.rejected_standing _ 0 (p.found.get v) (buildOf (s.atStep 4).upd.active)).trans
        (State.atStep_standing s 4), ?_⟩
      simp only [State.stepsFourFive, State.stepFourVoted, hfour, hd, Bool.not_true, Bool.false_eq_true, if_false]

/-- A vertex that alone finds another result ends in HALT with START_DISAGREE (R420). -/
theorem State.stepsFourFive_disagree (hfour : q.2 = true) (hone : (differing p.found).length = 1) :
    s.stepsFourFive p = (s.atStep 4).halt .startDisagree := by
  obtain ⟨v, hv⟩ := List.length_eq_one_iff.mp hone
  simp only [State.stepsFourFive, State.stepFourVoted, hq, hfour, hv, Bool.not_true, Bool.false_eq_true, if_false]

theorem State.stepsFourFive_agree (hfour : q.2 = true) (hnone : (differing p.found).length = 0) :
    s.stepsFourFive p = (q.1.atStep 5).stepFive p := by
  have hd := List.length_eq_zero_iff.mp hnone
  simp only [State.stepsFourFive, State.stepFourVoted, hq, hfour, hd, Bool.not_true, Bool.false_eq_true, if_false]

end

theorem loaded_foldl {α : Type} {f : State → α → State} (hf : ∀ t a, (f t a).loaded = t.loaded) (l : List α) (t : State) :
    (l.foldl f t).loaded = t.loaded := by
  induction l generalizing t with
  | nil => rfl
  | cons a l ih => exact (ih _).trans (hf t a)

theorem State.setSeals_loaded (r : Tri (BitVec 4)) : (s.setSeals r).loaded = s.loaded :=
  loaded_foldl (fun t k => by split <;> rfl) _ _

theorem State.readPosition_loaded (j : Tri J6Sample) : (s.readPosition j).loaded = s.loaded :=
  loaded_foldl (fun t v => by split <;> rfl) _ _

end

theorem State.tooCold_elapse (s : State) (dt : Nat) (cold : Bool) : (s.elapse dt).tooCold cold = s.tooCold cold := by
  unfold State.elapse Update.elapse
  split <;> rfl

/-- POWER_ON in reset, where neither the power-down reset nor the cold holds the module. -/
theorem exec_powerOn {dt : Nat} {p : PowerOnIn} {s : State} (hreset : s.inReset = true) (hheld : s.supply.held = false)
    (hwarm : p.cold = false ∨ s.upd.otp.variant ≠ 0) :
    exec (.powerOn dt p) s = .next (((s.elapse dt).stepOne p).stepsTwoOn p) := by
  have hcold : s.tooCold p.cold = false := by
    rcases hwarm with h | h <;> simp [State.tooCold, h]
  have hreset' : (s.elapse dt).inReset = true := hreset
  have hheld' : (s.elapse dt).supply.held = false := hheld
  exact if_pos (by rw [hreset', hheld', State.tooCold_elapse, hcold]; rfl)

section

variable {s : State} {p : PowerOnIn}

theorem State.stepsTwoOn_good {t : State} (ht : (s.atStep 2).marchAll p.march = t)
    (h : p.analogOk = true ∧ t.marchHolds p.march p.again = true) : s.stepsTwoOn p = t.stepsThreeOn p := by
  simp only [State.stepsTwoOn, ht, h.1, h.2, Bool.and_true, if_true]

theorem State.stepsTwoOn_bad {t : State} (ht : (s.atStep 2).marchAll p.march = t)
    (h : ¬ (p.analogOk = true ∧ t.marchHolds p.march p.again = true)) : s.stepsTwoOn p = t.halt .bistFail := by
  simp only [State.stepsTwoOn, ht]
  exact if_neg (by rwa [Bool.and_eq_true])

theorem State.stepsThreeOn_cut {w : State} (h : (s.atStep 3).cutAt p = some w) : s.stepsThreeOn p = w.powerDown := by
  simp only [State.stepsThreeOn, h]

theorem State.powerDown_held (w : State) : w.powerDown.inReset = true ∧ w.powerDown.supply.held = true := ⟨rfl, rfl⟩

section

variable {q : State × Bool} (hcut : (s.atStep 3).cutAt p = none) (hq : (s.atStep 3).stepThree p.copyFail = q)

include hcut hq

theorem State.stepsThreeOn_rejected (hok : q.2 = false) : s.stepsThreeOn p = q.1.halt .loadsetFail := by
  simp only [State.stepsThreeOn, hcut, hq, hok, Bool.not_false, if_true]

theorem State.stepsThreeOn_commission (hok : q.2 = true) (hsw : q.1.commissions p.sw3 = true) :
    s.stepsThreeOn p = (q.1.setSeals p.seals).setMode .commission .sequence := by
  simp only [State.stepsThreeOn, hcut, hq, hok, hsw, Bool.not_true, Bool.false_eq_true, if_false, if_true]

theorem State.stepsThreeOn_load (hok : q.2 = true) (hsw : q.1.commissions p.sw3 = false) :
    s.stepsThreeOn p = q.1.stepsFourFive p := by
  simp only [State.stepsThreeOn, hcut, hq, hok, hsw, Bool.not_true, Bool.false_eq_true, if_false]

end

/-- Step 6 waits for time in position `q` (R47). -/
def State.waitForTime (t : State) (q : Position) : State :=
  let w := ((t.modTtb fun y => { y with pos := some q }).modCyc fun y => { y with senior := q.senior })
  let x := w.modNtm fun y => { y with gmcap := w.coldCapable }
  { x with start := { x.start with step := 6, waitFrom := x.nt, waits := 0, position := true } }

theorem State.waitForTime_shows (t : State) (q : Position) :
    (t.waitForTime q).start.step = 6 ∧ (t.waitForTime q).start.position = true ∧ (t.waitForTime q).blk.ttb.pos = some q ∧
      (t.waitForTime q).blk.cyc.senior = q.senior ∧ (t.waitForTime q).loaded = t.loaded := ⟨rfl, rfl, rfl, rfl, rfl⟩

theorem State.stepFive_owned {t : State} (ht : (s.setSeals p.seals).readPosition p.j6 = t) {q : Position}
    (h : t.ownedPosition = some q) : s.stepFive p = t.waitForTime q := by
  simp only [State.stepFive, ht, h]
  rfl

theorem State.stepFive_unowned {t : State} (ht : (s.setSeals p.seals).readPosition p.j6 = t) (h : t.ownedPosition = none) :
    s.stepFive p = (t.record .positionMismatch p.j6.a.own.toNat p.j6.b.own.toNat p.j6.c.own.toNat).setMode .isolated
      .positionMismatch := by
  simp only [State.stepFive, ht, h]

theorem State.stepFive_loaded {t : State} (ht : (s.setSeals p.seals).readPosition p.j6 = t) : t.loaded = s.loaded := by
  rw [← ht, State.readPosition_loaded, State.setSeals_loaded]

end

/-- Settles O20: the outcomes of the steps in their order. -/
theorem powerOnReachesItsMode : Obligations.PowerOnReachesItsMode := by
  intro dt p s hreset hheld hwarm t2 t3 t4 t5 good whole odd
  have h2 : (((s.elapse dt).stepOne p).atStep 2).marchAll p.march = t2 := rfl
  have h3 : (t2.atStep 3).stepThree p.copyFail = t3 := rfl
  have h4 : (t3.1.atStep 4).stepFour p.sched = t4 := rfl
  have h5 : ((t4.1.atStep 5).setSeals p.seals).readPosition p.j6 = t5 := rfl
  clear_value t5 t4 t3 t2
  have hrun := exec_powerOn (dt := dt) hreset hheld hwarm
  have htwo : t2.standing = (.start, false) := by
    rw [← h2, State.marchAll_standing, State.atStep_standing, State.stepOne_standing]
  have hthree : t3.1.standing = (.start, false) := by
    rw [← h3, State.stepThree_standing, State.atStep_standing, htwo]
  have hgoodRun : good → exec (.powerOn dt p) s = .next (t2.stepsThreeOn p) := fun hgood =>
    hrun.trans (congrArg _ (State.stepsTwoOn_good h2 hgood))
  have hloadRun : good → whole → t3.2 = true → t3.1.commissions p.sw3 = false →
      exec (.powerOn dt p) s = .next (t3.1.stepsFourFive p) := fun hgood hwhole hok hsw =>
    (hgoodRun hgood).trans (congrArg _ (State.stepsThreeOn_load hwhole h3 hok hsw))
  refine ⟨fun hbad => ?bist, fun w hgood hcut => ?cut, fun hgood hwhole hok => ?rejected,
    fun hgood hwhole hok hsw => ?commission, fun hgood hwhole hok hsw hrefused => ?refused,
    fun hgood hwhole hok hsw hfour hone => ?disagree,
    fun hgood hwhole hok hsw hfour hnone => ⟨fun hpos => ?isolated, fun q hpos => ?waits⟩⟩
  case bist => exact ⟨_, hrun.trans (congrArg _ (State.stepsTwoOn_bad h2 hbad)), State.halts htwo .bistFail⟩
  case cut => exact ⟨(hgoodRun hgood).trans (congrArg _ (State.stepsThreeOn_cut hcut)), w.powerDown_held⟩
  case rejected =>
    obtain ⟨hmode, hcause, -⟩ := State.halts hthree .loadsetFail
    exact ⟨_, (hgoodRun hgood).trans (congrArg _ (State.stepsThreeOn_rejected hwhole h3 hok)), hmode, hcause⟩
  case commission =>
    exact ⟨_, (hgoodRun hgood).trans (congrArg _ (State.stepsThreeOn_commission hwhole h3 hok hsw)),
      State.setMode_shows _ .commission .sequence⟩
  case refused =>
    obtain ⟨t, ht, hsteps⟩ := State.stepsFourFive_refused h4 hrefused
    obtain ⟨hmode, hcause, -⟩ := State.halts (ht.trans hthree) .loadsetFail
    exact ⟨_, (hloadRun hgood hwhole hok hsw).trans (congrArg _ hsteps), hmode, hcause⟩
  case disagree =>
    obtain ⟨hmode, hcause, -⟩ := State.halts ((State.atStep_standing _ 4).trans hthree) .startDisagree
    exact ⟨_, (hloadRun hgood hwhole hok hsw).trans (congrArg _ (State.stepsFourFive_disagree h4 hfour hone)), hmode, hcause⟩
  case isolated =>
    have hfive := (State.stepsFourFive_agree h4 hfour hnone).trans (State.stepFive_unowned h5 hpos)
    exact ⟨_, (hloadRun hgood hwhole hok hsw).trans (congrArg _ hfive), State.setMode_shows _ .isolated .positionMismatch⟩
  case waits =>
    have hfive := (State.stepsFourFive_agree h4 hfour hnone).trans (State.stepFive_owned h5 hpos)
    obtain ⟨hstep, hposition, hpos', hsenior, hloaded⟩ := t5.waitForTime_shows q
    have hkept := State.stepFive_loaded h5
    exact ⟨_, (hloadRun hgood hwhole hok hsw).trans (congrArg _ hfive), hstep, hposition, hpos', hsenior, hloaded.trans hkept⟩

end Sys2Proof.Machine

/-! PROOFS. A lattice instruction after the pass of its furlong (R192, R193), the operations of LREQ and LSTAT (Tables 6.12 and
6.13), and O18. -/

namespace Sys2Proof.Machine

/-! ### What a lattice instruction leaves -/

/-- Records enter the stream, and pages may be marked; nothing else changes. -/
theorem Vertex.feedAll_eq (x : Vertex) (l : List SigRec) :
    ∃ stream dirty, x.feedAll l = { x with core := { x.core with stream := stream }, dirty := dirty } := by
  induction l generalizing x with
  | nil => exact ⟨_, _, rfl⟩
  | cons r l ih =>
    obtain ⟨stream, dirty, h⟩ := ih (x.feed r)
    refine ⟨stream, dirty, h.trans ?_⟩
    rw [Vertex.feed_eq]

/-- The vertex after a lattice instruction: its register and flags, the lattice, and of the rest only the stream, the marked
pages and the corrected errors. -/
theorem Vertex.scrub_latDone_eq (x : Vertex) (words : List Nat) (d : BitVec 4) (r : LatRes) :
    ∃ stream dirty ecc1 loc, (x.scrub words).latDone d r =
      { x with
        core := { x.core.setReg d r.word with fl := { x.core.fl with z := r.z, s := x.core.fl.s || r.s }, stream := stream }
        lat := { r.lat with held := [] }
        mem := { x.mem with ecc1 := ecc1 }
        loc := loc
        dirty := dirty } := by
  obtain ⟨stream1, dirty1, h1⟩ := (x.scrub words).feedAll_eq (x.scrub words).lat.held
  obtain ⟨stream2, dirty2, h2⟩ :=
    Vertex.feedAll_eq { (x.scrub words).placePass with lat := { r.lat with held := [] } } r.recs
  rw [Vertex.latDone, h2, Vertex.placePass, h1]
  exact ⟨_, _, _, _, rfl⟩

section

variable {s : State} {v : Vtx} {f : FmtR}

/-- A lattice instruction whose pass is done, that does not trap and whose words can be read, does its operation. -/
theorem State.latInstr_result {wait : Vertex → Nat} {trap : Vertex → Bool} {words : Vertex → List Nat} {op : Vertex → LatRes}
    {n : Nat} (h : MayIssue s v (metaU (4 + n))) (hpass : (s.v v).lat.passDone = true)
    (hwait : wait ((s.closeFull v).v v) = n) (htrap : trap (s.issueVertex v 1) = false)
    (hread : Readable (s.issueVertex v 1) (words (s.issueVertex v 1))) :
    LatticeResult s (ok (s.latInstr v f false wait trap words op)) v (metaU (4 + n)) f.d (op (s.issueVertex v 1)).word
      (op (s.issueVertex v 1)).z (op (s.issueVertex v 1)).s (op (s.issueVertex v 1)).lat := by
  obtain ⟨stream, dirty, ecc1, loc, hdone⟩ :=
    (s.issueVertex v 1).scrub_latDone_eq (words (s.issueVertex v 1)) f.d (op (s.issueVertex v 1))
  have hissue : s.issueVertex v (metaU (4 + n)).words = s.issueVertex v 1 := rfl
  obtain ⟨hret, pc, count, retired, last, dbg, hv⟩ := State.run_done (t := s.latInstr v f false wait trap words op)
    (y := ((s.issueVertex v 1).scrub (words (s.issueVertex v 1))).latDone f.d (op (s.issueVertex v 1)))
    (if_neg (by simp [hpass])) h (by rw [hwait])
    (by
      simp only [hissue, htrap, VMem.firstBad_of_readable hread]
      rfl)
    (by rw [hdone]; rfl)
  rw [hdone] at hv
  refine ⟨_, rfl, hret, ?_⟩
  rw [hv]
  exact ⟨Core.reg_setReg_same (s.issueVertex v 1).core f.d _, fun r hr => Core.reg_setReg_other (s.issueVertex v 1).core _ hr,
    rfl, rfl, rfl, rfl, rfl, rfl, rfl⟩

theorem State.closeFull_reg (r : BitVec 4) : ((s.closeFull v).v v).reg r = (s.issueVertex v 1).reg r :=
  congrArg (Core.reg · r) (State.issueVertex_core s v 1).symm

/-- LREQ, in any of its rows, with the outcome `r` of its operation. -/
theorem State.lreq_result {n : Nat} {r : LatRes} (hmod : f.mod = 0) (hpass : (s.v v).lat.passDone = true)
    (hread : Readable (s.issueVertex v 1)
      ((s.issueVertex v 1).lat.lreqWords ((s.issueVertex v 1).reg f.a) ((s.issueVertex v 1).reg f.b)))
    (h : MayIssue s v (metaU (4 + n))) (hwait : lreqWait ((s.issueVertex v 1).reg f.b) = n)
    (hbad : (s.issueVertex v 1).lat.lreqBad ((s.issueVertex v 1).reg f.a) ((s.issueVertex v 1).reg f.b) = false)
    (hop : (s.issueVertex v 1).lat.lreq (s.furlongOf v) (furlongUs s.profile) ((s.issueVertex v 1).reg f.a)
      ((s.issueVertex v 1).reg f.b) = r) :
    LatticeResult s (ok (s.lreqInstr v f)) v (metaU (4 + n)) f.d r.word r.z r.s r.lat := by
  subst hop
  rw [State.lreqInstr, hmod]
  exact State.latInstr_result h hpass (by rw [State.closeFull_reg, hwait]) hbad hread

/-- LSTAT with its outcome `r`. -/
theorem State.lstat_result {r : LatRes} (hmod : f.mod = 0) (hpass : (s.v v).lat.passDone = true)
    (hread : Readable (s.issueVertex v 1) ((s.issueVertex v 1).lat.lstatWords ((s.issueVertex v 1).reg f.a)))
    (h : MayIssue s v (metaU 8))
    (helem : ((s.issueVertex v 1).reg f.a).toNat < (s.issueVertex v 1).lat.elems.length)
    (hword : (s.issueVertex v 1).reg f.b = 0 ∨ (s.issueVertex v 1).reg f.b = 1)
    (hop : (s.issueVertex v 1).lat.lstat (s.furlongOf v) ((s.issueVertex v 1).reg f.a) ((s.issueVertex v 1).reg f.b) = r) :
    LatticeResult s (exec (.lstat v f) s) v (metaU 8) f.d r.word r.z r.s r.lat := by
  subst hop
  change LatticeResult s (execLstat v f s) _ _ _ _ _ _ _
  rw [execLstat, hmod]
  refine State.latInstr_result (n := 4) h hpass rfl ?_ hread
  rcases hword with hb | hb <;> simp [hb, helem]

end

/-! ### The operations of LREQ -/

section

variable {l : Lattice} {fnum lus : Nat} {wa wb : Word}

theorem Lattice.answer_eq (w : Word) : l.answer w = ⟨l, w, decide (w.toNat % 16 = 0), false, []⟩ := by
  rw [Lattice.answer, field, Nat.pow_zero, Nat.div_one]
  rfl

/-- A change of an element that stands changes that element alone, with result OK. -/
theorem Lattice.elemOk_eq {i : Nat} {e : Elem} (h : l.elems[i]? = some e) (g : Elem → Elem) :
    ∃ recs, l.elemOk i g = ⟨{ l with elems := l.elems.set i (g e) }, 0, true, false, recs⟩ := by
  have hn : l.modElem i g = { l with elems := l.elems.set i (g e) } := by simp only [Lattice.modElem, modNth, h]
  rw [Lattice.elemOk, hn]
  exact ⟨_, rfl⟩

theorem Lattice.lreq_query {r : Route} (hr : l.routes[wa.toNat]? = some r) (hb : wb.toNat = 0) :
    lreqWait wb = 4 ∧ l.lreqBad wa wb = false ∧ l.lreq fnum lus wa wb = l.answer r.result := by
  have hlt : wa.toNat < l.routes.length := (List.getElem?_eq_some_iff.mp hr).1
  refine ⟨?_, ?_, ?_⟩
  · simp [lreqWait, field, hb]
  · simp [Lattice.lreqBad, field, hb, hlt]
  · simp [Lattice.lreq, field, hb, hr]

section

variable {e : Elem} (he : l.elems[wa.toNat]? = some e)

include he

theorem Lattice.lreq_command {st : Nat} (hst : st = 1 ∨ st = 2) (hb : wb.toNat = 1 + 256 * st) :
    lreqWait wb = 8 ∧ l.lreqBad wa wb = false ∧ l.lreq fnum lus wa wb = l.commandOp wa.toNat e st := by
  rcases hst with rfl | rfl <;>
    exact ⟨by simp [lreqWait, field, hb], by simp [Lattice.lreqBad, field, hb, he], by simp [Lattice.lreq, field, hb, he]⟩

theorem Lattice.lreq_alStart {ms : Nat} (hb : wb.toNat = 2 + 256 * ms) :
    lreqWait wb = 8 ∧ l.lreqBad wa wb = false ∧ l.lreq fnum lus wa wb = l.alStartOp wa.toNat e fnum lus ms := by
  have hop : field wb.toNat 0 4 = 2 := by
    rw [hb, field]
    omega
  have hzero : field wb.toNat 4 4 = 0 := by
    rw [hb, field]
    omega
  have hms : wb.toNat / 256 = ms := by omega
  exact ⟨by simp [lreqWait, hop], by simp [Lattice.lreqBad, hop, hzero, he], by simp [Lattice.lreq, hop, hms, he]⟩

theorem Lattice.lreq_alStop (hb : wb.toNat = 3) :
    lreqWait wb = 8 ∧ l.lreqBad wa wb = false ∧ l.lreq fnum lus wa wb = l.alStopOp wa.toNat e := by
  exact ⟨by simp [lreqWait, field, hb], by simp [Lattice.lreqBad, field, hb, he], by simp [Lattice.lreq, field, hb, he]⟩

theorem Lattice.commandOp_free {st : Nat} (hkind : e.decl.kind = .point ∨ e.decl.kind = .crossing) (hown : e.owner = none)
    (hshare : e.share = 0) :
    ∃ recs, l.commandOp wa.toNat e st =
      ⟨{ l with elems := l.elems.set wa.toNat { e with cstate := st } }, 0, true, false, recs⟩ := by
  have hop : l.commandOp wa.toNat e st = l.elemOk wa.toNat fun e => { e with cstate := st } := by
    rcases hkind with hk | hk <;> simp [Lattice.commandOp, ElemKind.mixes, hk, hown, hshare]
  rw [hop]
  exact Lattice.elemOk_eq he _

theorem Lattice.alStartOp_start {ms : Nat} (hkind : e.decl.kind = .signal) (hidle : e.alst = false) :
    ∃ recs, l.alStartOp wa.toNat e fnum lus ms =
      ⟨{ l with elems := l.elems.set wa.toNat (alRunning e (BitVec.ofNat 32 (fnum + (1000 * ms + lus - 1) / lus))) }, 0, true,
        false, recs⟩ := by
  have hop : l.alStartOp wa.toNat e fnum lus ms =
      l.elemOk wa.toNat fun e => { e with alend := w32 (fnum + ceilDiv (1000 * ms) lus), alst := true } := by
    simp [Lattice.alStartOp, hkind, hidle]
  rw [hop]
  exact Lattice.elemOk_eq he _

theorem Lattice.alStopOp_stop (hkind : e.decl.kind = .signal) :
    ∃ recs, l.alStopOp wa.toNat e =
      ⟨{ l with elems := l.elems.set wa.toNat { e with alst := false } }, 0, true, false, recs⟩ := by
  have hop : l.alStopOp wa.toNat e = l.elemOk wa.toNat fun e => { e with alst := false } := by
    simp [Lattice.alStopOp, hkind]
  rw [hop]
  exact Lattice.elemOk_eq he _

theorem Lattice.lstat_eq :
    l.lstat fnum wa wb =
      ⟨l, if wb = 0 then e.statusWord fnum else e.lockWord, decide (e.dstate ≠ 0) && !e.aged, decide (e.dstate = 0) || e.aged,
        []⟩ := by
  have hbeq : (e.dstate == 0) = decide (e.dstate = 0) := rfl
  have hvalid : e.valid = (decide (e.dstate ≠ 0) && !e.aged) := by rw [Elem.valid, decide_not, bne, hbeq]
  simp only [Lattice.lstat, he, hvalid, hbeq]

theorem Lattice.lstat_status (hb : wb.toNat = 0) :
    wb = 0 ∧ l.lstat fnum wa wb =
      ⟨l, e.statusWord fnum, decide (e.dstate ≠ 0) && !e.aged, decide (e.dstate = 0) || e.aged, []⟩ := by
  have hzero : wb = 0 := BitVec.eq_of_toNat_eq hb
  rw [Lattice.lstat_eq he, if_pos hzero]
  exact ⟨hzero, rfl⟩

theorem Lattice.lstat_lock (hb : wb.toNat = 1) :
    wb = 1 ∧ l.lstat fnum wa wb =
      ⟨l, e.lockWord, decide (e.dstate ≠ 0) && !e.aged, decide (e.dstate = 0) || e.aged, []⟩ := by
  have hone : wb = 1 := BitVec.eq_of_toNat_eq hb
  rw [Lattice.lstat_eq he, if_neg (by rw [hone]; decide)]
  exact ⟨hone, rfl⟩

end

theorem Lattice.commandOp_locked {i : Nat} {e : Elem} {st : Nat} (hkind : e.decl.kind = .point ∨ e.decl.kind = .crossing)
    (hlock : e.owner ≠ none ∨ e.share ≠ 0) : l.commandOp i e st = l.answer (if e.cstate = st then 0 else 9) := by
  have hheld : (e.owner.isSome || e.share != 0) = true := by
    rcases hlock with h | h <;> simp [h, Option.isSome_iff_ne_none]
  rcases hkind with hk | hk <;> simp [Lattice.commandOp, ElemKind.mixes, hk, hheld]

theorem Lattice.commandOp_other {i : Nat} {e : Elem} {st : Nat} (hpoint : e.decl.kind ≠ .point)
    (hcross : e.decl.kind ≠ .crossing) : l.commandOp i e st = l.answer 10 := by
  have hmix : e.decl.kind.mixes = false := by
    cases hk : e.decl.kind <;> simp_all [ElemKind.mixes]
  simp [Lattice.commandOp, hmix]

end

/-- Settles O18: each operation by its outcome on the tables. -/
theorem latticeAnswersRequests : Obligations.LatticeAnswersRequests := by
  intro s v f hmod hpass x l wa wb hreq hstat
  refine ⟨fun r hr hb h => ?query, fun e he => ⟨fun st hst hb h => ?command, fun ms hms hb h => ?start, fun hb h => ?stop,
    fun h => ?status⟩⟩
  case query =>
    obtain ⟨hwait, hbad, hop⟩ := Lattice.lreq_query (fnum := s.furlongOf v) (lus := furlongUs s.profile) hr hb
    exact State.lreq_result hmod hpass hreq h hwait hbad (hop.trans (Lattice.answer_eq _))
  case command =>
    obtain ⟨hwait, hbad, hop⟩ := Lattice.lreq_command (fnum := s.furlongOf v) (lus := furlongUs s.profile) he hst hb
    refine ⟨fun hkind hown hshare => ?free, fun hkind hlock => ⟨fun hsame => ?same, fun hdiff => ?diff⟩,
      fun hpoint hcross => ?other⟩
    case free =>
      obtain ⟨recs, hfree⟩ := Lattice.commandOp_free (st := st) he hkind hown hshare
      exact State.lreq_result hmod hpass hreq h hwait hbad (hop.trans hfree)
    case same =>
      have hans := (Lattice.commandOp_locked (l := l) (i := wa) hkind hlock).trans (congrArg l.answer (if_pos hsame))
      exact State.lreq_result hmod hpass hreq h hwait hbad (hop.trans (hans.trans (Lattice.answer_eq _)))
    case diff =>
      have hans := (Lattice.commandOp_locked (l := l) (i := wa) hkind hlock).trans (congrArg l.answer (if_neg hdiff))
      exact State.lreq_result hmod hpass hreq h hwait hbad (hop.trans (hans.trans (Lattice.answer_eq _)))
    case other =>
      have hans := Lattice.commandOp_other (l := l) (i := wa) (st := st) hpoint hcross
      exact State.lreq_result hmod hpass hreq h hwait hbad (hop.trans (hans.trans (Lattice.answer_eq _)))
  case start =>
    obtain ⟨hwait, hbad, hop⟩ := Lattice.lreq_alStart (fnum := s.furlongOf v) (lus := furlongUs s.profile) he hb
    refine ⟨fun hkind hidle => ?idle, fun hkind hrun => ?running, fun hkind => ?noSignal⟩
    case idle =>
      obtain ⟨recs, hstart⟩ :=
        Lattice.alStartOp_start (fnum := s.furlongOf v) (lus := furlongUs s.profile) (ms := ms) he hkind hidle
      exact State.lreq_result hmod hpass hreq h hwait hbad (hop.trans hstart)
    case running =>
      have hans : l.alStartOp wa e (s.furlongOf v) (furlongUs s.profile) ms = l.answer 0 := by
        simp [Lattice.alStartOp, hkind, hrun]
      exact State.lreq_result hmod hpass hreq h hwait hbad (hop.trans (hans.trans (Lattice.answer_eq _)))
    case noSignal =>
      have hans : l.alStartOp wa e (s.furlongOf v) (furlongUs s.profile) ms = l.answer 10 := if_pos hkind
      exact State.lreq_result hmod hpass hreq h hwait hbad (hop.trans (hans.trans (Lattice.answer_eq _)))
  case stop =>
    obtain ⟨hwait, hbad, hop⟩ := Lattice.lreq_alStop (fnum := s.furlongOf v) (lus := furlongUs s.profile) he hb
    refine ⟨fun hkind => ?signal, fun hkind => ?noSignal⟩
    case signal =>
      obtain ⟨recs, hstop⟩ := Lattice.alStopOp_stop he hkind
      exact State.lreq_result hmod hpass hreq h hwait hbad (hop.trans hstop)
    case noSignal =>
      have hans : l.alStopOp wa e = l.answer 10 := if_pos hkind
      exact State.lreq_result hmod hpass hreq h hwait hbad (hop.trans (hans.trans (Lattice.answer_eq _)))
  case status =>
    have hlt : wa < l.elems.length := (List.getElem?_eq_some_iff.mp he).1
    refine ⟨fun hb => ?status, fun hb => ?lock⟩
    case status =>
      obtain ⟨hzero, hop⟩ := Lattice.lstat_status (fnum := s.furlongOf v) he hb
      exact State.lstat_result hmod hpass hstat h hlt (.inl hzero) hop
    case lock =>
      obtain ⟨hone, hop⟩ := Lattice.lstat_lock (fnum := s.furlongOf v) he hb
      exact State.lstat_result hmod hpass hstat h hlt (.inr hone) hop

end Sys2Proof.Machine

/-! PROOFS. The sized and the long arithmetic (Table 4.7): the model's operands, limits and flags are those of R127 and R128, and
O4 and O5. -/

namespace Sys2Proof.Machine

/-! ### Operands, limits and flags -/

theorem limit_eq_satTo (signed : Bool) (n : Nat) (r : Int) : limit signed n r = satTo signed n r := by
  cases signed <;> rfl

theorem signedOf_eq_bmod (k : Nat) (x : Word) : signedOf (k + 1) x = (x.toNat : Int).bmod (2 ^ (k + 1)) := by
  have htop : 2 ^ (k + 1) = 2 * 2 ^ k := Nat.pow_succ'
  have hcast : ((2 ^ (k + 1) : Nat) : Int) = 2 ^ (k + 1) := by push_cast; rfl
  unfold signedOf Int.bmod
  simp only [Nat.add_sub_cancel, ← Int.natCast_emod]
  split <;> split <;> omega

theorem operand_eq_readAs (signed : Bool) (k : Nat) (x : Word) : operand signed (k + 1) x = readAs signed (k + 1) x := by
  cases signed
  · simp [operand, readAs, unsignedOf]
  · exact signedOf_eq_bmod k x

/-- The most significant bit of a number of `k + 1` bits. -/
theorem testB_msb {k u : Nat} (h : u < 2 ^ (k + 1)) : testB u k = decide (2 ^ k ≤ u) := by
  have hpos : 0 < 2 ^ k := Nat.two_pow_pos k
  rw [Nat.pow_succ] at h
  have hdiv : u / 2 ^ k < 2 := (Nat.div_lt_iff_lt_mul hpos).mpr (by omega)
  by_cases hle : 2 ^ k ≤ u
  · have : 1 ≤ u / 2 ^ k := (Nat.le_div_iff_mul_le hpos).mpr (by omega)
    have hone : u / 2 ^ k = 1 := by omega
    simp [testB, hone, hle]
  · have hzero : u / 2 ^ k = 0 := Nat.div_eq_of_lt (by omega)
    simp [testB, hzero, hle]

theorem sized_eq (f : Flags) (signed : Bool) (k : Nat) (exact : Int) (c : Bool) :
    sized f signed (k + 1) exact c =
      ⟨BitVec.ofInt 32 (satTo signed (k + 1) exact), arithFlags f signed (k + 1) exact c⟩ := by
  have hpos : (0 : Int) < 2 ^ (k + 1) := by positivity
  have hlo := Int.emod_nonneg (satTo signed (k + 1) exact) hpos.ne'
  have hhi := Int.emod_lt_of_pos (satTo signed (k + 1) exact) hpos
  have hmsb : testB (satTo signed (k + 1) exact % 2 ^ (k + 1)).toNat k
      = decide ((2 : Int) ^ k ≤ satTo signed (k + 1) exact % 2 ^ (k + 1)) := by
    rw [testB_msb ((Int.toNat_lt hlo).mpr (by push_cast; exact hhi))]
    exact decide_eq_decide.mpr ((Int.le_toNat hlo).trans (by push_cast; rfl))
  simp only [sized, arithFlags, limit_eq_satTo, Nat.add_sub_cancel, hmsb, bne, decide_not]
  rfl

theorem HasSize.fields {mod : BitVec 12} {n : Nat} (h : HasSize mod n) :
    badSize mod = false ∧ sizeBits mod = n ∧ ∃ k, n = k + 1 := by
  rcases h with ⟨rfl, rfl⟩ | ⟨rfl, rfl⟩ | ⟨rfl, rfl⟩
  · exact ⟨by decide, by decide, 31, rfl⟩
  · exact ⟨by decide, by decide, 15, rfl⟩
  · exact ⟨by decide, by decide, 7, rfl⟩

/-! ### The sized group -/

/-- A register and its flags, by the runner that the register families share. -/
theorem State.runAlu_writesReg {s : State} {v : Vtx} {m : IMeta} (h : MayIssue s v m) (d : BitVec 4) (alu : Vertex → Alu) :
    WritesReg s (s.runAlu v m false d alu) v m d (alu (s.issueVertex v m.words)).val (alu (s.issueVertex v m.words)).fl :=
  State.run_writesRegOn h rfl rfl rfl

section
variable {s : State} {v : Vtx} {m : IMeta} {bad : Bool} {d : BitVec 4} {signed : Bool} {n : Nat} {r : Int} {c : Bool}

/-- An instruction of the sized group, from what its body leaves. -/
theorem State.run_sizedResult {body : Vertex → IRes} (h : MayIssue s v m) (hwords : m.words = 1) (hbad : bad = false)
    (hb : body (s.issueVertex v 1) =
      .done (((s.issueVertex v 1).setReg d (BitVec.ofInt 32 (satTo signed n r))).setFlags
        (arithFlags (s.issueVertex v 1).core.fl signed n r c)) none []) :
    SizedResult s (ok (s.run v (fun _ => m) bad body)) v m d signed n r c := by
  subst hbad
  rw [← hwords] at hb
  refine ⟨_, rfl, ?_⟩
  have hw := State.run_writesRegOn (m := fun _ => m) h rfl rfl hb
  rw [hwords] at hw
  rwa [WritesReg, hwords]

theorem State.runAlu_sizedResult {alu : Vertex → Alu} (h : MayIssue s v m) (hwords : m.words = 1) (hbad : bad = false)
    (ha : alu (s.issueVertex v 1) =
      ⟨BitVec.ofInt 32 (satTo signed n r), arithFlags (s.issueVertex v 1).core.fl signed n r c⟩) :
    SizedResult s (ok (s.runAlu v m bad d alu)) v m d signed n r c :=
  State.run_sizedResult h hwords hbad (by rw [ha])

end

section
variable (f : Flags) (signed : Bool) (k : Nat) (a b : Word)

theorem addAlu_eq : addAlu f signed (k + 1) a b =
    ⟨BitVec.ofInt 32 (satTo signed (k + 1) (readAs signed (k + 1) a + readAs signed (k + 1) b)),
      arithFlags f signed (k + 1) (readAs signed (k + 1) a + readAs signed (k + 1) b) (carries (k + 1) a b)⟩ := by
  rw [addAlu, sized_eq, operand_eq_readAs, operand_eq_readAs]; rfl

theorem subAlu_eq : subAlu f signed (k + 1) a b =
    ⟨BitVec.ofInt 32 (satTo signed (k + 1) (readAs signed (k + 1) a - readAs signed (k + 1) b)),
      arithFlags f signed (k + 1) (readAs signed (k + 1) a - readAs signed (k + 1) b) (noBorrows (k + 1) a b)⟩ := by
  rw [subAlu, sized_eq, operand_eq_readAs, operand_eq_readAs]; rfl

theorem mulAlu_eq : mulAlu f signed (k + 1) a b =
    ⟨BitVec.ofInt 32 (satTo signed (k + 1) (readAs signed (k + 1) a * readAs signed (k + 1) b)),
      arithFlags f signed (k + 1) (readAs signed (k + 1) a * readAs signed (k + 1) b) false⟩ := by
  rw [mulAlu, sized_eq, operand_eq_readAs, operand_eq_readAs]

theorem divAlu_eq : divAlu f signed (k + 1) a b =
    ⟨BitVec.ofInt 32 (satTo signed (k + 1) ((readAs signed (k + 1) a).tdiv (readAs signed (k + 1) b))),
      arithFlags f signed (k + 1) ((readAs signed (k + 1) a).tdiv (readAs signed (k + 1) b)) false⟩ := by
  rw [divAlu, sized_eq, operand_eq_readAs, operand_eq_readAs]

theorem remAlu_eq : remAlu f signed (k + 1) a b =
    ⟨BitVec.ofInt 32 (satTo signed (k + 1) ((readAs signed (k + 1) a).tmod (readAs signed (k + 1) b))),
      arithFlags f signed (k + 1) ((readAs signed (k + 1) a).tmod (readAs signed (k + 1) b)) false⟩ := by
  rw [remAlu, sized_eq, operand_eq_readAs, operand_eq_readAs]

theorem negAlu_eq : negAlu f (k + 1) a =
    ⟨BitVec.ofInt 32 (satTo true (k + 1) (-(readAs true (k + 1) a))),
      arithFlags f true (k + 1) (-(readAs true (k + 1) a)) false⟩ := by
  rw [negAlu, sized_eq, signedOf_eq_bmod]; rfl

theorem absAlu_eq : absAlu f (k + 1) a =
    ⟨BitVec.ofInt 32 (satTo true (k + 1) ((readAs true (k + 1) a).natAbs : Int)),
      arithFlags f true (k + 1) ((readAs true (k + 1) a).natAbs : Int) false⟩ := by
  have habs : (if signedOf (k + 1) a < 0 then -(signedOf (k + 1) a) else signedOf (k + 1) a)
      = ((readAs true (k + 1) a).natAbs : Int) := by
    rw [show readAs true (k + 1) a = signedOf (k + 1) a from (signedOf_eq_bmod k a).symm]
    split <;> omega
  rw [absAlu, sized_eq, habs]

theorem readAs_unsigned (n : Nat) : readAs false n a = ((unsignedOf n a : Nat) : Int) := by
  simp [readAs, unsignedOf]

/-- Unsigned operands are not negative, so their quotient and remainder are those of the natural numbers. -/
theorem readAs_unsigned_nonneg (n : Nat) : 0 ≤ readAs false n a := readAs_unsigned a n ▸ Int.natCast_nonneg _

theorem unsignedOf_ne_zero {n : Nat} (h : readAs false n b ≠ 0) : unsignedOf n b ≠ 0 := fun hz =>
  h (by rw [readAs_unsigned, hz]; rfl)

/-- A register of 32 bits, read signed at its full width. -/
theorem readAs_signed_full : readAs true 32 a = a.toInt := by simp [readAs, BitVec.toInt_eq_toNat_bmod]

end

/-- The sign of an immediate survives its extension. -/
theorem readAs_immS (i : BitVec 16) : readAs true 32 (immS i) = i.toInt := by
  rw [readAs_signed_full, immS, BitVec.toInt_signExtend_of_le (by decide)]

theorem arithmeticSaturates : ArithmeticSaturates := by
  intro s v
  refine ⟨fun f n hsize => ?_, fun f h => ?addsi⟩
  case addsi =>
    refine State.runAlu_sizedResult h rfl rfl ((addAlu_eq _ true 31 _ _).trans ?_)
    rw [readAs_immS, readAs_signed_full]
    rfl
  obtain ⟨hbad, hbits, k, rfl⟩ := HasSize.fields hsize
  intro x a b m u
  refine ⟨fun h => ⟨?adds, ?addu, ?subs, ?subu⟩, fun h => ⟨?muls, ?mulu⟩, fun hb h => ⟨?negs, ?abss⟩⟩
  case adds => exact State.runAlu_sizedResult h rfl hbad (by rw [hbits]; exact addAlu_eq ..)
  case addu => exact State.runAlu_sizedResult h rfl hbad (by rw [hbits]; exact addAlu_eq ..)
  case subs => exact State.runAlu_sizedResult h rfl hbad (by rw [hbits]; exact subAlu_eq ..)
  case subu => exact State.runAlu_sizedResult h rfl hbad (by rw [hbits]; exact subAlu_eq ..)
  case muls => exact State.runAlu_sizedResult h rfl hbad (by rw [hbits]; exact mulAlu_eq ..)
  case mulu => exact State.runAlu_sizedResult h rfl hbad (by rw [hbits]; exact mulAlu_eq ..)
  case negs => exact State.runAlu_sizedResult h rfl (by simp [hbad, hb]) (by rw [hbits]; exact negAlu_eq ..)
  case abss => exact State.runAlu_sizedResult h rfl (by simp [hbad, hb]) (by rw [hbits]; exact absAlu_eq ..)

theorem divisionRoundsTowardZero : DivisionRoundsTowardZero := by
  intro s v f n hsize
  obtain ⟨hbad, hbits, k, rfl⟩ := HasSize.fields hsize
  intro x a b m h hdiv
  have hb : ¬ unsignedOf (sizeBits f.mod) b = 0 := by rw [hbits]; exact unsignedOf_ne_zero b hdiv
  have ha : 0 ≤ readAs false (k + 1) a := readAs_unsigned_nonneg a _
  refine ⟨?divs, ?divu, ?rems, ?remu⟩
  case divs => exact State.run_sizedResult h rfl hbad (by rw [if_neg hb, hbits, divAlu_eq])
  case divu =>
    rw [← Int.tdiv_eq_ediv_of_nonneg ha]
    exact State.run_sizedResult h rfl hbad (by rw [if_neg hb, hbits, divAlu_eq])
  case rems => exact State.run_sizedResult h rfl hbad (by rw [if_neg hb, hbits, remAlu_eq])
  case remu =>
    rw [← Int.tmod_eq_emod_of_nonneg ha]
    exact State.run_sizedResult h rfl hbad (by rw [if_neg hb, hbits, remAlu_eq])

/-- Settles O4: the operands, limits and flags of the sized group are those of R127 to R129. -/
theorem sizedArithmetic : Obligations.SizedArithmetic := ⟨arithmeticSaturates, divisionRoundsTowardZero⟩

/-! ### Register pairs -/

/-- The registers of a pair differ. -/
theorem succReg_ne (d : BitVec 4) : succReg d ≠ d := by revert d; decide

section
variable (x : Vertex) (d : BitVec 4) (val : Long)

@[simp] theorem Vertex.setPair_core : (x.setPair d val).core =
    { x.core with
      w := (x.core.w.set d.toNat (val.extractLsb' 0 32) d.isLt).set (succReg d).toNat (val.extractLsb' 32 32)
        (succReg d).isLt,
      stream := .reg (succReg d).toNat (val.extractLsb' 32 32) :: .reg d.toNat (val.extractLsb' 0 32) :: x.core.stream } :=
  rfl

theorem Vertex.reg_setPair_other {r : BitVec 4} (hd : r ≠ d) (hs : r ≠ succReg d) : (x.setPair d val).reg r = x.reg r :=
  (Vertex.reg_setReg_other _ _ hs).trans (Vertex.reg_setReg_other _ _ hd)

@[simp] theorem Vertex.pair_setPair : (x.setPair d val).pair d = val := by
  have hlow : (x.setPair d val).reg d = val.extractLsb' 0 32 :=
    (Vertex.reg_setReg_other _ _ (succReg_ne d).symm).trans (Vertex.reg_setReg_same _ _ _)
  have hhigh : (x.setPair d val).reg (succReg d) = val.extractLsb' 32 32 := Vertex.reg_setReg_same _ _ _
  rw [Vertex.pair, hlow, hhigh]
  refine BitVec.eq_of_getLsbD_eq fun i hi => ?_
  rw [BitVec.getLsbD_append]
  by_cases h : i < 32
  · simp [h]
  · simp [h, show i - 32 < 32 by omega, show 32 + (i - 32) = i by omega]

end

/-- The law of an instruction that writes a register pair and the flags. -/
theorem State.runAlu64_writesPair {s : State} {v : Vtx} {m : IMeta} (h : MayIssue s v m) (d : BitVec 4)
    (alu : Vertex → Alu64) :
    WritesPair s (s.runAlu64 v m false d alu) v m d (alu (s.issueVertex v m.words)).val
      (alu (s.issueVertex v m.words)).fl := by
  have e := State.instr_done (post := id) (m := fun _ => m)
    (body := fun x => .done ((x.setPair d (alu x).val).setFlags (alu x).fl) none []) h rfl rfl
  have hpc : ((s.closeFull v).v v).core.pc = (s.issueVertex v m.words).core.pc := by rw [State.issueVertex_core]
  unfold State.runAlu64 State.run
  rw [e]
  refine ⟨⟨?_, ?_, ?_, ?_⟩, ⟨?_, ?_, ?_⟩, ?_, ?_, ?_, ?_⟩
  · simp [State.issueState_setV]
  · simp [State.nextPc, hpc]
  · simp
  · simp [Vertex.setFlags]
  · simp only [id, State.v_setV]
    rw [Vertex.finish_eq, Vertex.retire_rest]
    rfl
  · simp [Core.plain, Vertex.setFlags]
  · intro hd
    simp only [id, State.v_setV, hd, Vertex.finish_false]
    rfl
  · simp only [id, State.v_setV, Vertex.pair, Vertex.reg, Vertex.finish_core]
    exact Vertex.pair_setPair _ d _
  · intro r hd hs
    simp only [id, State.v_setV, Vertex.reg, Vertex.finish_core]
    exact Vertex.reg_setPair_other _ d _ hd hs
  · simp [Vertex.setFlags]
  · simp [Vertex.setFlags]

theorem sized64_eq (f : Flags) (exact : Int) (c : Bool) :
    sized64 f exact c = ⟨BitVec.ofInt 64 (satTo true 64 exact), arithFlags f true 64 exact c⟩ := by
  have hlo : -(2 ^ 63) ≤ satTo true 64 exact := by simp only [satTo, if_true]; omega
  have hhi : satTo true 64 exact < 2 ^ 63 := by simp only [satTo, if_true]; omega
  have hsign : decide (satTo true 64 exact < 0) = decide ((2 : Int) ^ (64 - 1) ≤ satTo true 64 exact % 2 ^ 64) :=
    decide_eq_decide.mpr (by omega)
  simp only [sized64, arithFlags, limit_eq_satTo, hsign, bne, decide_not]
  rfl

/-- The flags of a difference that is not limited (R133). -/
theorem cmpFlags_eq (f : Flags) (a b : Word) : cmpFlags f a b =
    { z := decide (a = b), n := (a - b).msb, c := decide (b.toNat ≤ a.toNat),
      v := decide ((a - b).toInt ≠ a.toInt - b.toInt), s := f.s } := by
  have hz : (a - b == 0) = decide (a = b) := by
    rw [beq_eq_decide]; exact decide_eq_decide.mpr sub_eq_zero
  simp only [cmpFlags, hz]

theorem cmpFlags64_eq (f : Flags) (a b : Long) : cmpFlags64 f a b =
    { z := decide (a = b), n := (a - b).msb, c := decide (b.toNat ≤ a.toNat),
      v := decide ((a - b).toInt ≠ a.toInt - b.toInt), s := f.s } := by
  have hz : (a - b == 0) = decide (a = b) := by
    rw [beq_eq_decide]; exact decide_eq_decide.mpr sub_eq_zero
  simp only [cmpFlags64, hz]

/-- Settles O5: even registers name the pairs, and their flags are those of R128 and R133. -/
theorem longArithmetic : Obligations.LongArithmetic := by
  intro s v f hmod ha hb h x a b
  refine ⟨fun hd => ⟨⟨_, rfl, ?addl⟩, ⟨_, rfl, ?subl⟩⟩, fun hd => ⟨_, rfl, ?cmpl⟩⟩
  case addl =>
    rw [hmod, oddReg, oddReg, oddReg, hd, ha, hb]
    have hw := State.runAlu64_writesPair h f.d fun x => addAlu64 x.core.fl (x.pair f.a) (x.pair f.b)
    rwa [addAlu64, sized64_eq] at hw
  case subl =>
    rw [hmod, oddReg, oddReg, oddReg, hd, ha, hb]
    have hw := State.runAlu64_writesPair h f.d fun x => subAlu64 x.core.fl (x.pair f.a) (x.pair f.b)
    rwa [subAlu64, sized64_eq] at hw
  case cmpl =>
    rw [hd, hmod, oddReg, oddReg, ha, hb]
    have hw := State.runFlags_writesFlags h fun x => cmpFlags64 x.core.fl (x.pair f.a) (x.pair f.b)
    rwa [cmpFlags64_eq] at hw

end Sys2Proof.Machine

/-! PROOFS. Logic, bit fields and shifts (Table 4.8), bit by bit, and O6. -/

namespace Sys2Proof.Machine

/-! ### Fields of an immediate -/

/-- The bits that a number leaves free are 0. -/
theorem extractLsb'_eq_zero {n i k : Nat} {x : BitVec n} (h : x.toNat < 2 ^ i) : x.extractLsb' i k = 0 := by
  refine BitVec.eq_of_toNat_eq ?_
  rw [BitVec.extractLsb'_toNat, Nat.shiftRight_eq_div_pow, Nat.div_eq_of_lt h]
  simp

theorem badBit_eq_false {imm : BitVec 16} (h : imm.toNat < 32) : badBit imm = false := by
  simp [badBit, extractLsb'_eq_zero (i := 5) (k := 11) h]

theorem posOf_eq (imm : BitVec 16) : posOf imm = imm.toNat % 32 := by simp [posOf]

theorem lenOf_eq (imm : BitVec 16) : lenOf imm = imm.toNat / 32 % 32 + 1 := by
  simp [lenOf, Nat.shiftRight_eq_div_pow]

theorem badFieldImm_eq_false {imm : BitVec 16} (h : imm.toNat < 1024)
    (hfits : imm.toNat % 32 + (imm.toNat / 32 % 32 + 1) ≤ 32) : badFieldImm imm = false := by
  simp [badFieldImm, posOf_eq, lenOf_eq, extractLsb'_eq_zero (i := 10) (k := 6) h]
  omega

/-! ### Bits -/

theorem getLsbD_maskAt (pos len j : Nat) :
    (maskAt pos len).getLsbD j = decide (j < 32 ∧ pos ≤ j ∧ j < pos + len) := by
  rw [maskAt, w32, BitVec.getLsbD_ofNat, Nat.testBit_mul_two_pow, Nat.testBit_two_pow_sub_one]
  simp only [← Bool.decide_and]
  exact decide_eq_decide.mpr (by omega)

theorem getLsbD_field (x : Word) (pos len j : Nat) (hj : j < 32) :
    (w32 (field x.toNat pos len)).getLsbD j = (decide (j < len) && x.getLsbD (pos + j)) := by
  rw [w32, field, BitVec.getLsbD_ofNat, Nat.testBit_mod_two_pow, Nat.testBit_div_two_pow, ← BitVec.getLsbD]
  simp [hj, Nat.add_comm]

/-! ### Logic -/

section
variable {s : State} {v : Vtx} {rr : BitVec 16} {d : BitVec 4} {bad : Bool}

theorem State.runAlu_logicResult (h : MayIssue s v (metaA rr (rbit d) 0 fZN 1)) (hbad : bad = false) (r : Vertex → Word) :
    LogicResult s (ok (s.runAlu v (metaA rr (rbit d) 0 fZN 1) bad d fun x => logicAlu x.core.fl (r x))) v rr d
      (r (s.issueVertex v 1)) := by
  subst hbad
  exact ⟨_, rfl, State.runAlu_writesReg h d _⟩

theorem State.runAlu_logicBits (h : MayIssue s v (metaA rr (rbit d) 0 fZN 1)) (hbad : bad = false) {r : Vertex → Word}
    {bits : Nat → Bool} (hbits : ∀ j, j < 32 → (r (s.issueVertex v 1)).getLsbD j = bits j) :
    ∃ w, LogicResult s (ok (s.runAlu v (metaA rr (rbit d) 0 fZN 1) bad d fun x => logicAlu x.core.fl (r x))) v rr d w ∧
      ∀ j, j < 32 → w.getLsbD j = bits j :=
  ⟨_, State.runAlu_logicResult h hbad r, hbits⟩

end

theorem logicWritesZAndN : LogicWritesZAndN := by
  intro s v
  refine ⟨fun f hmod => ?_, fun f => ?_⟩
  · intro x rr
    refine ⟨fun h => ⟨?and, ?or, ?xor⟩, fun hb h => ?not⟩
    case and => exact State.runAlu_logicResult h (by simp [hmod]) fun x => x.reg f.a &&& x.reg f.b
    case or => exact State.runAlu_logicResult h (by simp [hmod]) fun x => x.reg f.a ||| x.reg f.b
    case xor => exact State.runAlu_logicResult h (by simp [hmod]) fun x => x.reg f.a ^^^ x.reg f.b
    case not => exact State.runAlu_logicResult h (by simp [hmod, hb]) fun x => ~~~(x.reg f.a)
  · intro x a i pos len
    refine ⟨fun h => ⟨?andi, ?ori, ?xori, fun hbit => ⟨?bset, ?bclr⟩, fun himm hfits => ?bext⟩, fun himm hfits h => ?bins,
      fun hd hbit h => ⟨_, rfl, ?btst⟩⟩
    case andi => exact State.runAlu_logicResult h rfl fun x => x.reg f.a &&& immZ f.imm
    case ori => exact State.runAlu_logicResult h rfl fun x => x.reg f.a ||| immZ f.imm
    case xori => exact State.runAlu_logicResult h rfl fun x => x.reg f.a ^^^ immZ f.imm
    case bset =>
      refine State.runAlu_logicBits h (badBit_eq_false hbit) fun j hj => ?_
      rw [BitVec.getLsbD_or, getLsbD_maskAt]
      exact congrArg _ (decide_eq_decide.mpr (by omega))
    case bclr =>
      refine State.runAlu_logicBits h (badBit_eq_false hbit) fun j hj => ?_
      rw [BitVec.getLsbD_and, BitVec.getLsbD_not, getLsbD_maskAt, ← decide_not, ← Bool.decide_and]
      exact congrArg _ (decide_eq_decide.mpr (by omega))
    case bext =>
      refine State.runAlu_logicBits h (badFieldImm_eq_false himm hfits) fun j hj => ?_
      rw [posOf_eq, lenOf_eq]
      exact getLsbD_field _ _ _ _ hj
    case bins =>
      refine State.runAlu_logicBits h (badFieldImm_eq_false himm hfits) fun j hj => ?_
      rw [posOf_eq, lenOf_eq]
      rw [BitVec.getLsbD_or, BitVec.getLsbD_and, BitVec.getLsbD_not, BitVec.getLsbD_and, BitVec.getLsbD_shiftLeft,
        getLsbD_maskAt]
      by_cases hin : pos ≤ j ∧ j < pos + len
      · simp [hin, hj, pos, len, a, x, show ¬ j < pos by omega]
      · simp [hin, hj, x, pos, len]
    case btst =>
      rw [hd, badBit_eq_false hbit]
      exact State.runFlags_writesFlags h fun x => setZ x.core.fl (!(x.reg f.a).getLsbD f.imm.toNat)

/-! ### Shifts -/

section
variable (f : Flags) (a : Word) (n : Nat)

theorem shlAlu_eq : shlAlu f a n = shiftAlu f (a <<< n) (decide (0 < n) && decide (n ≤ 32) && a.getLsbD (32 - n)) := by
  unfold shlAlu
  split
  · next h => simp [h]
  · next h =>
    split
    · next hle => simp [hle, Nat.pos_of_ne_zero h]
    · next hgt => simp [hgt, BitVec.shiftLeft_eq_zero (show 32 ≤ n by omega)]

theorem shrAlu_eq : shrAlu f a n = shiftAlu f (a >>> n) (decide (0 < n) && decide (n ≤ 32) && a.getLsbD (n - 1)) := by
  unfold shrAlu
  split
  · next h => simp [h]
  · next h =>
    split
    · next hle => simp [hle, Nat.pos_of_ne_zero h]
    · next hgt => simp [hgt, BitVec.ushiftRight_eq_zero (show 32 ≤ n by omega)]

theorem getLsbD_sshiftRight_word (j : Nat) (hj : j < 32) :
    (a.sshiftRight n).getLsbD j = if j + n < 32 then a.getLsbD (j + n) else a.msb := by
  rw [BitVec.getLsbD_sshiftRight, Nat.add_comm]
  simp [show ¬ 32 ≤ j by omega]

theorem sarAlu_eq : sarAlu f a n =
    shiftAlu f (a.sshiftRight n) (if n = 0 then false else if n ≤ 32 then a.getLsbD (n - 1) else a.msb) := by
  unfold sarAlu
  split
  · next h => simp [h]
  · split
    · rfl
    · next hgt =>
      have hsame : a.sshiftRight 32 = a.sshiftRight n := BitVec.eq_of_getLsbD_eq fun j hj => by
        rw [getLsbD_sshiftRight_word _ _ _ hj, getLsbD_sshiftRight_word _ _ _ hj, if_neg (by omega), if_neg (by omega)]
      rw [hsame]

theorem getLsbD_rotateRight_word (j : Nat) (hj : j < 32) :
    (a.rotateRight (n % 32)).getLsbD j = a.getLsbD ((j + n) % 32) := by
  rw [BitVec.getLsbD_rotateRight, Nat.mod_mod]
  by_cases hlt : j < 32 - n % 32
  · simp only [hlt, decide_true, cond_true]
    exact congrArg _ (by omega)
  · simp only [hlt, hj, decide_true, decide_false, cond_false, Bool.true_and]
    exact congrArg _ (by omega)

end

theorem badShift_eq_false {f : FmtR} (h : f.mod.extractLsb' 5 6 = 0 ∧
    (if f.mod.getLsbD 11 then f.b = 0 else f.mod.extractLsb' 0 5 = 0)) : badShift f = false := by
  obtain ⟨hunused, hcount⟩ := h
  unfold badShift
  split at hcount
  · next himm => rw [hunused, if_pos himm, hcount]; rfl
  · next hreg => rw [hunused, if_neg hreg, hcount]; rfl

theorem shiftCount_eq (x : Vertex) (f : FmtR) :
    shiftCount x f = if f.mod.getLsbD 11 then f.mod.toNat % 32 else (x.reg f.b).toNat := by
  simp [shiftCount]

/-- A shift, from its result and carry. -/
theorem State.runAlu_shiftResult {s : State} {v : Vtx} {f : FmtR} {alu : Vertex → Alu} {r : Word} {c : Bool}
    (h : MayIssue s v (metaShift f)) (hbad : badShift f = false)
    (ha : alu (s.issueVertex v 1) = shiftAlu (s.issueVertex v 1).core.fl r c) :
    ShiftResult s (ok (s.runAlu v (metaShift f) (badShift f) f.d alu)) v (metaShift f) f.d r c := by
  rw [hbad]
  have hw := State.runAlu_writesReg h f.d alu
  rw [show (metaShift f).words = 1 from rfl, ha] at hw
  exact ⟨_, rfl, hw⟩

theorem shiftsGiveTheLastBitOut : ShiftsGiveTheLastBitOut := by
  intro s v f hfields x a n m h
  have hbad := badShift_eq_false hfields
  have hn : shiftCount x f = n := shiftCount_eq x f
  refine ⟨⟨a <<< n, _, State.runAlu_shiftResult h hbad (by rw [hn]; exact shlAlu_eq ..), fun j hj => ?shl, rfl⟩,
    ⟨a >>> n, _, State.runAlu_shiftResult h hbad (by rw [hn]; exact shrAlu_eq ..), fun j hj => ?shr, rfl⟩,
    ⟨a.sshiftRight n, _, State.runAlu_shiftResult h hbad (by rw [hn]; exact sarAlu_eq ..), fun j hj => ?sar, rfl⟩,
    ⟨a.rotateRight (n % 32), _, State.runAlu_shiftResult h hbad (by rw [hn]; rfl), fun j hj => ?ror, ?carry⟩⟩
  case shl =>
    rw [BitVec.getLsbD_shiftLeft, ← decide_not]
    simp only [hj, decide_true, Bool.true_and, Nat.not_lt]
  case shr => rw [BitVec.getLsbD_ushiftRight, Nat.add_comm]
  case sar => exact getLsbD_sshiftRight_word a n j hj
  case ror => exact getLsbD_rotateRight_word a n j hj
  case carry => rw [BitVec.msb_eq_getLsbD_last]

/-- Settles O6: the results of the rows, bit by bit. -/
theorem logicAndShifts : Obligations.LogicAndShifts := ⟨logicWritesZAndN, shiftsGiveTheLastBitOut⟩

end Sys2Proof.Machine

/-! PROOFS. The SBOOL instructions on valid codes (R90, R91, R131): codes in registers and in packed words, and O7. -/

namespace Sys2Proof.Machine

/-! ### Codes in registers -/

theorem Codes.valid {w : Word} {b : Bool} (h : Codes w b) : sValid w = true := by
  cases b <;> (subst h; rfl)

theorem Codes.eq_sTrue {w : Word} {b : Bool} (h : Codes w b) : (w == sTrue) = b := by
  cases b <;> (subst h; rfl)

theorem Codes.ne_sTrue {w : Word} {b : Bool} (h : Codes w b) : (w != sTrue) = !b := by
  rw [bne, Codes.eq_sTrue h]

theorem Codes.eq_sFalse {w : Word} {b : Bool} (h : Codes w b) : (w == sFalse) = !b := by
  cases b <;> (subst h; rfl)

section
variable {s : State} {v : Vtx} {m : IMeta} {d : BitVec 4} {bad : Bool}

/-- An SBOOL instruction on valid operands. -/
theorem State.runSbool_result {valid z : Vertex → Bool} {val : Vertex → Word} {w : Word} {q : Bool}
    (h : MayIssue s v m) (hwords : m.words = 1) (hbad : bad = false) (hvalid : valid (s.issueVertex v 1) = true)
    (hval : val (s.issueVertex v 1) = w) (hz : z (s.issueVertex v 1) = q) :
    SboolResult s (ok (s.runSbool v m bad d valid val z)) v m d w q := by
  subst hbad hval hz
  refine ⟨_, rfl, State.run_writesRegOn (undo := []) h rfl rfl ?_⟩
  simp only [hwords, hvalid, if_true]
  rfl

/-- Two operands in register form. -/
theorem State.runS2_result {f : FmtR} {a b : Bool} (hmod : f.mod = 0) (ha : Codes ((s.issueVertex v 1).reg f.a) a)
    (hb : Codes ((s.issueVertex v 1).reg f.b) b) (h : MayIssue s v (metaA (rbit f.a ||| rbit f.b) (rbit f.d) 0 fZ 1))
    (op : Bool → Bool → Bool) :
    SboolResult s (ok (s.runS2 v f op)) v (metaA (rbit f.a ||| rbit f.b) (rbit f.d) 0 fZ 1) f.d
      (if op a b then 2 else 1) (!op a b) :=
  State.runSbool_result h rfl (by simp [hmod]) (by simp [Codes.valid ha, Codes.valid hb])
    (by rw [Codes.eq_sTrue ha, Codes.eq_sTrue hb]; rfl)
    (by rw [Codes.eq_sTrue ha, Codes.eq_sTrue hb])

end

/-! ### Packed codes -/

theorem packed_eq (w : Word) (j : Nat) : packed w j = w.toNat / 2 ^ (2 * j) % 4 := rfl

theorem CodesAt.packed_eq {w : Word} {j : Nat} {b : Bool} (h : CodesAt w j b) : packed w j = if b then 2 else 1 := h

theorem CodesAt.eq_two {w : Word} {j : Nat} {b : Bool} (h : CodesAt w j b) : (packed w j == 2) = b := by
  rw [CodesAt.packed_eq h]; cases b <;> rfl

theorem CodesAt.valid {w : Word} {j : Nat} {b : Bool} (h : CodesAt w j b) : validCode (packed w j) = true := by
  rw [CodesAt.packed_eq h]; cases b <;> rfl

theorem sValid16_of_codes {w : Word} {a : Nat → Bool} (h : ∀ j, j < 16 → CodesAt w j (a j)) : sValid16 w = true :=
  List.all_eq_true.mpr fun j hj => (CodesAt.valid (h j (List.mem_range.mp hj)))

/-- The number whose digits to the base 4 are `g 0`, `g 1`, and so on up to `n` of them. -/
def digits4 (g : Nat → Nat) (n : Nat) : Nat := ((List.range n).map fun j => g j * 4 ^ j).foldl (· + ·) 0

theorem digits4_succ (g : Nat → Nat) (n : Nat) : digits4 g (n + 1) = digits4 g n + g n * 4 ^ n := by
  simp [digits4, List.range_succ]

theorem digits4_lt {g : Nat → Nat} (hg : ∀ j, g j < 4) (n : Nat) : digits4 g n < 4 ^ n := by
  induction n with
  | zero => simp [digits4]
  | succ n ih =>
    rw [digits4_succ, Nat.pow_succ]
    have := hg n
    nlinarith [Nat.mul_le_mul_right (4 ^ n) (Nat.le_of_lt_succ this)]

/-- Each digit stands at its place. -/
theorem digits4_div_mod {g : Nat → Nat} (hg : ∀ j, g j < 4) {n j : Nat} (hj : j < n) :
    digits4 g n / 4 ^ j % 4 = g j := by
  induction n with
  | zero => omega
  | succ n ih =>
    rw [digits4_succ]
    by_cases hlast : j = n
    · subst hlast
      rw [Nat.add_mul_div_right _ _ (by positivity), Nat.div_eq_of_lt (digits4_lt hg j), Nat.zero_add,
        Nat.mod_eq_of_lt (hg j)]
    · obtain ⟨k, rfl⟩ : ∃ k, n = j + 1 + k := ⟨n - (j + 1), by omega⟩
      have hsplit : g (j + 1 + k) * 4 ^ (j + 1 + k) = 4 * (g (j + 1 + k) * 4 ^ k) * 4 ^ j := by ring
      rw [hsplit, Nat.add_mul_div_right _ _ (by positivity), Nat.add_mul_mod_self_left, ih (by omega)]

/-- The code of a truth value. -/
def codeOf (b : Bool) : Nat := if b then 2 else 1

/-- The packed word of 16 truth values. -/
def packCodes (c : Nat → Bool) : Word := w32 (digits4 (fun j => codeOf (c j)) 16)

theorem codeOf_lt (b : Bool) : codeOf b < 4 := by cases b <;> decide

theorem codesAt_packCodes (c : Nat → Bool) {j : Nat} (hj : j < 16) : CodesAt (packCodes c) j (c j) := by
  have hlt : digits4 (fun j => codeOf (c j)) 16 < 2 ^ 32 := digits4_lt (fun j => codeOf_lt (c j)) 16
  rw [CodesAt, packCodes, w32, BitVec.toNat_ofNat, Nat.mod_eq_of_lt hlt, Nat.pow_mul]
  exact digits4_div_mod (fun j => codeOf_lt (c j)) hj

theorem sMap16_eq (op : Bool → Bool → Bool) (a b : Word) :
    sMap16 op a b = packCodes fun j => op (packed a j == 2) (packed b j == 2) := rfl

theorem testBit_packed (w : Word) (j i : Nat) :
    (packed w j).testBit i = (decide (i < 2) && w.getLsbD (2 * j + i)) := by
  rw [packed, field, Nat.testBit_mod_two_pow, Nat.testBit_div_two_pow, Nat.add_comm, BitVec.getLsbD]

/-- A word is known by its 16 positions. -/
theorem eq_of_packed {w u : Word} (h : ∀ j, j < 16 → packed w j = packed u j) : w = u := by
  refine BitVec.eq_of_getLsbD_eq fun i hi => ?_
  have hbit : ∀ x : Word, x.getLsbD i = (packed x (i / 2)).testBit (i % 2) := fun x => by
    rw [testBit_packed, Nat.div_add_mod, decide_eq_true (Nat.mod_lt _ (by decide)), Bool.true_and]
  rw [hbit, hbit, h (i / 2) (by omega)]

/-- A word whose 16 positions hold codes equals the word of one code throughout exactly when all of them do. -/
theorem codes_all_iff {w u : Word} {a : Nat → Bool} {b : Bool} (h : ∀ j, j < 16 → CodesAt w j (a j))
    (hu : ∀ j, j < 16 → CodesAt u j b) : w = u ↔ ∀ j, j < 16 → a j = b := by
  refine ⟨fun hw j hj => ?_, fun hall => eq_of_packed fun j hj => ?_⟩
  · rw [← CodesAt.eq_two (h j hj), hw, CodesAt.eq_two (hu j hj)]
  · rw [CodesAt.packed_eq (h j hj), CodesAt.packed_eq (hu j hj), hall j hj]

theorem codesAt_allFalse : ∀ j, j < 16 → CodesAt 0x55555555#32 j false := by unfold CodesAt; decide

theorem codesAt_allTrue : ∀ j, j < 16 → CodesAt 0xAAAAAAAA#32 j true := by unfold CodesAt; decide

/-- Two packed operands. -/
theorem State.runP2_result {s : State} {v : Vtx} {f : FmtR} {a b : Nat → Bool} (hmod : f.mod = 0)
    (ha : ∀ j, j < 16 → CodesAt ((s.issueVertex v 1).reg f.a) j (a j))
    (hb : ∀ j, j < 16 → CodesAt ((s.issueVertex v 1).reg f.b) j (b j))
    (h : MayIssue s v (metaA (rbit f.a ||| rbit f.b) (rbit f.d) 0 fZ 2)) (op : Bool → Bool → Bool) :
    ∃ r z, SboolResult s (ok (s.runP2 v f op)) v (metaA (rbit f.a ||| rbit f.b) (rbit f.d) 0 fZ 2) f.d r z ∧
      (∀ j, j < 16 → CodesAt r j (op (a j) (b j))) ∧ (z = true ↔ ∀ j, j < 16 → op (a j) (b j) = false) := by
  have hcodes : ∀ j, j < 16 →
      CodesAt (sMap16 op ((s.issueVertex v 1).reg f.a) ((s.issueVertex v 1).reg f.b)) j (op (a j) (b j)) := by
    intro j hj
    have hc := codesAt_packCodes
      (fun j => op (packed ((s.issueVertex v 1).reg f.a) j == 2) (packed ((s.issueVertex v 1).reg f.b) j == 2)) hj
    rwa [CodesAt.eq_two (ha j hj), CodesAt.eq_two (hb j hj)] at hc
  refine ⟨_, _, State.runSbool_result h rfl (by simp [hmod])
    (by simp [sValid16_of_codes ha, sValid16_of_codes hb]) rfl rfl, hcodes, ?_⟩
  rw [beq_iff_eq]
  exact codes_all_iff hcodes codesAt_allFalse

/-! ### One position of a packed word -/

theorem badPosition_eq_false {imm : BitVec 16} (h : imm.toNat < 16) : badPosition imm = false := by
  simp [badPosition, extractLsb'_eq_zero (i := 4) (k := 12) h]

/-- The bits of a truth value in register form lie in its first position. -/
theorem Codes.getLsbD_eq_false {w : Word} {b : Bool} (h : Codes w b) {i : Nat} (hi : 2 ≤ i) : w.getLsbD i = false := by
  have hlt : w.toNat < 2 ^ 2 := by cases b <;> (subst h; decide)
  exact Nat.testBit_lt_two_pow (Nat.lt_of_lt_of_le hlt (Nat.pow_le_pow_right (by decide) hi))

/-- A truth value put at one position stands there, and the other positions stand. -/
theorem packed_put {w u : Word} {b : Bool} (h : Codes w b) {p k : Nat} (hp : p < 16) (hk : k < 16) :
    packed ((u &&& ~~~(maskAt (2 * p) 2)) ||| (w <<< (2 * p))) k = if k = p then codeOf b else packed u k := by
  have hcode : packed w 0 = codeOf b := by cases b <;> (subst h; rfl)
  refine Nat.eq_of_testBit_eq fun i => ?_
  rw [testBit_packed, BitVec.getLsbD_or, BitVec.getLsbD_and, BitVec.getLsbD_not, getLsbD_maskAt, BitVec.getLsbD_shiftLeft]
  by_cases hi : i < 2
  · split
    · next hkp =>
      subst hkp
      rw [← hcode, testBit_packed]
      simp [hi, show 2 * k + i < 32 by omega]
    · next hkp =>
      rw [testBit_packed]
      by_cases hlow : k < p
      · simp [hi, show 2 * k + i < 2 * p by omega, show ¬ 2 * p ≤ 2 * k + i by omega, show 2 * k + i < 32 by omega]
      · rw [Codes.getLsbD_eq_false h (show 2 ≤ 2 * k + i - 2 * p by omega)]
        simp [hi, show ¬ 2 * k + i < 2 * p + 2 by omega, show 2 * k + i < 32 by omega]
  · have hlt : (if k = p then codeOf b else packed u k) < 2 ^ 2 := by
      split
      · exact codeOf_lt b
      · exact Nat.mod_lt _ (by decide)
    rw [Nat.testBit_lt_two_pow (Nat.lt_of_lt_of_le hlt (Nat.pow_le_pow_right (by decide) (by omega)))]
    simp [hi]

/-! ### O7 -/

/-- Settles O7: the codes are valid, so each instruction writes the code of its truth value. -/
theorem sboolComputesTruthValues : Obligations.SboolComputesTruthValues := by
  intro s v
  refine ⟨fun f hmod => ?_, fun f himm => ?_⟩
  · intro x m2 m1 p2 p1
    refine ⟨fun a b ha hb h => ⟨?sand, ?sor, ?sxor⟩, fun a ha hfb h => ⟨?snot, ?stob⟩,
      fun a ha hfb hfd h => ⟨_, rfl, ?stst⟩, fun hfb h => ?sfromb, fun a b ha hb h => ⟨?sandp, ?sorp⟩,
      fun a ha hfb h => ?sall⟩
    case sand => exact State.runS2_result hmod ha hb h (· && ·)
    case sor => exact State.runS2_result hmod ha hb h (· || ·)
    case sxor => exact State.runS2_result hmod ha hb h (· != ·)
    case snot =>
      refine State.runSbool_result h rfl (by simp [hfb, hmod]) (Codes.valid ha) ?_ (Codes.eq_sTrue ha)
      rw [Codes.ne_sTrue ha]
      cases a <;> rfl
    case stob =>
      refine State.runSbool_result h rfl (by simp [hfb, hmod]) (Codes.valid ha) ?_ (Codes.eq_sFalse ha)
      rw [Codes.eq_sTrue ha]
    case stst =>
      rw [hfd, hfb, hmod]
      refine State.run_writesFlags (undo := []) h rfl ?_
      refine (if_pos (Codes.valid ha)).trans ?_
      rw [← Codes.eq_sFalse ha]
      rfl
    case sfromb => exact State.runSbool_result h rfl (by simp [hfb, hmod]) rfl rfl rfl
    case sandp => exact State.runP2_result hmod ha hb h (· && ·)
    case sorp => exact State.runP2_result hmod ha hb h (· || ·)
    case sall =>
      refine ⟨x.reg f.a == 0xAAAAAAAA#32, ?_, State.runSbool_result h rfl (by simp [hfb, hmod]) (sValid16_of_codes ha) rfl rfl⟩
      rw [beq_iff_eq]
      exact codes_all_iff ha codesAt_allTrue
  · intro x m1 m2
    refine ⟨fun b hb h => ?sget, fun b hb h => ?sput⟩
    case sget =>
      refine State.runSbool_result h rfl (badPosition_eq_false himm) (CodesAt.valid hb) ?_ ?_
      · rw [CodesAt.packed_eq hb]
        cases b <;> rfl
      · rw [CodesAt.packed_eq hb]
        cases b <;> rfl
    case sput =>
      refine ⟨_, State.runSbool_result h rfl (badPosition_eq_false himm) (Codes.valid hb) rfl (Codes.eq_sFalse hb), ?_, fun j hj hne => ?_⟩
      · exact (packed_put hb himm himm).trans (if_pos rfl)
      · exact (packed_put hb himm hj).trans (if_neg hne)

end Sys2Proof.Machine

/-! PROOFS. An instruction that traps: the first trap of a vertex in service is noted in its buffer and takes the vertex out
(R105, R106, R108, R114). -/

namespace Sys2Proof.Machine

/-! ### The trap of an instruction -/

/-- Only a budget end looks back at the first of a pair (R110). -/
theorem State.trapInstr_eq {s : State} {v : Vtx} {m : IMeta} {c : TrapCause} (h : c ≠ .budget) (u a : Nat) :
    s.trapInstr v m (c, u, a) = s.raiseTrap v c u a (s.v v).core.pc (s.v v).core.count := by
  unfold State.trapInstr
  dsimp only
  split
  · exact absurd rfl h
  · exact absurd rfl h
  · rfl

/-- An instruction that no common cause stops has none of them. -/
theorem State.commonCause_clean {s : State} {v : Vtx} {k : IMeta} (h : s.commonCause v k false = none) :
    (s.v v).fetchBad k.words = false ∧ (s.v v).fetchOut k.words = false ∧
      (!s.debugging v && decide (s.budget (s.v v) < (s.v v).countAfter k)) = false := by
  obtain ⟨hecc, h⟩ := lowerCause_none h
  obtain ⟨hbudget, h⟩ := lowerCause_none h
  obtain ⟨-, hout⟩ := lowerCause_none h
  refine ⟨?_, ?_, ?_⟩
  · simpa only [ite_eq_right_iff, reduceCtorEq, imp_false, Bool.not_eq_true] using hecc
  · simpa only [ite_eq_right_iff, reduceCtorEq, imp_false, Bool.not_eq_true] using hout
  · simpa only [ite_eq_right_iff, reduceCtorEq, imp_false, Bool.not_eq_true] using hbudget

/-- A malformed word has the cause OPCODE where no other common cause applies. -/
theorem State.causeOf_malformed {s : State} {v : Vtx} {k : IMeta} (h : s.commonCause v k false = none) (r : IRes) :
    s.causeOf v k true r = some (.opcode, 0, 0) := by
  obtain ⟨hbad, hout, hbudget⟩ := State.commonCause_clean h
  have hm : s.malformed v true = true := rfl
  have hcommon : s.commonCause v k true = some (.opcode, 0, 0) := by
    simp only [State.commonCause, hbad, hout, hbudget, hm]
    rfl
  unfold State.causeOf
  rw [hcommon, hm]
  cases r <;> rfl

/-- An instruction whose word is malformed. -/
theorem State.instr_malformed {s : State} {v : Vtx} {m : Vertex → IMeta} {body : Vertex → IRes} {post : State → State}
    {k : IMeta} (h : MayIssue s v k) (hm : m ((s.closeFull v).v v) = k) :
    s.instr v m true body post = (s.closeFull v).trapInstr v k (.opcode, 0, 0) := by
  obtain ⟨hruns, hfree, hclean⟩ := h
  simp only [State.instr, hruns, hfree, hm, State.causeOf_malformed hclean]
  rfl

/-! ### The vertex that a trap takes out -/

/-- The record that a trap of vertex `v` forms (Table 3.13). -/
def State.trapRec (s : State) (v : Vtx) (c : TrapCause) (user addr : Nat) : Rec :=
  let x := (s.v v).core
  ⟨.vertexTrap, 0x11 + v.num, trapBody v c user x.task x.pc addr x.tcw s.fnum x.count⟩

/-- The first trap of a vertex in service leaves a record and stops the vertex; of the vertex nothing else changes. -/
theorem State.v_raiseTrap {s : State} {v : Vtx} {c : TrapCause} (h : MayTrapOut s v c) (hc : c ≠ .deadline)
    (user addr : Nat) :
    (s.raiseTrap v c user addr (s.v v).core.pc (s.v v).core.count).v v =
      ((s.v v).addRec (s.trapRec v c user addr)).stop := by
  obtain ⟨hserving, htask, htrial, hfirst, hbudget⟩ := h
  have hnoted : s.trapNoted v c user addr (s.v v).core.pc (s.v v).core.count =
      s.modV v fun x => x.addRec (s.trapRec v c user addr) := by
    simp only [State.trapNoted, beq_eq_false_iff_ne.mpr hc, beq_eq_false_iff_ne.mpr hbudget]
    rfl
  rw [State.raiseTrap_outcome htask htrial, hnoted, State.trapOutcome_first (by exact hfirst), State.selfFault,
    if_neg (by exact ne_true_of_eq_false htrial), if_pos (by exact hserving), State.sendEntry_v, State.v_modV]
  exact congrArg Vertex.stop (State.v_modV s v fun x => x.addRec (s.trapRec v c user addr))

/-- A vertex that has stopped sends no key word. -/
theorem State.sendKey_of_stopped {s : State} {v : Vtx} (h : (s.v v).stopped = true) (n : Nat) : s.sendKey v n = s := by
  have hrun : s.runsApp v = false := by simp [State.runsApp, h]
  simp [State.sendKey, hrun]

theorem Vertex.addRec_eq (x : Vertex) (r : Rec) :
    x.addRec r = { x with
      recs := (x.addRec r).recs, recDrop := (x.addRec r).recDrop, loc := (x.addRec r).loc } := by
  unfold Vertex.addRec; split <;> rfl

theorem Vertex.addRec_recs {x : Vertex} (h : x.recs.length < 64) (r : Rec) : (x.addRec r).recs = x.recs ++ [r] := by
  simp [Vertex.addRec, h]

theorem State.fnum_closeFull (s : State) (v : Vtx) : (s.closeFull v).fnum = s.fnum := by
  simp only [State.fnum, State.closeFull_blk]

theorem State.links_closeFull_other {s : State} {u v : Vtx} (h : u ≠ v) :
    (s.closeFull v).links.get u = s.links.get u := by
  by_cases hlt : (s.v v).core.retired < 256
  · rw [State.closeFull_of_lt hlt]
  · cases hd : s.debugging v with
    | false =>
      rw [State.closeFull_of_full (Nat.le_of_not_lt hlt) hd]
      exact State.links_sendEntry_other _ _ h
    | true =>
      simp only [State.closeFull, hlt, hd, if_true, if_false]
      rfl

/-- The trap of an instruction, of a cause that no clock brings. -/
theorem State.trapInstr_trapsOut {s : State} {v : Vtx} {k : IMeta} {c : TrapCause} (ho : MayTrapOut (s.closeFull v) v c)
    (hc : c ≠ .deadline) (user addr : Nat) : TrapsOut s ((s.closeFull v).trapInstr v k (c, user, addr)) v c user := by
  have hv := State.v_raiseTrap ho hc user addr
  obtain ⟨hserving, htask, htrial, hfirst, hbudget⟩ := ho
  obtain ⟨hstopped, hidle, -, hwd, hlinks, hmode, hservice⟩ :=
    State.raiseTrap_stops htask hserving htrial hfirst c user addr ((s.closeFull v).v v).core.pc
      ((s.closeFull v).v v).core.count
  rw [State.trapInstr_eq hbudget]
  refine ⟨hstopped, hidle, ?core, ?mem, ?lat, fun hroom => ⟨addr, ?record⟩, ⟨?key, State.sendKey_of_stopped hstopped⟩, hwd,
    fun u hu => (hlinks u hu).trans (State.links_closeFull_other hu), hmode.trans ?mode, fun u => (hservice u).trans ?service⟩
  case core => rw [hv, Vertex.addRec_eq]; rfl
  case mem => rw [hv, Vertex.addRec_eq]; rfl
  case lat => rw [hv, Vertex.addRec_eq]; rfl
  case record =>
    rw [hv, Vertex.stop, Vertex.addRec_recs hroom, State.trapRec, State.fnum_closeFull]
  case key => rw [hv, Vertex.addRec_eq]; rfl
  case mode => simp only [State.mode, State.closeFull_blk]
  case service => rw [State.inService_closeFull]

/-- An instruction whose body traps takes its vertex out. -/
theorem State.instr_trapsOut {s : State} {v : Vtx} {m : Vertex → IMeta} {body : Vertex → IRes} {post : State → State}
    {k : IMeta} {c : TrapCause} {user addr : Nat} (h : MayIssue s v k) (hm : m ((s.closeFull v).v v) = k)
    (hb : body (s.issueVertex v k.words) = .trap c user addr) (ho : MayTrapOut (s.closeFull v) v c) (hc : c ≠ .deadline) :
    TrapsOut s (s.instr v m false body post) v c user := by
  rw [State.instr_trap h hm hb]
  exact State.trapInstr_trapsOut ho hc user addr

/-- An instruction whose word is malformed takes its vertex out with OPCODE. -/
theorem State.instr_malformed_trapsOut {s : State} {v : Vtx} {m : Vertex → IMeta} {body : Vertex → IRes}
    {post : State → State} {k : IMeta} (h : MayIssue s v k) (hm : m ((s.closeFull v).v v) = k)
    (ho : MayTrapOut (s.closeFull v) v .opcode) : TrapsOut s (s.instr v m true body post) v .opcode := by
  rw [State.instr_malformed h hm]
  exact State.trapInstr_trapsOut ho (by decide) 0 0

end Sys2Proof.Machine

/-! PROOFS. Compares, branches and loops (Table 4.11), and O8 and O9. -/

namespace Sys2Proof.Machine

/-! ### Compares -/

theorem comparesWriteFlagsAlone : ComparesWriteFlagsAlone := by
  intro s v
  refine ⟨fun f hd hmod => ⟨fun h => ⟨_, rfl, ?cmp⟩, fun h => ⟨_, rfl, ?tst⟩⟩, fun f hd h => ⟨_, rfl, ?cmpi⟩⟩
  case cmp =>
    rw [hd, hmod]
    have hw := State.runFlags_writesFlags h fun x => cmpFlags x.core.fl (x.reg f.a) (x.reg f.b)
    rwa [cmpFlags_eq] at hw
  case tst =>
    rw [hd, hmod]
    exact State.runFlags_writesFlags h fun x => znFlags x.core.fl (x.reg f.a &&& x.reg f.b)
  case cmpi =>
    rw [hd]
    have hw := State.runFlags_writesFlags h fun x => cmpFlags x.core.fl (x.reg f.a) (immS f.imm)
    rwa [cmpFlags_eq] at hw

/-! ### Changes of control -/

/-- The next address of an instruction that names it, or that goes on in sequence. -/
def State.pcAfter (s : State) (v : Vtx) (m : IMeta) (npc : Option Word) : Word := npc.getD (s.nextPc v m)

/-- An instruction that leaves `y` and names the next address: of `y` only PC, the counts and the memory of the last issue
change, and in a debug furlong the channel. -/
theorem State.run_goesTo {s : State} {v : Vtx} {m : Vertex → IMeta} {body : Vertex → IRes} {k : IMeta} {y : Vertex}
    {npc : Option Word} {undo : List Host.Cell} (h : MayIssue s v k) (hm : m ((s.closeFull v).v v) = k)
    (hb : body (s.issueVertex v k.words) = .done y npc undo)
    (hy : y.core.retired = (s.issueVertex v k.words).core.retired) :
    Retires s (s.run v m false body) v k (s.pcAfter v k npc) ∧
      ∃ pc count retired last dbg, (s.run v m false body).v v =
          { y with core := { y.core with pc := pc, count := count, retired := retired }, last := last, dbg := dbg } ∧
        ((s.closeFull v).debugging v = false → dbg = y.dbg) := by
  rw [State.run, State.instr_done (post := id) h hm hb]
  refine ⟨⟨?_, ?_, ?_, ?_⟩, ?_⟩
  · simp [State.issueState_setV]
  · simp [State.pcAfter, State.nextPc, State.issueVertex_core]
  · simp
  · simp [hy]
  · simp only [id, State.v_setV]
    rw [Vertex.finish_eq, Vertex.retire_rest]
    refine ⟨_, _, _, _, _, rfl, fun hd => ?_⟩
    rw [hd]
    rfl

/-- A change of control leaves everything else. -/
theorem State.run_jumps {s : State} {v : Vtx} {m : Vertex → IMeta} {body : Vertex → IRes} {k : IMeta}
    {npc : Option Word} {undo : List Host.Cell} (h : MayIssue s v k) (hm : m ((s.closeFull v).v v) = k)
    (hb : body (s.issueVertex v k.words) = .done (s.issueVertex v k.words) npc undo) :
    Jumps s (s.run v m false body) v k (s.pcAfter v k npc) := by
  obtain ⟨hret, pc, count, retired, last, dbg, hv, hdbg⟩ := State.run_goesTo h hm hb rfl
  refine ⟨hret, ⟨?_, ?_, fun hd => ?_⟩, ?_, ?_, ?_⟩
  · rw [hv]
  · rw [hv]; rfl
  · rw [hv]; exact hdbg hd
  · rw [hv]
  · rw [hv]
  · rw [hv]

theorem branchIsForward : BranchIsForward := by
  intro s v f x target m
  have hfl : ((s.closeFull v).v v).core.fl = x.core.fl := by rw [← State.issueVertex_core s v 1]
  refine ⟨fun hcond hlo hhi h => ⟨_, rfl, ?taken⟩, fun hcond h => ⟨_, rfl, ?sequence⟩⟩
  case taken =>
    have hcode : inCode target.toNat = true := by simp [inCode, hlo, hhi]
    refine State.run_jumps (npc := some target) (undo := []) h (by simp only [hfl, hcond, if_true]; rfl) ?_
    exact (if_pos hcond).trans (if_pos hcode)
  case sequence =>
    refine State.run_jumps (npc := none) (undo := []) h (by simp only [hfl, hcond]; rfl) ?_
    exact if_neg (ne_true_of_eq_false hcond)

/-- Settles O8: a compare writes flags, and B names its next address or goes on in sequence. -/
theorem comparesAndBranches : Obligations.ComparesAndBranches := ⟨comparesWriteFlagsAlone, branchIsForward⟩

/-! ### Loops -/

/-- A loop instruction: it leaves the loop stack `loops` and the register write `w`, and goes to `npc` or on in sequence. -/
def Vertex.loopDone (x : Vertex) (loops : List LoopEntry) (w : Option (BitVec 4 × Word)) : Vertex :=
  let y := { x with core := { x.core with loops := loops } }
  match w with
  | some (d, val) => y.setReg d val
  | none => y

theorem State.run_loopOnly {s : State} {v : Vtx} {m : Vertex → IMeta} {body : Vertex → IRes} {k : IMeta}
    {npc : Option Word} {undo : List Host.Cell} {loops : List LoopEntry} {w : Option (BitVec 4 × Word)}
    (h : MayIssue s v k) (hm : m ((s.closeFull v).v v) = k)
    (hb : body (s.issueVertex v k.words) = .done ((s.issueVertex v k.words).loopDone loops w) npc undo) :
    LoopOnly s (s.run v m false body) v k (s.pcAfter v k npc) loops w := by
  obtain ⟨hret, pc, count, retired, last, dbg, hv, hdbg⟩ := State.run_goesTo h hm hb (by cases w <;> rfl)
  have hkeeps : ∀ x : Vertex, x.loopDone loops w = { x with core := (x.loopDone loops w).core } ∧
      Core.plain { x.core with loops := loops } (x.loopDone loops w).core := fun x => by
    cases w <;> exact ⟨rfl, rfl⟩
  obtain ⟨hcore, hplain⟩ := hkeeps (s.issueVertex v k.words)
  refine ⟨hret, ?_, fun hd => ?_, ?_, ?_, fun r => ?_, ?_⟩
  · rw [hv, hcore]
  · rw [hv]
    exact (hdbg hd).trans (by rw [hcore])
  · rw [hv]
    unfold Core.plain at hplain ⊢
    rw [hplain]
  · rw [hv]
    cases w <;> rfl
  · rw [hv]
    cases w with
    | none => rfl
    | some w =>
      obtain ⟨d, val⟩ := w
      dsimp only
      split
      · next hr => rw [hr]; exact Vertex.reg_setReg_same _ d val
      · next hr => exact Vertex.reg_setReg_other _ val hr
  · have hstream := congrArg (fun y : Vertex => y.core.stream) hv
    cases w <;> exact hstream

/-- Settles O9: each case is one branch of LOOPN or LEND. -/
theorem loopsCountTheirPasses : Obligations.LoopsCountTheirPasses := by
  intro s v
  refine ⟨fun f hz hcount h => ?loopn, fun f e rest hz hcode h => ?lend, fun f hz h => ⟨fun hcount ho => ?zero,
    fun hcount hfull ho => ?full⟩, fun f hz hcode h hempty ho => ?outside⟩
  case loopn =>
    intro x hroom
    refine ⟨_, rfl, ?_⟩
    rw [hz, beq_eq_false_iff_ne.mpr hcount]
    refine State.run_loopOnly (npc := none) (undo := []) h rfl ((if_neg hroom).trans ?_)
    cases f.ix <;> rfl
  case lend =>
    intro x hloops hown
    have hstack : (s.issueVertex v (metaU 1).words).core.loops = e :: rest := hloops
    refine ⟨fun hleft => ⟨_, rfl, ?again⟩, fun hlast => ⟨_, rfl, ?last⟩⟩
    case again =>
      rw [hz, hcode]
      refine State.run_loopOnly (npc := some e.start) (undo := []) h rfl ((if_neg hown).trans ?_)
      simp only [hstack, show 0 < e.left - 1 by omega, if_true]
      cases e.ix <;> rfl
    case last =>
      rw [hz, hcode]
      refine State.run_loopOnly (npc := none) (undo := []) h rfl ((if_neg hown).trans ?_)
      simp only [hstack, show ¬ 0 < e.left - 1 by omega, if_false]
      rfl
  case zero =>
    refine ⟨_, rfl, ?_⟩
    rw [hz, hcount]
    exact State.instr_malformed_trapsOut h rfl ho
  case full =>
    refine ⟨_, rfl, ?_⟩
    rw [hz, beq_eq_false_iff_ne.mpr hcount]
    exact State.instr_trapsOut h rfl (if_pos hfull) ho (by decide)
  case outside =>
    refine ⟨_, rfl, ?_⟩
    rw [hz, hcode]
    exact State.instr_trapsOut h rfl (if_pos hempty) ho (by decide)

end Sys2Proof.Machine

/-! PROOFS. EVT (R143, R157), and O12. -/

namespace Sys2Proof.Machine

section
variable (x : Vertex) (e : Event)

/-- An event changes the event buffer, the count of the dropped events and the counters of the vertex alone. -/
theorem Vertex.addEvent_eq : x.addEvent e =
    { x with events := (x.addEvent e).events, evDrop := (x.addEvent e).evDrop, loc := (x.addEvent e).loc } := by
  unfold Vertex.addEvent; split <;> rfl

theorem Vertex.addEvent_of_room (h : x.events.length < 32) : x.addEvent e = { x with events := x.events ++ [e] } := if_pos h

/-- An event that finds the buffer full is dropped and counted for its task. -/
theorem Vertex.addEvent_of_full (h : 32 ≤ x.events.length) : x.addEvent e =
    { x with
      evDrop := modNth x.evDrop e.task (· + 1), loc := { x.loc with edrop := min (x.loc.edrop + 1) 65535 } } :=
  if_neg (Nat.not_lt.mpr h)

end

/-- Settles O12: EVT leaves what its entry in the buffer leaves. -/
theorem eventsEnterTheBuffer : Obligations.EventsEnterTheBuffer := by
  intro s v f h x
  have hkeeps := x.addEvent_eq ⟨f.imm, x.core.task, x.core.pc, x.reg f.d, x.reg f.a⟩
  obtain ⟨hret, pc, count, retired, last, dbg, hv⟩ :=
    State.run_done (m := fun _ => metaU 6)
      (body := fun x => .done (x.addEvent ⟨f.imm, x.core.task, x.core.pc, x.reg f.d, x.reg f.a⟩) none []) rfl h rfl rfl
      (by rw [Vertex.addEvent_eq])
  refine ⟨_, rfl, hret, ?_, ?_, ?_, ?_, ?_, ?_, fun hroom => ?room, fun hfull => ?full⟩
  case room =>
    rw [show (s.issueVertex v (metaU 6).words) = x from rfl, Vertex.addEvent_of_room _ _ hroom] at hv
    rw [hv]
    exact ⟨rfl, rfl, rfl⟩
  case full =>
    rw [show (s.issueVertex v (metaU 6).words) = x from rfl, Vertex.addEvent_of_full _ _ hfull] at hv
    rw [hv]
    exact ⟨rfl, rfl, rfl⟩
  all_goals rw [hv, Vertex.addEvent_eq]; rfl

end Sys2Proof.Machine

/-! PROOFS. What a store of an instruction leaves of any width and region (R10, R22, R125, R206), and O14. -/

namespace Sys2Proof.Machine

/-! ### Bytes -/

theorem leBytes_getElem {n i : Nat} (x : Nat) (h : i < (leBytes n x).length) :
    (leBytes n x)[i] = BitVec.ofNat 8 (x / 256 ^ i) := by
  induction n generalizing x i with
  | zero => simp [leBytes] at h
  | succ n ih =>
    cases i with
    | zero => simp [leBytes]
    | succ i =>
      simp only [leBytes, List.getElem_cons_succ]
      rw [ih, Nat.pow_succ', Nat.div_div_eq_div_mul]

/-- A store is read back byte by byte. -/
theorem Memory.read_store_same {m : List Host.Cell} (hm : Memory.wf m = true) (a x : Nat) {n i : Nat} (h : i < n) :
    Memory.read (Memory.store m a n x) (a + i) = BitVec.ofNat 8 (x / 256 ^ i) := by
  rw [Memory.store, Memory.read_put_same _ hm a i (by simpa using h), leBytes_getElem]

theorem numberAt_eq_load (m : List Host.Cell) (a n : Nat) : numberAt m a n = Memory.load m a n := by
  rw [Memory.load, Memory.bytes_eq_map]; rfl

/-! ### The vertex at issue -/

theorem State.issueVertex_wf {s : State} {v : Vtx} (h : (s.v v).mem.wf) (n : Nat) : (s.issueVertex v n).mem.wf := by
  rw [State.issueVertex_eq, Vertex.wf_fetchCorrect, State.closeFull_mem]
  exact h

/-! ### The vertex after a store -/

/-- A store with record `k` changes the stream, the memories, the marked pages and the count of corrected errors alone. -/
def Vertex.StoresOnly (x y : Vertex) (k : SigRec) : Prop :=
  y = { x with
    core := { x.core with stream := k :: x.core.stream }, mem := y.mem, dirty := y.dirty,
    loc := { x.loc with eccOwn := y.loc.eccOwn } }

/-- A read changes the memories and the count of corrected errors alone. -/
theorem Vertex.touch_eq (x : Vertex) (r : Region) (a : Nat) :
    x.touch r a =
      { x with mem := (x.touch r a).mem, loc := { x.loc with eccOwn := (x.touch r a).loc.eccOwn } } := by
  unfold Vertex.touch; split <;> rfl

/-- A read, a change of the memories and a record. -/
theorem Vertex.storesOnly_feed {x y : Vertex} (m : VMem) (k : SigRec)
    (hy : y = { x with mem := y.mem, loc := { x.loc with eccOwn := y.loc.eccOwn } }) :
    x.StoresOnly (Vertex.feed { y with mem := m } k) k := by
  rw [Vertex.StoresOnly, Vertex.feed_eq, hy]

theorem Vertex.storeRec_storesOnly (x : Vertex) (r : Region) (a n val : Nat) :
    x.StoresOnly (x.storeRec r a n val) (.store n a (BitVec.ofNat 64 (val % 2 ^ (8 * n)))) := by
  unfold Vertex.storeRec
  split
  · exact Vertex.storesOnly_feed _ _ rfl
  · exact Vertex.storesOnly_feed _ _ (x.touch_eq r a)

theorem Vertex.window_storesOnly (x : Vertex) (r : Region) (a : Nat) (k : SigRec) (f : Word → Word) :
    x.StoresOnly (x.window r a k f) k := Vertex.storesOnly_feed _ _ (x.touch_eq r a)

/-- An alias store leaves the memories as a store of the changed word does. -/
theorem Vertex.window_mem (x : Vertex) (r : Region) (a : Nat) (k : SigRec) (f : Word → Word) :
    (x.window r a k f).mem = (x.storeRec r a 4 (f (BitVec.ofNat 32 (numberAt (x.mem.cells r) a 4))).toNat).mem := by
  have hload : (x.touch r a).mem.load r a 4 = numberAt (x.mem.cells r) a 4 := by
    obtain ⟨e1, he⟩ := x.touch_mem r a
    rw [numberAt_eq_load, he]
    cases r <;> rfl
  simp only [Vertex.window, Vertex.storeRec, Vertex.feed_mem, hload, w32]
  rfl

/-- The bytes of a store in canonical memories. -/
theorem Vertex.storedBytes_of_mem {x y : Vertex} {r : Region} {a n val : Nat} (hx : x.mem.wf)
    (hy : y.mem = (x.storeRec r a n val).mem) : StoredBytes x y r a n val :=
  Vertex.storeRec_storedBytes hy fun _ hi => Memory.read_store_same (VMem.wf_cells hx r) a val hi

/-! ### Instructions that store -/

/-- An instruction that stores and goes on in sequence. -/
theorem State.run_stores {s : State} {v : Vtx} {m : Vertex → IMeta} {body : Vertex → IRes} {k : IMeta} {y : Vertex}
    {rec_ : SigRec} {undo : List Host.Cell} (h : MayIssue s v k) (hm : m ((s.closeFull v).v v) = k)
    (hb : body (s.issueVertex v k.words) = .done y none undo) (hy : (s.issueVertex v k.words).StoresOnly y rec_) :
    Stores s (s.run v m false body) v k rec_ ∧ ((s.run v m false body).v v).mem = y.mem := by
  unfold Vertex.StoresOnly at hy
  obtain ⟨hret, pc, count, retired, last, dbg, hv, hdbg⟩ :=
    State.run_goesTo h hm hb (by rw [hy])
  refine ⟨⟨hret, ?vertex, fun hd => ?dbg, ?core, ?regs, ?flags, ?stream⟩, by rw [hv]⟩
  case dbg => rw [hv]; exact (hdbg hd).trans (by rw [hy])
  all_goals rw [hv]
  case vertex => rw [hy]
  case core => rw [hy]; rfl
  case regs => rw [hy]
  case flags => rw [hy]
  case stream => rw [hy]

section
variable (s : State) (v : Vtx) (f : StoreForm) (n : Nat)

/-- The target of a store depends on the registers of the vertex alone. -/
theorem State.storeTarget_core {x y : Vertex} (h : x.core = y.core) : s.storeTarget v f n x = s.storeTarget v f n y := by
  have hcore : s.storeTarget v f n x = s.storeTarget v f n { y with core := x.core } := rfl
  rw [hcore, h]

theorem State.storeTarget_closeFull : s.storeTarget v f n ((s.closeFull v).v v) = s.storeTarget v f n (s.v v) := by
  rw [State.v_closeFull_eq]
  rfl

/-- The target of a store at issue is that before the instruction. -/
theorem State.storeTarget_issueVertex (words : Nat) :
    s.storeTarget v f n (s.issueVertex v words) = s.storeTarget v f n ((s.closeFull v).v v) :=
  s.storeTarget_core v f n (s.issueVertex_core v words)

end

/-- A store that reaches a memory is an instruction with nothing to follow. -/
theorem State.storeInstr_eq_run {s : State} {v : Vtx} {f : StoreForm} {n w : Nat} {q : Target}
    (ht : s.storeTarget v f n (s.v v) = .ok q) (hq : ∀ a, q ≠ .reg a) (hodd : (n == 8 && oddReg (storeReg f)) = false)
    {m : IMeta} {y : Vertex} {undo : List Host.Cell} (h : MayIssue s v m)
    (hm : s.storeMeta v f n w ((s.closeFull v).v v) = m)
    (hb : s.storeBody v f n (s.issueVertex v m.words) = .done y none undo) :
    s.storeInstr v f n w = s.run v (s.storeMeta v f n w) false (s.storeBody v f n) := by
  have hpost : ∀ t, s.storePost v f n t = t := fun t => by
    rw [State.storePost, ht]
    cases q with
    | reg a => exact absurd rfl (hq a)
    | _ => rfl
  have hfree : s.accessWaits v (s.storeTarget v f n (s.v v)) true = false := by
    rw [ht]
    cases q with
    | reg a => exact absurd rfl (hq a)
    | _ => rfl
  rw [State.storeInstr, State.run, hodd, hfree, State.instr_done h hm hb, State.instr_done (post := id) h hm hb, hpost]
  simp

section
variable {s : State} {v : Vtx} {f : StoreForm} {n w : Nat} {m : IMeta} {r : Region} {a : Nat}

/-- A store that reaches the bytes of a region. -/
theorem State.storeInstr_mem (hwords : m.words = 1)
    (ht : s.storeTarget v f n (s.issueVertex v 1) = .ok (.mem r a))
    (hodd : n = 8 → (storeReg f).getLsbD 0 = false) (hecc : n ≠ 8 → (s.issueVertex v 1).mem.bad r a = false)
    (hwf : (s.v v).mem.wf) (h : MayIssue s v m)
    (hm : m = { cls := (storeForm f).cls, cyc := accessCycles (n == 8) w (.ok (.mem r a)),
                rr := storeBase f ||| (if n = 8 then rpair (storeReg f) else rbit (storeReg f)) }) :
    let x := s.issueVertex v 1
    Stores s (s.storeInstr v f n w) v m (.store n a (BitVec.ofNat 64 (x.storeVal (storeReg f) n))) ∧
      StoredBytes x ((s.storeInstr v f n w).v v) r a n (x.storeVal (storeReg f) n) := by
  intro x
  have htc : s.storeTarget v f n ((s.closeFull v).v v) = .ok (.mem r a) := by
    rw [← State.storeTarget_issueVertex s v f n 1, ht]
  have hmeta : s.storeMeta v f n w ((s.closeFull v).v v) = m := by rw [hm, State.storeMeta, htc]
  have hbody : s.storeBody v f n (s.issueVertex v m.words) =
      .done (x.storeRec r a n (x.storeVal (storeReg f) n)) none (if r = .inst then x.mem.replaced a n else []) := by
    have hfine : (n != 8 && (s.issueVertex v 1).mem.bad r a) = false := by
      by_cases hn : n = 8
      · simp [hn]
      · simp [hecc hn]
    rw [hwords, State.storeBody, ht]
    simp only [hfine]
    rfl
  have hodd' : (n == 8 && oddReg (storeReg f)) = false := by
    by_cases hn : n = 8
    · rw [oddReg, hodd hn, Bool.and_false]
    · simp [hn]
  have hval : x.storeVal (storeReg f) n % 2 ^ (8 * n) = x.storeVal (storeReg f) n := Nat.mod_mod _ _
  have hstores := x.storeRec_storesOnly r a n (x.storeVal (storeReg f) n)
  rw [hval] at hstores
  rw [State.storeInstr_eq_run (State.storeTarget_closeFull s v f n ▸ htc) (by simp) hodd' h hmeta hbody]
  obtain ⟨hst, hmem⟩ := State.run_stores h hmeta hbody (by rw [hwords]; exact hstores)
  exact ⟨hst, Vertex.storedBytes_of_mem (State.issueVertex_wf hwf 1) hmem⟩

/-- STW through an alias window. -/
theorem State.storeInstr_window {k : SigRec} {change : Word → Word} {q : Target} (hwords : m.words = 1)
    (ht : s.storeTarget v f 4 (s.issueVertex v 1) = .ok q) (hq : ∀ a, q ≠ .reg a)
    (hmeta : s.storeMeta v f 4 w ((s.closeFull v).v v) = m) (hwf : (s.v v).mem.wf) (h : MayIssue s v m)
    (hbody : s.storeBody v f 4 (s.issueVertex v 1) = .done ((s.issueVertex v 1).window r a k change) none []) :
    let x := s.issueVertex v 1
    Stores s (s.storeInstr v f 4 w) v m k ∧
      StoredBytes x ((s.storeInstr v f 4 w).v v) r a 4
        (change (BitVec.ofNat 32 (numberAt (x.mem.cells r) a 4))).toNat := by
  intro x
  have htc : s.storeTarget v f 4 (s.v v) = .ok q := by
    rw [← State.storeTarget_closeFull, ← State.storeTarget_issueVertex s v f 4 1, ht]
  rw [← hwords] at hbody
  rw [State.storeInstr_eq_run htc hq rfl h hmeta hbody]
  obtain ⟨hst, hmem⟩ := State.run_stores h hmeta hbody (Vertex.window_storesOnly ..)
  rw [hwords] at hmem
  exact ⟨hst, Vertex.storedBytes_of_mem (State.issueVertex_wf hwf 1) (hmem.trans (Vertex.window_mem ..))⟩

end

theorem storesWriteTheirBytes : StoresWriteTheirBytes := by
  intro s v f w r a x p hp
  simp only [List.mem_cons, List.not_mem_nil, or_false] at hp
  rcases hp with rfl | rfl | rfl | rfl
  all_goals
    intro n m val hodd hecc hwf h ht
    exact ⟨_, rfl, State.storeInstr_mem rfl ht hodd hecc hwf h rfl⟩

/-- The mask of an alias store is the register. -/
theorem Vertex.storeVal_word (x : Vertex) (t : BitVec 4) : w32 (x.storeVal t 4) = x.reg t := by
  exact BitVec.eq_of_toNat_eq (by simpa [Vertex.storeVal, w32] using (x.reg t).isLt)

theorem aliasStoresChangeBits : AliasStoresChangeBits := by
  intro s v g w r a x m at_ mask old hwf hecc h
  have hmeta : ∀ q, s.storeTarget v (.glob g) 4 x = .ok q → accessCycles false w (.ok q) = 3 + min w (regionSlack r) →
      s.storeMeta v (.glob g) 4 w ((s.closeFull v).v v) = m := fun q ht hcyc => by
    have htc : s.storeTarget v (.glob g) 4 ((s.closeFull v).v v) = .ok q := by
      rw [← State.storeTarget_issueVertex s v (.glob g) 4 1, ht]
    rw [State.storeMeta, htc]
    exact congrArg (fun c => ({ cls := .U, cyc := c, rr := rbit g.b ||| rbit g.t } : IMeta)) hcyc
  refine ⟨fun ht => ⟨_, rfl, ?set⟩, fun ht => ⟨_, rfl, ?clear⟩⟩
  case set =>
    refine State.storeInstr_window rfl ht (by simp) (hmeta _ ht rfl) hwf h (change := fun q => q ||| mask) ?_
    have ht' : s.storeTarget v (.glob g) 4 (s.issueVertex v 1) = .ok (.setBits r a) := ht
    have hecc' : (s.issueVertex v 1).mem.bad r a = false := hecc
    simp only [State.storeBody, ht', hecc', Vertex.storeVal_word]
    rfl
  case clear =>
    refine State.storeInstr_window rfl ht (by simp) (hmeta _ ht rfl) hwf h (change := fun q => q &&& ~~~mask) ?_
    have ht' : s.storeTarget v (.glob g) 4 (s.issueVertex v 1) = .ok (.clearBits r a) := ht
    have hecc' : (s.issueVertex v 1).mem.bad r a = false := hecc
    simp only [State.storeBody, ht', hecc', Vertex.storeVal_word]
    rfl

/-- Settles O14: a store that reaches a memory, or a word behind an alias window, stores with its record. -/
theorem storesWriteTheirTarget : Obligations.StoresWriteTheirTarget := ⟨storesWriteTheirBytes, aliasStoresChangeBits⟩

end Sys2Proof.Machine

/-! PROOFS. Slot access and age (R138 to R140), and O15. -/

namespace Sys2Proof.Machine

/-! ### Slots -/

section
variable {s : State} {x : Vertex} {f : FmtS} {b : Binding}

/-- A used binding of the running task that holds the word. -/
theorem State.slotBinding_eq (hb : s.binding f.bind.toNat = some b) (hlen : b.len ≠ 0) (htask : b.task = x.core.task)
    (hwix : f.wix.toNat < b.len) : s.slotBinding x f = some b := by
  have hfits : ¬ (b.len = 0 ∨ b.task ≠ x.core.task ∨ b.len ≤ f.wix.toNat) := by
    simp only [not_or, not_not, not_le]
    exact ⟨hlen, htask, hwix⟩
  simp only [State.slotBinding, hb, if_neg hfits]

/-- Where the binding is not used by the running task, or does not hold the word, a slot instruction finds none. -/
theorem State.slotBinding_none
    (h : ∀ b, s.binding f.bind.toNat = some b → b.len = 0 ∨ b.task ≠ x.core.task ∨ b.len ≤ f.wix.toNat) :
    s.slotBinding x f = none := by
  unfold State.slotBinding
  cases hb : s.binding f.bind.toNat with
  | none => rfl
  | some b => exact if_pos (h b hb)

/-- A slot instruction finds no binding, or the one of the slot. -/
theorem State.slotBinding_eq_none_or (hb : s.binding f.bind.toNat = some b) :
    s.slotBinding x f = none ∨ s.slotBinding x f = some b := by
  simp only [State.slotBinding, hb]
  exact ite_eq_or_eq _ _ _

end

@[simp] theorem Vertex.meetBusy_core (x : Vertex) (busy : Bool) : (x.meetBusy busy).core = x.core := by
  cases busy <;> rfl

theorem testB_eq_decide (n k : Nat) : testB n k = decide (n / 2 ^ k % 2 = 1) := beq_eq_decide _ _

theorem slotsReadAndWrite : SlotsReadAndWrite := by
  intro s v f w x free
  have hword : ∀ a, x.mem.load .imgIn a 4 = numberAt x.mem.imgIn a 4 := fun a => (numberAt_eq_load _ a 4).symm
  refine ⟨fun ho => ⟨fun busy hcase h => ⟨_, rfl, ?noReceive⟩, fun hcase h => ⟨_, rfl, ?noTransmit⟩⟩,
    ?used⟩
  case noReceive =>
    refine State.instr_trapsOut (addr := 0) h rfl ?_ ho (by decide)
    have hslot : s.slotBinding x f = none ∨ ∃ b, s.slotBinding x f = some b ∧ b.tx = true := by
      rcases hcase with hfree | ⟨b, hb, htx⟩
      · exact .inl (State.slotBinding_none hfree)
      · exact (State.slotBinding_eq_none_or hb).imp_right fun hs => ⟨b, hs, htx⟩
    have hx : s.issueVertex v (metaU (4 + min w 12)).words = x := rfl
    rcases hslot with hnone | ⟨b, hs, htx⟩
    · simp only [hx, hnone]
    · simp only [hx, hs, htx, if_true]
  case noTransmit =>
    refine State.instr_trapsOut (addr := 0) h rfl ?_ ho (by decide)
    have hslot : s.slotBinding x f = none ∨ ∃ b, s.slotBinding x f = some b ∧ b.tx = false := by
      rcases hcase with hfree | ⟨b, hb, htx⟩
      · exact .inl (State.slotBinding_none hfree)
      · exact (State.slotBinding_eq_none_or hb).imp_right fun hs => ⟨b, hs, htx⟩
    have hx : s.issueVertex v (metaU (2 + min w 6)).words = x := rfl
    rcases hslot with hnone | ⟨b, hs, htx⟩
    · simp only [hx, hnone]
    · simp only [hx, hs, htx, Bool.not_false, if_true]
  case used =>
    intro b a st hb hlen htask hwix
    have hs : s.slotBinding x f = some b := State.slotBinding_eq hb hlen htask hwix
    refine ⟨fun busy htx h hpay hstat => ⟨_, rfl, ?receive⟩, fun htx hwf h hecc => ⟨_, rfl, ?transmit⟩⟩
    case receive =>
      have hx : s.issueVertex v (metaU (4 + min w 12)).words = x := rfl
      have hpay' : x.mem.bad .imgIn (imageWord (b.pay + f.wix.toNat)) = false := hpay
      have hstat' : x.mem.bad .imgIn (imageWord b.stat) = false := hstat
      refine State.run_writesRegOn (undo := []) h rfl (by simp; rfl) ?_
      simp only [hx, hs, htx, hpay', hstat', Bool.false_eq_true, if_false, hword, testB_eq_decide]
      rfl
    case transmit =>
      have hx : s.issueVertex v (metaU (2 + min w 6)).words = x := rfl
      have hecc' : x.mem.bad .imgOut (imageWord (b.pay + f.wix.toNat)) = false := hecc
      have hstores := x.storeRec_storesOnly .imgOut a 4 (x.reg f.d).toNat
      rw [Nat.mod_eq_of_lt (show (x.reg f.d).toNat < 2 ^ (8 * 4) from (x.reg f.d).isLt)] at hstores
      refine And.imp_right (fun hmem => Vertex.storedBytes_of_mem (State.issueVertex_wf hwf 1) hmem)
        (State.run_stores (y := x.storeRec .imgOut a 4 (x.reg f.d).toNat) (undo := []) h rfl ?_ hstores)
      simp only [hx, hs, htx, hecc', Bool.not_true, Bool.false_eq_true, if_false]
      rfl

/-! ### Age -/

theorem badLimit_eq_false {imm : BitVec 16} (h : if imm.getLsbD 15 then
    imm.extractLsb' 12 3 = 0 ∧ imm.extractLsb' 0 8 = 0 else imm.extractLsb' 8 7 = 0) : badLimit imm = false := by
  unfold badLimit
  split at h
  · next hreg => rw [if_pos hreg, h.1, h.2]; rfl
  · next himm => rw [if_neg himm, h]; rfl

theorem ageLimit_eq (x : Vertex) (imm : BitVec 16) : ageLimit x imm =
    if imm.getLsbD 15 then (x.reg (imm.extractLsb' 8 4)).toNat else imm.toNat % 256 := by
  simp [ageLimit]

/-- The low half of a word. -/
theorem and_lowHalf (w : Word) : w &&& 0xFFFF#32 = BitVec.ofNat 32 (w.toNat % 2 ^ 16) := by
  refine BitVec.eq_of_toNat_eq ?_
  have hlow : w.toNat % 2 ^ 16 < 2 ^ 32 := Nat.lt_of_lt_of_le (Nat.mod_lt _ (by decide)) (by decide)
  rw [BitVec.toNat_and, BitVec.toNat_ofNat (x := w.toNat % 2 ^ 16), Nat.mod_eq_of_lt hlow]
  exact Nat.and_two_pow_sub_one_eq_mod w.toNat 16

theorem ageTestsTheLimit : AgeTestsTheLimit := by
  intro s v f x reg m lim old hfields h
  have hold : old = decide (ageLimit x f.imm < field (x.reg f.a).toNat 16 8) := by rw [ageLimit_eq]; rfl
  refine ⟨_, rfl, ?_⟩
  rw [badLimit_eq_false hfields, ← and_lowHalf, hold]
  exact State.runAlu_writesReg h f.d _

/-- Settles O15: a slot instruction by its binding, AGE by its limit. -/
theorem slotsAndAge : Obligations.SlotsAndAge := ⟨slotsReadAndWrite, ageTestsTheLimit⟩

end Sys2Proof.Machine

/-! PROOFS. The seal switches (R434) and the poll of the mailbox without boundaries (R80), and O24. -/

namespace Sys2Proof.Machine

/-! ### The voted state of a switch -/

theorem Cyc.sw_setSw_same (c : Cyc) {k : Nat} (hk : k < 4) (b : Bool) : (c.setSw k b).sw k = b := by
  match k, hk with
  | 0, _ => rfl
  | 1, _ => rfl
  | 2, _ => rfl
  | 3, _ => rfl

theorem Cyc.sw_setSw_other (c : Cyc) {j k : Nat} (hj : j < 4) (hk : k < 4) (h : j ≠ k) (b : Bool) :
    (c.setSw k b).sw j = c.sw j := by
  match k, hk, j, hj with
  | 0, _, 1, _ | 0, _, 2, _ | 0, _, 3, _ => rfl
  | 1, _, 0, _ | 1, _, 2, _ | 1, _, 3, _ => rfl
  | 2, _, 0, _ | 2, _, 1, _ | 2, _, 3, _ => rfl
  | 3, _, 0, _ | 3, _, 1, _ | 3, _, 2, _ => rfl
  | 0, _, 0, _ | 1, _, 1, _ | 2, _, 2, _ | 3, _, 3, _ => exact absurd rfl h

/-- A majority held at 4 readings becomes the voted state, and its count starts again. -/
theorem State.sealChange_voted {s : State} {k : Nat} {b : Bool} (hb : majority (s.sealReads k) = some b)
    (hrun : 4 ≤ s.blk.seals.run.getD k 0) :
    s.sealChange k = (s.modCyc (fun c => c.setSw k b)).modSeals (fun x => { x with run := setNth x.run k 0 }) := by
  simp only [State.sealChange, hb, if_pos hrun]

theorem State.sealDisagree_recorded {s : State} {k : Nat} (hodd : 100 ≤ s.blk.seals.oddRun.getD k 0)
    (hdone : s.blk.seals.done.getD k false = false) :
    s.sealDisagree k = (s.record (.update 0x0A0E) s.blk.seals.word 0 0).modSeals
      (fun x => { x with dis := true, done := setNth x.done k true }) := if_pos ⟨hodd, hdone⟩

/-! ### The poll -/

/-- What the poll brings, and the mode: the item and status words in view, the mailbox, the readings. -/
structure Polled where
  mode : Mode
  mbx : Mbx
  mbox : Mbox
  reads : Tri (BitVec 4)

/-- Those of a state. -/
def State.polled (s : State) : Polled := ⟨s.mode, s.blk.mbx, s.mbox, s.blk.seals.reads⟩

section
variable (s : State) (k : Nat)

theorem State.countSeal_polled : (s.countSeal k).polled = s.polled := rfl

theorem Cyc.mode_setSw (c : Cyc) (b : Bool) : (c.setSw k b).mode = c.mode := by
  unfold Cyc.setSw
  split <;> rfl

theorem State.sealChange_polled : (s.sealChange k).polled = s.polled := by
  unfold State.sealChange
  split
  · split
    · simp only [State.polled, State.mode, State.modSeals, State.modCyc, Cyc.mode_setSw]
    · rfl
  · rfl

theorem State.sealDisagree_polled : (s.sealDisagree k).polled = s.polled := by
  unfold State.sealDisagree
  split <;> rfl

theorem State.readSeals_polled (r : Tri (BitVec 4)) : (s.readSeals r).polled = { s.polled with reads := r } := by
  have hcount : ∀ (l : List Nat) (t : State), (l.foldl State.countSeal t).polled = t.polled := fun l t => by
    induction l generalizing t with
    | nil => rfl
    | cons j l ih => exact (ih _).trans (t.countSeal_polled j)
  have hchange : ∀ (l : List Nat) (t : State),
      (l.foldl (fun w j => (w.sealChange j).sealDisagree j) t).polled = t.polled := fun l t => by
    induction l generalizing t with
    | nil => rfl
    | cons j l ih => exact (ih _).trans ((State.sealDisagree_polled _ j).trans (t.sealChange_polled j))
  unfold State.readSeals
  rw [hchange]
  split
  · exact hcount _ _
  · exact hcount _ _

/-- In a mode in which the application takes the item, the firmware only notes that it has seen it (R80). -/
theorem State.firmware_polled (hhalt : s.mode ≠ .halt) (hcom : s.mode ≠ .commission) (hiso : s.mode ≠ .isolated) :
    s.firmware.polled = s.polled := by
  have hmode : (s.mode == .halt || s.mode == .commission || s.r478) = false := by simp [State.r478, hhalt, hcom, hiso]
  simp only [State.firmware, hmode, Bool.not_false, if_true]
  split <;> rfl

theorem State.mirrorPoll_polled : s.mirrorPoll.polled = s.polled := by
  unfold State.mirrorPoll State.showMode
  split
  · rfl
  · split <;> rfl

theorem State.dropDownload_polled (why : Nat) : (s.dropDownload why).polled = s.polled := by
  by_cases h : s.upd.sstate = .loading
  · rw [State.dropDownload_eq h]
    rfl
  · rw [State.dropDownload, if_neg h]

theorem State.sealWatch_polled : s.sealWatch.polled = s.polled := by
  unfold State.sealWatch
  split
  · rfl
  · exact s.dropDownload_polled 1

theorem State.mode_polled : s.polled.mode = s.mode := rfl

theorem State.mailboxCopy_polled : s.mailboxCopy.polled =
    ⟨s.mode, ⟨if s.mbox.post then s.mbox.page else s.blk.mbx.item, s.mbox.ks⟩, { s.mbox with post := false },
      s.blk.seals.reads⟩ := rfl

end

/-- The steps of the poll. -/
def State.poll (s : State) (r : Tri (BitVec 4)) : State := ((s.mailboxCopy.readSeals r).firmware.mirrorPoll).sealWatch

theorem State.poll_polled {s : State} (r : Tri (BitVec 4)) (hhalt : s.mode ≠ .halt) (hcom : s.mode ≠ .commission)
    (hiso : s.mode ≠ .isolated) : (s.poll r).polled = { s.mailboxCopy.polled with reads := r } := by
  have hread := s.mailboxCopy.readSeals_polled r
  have hmode : (s.mailboxCopy.readSeals r).mode = s.mode := by
    rw [← State.mode_polled, hread, State.mailboxCopy_polled]
  rw [← hmode] at hhalt hcom hiso
  rw [State.poll, State.sealWatch_polled, State.mirrorPoll_polled, State.firmware_polled _ hhalt hcom hiso, hread]

theorem State.poll_brings {s : State} {i : Mbx} {m : Mbox} {r : Tri (BitVec 4)} {mode : Mode}
    (h : s.polled = ⟨mode, i, m, r⟩) :
    s.blk.seals.reads = r ∧ s.mbox.post = m.post ∧ s.blk.mbx.item = i.item ∧ s.blk.mbx.ks = i.ks := by
  obtain ⟨-, rfl, rfl, rfl⟩ := Polled.mk.inj h
  exact ⟨rfl, rfl, rfl, rfl⟩

theorem exec_mailboxPoll_due {dt : Nat} {r : Tri (BitVec 4)} {s : State} (hoff : s.boundaries = false)
    (hreset : s.inReset = false) (hdue : ∀ a, s.start.polled = some a → 1249875 ≤ (s.elapse dt).nt - a) :
    exec (.mailboxPoll dt r) s =
      .next (State.poll
        { s.elapse dt with taken := false, start := { s.start with polled := some (s.elapse dt).nt } } r) := by
  have hpoll : (s.elapse dt).pollDue = true := by
    unfold State.pollDue
    split
    · next a ha => exact decide_eq_true (hdue a ha)
    · rfl
  have hnow : ((s.elapse dt).boundaries || (s.elapse dt).inReset || !(s.elapse dt).pollDue) = false := by
    rw [hpoll, show (s.elapse dt).boundaries = false from hoff, show (s.elapse dt).inReset = false from hreset]
    rfl
  exact if_neg (ne_true_of_eq_false hnow)

/-- Settles O24: each row is one step of the reading of a switch, and the poll is its copy and its reading. -/
theorem sealsAreVoted : Obligations.SealsAreVoted := by
  intro dt sw s u
  refine ⟨fun b hb hrun => ⟨_, rfl, ?change⟩, fun hodd hdone => ⟨_, rfl, ?disagree⟩,
    fun r hoff hreset hdue hhalt hcom hiso => ?poll⟩
  case change =>
    rw [State.sealChange_voted (s := u) hb hrun]
    exact ⟨Cyc.sw_setSw_same _ sw.isLt b, fun k hk hne => Cyc.sw_setSw_other _ hk sw.isLt hne b, rfl⟩
  case disagree =>
    rw [State.sealDisagree_recorded (s := u) hodd hdone]
    exact ⟨rfl, rfl, fun v hv hroom => State.recs_record (s := u) hv hroom _ _ _ _⟩
  case poll =>
    generalize hv : ({ u with taken := false, start := { s.start with polled := some u.nt } } : State) = v
    have hexec : exec (.mailboxPoll dt r) s = .next (v.poll r) := hv ▸ exec_mailboxPoll_due hoff hreset hdue
    obtain ⟨hmode, hmbox, hblk⟩ : v.mode = s.mode ∧ v.mbox = s.mbox ∧ v.blk = s.blk := hv ▸ ⟨rfl, rfl, rfl⟩
    have hpolled := State.poll_polled r (hmode.trans_ne hhalt) (hmode.trans_ne hcom) (hmode.trans_ne hiso)
    rw [State.mailboxCopy_polled] at hpolled
    obtain ⟨hreads, hpost, hitem, hks⟩ := State.poll_brings hpolled
    rw [hmbox, hblk] at hitem
    rw [hmbox] at hks
    exact ⟨v.poll r, hexec, hreads, hpost, hitem, hks⟩

end Sys2Proof.Machine

/-! PROOFS. The rod boundary and the commands judged for a boundary (R68, R70, R73, R272, R358, R361), and O23. -/

namespace Sys2Proof.Machine

/-! ### What the work of a rod boundary leaves -/

/-- What takeover and yield are judged by, and the boundary last counted: the CYC block, the pair engine, the clock. -/
def State.judged (s : State) : Cyc × PairSt2 × Nat × Option Nat := (s.blk.cyc, s.pair, s.nt, s.nic.rodAt)

/-- Bus integration: its state, its two counts of rods, and the boundary last counted. -/
def State.integration (s : State) : BusState × Nat × Nat × Option Nat :=
  (s.blk.ttb.state, s.blk.ttb.count, s.nic.csRod, s.nic.rodAt)

section
variable (s : State)

theorem State.enterQueue_judged (e : TxEvent) : (s.enterQueue e).judged = s.judged := by
  unfold State.enterQueue
  split <;> rfl

theorem State.enterQueue_integration (e : TxEvent) : (s.enterQueue e).integration = s.integration := by
  unfold State.enterQueue
  split <;> rfl

theorem State.laterFrames_judged : s.laterFrames.judged = s.judged := by
  have hfold : ∀ (l : List TxEvent) (ts : Nat) (t : State),
      (l.foldl (fun u e => u.enterQueue { e with ts := ts, launch := none }) t).judged = t.judged := fun l ts t => by
    induction l generalizing t with
    | nil => rfl
    | cons e l ih => exact (ih _).trans (t.enterQueue_judged _)
  exact (hfold _ _ _).trans rfl

theorem State.laterFrames_integration : s.laterFrames.integration = s.integration := by
  have hfold : ∀ (l : List TxEvent) (ts : Nat) (t : State),
      (l.foldl (fun u e => u.enterQueue { e with ts := ts, launch := none }) t).integration = t.integration := fun l ts t => by
    induction l generalizing t with
    | nil => rfl
    | cons e l ih => exact (ih _).trans (t.enterQueue_integration _)
  exact (hfold _ _ _).trans rfl

theorem State.integration_fields {s : State} {x : BusState × Nat × Nat × Option Nat} (h : s.integration = x) :
    s.blk.ttb.state = x.1 ∧ s.blk.ttb.count = x.2.1 ∧ s.nic.csRod = x.2.2.1 ∧ s.nic.rodAt = x.2.2.2 :=
  h ▸ ⟨rfl, rfl, rfl, rfl⟩

/-- Without a frame that waits for the rod, only the counts of rods long past are dropped. -/
theorem State.laterFrames_none {s : State} (h : s.nic.txLater = []) :
    s.laterFrames = s.modNic (fun c => { c with srcCount := s.laterFrames.nic.srcCount }) := by
  unfold State.laterFrames
  rw [h]
  simp only [List.filter_nil, List.take_nil, List.drop_nil, List.foldl_nil, List.nil_append, State.modNic]
  rw [h]
  rfl

theorem State.sendOn_judged (n : Net) (f : Frame) : (s.sendOn n f).judged = s.judged := by
  unfold State.sendOn
  split <;> rfl

theorem State.sendCold_judged : s.sendCold.judged = s.judged := by
  have hone : ∀ (b : Bool) (t : State) (n : Net) (f : Frame), (if b then t.sendOn n f else t).judged = t.judged :=
    fun b t n f => by
      split
      · exact t.sendOn_judged n f
      · rfl
  exact (hone _ _ _ _).trans (hone _ _ _ _)

theorem State.enterColdstart_judged : s.enterColdstart.judged = s.judged := State.sendCold_judged _

theorem State.coldEnd_judged : s.coldEnd.judged = s.judged := by
  unfold State.coldEnd
  split <;> rfl

theorem State.ltExpiry_judged : s.ltExpiry.judged = s.judged := by
  unfold State.ltExpiry
  split
  · exact s.enterColdstart_judged
  · rfl

theorem State.coldRods_judged : s.coldRods.judged = s.judged := by
  unfold State.coldRods
  dsimp only
  split
  · split
    · exact State.enterColdstart_judged _
    · rfl
  · split <;> rfl
  · rw [State.ltExpiry_judged, State.coldEnd_judged]
    split
    · exact State.sendCold_judged _
    · rfl

theorem State.rodWork_judged : s.rodWork.judged = (s.blk.cyc, s.pair, s.nt, some s.nt) :=
  (State.laterFrames_judged _).trans (State.coldRods_judged _)

theorem State.rodWork_stands :
    s.rodWork.blk.cyc = s.blk.cyc ∧ s.rodWork.pair = s.pair ∧ s.rodWork.nt = s.nt ∧ s.rodWork.nic.rodAt = some s.nt := by
  simpa only [State.judged, Prod.mk.injEq] using s.rodWork_judged

/-- In INTEGRATED a rod is only counted (R272). -/
theorem State.coldRods_integrated {s : State} (h : s.blk.ttb.state = .integrated) (hpend : s.nic.csPend = none) :
    s.coldRods = (s.modTtb (fun b => { b with count := min 255 (b.count + 1) })).modNic
      (fun c => { c with csRod := min 255 (c.csRod + 1) }) := by
  simp [State.coldRods, State.coldEnd, State.ltExpiry, State.modTtb, State.modNic, h, hpend]

/-- The rod counted in INTEGRATED, before the frames that wait for it. -/
def State.rodCounted (s : State) : State :=
  ((s.modNic (fun c => { c with rodAt := some s.nt })).modTtb (fun b => { b with count := min 255 (b.count + 1) })).modNic
    (fun c => { c with csRod := min 255 (c.csRod + 1) })

theorem State.rodCounted_integration :
    s.rodCounted.integration = (s.blk.ttb.state, min 255 (s.blk.ttb.count + 1), min 255 (s.nic.csRod + 1), some s.nt) := rfl

theorem State.rodWork_integrated {s : State} (h : s.blk.ttb.state = .integrated) (hpend : s.nic.csPend = none) :
    s.rodWork = s.rodCounted.laterFrames :=
  congrArg State.laterFrames (State.coldRods_integrated h hpend)

/-! ### Takeover and yield at a rod boundary -/

theorem State.yieldDue_integration : s.yieldDue.integration = s.integration := by
  unfold State.yieldDue
  split <;> rfl

theorem State.cutSet_integration : s.cutSet.integration = s.integration := by
  unfold State.cutSet
  split
  · split <;> rfl
  · rfl

theorem State.sendChord_integration (f : ChordFrame) : (s.sendChord f).integration = s.integration := by
  unfold State.sendChord
  split <;> split <;> rfl

theorem State.outputsMode_integration : s.outputsMode.integration = s.integration := by
  unfold State.outputsMode
  split <;> rfl

theorem State.endDebug_integration (v : Vtx) : (s.endDebug v).integration = s.integration := by
  unfold State.endDebug
  split <;> rfl

theorem State.modPair_integration (f : PairSt2 → PairSt2) : (s.modPair f).integration = s.integration := rfl

theorem State.modChd_integration (f : Chd → Chd) : (s.modChd f).integration = s.integration := rfl

theorem State.integration_resync (x : PairSt2) (f : Nat) :
    ({ s with pair := x, resyncF := f } : State).integration = s.integration := rfl

theorem State.abdicate_integration : s.abdicate.integration = s.integration :=
  (State.sendChord_integration _ _).trans (State.cutSet_integration s)

theorem State.pairMode_integration (was : Mode) : (s.pairMode was).integration = s.integration := by
  simp only [State.pairMode, apply_ite State.integration, State.integration_resync, State.modPair_integration,
    State.modChd_integration, State.abdicate_integration, ite_self]

theorem State.setMode_integration (m : Mode) (c : MCause) : (s.setMode m c).integration = s.integration :=
  (State.pairMode_integration _ _).trans (State.outputsMode_integration _)

theorem State.endDebugs_integration : s.endDebugs.integration = s.integration :=
  (State.endDebug_integration _ .C).trans ((State.endDebug_integration _ .B).trans (State.endDebug_integration _ .A))

theorem State.becomeActive_integration (m : MCause) (cause : Nat) : (s.becomeActive m cause).integration = s.integration := by
  have hmode := s.endDebugs.setMode_integration .active m
  rw [State.endDebugs_integration] at hmode
  rw [← hmode, State.becomeActive]
  generalize s.endDebugs.setMode .active m = t
  rfl

theorem State.takeoverDue_integration : s.takeoverDue.integration = s.integration := by
  unfold State.takeoverDue
  split
  · rfl
  · split
    · exact s.becomeActive_integration _ _
    · rfl

theorem State.yieldDue_cyc : s.yieldDue.blk.cyc = s.blk.cyc := by
  unfold State.yieldDue
  split <;> rfl

theorem State.yieldDue_decided : s.yieldDue.pair.decided = s.pair.decided := by
  unfold State.yieldDue
  split <;> rfl

theorem State.yieldDue_chd : s.yieldDue.blk.chd = s.blk.chd := by
  unfold State.yieldDue
  split <;> rfl

theorem State.takeoverDue_fnum : s.takeoverDue.fnum = s.fnum := by
  unfold State.takeoverDue
  split
  · rfl
  · split
    · exact State.becomeActive_fnum _ _
    · rfl

end

section
variable {s : State}

/-- Outside STANDBY no takeover takes effect. -/
theorem State.takeoverDue_of_active (h : s.mode = .active) : s.takeoverDue = s := by
  have hripe : s.takeoverRipe = false := by simp [State.takeoverRipe, h]
  unfold State.takeoverDue
  split
  · rfl
  · rw [if_neg (ne_true_of_eq_false hripe)]

theorem State.takeoverDue_undecided (h : s.pair.decided = none) : s.takeoverDue = s := by
  rw [State.takeoverDue, h]

theorem State.yieldDue_none (h : s.pair.yieldAt = none) : s.yieldDue = s := if_neg (by simp [h])

theorem State.yieldDue_ripe {a : Nat} (hmode : s.mode = .active) (hat : s.pair.yieldAt = some a) (hage : 2500 ≤ s.nt - a) :
    s.yieldDue = s.modPair (fun p => { p with yielded := true }) :=
  if_pos ⟨hmode, by
    have hold : decide (us20 ≤ s.nt - a) = true := decide_eq_true hage
    simp [State.yieldRipe, hat, hold], by simp [hat]⟩

theorem exec_rodBoundary_due {dt : Nat} (hon : s.boundaries = true) (hreset : s.inReset = false)
    (hgrid : (s.elapse dt).onGrid (rodNs s.profile) 0 = true) (hrod : (s.elapse dt).rod ≠ 0)
    (hnew : s.nic.rodAt ≠ some (s.elapse dt).nt) :
    exec (.rodBoundary dt) s = .next (s.elapse dt).rodWork.takeoverDue.yieldDue := by
  have hat : (s.elapse dt).atRod = true := by
    have hgrid' : (s.elapse dt).onGrid (rodNs (s.elapse dt).profile) 0 = true := hgrid
    rw [State.atRod, show (s.elapse dt).boundaries = true from hon, show (s.elapse dt).inReset = false from hreset, hgrid']
    rfl
  have hnew' : (s.elapse dt).nic.rodAt ≠ some (s.elapse dt).nt := hnew
  exact if_pos (by rw [hat, decide_eq_true hrod, decide_eq_true hnew']; rfl)

end

/-! ### The rows judged for a boundary -/

section
variable {s : State}

theorem State.furlongClean_of (happ : s.appMode = true) (hstr : s.strength = 3) (hnt : s.keyNt.pair ≠ none)
    (hsi : s.keySi.pair ≠ none) : s.furlongClean = true := by
  rw [State.furlongClean, decide_eq_true hstr, happ, Option.isSome_iff_ne_none.mpr hnt, Option.isSome_iff_ne_none.mpr hsi]
  rfl

/-- The rule of R73 applies. -/
theorem State.ruleApplies_of (hmode : s.mode = .resync) (hwait : s.furlongStart s.resyncF + 2000000000 ≤ s.time)
    (hconf : s.blk.chd.conflict = false) (hbuild : s.blk.chd.buildmm = false)
    (hheard : s.partnerHeard = false ∨ s.blk.chd.pmode ≠ 4) : s.ruleApplies = true := by
  have hwaited : s.resyncWaited = true := decide_eq_true hwait
  have hactive : (s.partnerHeard && s.blk.chd.pmode == modeCode .active) = false := by
    rcases hheard with h | h
    · rw [h, Bool.false_and]
    · rw [show (s.blk.chd.pmode == modeCode .active) = false from beq_false_of_ne h, Bool.and_false]
  rw [State.ruleApplies, hactive, hwaited, hmode, State.partnerHolds, hconf, hbuild]
  rfl

end

section
variable (s : State) (r : RecType) (a1 a2 a3 : Nat) (v : Vtx)

/-- A record touches the buffer of a vertex and the counts of what it dropped alone. -/
theorem State.v_record_eq : (s.record r a1 a2 a3).v v =
    { s.v v with
      recs := ((s.record r a1 a2 a3).v v).recs, recDrop := ((s.record r a1 a2 a3).v v).recDrop,
      loc := ((s.record r a1 a2 a3).v v).loc } := by
  obtain ⟨l, n, q, h⟩ := State.v_recBody s r (shortBody a1 a2 a3) v
  rw [State.record, h]

theorem State.loc_record {s : State} {v : Vtx} (h : (s.v v).recs.length < 64) :
    ((s.record r a1 a2 a3).v v).loc = (s.v v).loc := by
  rw [State.record, State.recBody, State.v_modAll]
  split
  · rw [Vertex.addRec, if_pos h]
  · rfl

end

/-- Settles O23: the rod boundary is its work, then takeover and yield; each other row is one test. -/
theorem boundaryCommandsTakeEffect : Obligations.BoundaryCommandsTakeEffect := by
  intro dt s u
  obtain ⟨hcyc, hpair, hnt, hrodAt⟩ := u.rodWork_stands
  have hmode' : u.rodWork.mode = s.mode := congrArg Cyc.mode hcyc
  have hkeep : u.rodWork.takeoverDue.yieldDue.integration = u.rodWork.integration :=
    (State.yieldDue_integration _).trans u.rodWork.takeoverDue_integration
  refine ⟨fun hon hreset hgrid hrod hnew => ⟨_, exec_rodBoundary_due hon hreset hgrid hrod hnew, ?fnum, ?rodAt,
      fun hstate hpend => ?counted,
      fun a c hmode hdec hmay hage => ?takeover, fun a hmode hat hage => ?yield⟩,
    fun hmode h478 hstr hcom hsi hclean => ?clean, fun hmode hwait hconf hbuild hheard => ?resync,
    fun hstep hreset hwait => ⟨_, if_pos ⟨hstep, hreset, hwait⟩, ?waits, fun v => ⟨?others, fun hin hroom => ?record⟩⟩⟩
  case fnum =>
    rw [State.fnum, State.yieldDue_cyc, ← State.fnum, State.takeoverDue_fnum]
    exact congrArg Cyc.fnum hcyc
  case rodAt => exact (State.integration_fields hkeep).2.2.2.trans hrodAt
  case counted =>
    have hwork := State.rodWork_integrated (s := u) hstate hpend
    have hcounted : u.rodWork.integration = u.rodCounted.integration := by rw [hwork, State.laterFrames_integration]
    obtain ⟨hst, hcount, hcsRod, -⟩ := State.integration_fields ((hkeep.trans hcounted).trans u.rodCounted_integration)
    refine ⟨hcount, hcsRod, hst.trans hstate, fun hlater hdec hyield => ?_⟩
    have hstay : u.rodWork.takeoverDue = u.rodWork := State.takeoverDue_undecided (hpair ▸ hdec)
    have hall : u.rodWork.takeoverDue.yieldDue = u.rodCounted.laterFrames := by
      rw [hstay, State.yieldDue_none (s := u.rodWork) (hpair ▸ hyield), hwork]
    rw [hall, State.laterFrames_none (s := u.rodCounted) hlater]
    generalize u.rodCounted.laterFrames.nic.srcCount = k
    rfl
  case takeover =>
    have hripe := State.takeoverDue_ripe (s := u.rodWork) (hpair ▸ hdec) (hmode' ▸ hmode) (hnt ▸ hage) (hpair ▸ hmay)
    have hactive := State.cyc_becomeActive (s := u.rodWork) .takeover c
    rw [← hripe, ← State.yieldDue_cyc] at hactive
    refine ⟨congrArg Cyc.mode hactive, congrArg Cyc.cause hactive, ?_, ?_⟩
    · rw [State.yieldDue_decided, hripe]
      rfl
    · rw [State.yieldDue_chd, hripe]
      rfl
  case yield =>
    rw [State.takeoverDue_of_active (hmode'.trans hmode),
      State.yieldDue_ripe (hmode'.trans hmode) (hpair ▸ hat) (hnt ▸ hage)]
    exact ⟨rfl, hmode'.trans hmode⟩
  case clean =>
    have happ : s.appMode = true := by simp [State.appMode, hmode, h478]
    exact if_pos ⟨hmode, h478, State.furlongClean_of (s := u) happ hstr hcom hsi, hclean⟩
  case resync => exact if_pos (State.ruleApplies_of (s := u) hmode hwait hconf hbuild hheard)
  case waits => rfl
  case others => exact State.v_record_eq u .timeWait 0 0 0 v
  case record => exact ⟨State.recs_record (s := u) hin hroom .timeWait 0 0 0, State.loc_record .timeWait 0 0 0 (s := u) hroom⟩

end Sys2Proof.Machine

/-! PROOFS. What the records, the faults and the changes of mode of a step leave: the furlong that is open, the key receivers, the
last commit, the march engine of banks 5 and 6, and the bytes of the memories. -/

namespace Sys2Proof.Machine

/-- The furlong that is open, how far its phase 2 has come, and whether the module is in reset. -/
structure Opened where
  fnum : Nat
  boundaries : Bool
  p2 : Bool
  p2End : Bool
  inReset : Bool

/-- The furlong of a state. -/
def State.opened (s : State) : Opened := ⟨s.fnum, s.boundaries, s.p2, s.p2End, s.inReset⟩

/-- A memory without its list of correctable errors, which a read alone changes. -/
def VMem.bare (m : VMem) : VMem := { m with ecc1 := [] }

/-- The furlong, the key receivers, the last commit, the march engine of banks 5 and 6, the latched blocks and the excluded vertices,
and the memories but for their correctable errors. -/
structure Kept where
  opened : Opened
  keyNt : KeyRx
  keySi : KeyRx
  lastCommit : Option Nat
  noCommit : Nat
  engN : Engine
  view : Tri Blocks
  excl : Tri Bool
  mem : Vtx → VMem

/-- Those of a state. -/
def State.kept (s : State) : Kept :=
  ⟨s.opened, s.keyNt, s.keySi, s.nic.lastCommit, s.nic.noCommit, s.engN, s.view, s.blk.cen.excl,
    fun v => (s.v v).mem.bare⟩

theorem Vertex.scrub_bare (x : Vertex) (keys : List Nat) : (x.scrub keys).mem.bare = x.mem.bare := rfl

theorem kept_foldl {α : Type} {f : State → α → State} (h : ∀ s a, (f s a).kept = s.kept) (l : List α) (s : State) :
    (l.foldl f s).kept = s.kept := by
  induction l generalizing s with
  | nil => rfl
  | cons a l ih => exact (ih _).trans (h s a)

section
variable (s : State)

/-! ### Vertices and blocks -/

theorem State.modAll_kept {f : Vtx → Vertex → Vertex} (h : ∀ v x, (f v x).mem.bare = x.mem.bare) :
    (s.modAll f).kept = s.kept := by
  have hmem : (fun v => ((s.modAll f).v v).mem.bare) = fun v => (s.v v).mem.bare :=
    funext fun v => by rw [State.v_modAll, h]
  exact congrArg (Kept.mk s.opened s.keyNt s.keySi s.nic.lastCommit s.nic.noCommit s.engN s.view s.blk.cen.excl) hmem

theorem State.setV_kept {v : Vtx} {x : Vertex} (h : x.mem.bare = (s.v v).mem.bare) : (s.setV v x).kept = s.kept := by
  have hmem : (fun w => ((s.setV v x).v w).mem.bare) = fun w => (s.v w).mem.bare :=
    funext fun w => by
      by_cases hw : w = v
      · rw [hw, State.v_setV, h]
      · rw [State.v_setV_other _ _ hw]
  exact congrArg (Kept.mk s.opened s.keyNt s.keySi s.nic.lastCommit s.nic.noCommit s.engN s.view s.blk.cen.excl) hmem

theorem State.modV_kept {f : Vertex → Vertex} (h : ∀ x, (f x).mem.bare = x.mem.bare) (v : Vtx) : (s.modV v f).kept = s.kept :=
  s.setV_kept (h _)

theorem State.modCen_kept {f : Cen → Cen} (h : (f s.blk.cen).excl = s.blk.cen.excl) : (s.modCen f).kept = s.kept :=
  congrArg (fun x => Kept.mk s.opened s.keyNt s.keySi s.nic.lastCommit s.nic.noCommit s.engN s.view x
    fun v => (s.v v).mem.bare) h

@[simp] theorem State.modTtb_kept (f : Ttb → Ttb) : (s.modTtb f).kept = s.kept := rfl
@[simp] theorem State.modNtm_kept (f : Ntm → Ntm) : (s.modNtm f).kept = s.kept := rfl
@[simp] theorem State.modSio_kept (f : Sio → Sio) : (s.modSio f).kept = s.kept := rfl
@[simp] theorem State.modChd_kept (f : Chd → Chd) : (s.modChd f).kept = s.kept := rfl
@[simp] theorem State.modBst_kept (f : Bst → Bst) : (s.modBst f).kept = s.kept := rfl
@[simp] theorem State.modPtb_kept (f : Ptb → Ptb) : (s.modPtb f).kept = s.kept := rfl
@[simp] theorem State.modPair_kept (f : PairSt2 → PairSt2) : (s.modPair f).kept = s.kept := rfl
@[simp] theorem State.modUpd_kept (f : Update → Update) : (s.modUpd f).kept = s.kept := rfl

/-! ### Records -/

@[simp] theorem State.recBody_kept (t : RecType) (body : List Byte) : (s.recBody t body).kept = s.kept :=
  s.modAll_kept fun v x => by split <;> simp only [Vertex.addRec_mem]

@[simp] theorem State.record_kept (t : RecType) (a1 a2 a3 : Nat) : (s.record t a1 a2 a3).kept = s.kept := s.recBody_kept _ _

@[simp] theorem State.recOwn_kept (v : Vtx) (t : RecType) (body : List Byte) : (s.recOwn v t body).kept = s.kept :=
  s.modV_kept (fun x => by rw [Vertex.addRec_mem]) v

/-! ### A change of mode -/

@[simp] theorem State.stopV_kept (v : Vtx) : (s.modV v Vertex.stop).kept = s.kept := s.modV_kept (fun _ => by rfl) v

@[simp] theorem State.rejoinFail_kept (reason : Nat) : (s.rejoinFail reason).kept = s.kept := by
  unfold State.rejoinFail
  split
  · rfl
  · split
    · rfl
    · rw [State.modCen_kept _ rfl, State.stopV_kept, State.record_kept]

@[simp] theorem State.outputsMode_kept : s.outputsMode.kept = s.kept := by
  unfold State.outputsMode
  split <;> rfl

@[simp] theorem State.sendChord_kept (f : ChordFrame) : (s.sendChord f).kept = s.kept := by
  unfold State.sendChord
  split <;> split <;> rfl

@[simp] theorem State.cutSet_kept : s.cutSet.kept = s.kept := by
  unfold State.cutSet
  split
  · split <;> rfl
  · rfl

@[simp] theorem State.abdicate_kept : s.abdicate.kept = s.kept := by
  rw [State.abdicate, State.modPair_kept, State.sendChord_kept, State.cutSet_kept]

theorem State.kept_resync (x : PairSt2) (f : Nat) : ({ s with pair := x, resyncF := f } : State).kept = s.kept := rfl

@[simp] theorem State.pairMode_kept (was : Mode) : (s.pairMode was).kept = s.kept := by
  simp only [State.pairMode, apply_ite State.kept, State.kept_resync, State.modPair_kept, State.modChd_kept, State.abdicate_kept,
    ite_self]

theorem State.modCyc_kept {f : Cyc → Cyc} (h : (f s.blk.cyc).fnum = s.blk.cyc.fnum) : (s.modCyc f).kept = s.kept :=
  congrArg (fun n => Kept.mk ⟨n, s.boundaries, s.p2, s.p2End, s.inReset⟩ s.keyNt s.keySi s.nic.lastCommit s.nic.noCommit s.engN
    s.view s.blk.cen.excl fun v => (s.v v).mem.bare) h

@[simp] theorem State.setMode_kept (m : Mode) (c : MCause) : (s.setMode m c).kept = s.kept := by
  rw [State.setMode, State.pairMode_kept, State.outputsMode_kept, State.modCyc_kept _ rfl, State.record_kept]

@[simp] theorem State.ptbClear_kept : s.ptbClear.kept = s.kept := by
  unfold State.ptbClear
  split
  · exact s.record_kept _ _ _ _
  · rfl

@[simp] theorem State.probationHalt_kept : s.probationHalt.kept = s.kept := by
  unfold State.probationHalt
  split <;> rfl

@[simp] theorem State.haltEffects_kept : s.haltEffects.kept = s.kept := by
  rw [State.haltEffects, State.probationHalt_kept, State.ptbClear_kept]
  rfl

@[simp] theorem State.halt_kept (c : MCause) : (s.halt c).kept = s.kept := by
  unfold State.halt
  split
  · rfl
  · rw [State.haltEffects_kept, State.modAll_kept _ fun _ _ => by rfl, State.setMode_kept, State.rejoinFail_kept]

/-! ### Faults of a vertex -/

@[simp] theorem State.sendEntry_kept (v : Vtx) (e : Entry) : (s.sendEntry v e).kept = s.kept := rfl

@[simp] theorem State.selfFault_kept (v : Vtx) (c : XCause) : (s.selfFault v c).kept = s.kept := by
  unfold State.selfFault
  split
  · rw [State.rejoinFail_kept, State.stopV_kept]
  · split
    · rw [State.sendEntry_kept, State.stopV_kept]
    · rfl

theorem State.kept_traps (l : List TrapSeen) : ({ s with traps := l } : State).kept = s.kept := rfl

@[simp] theorem State.trapOutcome_kept (v : Vtx) (c : TrapCause) (task : Nat) (pc : Word) :
    (s.trapOutcome v c task pc).kept = s.kept := by
  simp only [State.trapOutcome, apply_ite State.kept, State.halt_kept, State.record_kept, State.kept_traps, State.selfFault_kept,
    ite_self]

@[simp] theorem State.raiseTrap_kept (v : Vtx) (c : TrapCause) (user addr : Nat) (pc : Word) (count : Nat) :
    (s.raiseTrap v c user addr pc count).kept = s.kept := by
  unfold State.raiseTrap
  dsimp only
  split
  · exact s.modV_kept (fun _ => by rfl) v
  · have hover : ∀ t : State, (t.modV v (fun x =>
        { x with loc := { x.loc with tuseOvr := modNth x.loc.tuseOvr (s.v v).core.task (satInc 7) } })).kept = t.kept :=
      fun t => t.modV_kept (fun _ => by rfl) v
    simp only [apply_ite State.kept, State.selfFault_kept, State.trapOutcome_kept, hover, State.record_kept, State.recOwn_kept,
      ite_self]

@[simp] theorem State.eccTrap_kept (v : Vtx) (a : Nat) : (s.eccTrap v a).kept = s.kept := by
  unfold State.eccTrap
  split
  · exact s.raiseTrap_kept v _ _ _ _ _
  · rfl

end

end Sys2Proof.Machine

/-! PROOFS. The key receivers, the commit and what follows it (R32 to R36, R330), and O29. -/

namespace Sys2Proof.Machine

/-! ### What the frames of a commit leave -/

section
variable (s : State)

@[simp] theorem State.scrubTx_kept (v : Vtx) (l : List Nat) : (s.scrubTx v l).kept = s.kept :=
  s.setV_kept (Vertex.scrub_bare _ _)

@[simp] theorem State.portEcc_kept (v : Vtx) (bad : Bool) : (s.portEcc v bad).kept = s.kept := by
  unfold State.portEcc
  split
  · exact s.selfFault_kept _ _
  · rfl

@[simp] theorem State.readTx_kept (vs : List Vtx) (l : List Nat) : (s.readTx vs l).kept = s.kept :=
  (kept_foldl (fun t v => t.portEcc_kept v _) vs _).trans (kept_foldl (fun t v => t.scrubTx_kept v l) vs s)

@[simp] theorem State.outMismatch_kept (rod slot : Nat) : (s.outMismatch rod slot).kept = s.kept :=
  s.record_kept _ _ _ _

@[simp] theorem State.enterQueue_kept (e : TxEvent) : (s.enterQueue e).kept = s.kept := by
  unfold State.enterQueue
  split <;> rfl

@[simp] theorem State.queueEvent_kept (e : TxEvent) : (s.queueEvent e).kept = s.kept := by
  unfold State.queueEvent
  dsimp only
  split
  · exact s.enterQueue_kept e
  · rfl

@[simp] theorem State.queueFrames_kept (c : Channel) (l : List (List Word × List Word × List Word)) (launch : Option Nat) :
    (s.queueFrames c l launch).kept = s.kept :=
  kept_foldl (fun t q => by
    split
    · rfl
    · exact t.queueEvent_kept _) l s

@[simp] theorem State.suppressFrames_kept (n : Nat) : (s.suppressFrames n).kept = s.kept := by
  unfold State.suppressFrames
  split <;> rfl

@[simp] theorem State.commitChannel_kept (u w : Vtx) (c : Channel) (b : Binding) (told : Bool) :
    (s.commitChannel u w c b told).kept = s.kept := by
  unfold State.commitChannel
  dsimp only
  split
  · rw [State.outMismatch_kept, State.readTx_kept]
  · split <;> simp only [apply_ite State.kept, State.queueFrames_kept, State.suppressFrames_kept, State.modNtm_kept,
      State.record_kept, State.modTtb_kept, State.readTx_kept, ite_self]

@[simp] theorem State.commitChannels_kept (u w : Vtx) (told : List Nat) (l : List (Channel × Binding)) :
    (s.commitChannels u w told l).kept = s.kept := by
  induction l generalizing s told with
  | nil => rfl
  | cons p l ih => exact (ih _ _).trans (s.commitChannel_kept _ _ _ _ _)

@[simp] theorem State.commitEvents_kept (u w : Vtx) (tasks : Nat) : (s.commitEvents u w tasks).kept = s.kept := by
  unfold State.commitEvents
  dsimp only
  rw [State.modAll_kept _ fun _ _ => by rfl]
  split
  · exact s.commitChannels_kept _ _ _ _
  · rfl

/-! ### What a mirror set leaves -/

@[simp] theorem State.readMirror_kept (l : List Vtx) : (s.readMirror l).kept = s.kept :=
  kept_foldl (fun t _ => t.setV_kept (Vertex.scrub_bare _ _)) l s

@[simp] theorem State.abandonBad_kept (l : List Vtx) : (s.abandonBad l).kept = s.kept := by
  rw [State.abandonBad, State.modChd_kept]
  refine kept_foldl (fun t v => ?_) l s
  split
  · exact t.eccTrap_kept _ _
  · rfl

@[simp] theorem State.sendChunks_kept (img img1 img2 : List Byte) (n : Nat) : (s.sendChunks img img1 img2 n).kept = s.kept :=
  kept_foldl (fun t _ => t.sendChord_kept _) _ s

theorem kept_ite_of {s : State} {b : Bool} {t r : State} (ht : t.kept = s.kept) (hr : r.kept = s.kept) :
    (if b = true then t else r).kept = s.kept := by
  cases b <;> assumption

@[simp] theorem State.sendImages_kept (u w : Vtx) : (s.sendImages u w).kept = s.kept := by
  rw [State.sendImages]
  cases firstDiff (s.mirrorImage u) (s.mirrorImage w) s.blk.chd.nchunk with
  | some i =>
    exact (State.modChd_kept _ _).trans ((State.record_kept _ _ _ _ _).trans (s.sendChunks_kept _ _ _ _))
  | none =>
    refine (State.modPair_kept _ _).trans (kept_ite_of ((State.sendChord_kept _ _).trans ?_) ?_)
    · exact s.sendChunks_kept _ _ _ _
    · exact s.sendChunks_kept _ _ _ _

@[simp] theorem State.sendSet_kept (u w : Vtx) : (s.sendSet u w).kept = s.kept := by
  unfold State.sendSet
  dsimp only
  split
  · rw [State.abandonBad_kept, State.readMirror_kept]
    rfl
  · rw [State.sendImages_kept, State.readMirror_kept]
    rfl

end

/-! ### The commit at the network chip -/

/-- What the commit at the network chip keeps and what it sets (R34). -/
theorem State.commitNt_kept (s : State) (u w : Vtx) (word : BitVec 48) :
    (s.commitNt u w word).kept =
      ⟨s.opened, s.keyNt, s.keySi, some s.fnum, 0, s.engN, s.view, s.blk.cen.excl,
        fun v => { (s.v v).mem with work1 := !(s.v v).mem.work1, ecc1 := [] }⟩ := by
  have hbanks : ((s.modAll (fun _ x => { x with mem := x.mem.switch })).modNic (fun c =>
      { c with
        pair := some (u, w), lastCommit := some s.fnum, noCommit := 0, tasksMask := (word.extractLsb' 16 8).toNat,
        copied := false })).kept =
      ⟨s.opened, s.keyNt, s.keySi, some s.fnum, 0, s.engN, s.view, s.blk.cen.excl,
        fun v => { (s.v v).mem with work1 := !(s.v v).mem.work1, ecc1 := [] }⟩ := by
    refine congrArg (Kept.mk s.opened s.keyNt s.keySi (some s.fnum) 0 s.engN s.view s.blk.cen.excl) (funext fun v => ?_)
    exact congrArg (fun x : Vertex => x.mem.bare) (State.v_modAll s (fun _ x => { x with mem := x.mem.switch }) v)
  rw [← hbanks, State.commitNt]
  split
  · rw [State.sendSet_kept, State.commitEvents_kept]
  · rw [State.commitEvents_kept]

/-! ### Key words (R32) -/

section
variable {s : State} {rx : Receiver}

theorem State.keyRx_modKey (s : State) (rx : Receiver) (f : KeyRx → KeyRx) : (s.modKey rx f).keyRx rx = f (s.keyRx rx) := by
  cases rx <;> rfl

theorem State.modKey_congr {f g : KeyRx → KeyRx} (h : f (s.keyRx rx) = g (s.keyRx rx)) : s.modKey rx f = s.modKey rx g := by
  cases rx
  · exact congrArg (fun k => ({ s with keyNt := k } : State)) h
  · exact congrArg (fun k => ({ s with keySi := k } : State)) h

theorem State.modKey_nt (s : State) (rx : Receiver) (f : KeyRx → KeyRx) : (s.modKey rx f).nt = s.nt := by
  cases rx <;> rfl

/-- A receiver in which no held word ends in this clock forms no commit. -/
theorem State.formCommit_none (h : ∀ x ∈ (s.keyRx rx).held, x.endAt ≠ s.nt) : s.formCommit rx = s := by
  have hnone : (s.keyRx rx).held.filter (fun x => x.endAt == s.nt) = [] :=
    List.filter_eq_nil_iff.mpr fun x hx => by simp [h x hx]
  simp only [State.formCommit, hnone, List.filterMap_nil]
  split
  · next h => cases h
  · rfl

theorem lowestTwo_one (a : Vtx) (b : Bool) : lowestTwo (Vtx.list.filter (fun v => a == v && b)) = none := by
  cases a <;> cases b <;> rfl

/-- Of two vertices both are taken, in letter order. -/
theorem lowestTwo_both {a b : Vtx} (h : a ≠ b) :
    lowestTwo (Vtx.list.filter (fun v => a == v || b == v)) = some (if a.num < b.num then (a, b) else (b, a)) := by
  match a, b, h with
  | .A, .B, _ | .A, .C, _ | .B, .A, _ | .B, .C, _ | .C, .A, _ | .C, .B, _ => rfl
  | .A, .A, h | .B, .B, h | .C, .C, h => exact absurd rfl h

/-- The word alone agrees with itself and with no other: no commit. -/
theorem State.formCommit_single {x : HeldKey} (h : (s.keyRx rx).held = [x]) : s.formCommit rx = s := by
  have hpairs : ∀ w, lowestTwo ((s.keyRx rx).agreeing w s.nt) = none := fun w => by
    simp only [KeyRx.agreeing, h, List.any_cons, List.any_nil, Bool.or_false, Bool.and_assoc]
    exact lowestTwo_one _ _
  simp only [State.formCommit, hpairs, Option.map_none]
  split
  · next h => simp at h
  · rfl

/-- The second agreeing word within 100 µs forms the commit (R32). -/
theorem State.formCommit_pair {x y : HeldKey} (hheld : (s.keyRx rx).held = [x, y]) (hx : x.endAt ≠ s.nt) (hy : y.endAt = s.nt)
    (hne : x.src ≠ y.src) (hpair : (s.keyRx rx).pair = none) (hbits : keyBits x.word = keyBits y.word)
    (hage : s.nt - x.endAt ≤ 12500) :
    s.formCommit rx = s.commit rx (if x.src.num < y.src.num then (x.src, y.src) else (y.src, x.src)).1
      (if x.src.num < y.src.num then (x.src, y.src) else (y.src, x.src)).2 y.word := by
  have hagree : lowestTwo ((s.keyRx rx).agreeing y.word s.nt) =
      some (if x.src.num < y.src.num then (x.src, y.src) else (y.src, x.src)) := by
    simp only [KeyRx.agreeing, hheld, List.any_cons, List.any_nil, Bool.or_false, hbits, beq_self_eq_true, Bool.and_true,
      hage, decide_true, hy, Nat.sub_self, Nat.zero_le]
    exact lowestTwo_both hne
  have hends : [x, y].filter (fun z => z.endAt == s.nt) = [y] := by simp [hx, hy]
  simp only [State.formCommit, hpair, hheld, hends, List.filterMap_cons, hagree, Option.map_some]

theorem exec_keyWord_one {dt : Nat} {ok : Bool} {w : BitVec 48} (h : s.boundaries = true) :
    exec (.keyWord dt rx ok ⟨w, []⟩) s = .next (((s.elapse dt).takeKey rx ok w).formCommit rx) := by
  refine if_neg ?_
  rw [show (s.elapse dt).boundaries = true from h]
  exact Bool.false_ne_true

theorem State.takeKey_ignored {ok : Bool} {w : BitVec 48} (h : (s.keyRx rx).ignores ok w = true) :
    s.takeKey rx ok w = s.modKey rx (fun k => { k with ignored := k.ignored + 1 }) := if_pos h

theorem State.takeKey_late {ok : Bool} {w : BitVec 48} (h : (s.keyRx rx).ignores ok w = false) (hphase : s.phase ≠ 2) :
    s.takeKey rx ok w = s.modKey rx (fun k => { k with outOfWindow := k.outOfWindow + 1 }) :=
  (if_neg (ne_true_of_eq_false h)).trans (if_pos hphase)

section
variable {ok : Bool} {w : BitVec 48} {v : Vtx} (h : (s.keyRx rx).ignores ok w = false) (hphase : s.phase = 2)
  (hsrc : keySrc w = some v)
include h hphase hsrc

/-- What a word in time does: a second one of its source is counted, one of another furlong dropped, any other held. -/
theorem State.takeKey_inTime :
    s.takeKey rx ok w =
      if (s.keyRx rx).held.any (fun x => x.src == v) then s.modKey rx (fun k => { k with second := k.second + 1 })
      else if (w.extractLsb' 24 8).toNat ≠ s.fnum % 256 then s
      else s.modKey rx (fun k => { k with held := k.held ++ [⟨v, w, s.nt⟩] }) := by
  have hnot : ¬ s.phase ≠ 2 := fun hne => hne hphase
  refine (if_neg (ne_true_of_eq_false h)).trans ((if_neg hnot).trans ?_)
  rw [hsrc]

theorem State.takeKey_second {x : HeldKey} (hx : x ∈ (s.keyRx rx).held) (hxv : x.src = v) :
    s.takeKey rx ok w = s.modKey rx (fun k => { k with second := k.second + 1 }) :=
  have hany : (s.keyRx rx).held.any (fun x => x.src == v) = true := List.any_eq_true.mpr ⟨x, hx, beq_iff_eq.mpr hxv⟩
  (State.takeKey_inTime h hphase hsrc).trans (if_pos hany)

variable (hnew : ∀ x ∈ (s.keyRx rx).held, x.src ≠ v)
include hnew

theorem State.takeKey_otherFurlong (hfurl : (w.extractLsb' 24 8).toNat ≠ s.fnum % 256) : s.takeKey rx ok w = s := by
  rw [State.takeKey_inTime h hphase hsrc, if_neg (by simpa using hnew), if_pos hfurl]

theorem State.takeKey_held (hfurl : (w.extractLsb' 24 8).toNat = s.fnum % 256) :
    s.takeKey rx ok w = s.modKey rx (fun k => { k with held := k.held ++ [⟨v, w, s.nt⟩] }) := by
  rw [State.takeKey_inTime h hphase hsrc, if_neg (by simpa using hnew), if_neg fun hne => hne hfurl]

end

end

/-! ### The commit at the safe I/O chip -/

section
variable {s t : State}

theorem SioOnly.qaClears (rst a b : Nat) (h : SioOnly s t) : SioOnly s (t.qaClears rst a b) := by
  unfold State.qaClears
  generalize List.filter _ _ = l
  induction l generalizing t with
  | nil => exact h
  | cons q l ih => exact ih (SioOnly.recBody h _ _)

/-- A recorded fault of the outputs that sets the FAULT bit of its group. -/
theorem SioOnly.stuck (g val : Nat) (h : SioOnly s t) :
    SioOnly s ((t.ioFault g 0x0F 0xFF val).modSio (fun x => x.stickGroup g)) := SioOnly.modSio (SioOnly.recBody h _ _) _

theorem SioOnly.shadowDiff (a b : Nat) (h : SioOnly s t) : SioOnly s (t.shadowDiff a b) := by
  unfold State.shadowDiff
  dsimp only
  split <;> split
  · exact SioOnly.stuck 3 _ (SioOnly.stuck 2 _ h)
  · exact SioOnly.stuck 3 _ h
  · exact SioOnly.stuck 2 _ h
  · exact h

theorem State.commitOutputs_sioOnly (s : State) (u w : Vtx) : SioOnly s (s.commitOutputs u w) := by
  have hdiff : ∀ a b, SioOnly s (s.shadowDiff a b) := fun a b => SioOnly.shadowDiff a b (SioOnly.refl s)
  unfold State.commitOutputs
  refine SioOnly.modSio (SioOnly.qaClears _ _ _ ?_) _
  split
  · exact SioOnly.recBody (SioOnly.recBody (hdiff _ _) _ _) _ _
  · exact hdiff _ _

/-- What the watchdog is judged by: a commit has come, furlongs without one, the latch. -/
def Sio.commitState (x : Sio) : Bool × Nat × Bool := (x.commits, x.nocommit, x.wdt)

theorem Sio.meetCommit_commitState (x : Sio) (f : Nat) : (x.meetCommit f).commitState = x.commitState := by
  unfold Sio.meetCommit Sio.abandonTest
  split
  · split
    · split <;> rfl
    · rfl
  · rfl

/-- A commit at the chip ends the count of furlongs without one, and the latch of the watchdog. -/
theorem State.commitOutputs_commitState (s : State) (u w : Vtx) :
    (s.commitOutputs u w).blk.sio.commitState = (true, 0, false) :=
  Sio.meetCommit_commitState _ _

end

/-- A commit sets the pair, the word and the exclusions of its receiver. -/
def KeyRx.committed (k : KeyRx) (u w : Vtx) (word : BitVec 48) : KeyRx :=
  { k with pair := some (u, w), word := word, mask := keyMask word }

theorem State.commit_si (s : State) (u w : Vtx) (word : BitVec 48) :
    SioOnly { s with keySi := s.keySi.committed u w word } (s.commit .si u w word) :=
  State.commitOutputs_sioOnly { s with keySi := s.keySi.committed u w word } u w

theorem State.commit_nt_kept (s : State) (u w : Vtx) (word : BitVec 48) :
    (s.commit .nt u w word).kept = ⟨s.opened, s.keyNt.committed u w word, s.keySi, some s.fnum, 0, s.engN, s.view, s.blk.cen.excl,
      fun v => { (s.v v).mem with work1 := !(s.v v).mem.work1, ecc1 := [] }⟩ :=
  State.commitNt_kept { s with keyNt := s.keyNt.committed u w word } u w word

theorem VMem.eq_of_bare {m n : VMem} (h : m.bare = { n with ecc1 := [] }) : m = { n with ecc1 := m.ecc1 } := by
  cases m
  cases n
  simpa [VMem.bare] using h

/-- What a commit of a receiver brings (R32, R34, R330). -/
theorem State.commit_brings (s : State) (rx : Receiver) (p : Vtx × Vtx) (word : BitVec 48) :
    let t := s.commit rx p.1 p.2 word
    (t.keyRx rx).pair = some p ∧ (t.keyRx rx).mask = keyMask word ∧ t.fnum = s.fnum ∧
      (rx = .nt → t.nic.lastCommit = some s.fnum ∧ t.nic.noCommit = 0 ∧
        ∀ x, (t.v x).mem = { (s.v x).mem with work1 := !(s.v x).mem.work1, ecc1 := (t.v x).mem.ecc1 }) ∧
      (rx = .si → t.mode = s.mode ∧ t.blk.sio.commits = true ∧ t.blk.sio.nocommit = 0 ∧ t.blk.sio.wdt = false) := by
  intro t
  cases rx with
  | nt =>
    obtain ⟨hopened, hkey, -, hlast, hno, -, -, -, hmem⟩ := Kept.mk.inj (s.commit_nt_kept p.1 p.2 word)
    have hkey' : t.keyRx .nt = s.keyNt.committed p.1 p.2 word := hkey
    rw [hkey']
    exact ⟨rfl, rfl, congrArg Opened.fnum hopened, fun _ => ⟨hlast, hno, fun x =>
      VMem.eq_of_bare (n := (s.v x).mem.switch) (congrFun hmem x)⟩,
      fun h => (nomatch h)⟩
  | si =>
    obtain ⟨hsi, -⟩ := s.commit_si p.1 p.2 word
    have hkey : t.keyRx .si = s.keySi.committed p.1 p.2 word := congrArg State.keySi hsi
    have hcommit : t.blk.sio.commitState = (true, 0, false) := State.commitOutputs_commitState _ _ _
    obtain ⟨hcom, hno, hwdt⟩ : t.blk.sio.commits = true ∧ t.blk.sio.nocommit = 0 ∧ t.blk.sio.wdt = false := by
      simpa only [Sio.commitState, Prod.mk.injEq] using hcommit
    have hfnum := congrArg State.fnum hsi
    have hmode := congrArg State.mode hsi
    rw [hkey]
    exact ⟨rfl, rfl, hfnum, fun h => (nomatch h), fun _ => ⟨hmode, hcom, hno, hwdt⟩⟩

/-- The rules of R32 for one word that ends alone in its clock. -/
theorem keyWordsCommit : KeyWordsCommit := by
  intro dt rx ok w s hon u k c hearlier
  have hrun : exec c s = .next ((u.takeKey rx ok w).formCommit rx) := exec_keyWord_one hon
  have hk : u.keyRx rx = k := by cases rx <;> rfl
  have hrest : ∀ f : KeyRx → KeyRx, (f k).held = k.held → (u.modKey rx f).formCommit rx = u.modKey rx f := fun f hf => by
    refine State.formCommit_none ?_
    rw [State.keyRx_modKey, State.modKey_nt, hk, hf]
    exact fun x hx => Nat.ne_of_lt (hearlier x hx)
  refine ⟨fun hign => ?ignored, fun hok hphase => ?late, fun v hok hphase hsrc => ⟨fun ⟨x, hx, hxv⟩ => ?second,
    fun hnew hfurl => ?furlong, fun hfurl hnone => ?first, fun x hfurl hone hxv hpair hbits hage => ?commit⟩⟩
  case ignored => rw [hrun, State.takeKey_ignored (hk ▸ hign), hrest _ rfl]
  case late => rw [hrun, State.takeKey_late (hk ▸ hok) hphase, hrest _ rfl]
  case second => rw [hrun, State.takeKey_second (hk ▸ hok) hphase hsrc (hk ▸ hx) hxv, hrest _ rfl]
  case furlong =>
    rw [hrun, State.takeKey_otherFurlong (hk ▸ hok) hphase hsrc (hk ▸ hnew) hfurl,
      State.formCommit_none fun x hx => Nat.ne_of_lt (hearlier x (hk ▸ hx))]
  case first =>
    have hfirst : u.modKey rx (fun k => { k with held := k.held ++ [⟨v, w, u.nt⟩] }) =
        u.modKey rx (fun k => { k with held := [⟨v, w, u.nt⟩] }) := State.modKey_congr (by rw [hk, hnone, List.nil_append])
    rw [hrun, State.takeKey_held (hk ▸ hok) hphase hsrc (by rw [hk, hnone]; exact List.forall_mem_nil _) hfurl, hfirst]
    refine congrArg Host.Outcome.next (State.formCommit_single (x := ⟨v, w, u.nt⟩) ?_)
    rw [State.keyRx_modKey]
  case commit =>
    have hnew : ∀ y ∈ (u.keyRx rx).held, y.src ≠ v := by
      rw [hk, hone]
      exact List.forall_mem_singleton.mpr hxv
    have htake := State.takeKey_held (ok := ok) (hk ▸ hok) hphase hsrc hnew hfurl
    have hkey := State.keyRx_modKey u rx (fun k => { k with held := k.held ++ [⟨v, w, u.nt⟩] })
    rw [← htake] at hkey
    have hnt : (u.takeKey rx ok w).nt = u.nt := htake ▸ State.modKey_nt u rx _
    have hform := State.formCommit_pair (s := u.takeKey rx ok w) (rx := rx) (x := x) (y := ⟨v, w, u.nt⟩) (by rw [hkey, hk, hone]; rfl)
      (by rw [hnt]; exact Nat.ne_of_lt (hearlier x (hone ▸ List.mem_singleton_self x))) hnt.symm hxv (by rw [hkey, hk]; exact hpair)
      hbits (by rw [hnt]; exact hage)
    rw [hform] at hrun
    obtain ⟨hfnum, hmode, hv⟩ : (u.takeKey rx ok w).fnum = s.fnum ∧ (u.takeKey rx ok w).mode = s.mode ∧
        (u.takeKey rx ok w).v = s.v := by
      rw [htake]
      cases rx <;> exact ⟨rfl, rfl, rfl⟩
    have hbrings := State.commit_brings (u.takeKey rx ok w) rx (if x.src.num < v.num then (x.src, v) else (v, x.src)) w
    rw [hfnum, hmode, hv] at hbrings
    exact ⟨_, hrun, hbrings⟩

/-! ### The copy-back (R34) -/

/-- Every word of the transmit bank can be read: the working bank takes its bytes, and the transmit bank and the instance memory
stand. -/
theorem VMem.copyBack_readable {m : VMem} {addrs : List Nat} (h : ∀ a ∈ addrs, m.txBad a = false) :
    (m.copyBack addrs).cells .imgOut = m.transmit ∧ (m.copyBack addrs).transmit = m.transmit ∧
      (m.copyBack addrs).inst = m.inst := by
  have hnone : addrs.filter m.txBad = [] := List.filter_eq_nil_iff.mpr fun a ha => ne_true_of_eq_false (h a ha)
  simp only [VMem.copyBack, hnone, List.foldl_nil]
  cases hw : m.work1 <;> simp [VMem.cells, VMem.setCells, VMem.transmit, hw]

/-- What reading the transmit banks leaves of a vertex: its core, and the bytes of its memories. -/
theorem State.scrubbed_v (s : State) (l : List Nat) (v : Vtx) :
    ((Vtx.list.foldl (fun u w => u.scrubTx w l) s).v v).core = (s.v v).core ∧
      ((Vtx.list.foldl (fun u w => u.scrubTx w l) s).v v).mem.bare = (s.v v).mem.bare := by
  cases v <;> exact ⟨rfl, rfl⟩

theorem State.portEcc_readable (s : State) (v : Vtx) : s.portEcc v false = s := by
  rw [State.portEcc, Bool.false_and, Bool.false_and]
  exact if_neg Bool.false_ne_true

/-- BANK_COPY_BACK of words that can all be read. -/
theorem exec_bankCopyBack_readable {dt : Nat} {s : State} (hlast : s.nic.lastCommit ≠ none) (hnew : s.nic.copied = false)
    (hgood : ∀ v, ∀ a ∈ s.imgAddrs (List.range 8), (s.v v).mem.txBad a = false) :
    exec (.bankCopyBack dt) s =
      .next (((Vtx.list.foldl (fun u v => u.scrubTx v (s.imgAddrs (List.range 8))) (s.elapse dt)).modAll
        (fun _ x => { x with mem := x.mem.copyBack (s.imgAddrs (List.range 8)) })).modNic (fun c => { c with copied := true })) := by
  have hdue : ((s.elapse dt).nic.lastCommit.isSome && !(s.elapse dt).nic.copied) = true := by
    rw [Option.isSome_iff_ne_none.mpr (show (s.elapse dt).nic.lastCommit ≠ none from hlast),
      show (s.elapse dt).nic.copied = false from hnew]
    rfl
  have hany : ∀ v, (s.imgAddrs (List.range 8)).any (s.v v).mem.txBad = false := fun v =>
    List.any_eq_false.mpr fun a ha => ne_true_of_eq_false (hgood v a ha)
  have hports : ∀ (l : List Vtx) (t : State),
      l.foldl (fun u v => u.portEcc v ((s.imgAddrs (List.range 8)).any (s.v v).mem.txBad)) t = t := fun l t => by
    induction l generalizing t with
    | nil => rfl
    | cons v l ih =>
      rw [List.foldl_cons, hany, State.portEcc_readable]
      exact ih t
  exact (if_pos hdue).trans (congrArg Host.Outcome.next (hports _ _))

/-! ### The end of phase 2 (R33) -/

section
variable (s : State)

/-- The counts of furlongs without a commit, the key receivers and the mode. -/
def State.commitCounts (s : State) : Mode × Nat × Nat × KeyRx × KeyRx :=
  (s.mode, s.nic.noCommit, s.blk.sio.nocommit, s.keyNt, s.keySi)

theorem State.minorities_counts (r : Receiver) (n : Nat) : (s.minorities r n).commitCounts = s.commitCounts := by
  have hfold : ∀ (l : List Vtx) (t : State),
      (l.foldl (fun t v => t.record .keyMinority (v.num + 1) n 0) t).commitCounts = t.commitCounts := fun l t => by
    induction l generalizing t with
    | nil => rfl
    | cons v l ih => exact (ih _).trans rfl
  unfold State.minorities
  dsimp only
  split
  · exact hfold _ s
  · rfl

theorem State.missedCommit_counts : s.missedCommit.commitCounts =
    (s.mode, s.nic.noCommit + (if s.keyNt.pair = none then 1 else 0),
      (if s.keySi.pair = none then min 255 (s.blk.sio.nocommit + 1) else s.blk.sio.nocommit), s.keyNt, s.keySi) := by
  cases hnt : s.keyNt.pair <;> cases hsi : s.keySi.pair <;>
    simp [State.missedCommit, State.commitCounts, State.mode, State.modNic, State.modTtb, State.modSio, hnt, hsi]

/-- PHASE2_END's counts, from a state that has the counts of another. -/
theorem State.missedCommit_of {s u : State} (h : s.commitCounts = u.commitCounts) :
    s.missedCommit.mode = u.mode ∧
      s.missedCommit.nic.noCommit = u.nic.noCommit + (if u.keyNt.pair = none then 1 else 0) ∧
      s.missedCommit.blk.sio.nocommit =
        (if u.keySi.pair = none then min 255 (u.blk.sio.nocommit + 1) else u.blk.sio.nocommit) := by
  have hcounts := s.missedCommit_counts
  simp only [State.commitCounts, Prod.mk.injEq] at h hcounts
  obtain ⟨hmode, hno, hsio, hnt, hsi⟩ := h
  obtain ⟨hmode', hno', hsio', -, -⟩ := hcounts
  rw [hmode', hno', hsio', hmode, hno, hsio, hnt, hsi]
  exact ⟨rfl, rfl, rfl⟩

end

/-! ### The watchdog (R330) -/

/-- Slices abandoned one after another: those of other numbers run on. -/
theorem Bst.abandonAll_running (l : List SliceRun) (f : Nat) (b : Bst) :
    (l.foldl (fun b r => b.abandonSlice r.n f) b).running = b.running.filter (fun r => l.all (fun x => r.n != x.n)) := by
  induction l generalizing b with
  | nil => exact (List.filter_true b.running).symm
  | cons x l ih =>
    rw [List.foldl_cons, ih, Bst.abandonSlice, List.filter_filter]
    exact List.filter_congr fun r _ => by rw [List.all_cons, Bool.and_comm]

theorem Bst.endAll_running (b : Bst) (f : Nat) : (b.endAll f).running = [] := by
  rw [Bst.endAll, Bst.abandonAll_running]
  refine List.filter_eq_nil_iff.mpr fun r hr => ?_
  simp only [List.all_eq_true, bne_iff_ne]
  exact fun h => h r hr rfl

/-- A forced switch-off ends the test that runs and the reset tests. -/
theorem Sio.forceOff_eq (x : Sio) (f : Nat) :
    x.forceOff f = { x with
      tests := none, abandoned := (x.abandonTest f).abandoned, repeats := (x.abandonTest f).repeats,
      qs := x.qs.map (fun q => { q with resetAt := none }) } := by
  unfold Sio.forceOff Sio.abandonTest
  cases x with
  | mk => dsimp only; split <;> rfl

/-- The chip after the trip of its watchdog in furlong `f`. -/
def Sio.tripped (x : Sio) (f : Nat) : Sio := ({ x.forceOff f with wdt := true, wdtrip := satInc 16 x.wdtrip } : Sio).drive

theorem State.watchdogTrip_sio (s : State) : s.watchdogTrip.blk.sio = s.blk.sio.tripped s.fnum := rfl

section
variable (x : Sio) (f : Nat)

theorem Sio.tripped_counts : (x.tripped f).wdt = true ∧ (x.tripped f).wdtrip = satInc 16 x.wdtrip ∧ (x.tripped f).tests = none := by
  rw [Sio.tripped, Sio.forceOff_eq]
  exact ⟨rfl, rfl, rfl⟩

theorem Sio.tripped_qs : ∀ q ∈ (x.tripped f).qs, q.on = false := by
  intro q hq
  rw [Sio.tripped, Sio.drive] at hq
  obtain ⟨p, -, rfl⟩ := List.mem_map.mp hq
  simp [Sio.qsDrive]

/-- A QA output that is neither latched nor off takes its safe state. -/
theorem Sio.tripped_qa {x : Sio} {j : Nat} {q : QaSt} (hq : x.qa[j]? = some q) (hlatch : q.latched = false) (hoff : x.qaOff = false) :
    (x.tripped f).qa[j]? = some { q with
      on := if x.qaSafe j = 0 then false else if x.qaSafe j = 1 then true else q.on } := by
  have hdrive : ∀ y : Sio, y.qaOff = false → y.wdt = true → y.qaDrive j q =
      if y.qaSafe j = 0 then false else if y.qaSafe j = 1 then true else q.on := fun y hy hw => by
    simp only [Sio.qaDrive, hy, hlatch, Sio.qaSafeNow, hw, Bool.or_false, Bool.false_eq_true, if_false, Bool.or_true, Bool.true_or,
      if_true]
    match y.qaSafe j with
    | 0 | 1 | _ + 2 => rfl
  rw [Sio.tripped, Sio.forceOff_eq, Sio.drive, List.getElem?_map, List.getElem?_zipIdx, hq]
  simp only [Option.map_some, Nat.zero_add]
  rw [hdrive]
  · rfl
  · exact hoff
  · rfl

end

/-- The copy-back, the end of phase 2 and the watchdog, each by what its row does. -/
theorem commitsAreFollowedUp : CommitsAreFollowedUp := by
  intro dt s u
  refine ⟨fun hlast hnew hgood => ⟨_, exec_bankCopyBack_readable hlast hnew hgood, rfl, ?mode, fun v => ?banks⟩,
    fun hon hend hphase => ?phase2, fun oscNs hcom hwdt hdue => ?watchdog⟩
  case mode => rfl
  case banks =>
    obtain ⟨hcore, hbare⟩ := State.scrubbed_v u (s.imgAddrs (List.range 8)) v
    generalize (Vtx.list.foldl (fun u v => u.scrubTx v (s.imgAddrs (List.range 8))) u) = r at hcore hbare
    have hmem := VMem.eq_of_bare hbare
    have hv : ((r.modAll (fun _ x => { x with mem := x.mem.copyBack (s.imgAddrs (List.range 8)) })).modNic
        (fun c => { c with copied := true })).v v =
          { r.v v with mem := (r.v v).mem.copyBack (s.imgAddrs (List.range 8)) } := State.v_modAll _ _ v
    rw [hv]
    have hread : ∀ a ∈ s.imgAddrs (List.range 8), (r.v v).mem.txBad a = false := fun a ha => by
      rw [hmem]
      exact hgood v a ha
    obtain ⟨hwork, htransmit, hinst⟩ := VMem.copyBack_readable hread
    have hsame : (r.v v).mem.transmit = (s.v v).mem.transmit ∧ (r.v v).mem.inst = (s.v v).mem.inst := by
      rw [hmem]
      exact ⟨rfl, rfl⟩
    exact ⟨hwork.trans hsame.1, htransmit.trans hsame.1, hinst.trans hsame.2, hcore⟩
  case phase2 =>
    have hdue : (u.boundaries && !u.p2End && u.phase == 3) = true := by
      rw [show u.boundaries = true from hon, show u.p2End = false from hend, hphase]
      rfl
    have hsame := (State.minorities_counts (u.minorities .nt 0) .si 1).trans (State.minorities_counts u .nt 0)
    have hrun : exec (.phase2End dt) s =
        .next { ((u.minorities .nt 0).minorities .si 1).missedCommit with p2 := true, p2End := true } := if_pos hdue
    generalize (u.minorities .nt 0).minorities .si 1 = w at hrun hsame
    obtain ⟨hmode, hno, hsio⟩ := State.missedCommit_of hsame
    exact ⟨_, hrun, rfl, hmode, hno, hsio⟩
  case watchdog =>
    have hrun : exec (.watchdogTrip dt oscNs) s = .next u.watchdogTrip := by
      refine if_pos ?_
      rw [show u.blk.sio.commits = true from hcom, show u.blk.sio.wdt = false from hwdt]
      rw [Bool.not_false, Bool.true_and, Bool.true_and]
      exact Bool.or_eq_true_iff.mpr (hdue.imp decide_eq_true decide_eq_true)
    obtain ⟨hw, htrips, htests⟩ := Sio.tripped_counts s.blk.sio s.fnum
    exact ⟨_, hrun, hw, htrips, Bst.endAll_running _ _, htests, Sio.tripped_qs _ _, fun j q hq hlatch hoff => Sio.tripped_qa _ hq hlatch hoff⟩

/-- Settles O29: the words that end at a receiver, and what follows a commit. -/
theorem keysCommit : Obligations.KeysCommit := ⟨keyWordsCommit, commitsAreFollowedUp⟩

end Sys2Proof.Machine

/-! PROOFS. The frames of the module's own slots (R35, R244 to R250, R259, R260, R270), and O30. -/

namespace Sys2Proof.Machine

/-! ### A frame on its network -/

/-- The frame as it leaves on a network: HOP of the segment, and the mark of network Y. -/
def onNet (m : Matrix) (n : Net) (f : Frame) : Frame :=
  { f with
    hop := (segOf m n).hops,
    verf := match n with | .X => f.verf | .Y => f.verf ||| 0x04#8 }

section
variable {s : State} {m : Matrix} {n : Net} {f : Frame}

/-- A slot frame without delay that the guardian permits to its end leaves whole. -/
theorem State.sendSlot_permitted (hm : s.blk.ttb.matrix = some m) (hmay : s.maySend n = true)
    (hperm : s.permits n s.time (s.time + 8 * frameBytes f.plen) = true) :
    s.sendSlot n f 0 = s.emit (.frame n (onNet m n f)) := by
  have hsend : s.sendOn n f = s.emit (.frame n (onNet m n f)) := by
    unfold State.sendOn
    rw [hm]
    rfl
  simp [State.sendSlot, hmay, hperm, hsend]

theorem State.sendSlot_silent (hmay : s.maySend n = false) (delay : Nat) : s.sendSlot n f delay = s := by
  simp [State.sendSlot, hmay]

/-- With both networks permitted the frame leaves on X and then on Y. -/
theorem State.sendSlot_both (hm : s.blk.ttb.matrix = some m) (hx : s.maySend .X = true) (hy : s.maySend .Y = true)
    (hpx : s.permits .X s.time (s.time + 8 * frameBytes f.plen) = true)
    (hpy : s.permits .Y s.time (s.time + 8 * frameBytes f.plen) = true) :
    (s.sendSlot .X f 0).sendSlot .Y f 0 =
      { s with out := .frame .Y (onNet m .Y f) :: .frame .X (onNet m .X f) :: s.out } := by
  rw [State.sendSlot_permitted hm hx hpx]
  exact State.sendSlot_permitted (s := s.emit (.frame .X (onNet m .X f))) hm hy hpy

/-- What leaves from the image: the frame of two ports, each with the code over its own copy. -/
theorem ownFrame_image (hm : s.blk.ttb.matrix = some m) (n : Net) (kind : BitVec 8) (rodslot : BitVec 16) (seq : Word) (ts : Nat)
    (held : Bool) (payload copy1 copy2 : List Word) :
    OwnFrame s m n (onNet m n (s.mkImageFrame kind rodslot seq ts held payload copy1 copy2)) kind payload copy1 copy2 := by
  refine ⟨rfl, rfl, rfl, rfl, ?_, ?_, ?_, rfl, rfl, rfl, rfl⟩
  · exact (by rw [State.etype, hm] : s.etype = m.etype)
  · exact (by rw [hm] : (match s.blk.ttb.matrix with
      | some m => (m.vid, m.pcp)
      | none => (0, 0)).1 = m.vid)
  · exact (by rw [hm] : (match s.blk.ttb.matrix with
      | some m => (m.vid, m.pcp)
      | none => (0, 0)).2 = m.pcp)

/-- What leaves of the module's own words: both codes over the payload. -/
theorem ownFrame_own (hm : s.blk.ttb.matrix = some m) (n : Net) (kind : BitVec 8) (rodslot : BitVec 16) (seq : Word) (ts : Nat)
    (held : Bool) (payload : List Word) :
    OwnFrame s m n (onNet m n (s.mkFrame kind rodslot seq ts held payload)) kind payload payload payload :=
  ownFrame_image hm n kind rodslot seq ts held payload payload payload

end

/-- Time changes nothing of what makes a frame the module's own. -/
theorem ownFrame_of_elapse {s : State} {m : Matrix} {n : Net} {f : Frame} {dt : Nat} {kind : BitVec 8} {p c1 c2 : List Word}
    (h : OwnFrame (s.elapse dt) m n f kind p c1 c2) : OwnFrame s m n f kind p c1 c2 :=
  ⟨h.kind, h.plen, h.payload, h.src, h.etype, h.vid, h.pcp, h.hop, h.code1, h.code2, h.fcs⟩

/-! ### SLOT_TRANSMIT (R35, R259) -/

section
variable {s : State} {m : Matrix} {f : Fetched} {rod slot dt : Nat} (hm : s.blk.ttb.matrix = some m) (hf : s.nic.fetched = some f)
  (hrod : f.rod = rod) (hslot : f.slot = slot) (hat : (s.elapse dt).atSlot m rod slot 250 = true) (hmode : s.mode = .active)
include hm hf hrod hslot hat hmode

/-- A fetch that found a difference is suppressed. -/
theorem exec_slotTransmit_none (hpay : f.payload = none) :
    exec (.slotTransmit dt rod slot) s =
      .next (((s.elapse dt).modNic (fun n => { n with fetched := none })).outMismatch rod slot) := by
  have hm' : (s.elapse dt).blk.ttb.matrix = some m := hm
  have hf' : (s.elapse dt).nic.fetched = some f := hf
  have hdue : (f.due || (s.elapse dt).mode == .active) = true := by
    rw [show (s.elapse dt).mode = .active from hmode]
    exact Bool.or_true _
  change execSlotTransmit dt rod slot s = _
  simp only [execSlotTransmit, hm', hf', hpay]
  rw [if_pos ⟨hrod, hslot, hat⟩, if_pos hdue]
  rfl

/-- The frame that SLOT_TRANSMIT sends of the payload `pay`. -/
def State.slotFrame (s : State) (m : Matrix) (rod slot : Nat) (f : Fetched) (pay : List Word) : Frame :=
  s.mkImageFrame kSlot (rodslotOf rod slot) (w32 (rodCount (s.time / furlongNs s.profile) rod))
    (slotTs m s.profile (s.time / furlongNs s.profile) rod slot) f.held pay f.copy1 f.copy2

theorem exec_slotTransmit_some {pay : List Word} (hpay : f.payload = some pay) (hrun : s.commandsRun = true)
    (hx : s.maySend .X = true) (hy : s.maySend .Y = true) (hdx : s.slotDelay .X = 0) (hdy : s.slotDelay .Y = 0)
    (hpx : (s.elapse dt).permits .X (s.elapse dt).time ((s.elapse dt).time + 8 * frameBytes pay.length) = true)
    (hpy : (s.elapse dt).permits .Y (s.elapse dt).time ((s.elapse dt).time + 8 * frameBytes pay.length) = true) :
    exec (.slotTransmit dt rod slot) s =
      .next { s.elapse dt with
        nic := { s.nic with fetched := none },
        out := .frame .Y (onNet m .Y ((s.elapse dt).slotFrame m rod slot f pay)) ::
          .frame .X (onNet m .X ((s.elapse dt).slotFrame m rod slot f pay)) :: s.out } := by
  have hm' : (s.elapse dt).blk.ttb.matrix = some m := hm
  have hf' : (s.elapse dt).nic.fetched = some f := hf
  have hactive : ¬ ((s.elapse dt).mode ≠ .active ∨ (s.elapse dt).commandsRun = false) := by
    rintro (h | h)
    · exact h hmode
    · exact absurd (hrun.symm.trans h) Bool.true_eq_false_eq_False
  change execSlotTransmit dt rod slot s = _
  simp only [execSlotTransmit, hm', hf', hpay]
  rw [if_pos ⟨hrod, hslot, hat⟩, if_neg hactive, show (s.elapse dt).slotDelay .X = 0 from hdx,
    show (s.elapse dt).slotDelay .Y = 0 from hdy]
  exact congrArg Host.Outcome.next (State.sendSlot_both (s := (s.elapse dt).modNic (fun n => { n with fetched := none })) hm hx hy
    hpx hpy)

end

/-! ### STATUS_TRANSMIT (R260, R270) -/

section
variable {s : State}

/-- The payload of a STATUS slot of PLEN `n` words. -/
def State.statusPay (s : State) (n : Nat) : List Word := (s.statusPayload ++ List.replicate n 0).take n

theorem State.length_statusPay (n : Nat) : (s.statusPay n).length = n := by
  rw [State.statusPay, List.length_take, List.length_append, List.length_replicate]
  omega

/-- The frame that STATUS_TRANSMIT sends. -/
def State.statusFrame (s : State) (m : Matrix) (rod slot n : Nat) : Frame :=
  s.mkFrame kStatus (rodslotOf rod slot) (w32 (rodCount (s.time / furlongNs s.profile) rod))
    (slotTs m s.profile (s.time / furlongNs s.profile) rod slot) false (s.statusPay n)

theorem exec_statusTransmit_due {m : Matrix} {p : Position} {d : SlotDesc} {dt rod slot i : Nat} (hm : s.blk.ttb.matrix = some m)
    (hp : s.blk.ttb.pos = some p) (hd : descAt m rod slot = some (i, d)) (hdir : descDir p d = 2) (hst : d.status = true)
    (hsend : s.sending = true) (hmode : s.mode ≠ .halt ∨ rod = d.base) (hat : (s.elapse dt).atSlot m rod slot 250 = true) :
    exec (.statusTransmit dt rod slot) s =
      .next (((((s.elapse dt).sendSlot .X ((s.elapse dt).statusFrame m rod slot d.plen) (s.slotDelay .X)).babbleNote .X).sendSlot .Y
        ((s.elapse dt).statusFrame m rod slot d.plen) (s.slotDelay .Y)).babbleNote .Y) := by
  have hm' : (s.elapse dt).blk.ttb.matrix = some m := hm
  have hp' : (s.elapse dt).blk.ttb.pos = some p := hp
  change execStatusTransmit dt rod slot s = _
  simp only [execStatusTransmit, hm', hp', hd]
  rw [if_pos ⟨hat, hdir, hst, hsend, hmode⟩]
  rfl

/-- No announcement while the other network is not cut. -/
theorem State.babbleNote_none {n o : Net} (hno : n ≠ o) (h : s.blk.ttb.babble.get o = false) : s.babbleNote n = s := by
  match n, o, hno with
  | .X, .Y, _ | .Y, .X, _ => simp [State.babbleNote, h]
  | .X, .X, hno | .Y, .Y, hno => exact absurd rfl hno

theorem State.babbleNote_some {n o : Net} (hno : n ≠ o) (h : s.blk.ttb.babble.get o = true) (hmay : s.maySend n = true) :
    s.babbleNote n = s.emit (.babbleNote o) := by
  match n, o, hno with
  | .X, .Y, _ | .Y, .X, _ => simp [State.babbleNote, h, hmay]
  | .X, .X, hno | .Y, .Y, hno => exact absurd rfl hno

/-- A network that may not send announces nothing. -/
theorem State.babbleNote_silent {n : Net} (hmay : s.maySend n = false) : s.babbleNote n = s := by
  cases n <;> simp [State.babbleNote, hmay]

theorem State.babble_of_maySend {n : Net} (h : s.maySend n = true) : s.blk.ttb.babble.get n = false := by
  simp only [State.maySend, State.cutNet, Bool.and_eq_true, Bool.not_eq_true', Bool.or_eq_false_iff] at h
  exact h.1.1.1.1.1

theorem State.maySend_of_babble {n : Net} (h : s.blk.ttb.babble.get n = true) : s.maySend n = false := by
  simp [State.maySend, State.cutNet, h]

/-- The STATUS frame leaves on both networks, with no announcement. -/
theorem State.statusSent {m : Matrix} {rod slot n : Nat} (hm : s.blk.ttb.matrix = some m) (hx : s.maySend .X = true)
    (hy : s.maySend .Y = true) (hpx : s.permits .X s.time (s.time + 8 * frameBytes n) = true)
    (hpy : s.permits .Y s.time (s.time + 8 * frameBytes n) = true) :
    (((s.sendSlot .X (s.statusFrame m rod slot n) 0).babbleNote .X).sendSlot .Y (s.statusFrame m rod slot n) 0).babbleNote .Y =
      { s with out := .frame .Y (onNet m .Y (s.statusFrame m rod slot n)) ::
          .frame .X (onNet m .X (s.statusFrame m rod slot n)) :: s.out } := by
  have hplen : (s.statusFrame m rod slot n).plen = n := State.length_statusPay _
  have hboth := State.sendSlot_both (f := s.statusFrame m rod slot n) hm hx hy (by rw [hplen]; exact hpx) (by rw [hplen]; exact hpy)
  have hfirst := State.sendSlot_permitted (f := s.statusFrame m rod slot n) hm hx (by rw [hplen]; exact hpx)
  have hnoneX : (s.sendSlot .X (s.statusFrame m rod slot n) 0).babbleNote .X = s.sendSlot .X (s.statusFrame m rod slot n) 0 :=
    State.babbleNote_none (o := .Y) (by decide) (by rw [hfirst]; exact State.babble_of_maySend hy)
  rw [hnoneX, hboth]
  exact State.babbleNote_none (o := .X) (by decide) (State.babble_of_maySend hx)

/-- Beside the STATUS frame on one network leaves the announcement of BABBLE on the other, which is silent (R270). -/
theorem State.statusAnnounced {m : Matrix} {rod slot k : Nat} {n o : Net} (hm : s.blk.ttb.matrix = some m) (hno : n ≠ o)
    (hbab : s.blk.ttb.babble.get o = true) (hn : s.maySend n = true) (hdelay : s.slotDelay n = 0)
    (hperm : s.permits n s.time (s.time + 8 * frameBytes k) = true) :
    (((s.sendSlot .X (s.statusFrame m rod slot k) (s.slotDelay .X)).babbleNote .X).sendSlot .Y (s.statusFrame m rod slot k)
      (s.slotDelay .Y)).babbleNote .Y =
      { s with out := .babbleNote o :: .frame n (onNet m n (s.statusFrame m rod slot k)) :: s.out } := by
  have hsilent : s.maySend o = false := State.maySend_of_babble hbab
  have hplen : (s.statusFrame m rod slot k).plen = k := State.length_statusPay _
  have hsent := State.sendSlot_permitted (f := s.statusFrame m rod slot k) hm hn (by rw [hplen]; exact hperm)
  have hnote := State.babbleNote_some (s := s.emit (.frame n (onNet m n (s.statusFrame m rod slot k)))) hno hbab hn
  match n, o, hno with
  | .X, .Y, _ =>
    rw [hdelay, hsent, hnote]
    generalize onNet m .X (s.statusFrame m rod slot k) = f
    rw [State.sendSlot_silent (s := (s.emit (.frame .X f)).emit (.babbleNote .Y)) hsilent]
    exact State.babbleNote_silent (s := (s.emit (.frame .X f)).emit (.babbleNote .Y)) hsilent
  | .Y, .X, _ => rw [State.sendSlot_silent hsilent, State.babbleNote_silent hsilent, hdelay, hsent, hnote]; rfl
  | .X, .X, hno | .Y, .Y, hno => exact absurd rfl hno

theorem Tri.mask_le (t : Tri Bool) : t.mask ≤ 7 := by
  obtain ⟨a, b, c⟩ := t
  cases a <;> cases b <;> cases c <;> decide

theorem State.statusExcl_le : s.statusExcl ≤ 7 := by
  unfold State.statusExcl
  split
  · exact Nat.le_refl 7
  · split
    · exact Tri.mask_le _
    · exact Nat.le_refl 7

theorem modeCode_le (m : Mode) : modeCode m ≤ 7 := by cases m <;> decide

theorem bit_le (b : Bool) : bit b ≤ 1 := by cases b <;> decide

theorem Blocks.shownStrength_le (b : Blocks) : b.shownStrength ≤ 3 := by
  unfold Blocks.shownStrength
  split <;> omega

/-- The fields of a word of the STATUS payload below bit 25. -/
theorem low_fields {a b c d : Nat} (ha : a ≤ 7) (hb : b ≤ 3) (hc : c ≤ 7) (hd : d ≤ 1) (e : Nat) :
    (w32 (a + 2 ^ 8 * b + 2 ^ 16 * c + 2 ^ 24 * d + 2 ^ 25 * e)).toNat % 2 ^ 8 = a ∧
      (w32 (a + 2 ^ 8 * b + 2 ^ 16 * c + 2 ^ 24 * d + 2 ^ 25 * e)).toNat / 2 ^ 24 % 2 = d := by
  rw [w32, BitVec.toNat_ofNat]
  constructor <;> omega

/-- The first word of the STATUS payload shows the mode and the senior bit (Table 8.8). -/
theorem State.statusPayload_first : ∃ w l, s.statusPayload = w :: l ∧ w.toNat % 2 ^ 8 = modeCode s.mode ∧
    w.toNat / 2 ^ 24 % 2 = bit s.blk.cyc.senior := by
  obtain ⟨e, he⟩ : ∃ e, s.statusPayload.headD 0 = w32 (modeCode s.mode + 2 ^ 8 * s.blk.shownStrength + 2 ^ 16 * s.statusExcl +
      2 ^ 24 * bit s.blk.cyc.senior + 2 ^ 25 * e) :=
    ⟨bit (s.blk.cen.debugged.a || s.blk.cen.debugged.b || s.blk.cen.debugged.c) +
      2 * bit (testB (s.blk.mbx.ks.headD 0).toNat 0) + 4 * bit s.k3m.failed + 8 * bit (s.blk.ntm.state == .holdover) +
      16 * bit (field (s.blk.mbx.ks.getD 3 0).toNat 0 3 == 4), by
        refine congrArg w32 ?_
        omega⟩
  have hfields := low_fields (modeCode_le s.mode) s.blk.shownStrength_le s.statusExcl_le (bit_le s.blk.cyc.senior) e
  rw [← he] at hfields
  exact ⟨_, _, rfl, hfields⟩

end

/-! ### SLOT_FETCH (R35, R248, R259, R373) -/

/-- Changes of the vertices of a list, each once: nothing else changes. -/
theorem State.foldl_modV (f : Vtx → Vertex → Vertex) {l : List Vtx} (hl : l.Nodup) (s : State) :
    (l.foldl (fun t v => t.modV v (f v)) s) = { s with vtx := (l.foldl (fun t v => t.modV v (f v)) s).vtx } ∧
      ∀ x, (l.foldl (fun t v => t.modV v (f v)) s).v x = if x ∈ l then f x (s.v x) else s.v x := by
  induction l generalizing s with
  | nil => exact ⟨rfl, fun x => by simp⟩
  | cons v l ih =>
    obtain ⟨hnot, hl⟩ := List.nodup_cons.mp hl
    obtain ⟨heq, hv⟩ := ih hl (s.modV v (f v))
    refine ⟨heq, fun x => (hv x).trans ?_⟩
    by_cases hx : x = v
    · rw [hx, if_neg hnot, State.v_modV, if_pos List.mem_cons_self]
    · simp only [List.mem_cons, hx, false_or, State.v_modV_other _ _ hx]

theorem Vtx.list_nodup : Vtx.list.Nodup := by decide

section
variable {s : State} {u w : Vtx} {l : List Nat}

theorem State.readTx_readable (vs : List Vtx) (h : ∀ v, ∀ a ∈ l, (s.v v).mem.txBad a = false) :
    s.readTx vs l = vs.foldl (fun t v => t.scrubTx v l) s := by
  have hany : ∀ v, l.any (s.v v).mem.txBad = false := fun v =>
    List.any_eq_false.mpr fun a ha => ne_true_of_eq_false (h v a ha)
  have hports : ∀ (vs : List Vtx) (t : State), vs.foldl (fun t v => t.portEcc v (l.any (s.v v).mem.txBad)) t = t :=
    fun vs t => by
      induction vs generalizing t with
      | nil => rfl
      | cons v vs ih =>
        rw [List.foldl_cons, hany, State.portEcc_readable]
        exact ih t
  exact hports _ _

/-- What a fetch takes. -/
def State.fetchOf (s : State) (u w : Vtx) (rod slot : Nat) (l : List Nat) : Fetched :=
  ⟨rod, slot, if s.txWords u l == s.txWords w l && !s.anyBad (s.readers u w) l then some (s.txWords u l) else none,
    s.txWords s.coders.1 l, s.txWords s.coders.2 l, match s.nic.lastCommit with
      | some f => s.isHeld f
      | none => true, s.mode == .active⟩

/-- A vertex whose port has met `n` BUSY answers (R373). -/
def Vertex.busied (x : Vertex) (n : Nat) : Vertex := { x with loc := { x.loc with p1busy := satAdd 16 x.loc.p1busy n } }

/-- A fetch of words that can all be read: what it takes, and the BUSY answers counted. -/
theorem State.fetchSlot_readable (rod slot : Nat) (busy : Tri Nat) (h : ∀ v, ∀ a ∈ l, (s.v v).mem.txBad a = false) :
    s.fetchSlot u w rod slot l busy =
        { s with
          vtx := (s.fetchSlot u w rod slot l busy).vtx, nic := { s.nic with fetched := some (s.fetchOf u w rod slot l) } } ∧
      ∀ v ∈ s.readers u w,
        ((s.fetchSlot u w rod slot l busy).v v).loc.p1busy = min ((s.v v).loc.p1busy + busy.get v) 65535 := by
  have hnodup : (s.readers u w).Nodup := Vtx.list_nodup.filter _
  obtain ⟨hbusy, hbusyV⟩ := State.foldl_modV (fun v x => x.busied (busy.get v)) hnodup s
  have hfetch : s.fetchSlot u w rod slot l busy =
      State.readTx (((s.readers u w).foldl (fun t v => t.modV v (fun x => x.busied (busy.get v))) s).modNic
        (fun n => { n with fetched := some (s.fetchOf u w rod slot l) })) (s.readers u w) l := rfl
  generalize (s.readers u w).foldl (fun t v => t.modV v (fun x => x.busied (busy.get v))) s = r at hbusy hbusyV hfetch
  have hmem : ∀ v, (r.v v).mem = (s.v v).mem := fun v => by
    rw [hbusyV v]
    split <;> rfl
  rw [State.readTx_readable _ (fun v a ha => by exact (hmem v).symm ▸ h v a ha)] at hfetch
  obtain ⟨y, rfl⟩ : ∃ y, r = { s with vtx := y } := ⟨_, hbusy⟩
  obtain ⟨hscrub, hscrubV⟩ := State.foldl_modV (fun _ x => x.scrub (l.map x.mem.txKey)) hnodup
    (({ s with vtx := y } : State).modNic (fun n => { n with fetched := some (s.fetchOf u w rod slot l) }))
  have hall : s.fetchSlot u w rod slot l busy = (s.readers u w).foldl (fun t v => t.modV v (fun x => x.scrub (l.map x.mem.txKey)))
    (({ s with vtx := y } : State).modNic (fun n => { n with fetched := some (s.fetchOf u w rod slot l) })) := hfetch
  rw [hall]
  refine ⟨hscrub, fun v hv => ?_⟩
  rw [hscrubV, if_pos hv]
  have hx : ({ s with vtx := y } : State).v v = (s.v v).busied (busy.get v) := (hbusyV v).trans (if_pos hv)
  exact congrArg (fun x : Vertex => x.loc.p1busy) hx

theorem State.mem_readers : u ∈ s.readers u w ∧ w ∈ s.readers u w := by
  simp [State.readers, Vtx.mem_list]

end

section
variable {s : State} {m : Matrix} {p : Position} {a b : Vtx} {c : Content} {i dt rod slot : Nat} {d : SlotDesc} {bd : Binding}

theorem exec_slotFetch_due (busy : Tri Nat) (hm : s.blk.ttb.matrix = some m) (hp : s.blk.ttb.pos = some p)
    (hpair : s.nic.pair = some (a, b)) (hload : s.loaded = some c) (hd : descAt m rod slot = some (i, d))
    (hb : c.hdr.bindings[d.bind]? = some bd) (hdir : descDir p d = 2) (hst : d.status = false) (hbind : d.bind ≠ 0xFFF)
    (hsend : s.sending = true) (hsoon : s.soonActive = true) (hrun : s.commandsRun = true)
    (hat : (s.elapse dt).atSlot m rod slot (-1000) = true) :
    exec (.slotFetch dt rod slot busy) s =
      .next ((s.elapse dt).fetchSlot a b rod slot (bindAddrs bd d.plen) busy) := by
  have hm' : (s.elapse dt).blk.ttb.matrix = some m := hm
  have hp' : (s.elapse dt).blk.ttb.pos = some p := hp
  have hpair' : (s.elapse dt).nic.pair = some (a, b) := hpair
  have hload' : (s.elapse dt).loaded = some c := hload
  change execSlotFetch dt rod slot busy s = _
  simp only [execSlotFetch, hm', hp', hpair', hload', hd, hb]
  exact if_pos ⟨hat, hdir, by rw [hst]; rfl, hbind, hsend, hsoon, hrun⟩

end

/-- What a fetch has taken: the words of the committing pair, where they agree. -/
theorem State.fetchOf_payload {s : State} {u w : Vtx} {l : List Nat} (rod slot : Nat)
    (h : ∀ v, ∀ a ∈ l, (s.v v).mem.txBad a = false) :
    ((∀ k ∈ l, (s.v u).mem.txWord k = (s.v w).mem.txWord k) →
      (s.fetchOf u w rod slot l).payload = some (l.map (s.v u).mem.txWord)) ∧
    ((∃ k ∈ l, (s.v u).mem.txWord k ≠ (s.v w).mem.txWord k) → (s.fetchOf u w rod slot l).payload = none) := by
  have hbad : s.anyBad (s.readers u w) l = false :=
    List.any_eq_false.mpr fun v _ => ne_true_of_eq_false (List.any_eq_false.mpr fun a ha => ne_true_of_eq_false (h v a ha))
  have hpay : (s.fetchOf u w rod slot l).payload = if s.txWords u l == s.txWords w l then some (s.txWords u l) else none := by
    simp only [State.fetchOf, hbad, Bool.not_false, Bool.and_true]
  rw [hpay]
  refine ⟨fun hsame => if_pos (beq_iff_eq.mpr (List.map_congr_left hsame)), fun ⟨k, hk, hne⟩ => if_neg fun heq => hne ?_⟩
  exact List.map_inj_left.mp (beq_iff_eq.mp heq) k hk

/-- Settles O30: each command by the frame or the fetch that it makes at its instant. -/
theorem slotsAreSent : Obligations.SlotsAreSent := by
  intro dt rod slot s m p u hm hp
  refine ⟨fun busy a b c i d bd hpair _ hload hd hb hdir hst hbind hsend hsoon hrun hat hgood => ?fetch,
    fun f hf hrod hslot hat hmode hrun => ⟨fun hpay => ?suppress, fun pay hpay hx hy hdx hdy hpx hpy => ?send⟩,
    fun i d hd hdir hst hsend hmode hlen hx hy hdx hdy hat hpx hpy => ?status,
    fun i d n o hd hdir hst hsend hmode hno hbab hn hdn hat hpn => ?announce⟩
  case fetch =>
    have hexec := exec_slotFetch_due busy hm hp hpair hload hd hb hdir hst hbind hsend hsoon hrun hat
    have hgood' : ∀ v, ∀ k ∈ bindAddrs bd d.plen, (u.v v).mem.txBad k = false := fun v k hk => hgood k hk v
    obtain ⟨hstate, hbusy⟩ := State.fetchSlot_readable (u := a) (w := b) rod slot busy hgood'
    obtain ⟨hsame, hdiffer⟩ := State.fetchOf_payload (u := a) (w := b) rod slot hgood'
    obtain ⟨ha, hb'⟩ := State.mem_readers (s := u) (u := a) (w := b)
    have hheld : ∀ g, s.nic.lastCommit = some g →
        (u.fetchOf a b rod slot (bindAddrs bd d.plen)).held = decide (g < u.recentEnd) := fun g hg => by
      have hg' : u.nic.lastCommit = some g := hg
      simp only [State.fetchOf, hg', State.isHeld]
    generalize u.fetchSlot a b rod slot (bindAddrs bd d.plen) busy = t at hexec hstate hbusy
    have hmode := congrArg State.mode hstate
    have hout := congrArg State.out hstate
    exact ⟨t, u.fetchOf a b rod slot (bindAddrs bd d.plen), hexec, congrArg State.nic hstate, rfl, rfl, hsame, hdiffer, rfl, rfl,
      hheld, hbusy a ha, hbusy b hb', hmode, hout⟩
  case suppress =>
    refine ⟨_, exec_slotTransmit_none hm hf hrod hslot hat hmode hpay, rfl, rfl, rfl, rfl, fun v hin hroom => ?_⟩
    exact State.recs_record (s := u.modNic (fun n => { n with fetched := none })) hin hroom .outMismatch rod slot 0
  case send =>
    refine ⟨_, _, exec_slotTransmit_some hm hf hrod hslot hat hmode hpay hrun hx hy hdx hdy hpx hpy, ?_, ?_, rfl, rfl, rfl, rfl⟩
    · exact ownFrame_of_elapse (ownFrame_image (s := u) hm .X _ _ _ _ _ _ _ _)
    · exact ownFrame_of_elapse (ownFrame_image (s := u) hm .Y _ _ _ _ _ _ _ _)
  case status =>
    have hexec := exec_statusTransmit_due hm hp hd hdir hst hsend hmode hat
    rw [hdx, hdy, State.statusSent (s := u) hm hx hy hpx hpy] at hexec
    obtain ⟨w, l, hword, hwmode, hsenior⟩ := State.statusPayload_first (s := u)
    refine ⟨_, _, u.statusPay d.plen, w, hexec, ownFrame_of_elapse (ownFrame_own (s := u) hm .X _ _ _ _ _ _),
      ownFrame_of_elapse (ownFrame_own (s := u) hm .Y _ _ _ _ _ _),
      State.length_statusPay _, ?_, hwmode, hsenior⟩
    rw [State.statusPay, List.getElem?_take_of_lt hlen, hword]
    rfl
  case announce =>
    have hexec := exec_statusTransmit_due hm hp hd hdir hst hsend hmode hat
    have hannounced := State.statusAnnounced (s := u) (rod := rod) (slot := slot) hm hno hbab hn hdn hpn
    exact ⟨_, u.statusPay d.plen, hexec.trans (congrArg Host.Outcome.next hannounced),
      ownFrame_of_elapse (ownFrame_own (s := u) hm n _ _ _ _ _ _)⟩

end Sys2Proof.Machine

/-! PROOFS. The preserving march and the analogue slices (R56, R374 to R383), and O44. -/

namespace Sys2Proof.Machine

/-! ### The engines of the march (R376 to R378) -/

section
variable {s : State} {v : Vtx} {b : Nat}

theorem State.engine_modEngine (s : State) (v : Vtx) (b : Nat) (f : Engine → Engine) :
    (s.modEngine v b f).engine v b = f (s.engine v b) := by
  unfold State.modEngine State.engine
  split
  · exact Tri.get_set_same _ _ _
  · split <;> rfl

theorem State.modEngine_congr {f g : Engine → Engine} (h : f (s.engine v b) = g (s.engine v b)) :
    s.modEngine v b f = s.modEngine v b g := by
  unfold State.engine at h
  unfold State.modEngine
  split
  · rw [if_pos ‹_›] at h
    rw [h]
  · rw [if_neg ‹_›] at h
    split
    · rw [if_pos ‹_›] at h
      rw [h]
    · rw [if_neg ‹_›] at h
      rw [h]

/-- An engine of a vertex changes alone. -/
theorem State.modEngine_own (hb : b < 5) (f : Engine → Engine) :
    s.modEngine v b f = { s with engines := s.engines.set v (f (s.engines.get v)) } := by
  rw [State.modEngine, if_pos hb]

/-! ### The start of a piece -/

/-- Whether the next piece of bank `b` may start (R56, R377). -/
def State.pieceMay (s : State) (v : Vtx) (b : Nat) : Bool :=
  (s.engine v b).run.isNone && (s.engine v b).bank == some b &&
    (if ownBank b then !s.marchWaits v && ((s.slackFree && s.ordinaryTurn && s.fitsSlack (pieceNs b) 10000) || s.backToBack v)
     else s.slackFree && s.ordinaryTurn && s.fitsSlack (pieceNs b) 10000)

/-- What a vertex bank loses of its correctable errors when a piece of it starts. -/
def Vertex.pieceRead (x : Vertex) (b p : Nat) : Vertex :=
  { x with
    mem := { x.mem with ecc1 := x.mem.ecc1.filter (fun k => !inPiece b p k) },
    loc := { x.loc with eccOwn := satAdd 16 x.loc.eccOwn (x.mem.ecc1.filter (inPiece b p)).length } }

theorem State.pieceMay_early (hturn : s.ordinaryTurn = false) (hback : s.backToBack v = false) : s.pieceMay v b = false := by
  simp [State.pieceMay, hturn, hback]

section
variable (hrun : (s.engine v b).run = none) (hbank : (s.engine v b).bank = some b) (hslack : s.slackFree = true)
  (hturn : s.ordinaryTurn = true) (hfits : s.fitsSlack (pieceNs b) 10000 = true)
include hrun hbank hslack hturn hfits

theorem State.pieceMay_own (hb : b < 5) (hwait : s.marchWaits v = false) : s.pieceMay v b = true := by
  simp [State.pieceMay, hrun, hbank, hslack, hturn, hfits, ownBank, hb, hwait]

theorem State.pieceMay_shared (hb : 5 ≤ b) : s.pieceMay v b = true := by
  simp [State.pieceMay, hrun, hbank, hslack, hturn, hfits, ownBank, Nat.not_lt.mpr hb]

end

end

section
variable {dt : Nat} {chip : Vtx} {bank : Fin 8} {s : State}

theorem exec_preservingPiece_early (h : (s.elapse dt).pieceMay chip bank.val = false) :
    exec (.preservingPiece dt chip bank) s = .next (s.elapse dt) := if_neg (ne_true_of_eq_false h)

/-- A piece of a bank of the vertex starts. -/
theorem exec_preservingPiece_own (h : (s.elapse dt).pieceMay chip bank.val = true) (hb : bank.val < 5) :
    exec (.preservingPiece dt chip bank) s =
      .next (((s.elapse dt).modEngine chip bank.val (fun e =>
        { e with
          run := some ⟨bank.val, (s.engine chip bank.val).next,
            (s.v chip).mem.ecc.any (inPiece bank.val (s.engine chip bank.val).next), clearedResult⟩,
          cur := some bank.val })).modV chip (fun x => x.pieceRead bank.val (s.engine chip bank.val).next)) := by
  have hown : ownBank bank.val = true := decide_eq_true hb
  refine (if_pos h).trans ((if_pos hown).trans ?_)
  rw [hown, State.modEngine_own hb, State.modEngine_own hb]
  rfl

/-- A piece of a bank of the network chip or of the K3M starts. -/
theorem exec_preservingPiece_shared (h : (s.elapse dt).pieceMay chip bank.val = true) (hb : 5 ≤ bank.val) :
    exec (.preservingPiece dt chip bank) s =
      .next (((s.elapse dt).modEngine chip bank.val (fun e =>
        { e with
          run := some ⟨bank.val, (s.engine chip bank.val).next,
            s.shEcc.hard.any (inSharedPiece bank.val (s.engine chip bank.val).next), clearedResult⟩,
          cur := some bank.val })).scrubShared (inSharedPiece bank.val (s.engine chip bank.val).next)) := by
  have hown : ownBank bank.val = false := decide_eq_false (Nat.not_lt.mpr hb)
  refine (if_pos h).trans ((if_neg (ne_true_of_eq_false hown)).trans ?_)
  rw [hown]
  rfl

/-! ### The end of a piece -/

theorem PieceRun.passes_iff {p : PieceRun} {r : TestResult} :
    p.passes r = true ↔ p.bad = false ∧ r.sig = marchSig ∧ r.count = 11264 ∧ r.complete = 0xC3A5#16 := by
  simp [PieceRun.passes, pieceCount, completeWord, and_assoc]

variable {r : TestResult} {word bit : Nat} {p : PieceRun} (hrun : (s.engine chip bank.val).run = some p) (hbank : p.bank = bank.val)
include hrun hbank

theorem exec_pieceComplete_pass (hpass : p.passes r = true) :
    exec (.pieceComplete dt chip bank r word bit) s =
      .next ((s.elapse dt).modEngine chip bank.val (fun e => e.advance (s.elapse dt).nt bank.val true)) := by
  have hrun' : ((s.elapse dt).engine chip bank.val).run = some p := hrun
  change execPieceComplete dt chip bank r word bit s = _
  simp only [execPieceComplete, hrun', hpass]
  exact (if_neg fun h => h hbank).trans (if_pos trivial)

/-- The record of a failed piece. -/
def State.pieceRecord (s : State) (v : Vtx) (b : Nat) (body : List Byte) : State :=
  if ownBank b then s.recOwn v .memTestFail body else s.recBody .memTestFail body

theorem exec_pieceComplete_fail (hfail : p.passes r = false) :
    exec (.pieceComplete dt chip bank r word bit) s =
      .next ((((s.elapse dt).modEngine chip bank.val (fun e => e.advance (s.elapse dt).nt bank.val false)).pieceRecord chip
        bank.val (shortBody bank.val p.piece (word * 128 + bit))).pieceFails chip bank.val) := by
  have hrun' : ((s.elapse dt).engine chip bank.val).run = some p := hrun
  change execPieceComplete dt chip bank r word bit s = _
  simp only [execPieceComplete, hrun', hfail]
  exact (if_neg fun h => h hbank).trans (if_neg Bool.false_ne_true)

end

/-- A failure latches its bank. -/
theorem Engine.fail_advance (e : Engine) (nt : Nat) {b : Nat} (hb : b < 8) : (e.advance nt b false).fail.getLsbD b = true := by
  simp [Engine.advance, hb]

section
variable {s : State} {v : Vtx} {b : Nat}

/-- After a failed piece, before its consequence: the engine has advanced, and the record is formed. -/
theorem State.pieceFailed_frame (s : State) (v : Vtx) (b : Nat) (f : Engine → Engine) (body : List Byte) :
    ∃ x e n m, (s.modEngine v b f).pieceRecord v b body = { s with vtx := x, engines := e, engN := n, engM := m } ∧
      ({ s with vtx := x, engines := e, engN := n, engM := m } : State).engine v b = f (s.engine v b) := by
  have hrec : ∀ t : State, ∃ x, t.pieceRecord v b body = { t with vtx := x } := fun t => by
    unfold State.pieceRecord
    split <;> exact ⟨_, rfl⟩
  obtain ⟨x, hx⟩ := hrec (s.modEngine v b f)
  have hengine := s.engine_modEngine v b f
  rw [hx]
  unfold State.modEngine at hengine ⊢
  split
  · rw [if_pos ‹_›] at hengine
    exact ⟨_, _, _, _, rfl, hengine⟩
  · rw [if_neg ‹_›] at hengine
    split
    · rw [if_pos ‹_›] at hengine
      exact ⟨_, _, _, _, rfl, hengine⟩
    · rw [if_neg ‹_›] at hengine
      exact ⟨_, _, _, _, rfl, hengine⟩

/-- A vertex in service whose memory fails stops with WD (Table 12.4). -/
theorem State.pieceFails_own (hb : b < 5) (hrej : s.blk.cen.rejVtx = none) (hin : s.inService v = true) :
    s.pieceFails v b = s.selfFault v (.trap .ecc) := by
  rw [State.pieceFails, if_pos hb, hrej, if_neg (by simp), if_pos hin]

theorem State.pieceFails_net (hb : 5 ≤ b) (hb7 : b < 7) : s.pieceFails v b = s.halt .bistFail := by
  rw [State.pieceFails, if_neg (Nat.not_lt.mpr hb), if_pos hb7]

theorem State.selfFault_engine (c : XCause) (ht : s.trial v = false) (hin : s.inService v = true) (w : Vtx) (b : Nat) :
    (s.selfFault v c).engine w b = s.engine w b := by
  have h : s.selfFault v c = (s.modV v Vertex.stop).sendEntry v (wdEntry c) := by simp [State.selfFault, ht, hin]
  rw [h]
  rfl

end

/-- The preserving march: a piece starts, passes, or fails with its consequence. -/
theorem marchPiecesAreJudged : MarchPiecesAreJudged := by
  intro dt chip bank s u b e
  have hb8 : b < 8 := bank.isLt
  refine ⟨fun hturn hback => exec_preservingPiece_early (State.pieceMay_early hturn hback),
    fun hb hrun hbank hwait hslack hturn hfits => ?own, fun hb hrun hbank hslack hturn hfits => ?shared,
    fun r word bitNo p hrun hbank => ⟨PieceRun.passes_iff, exec_pieceComplete_pass hrun hbank,
      fun hfail hb hrej hin htrial => ?ownFail, fun hfail hb hb7 hmode => ?netFail, fun hfail hb => ?k3mFail⟩⟩
  case own =>
    have hexec := exec_preservingPiece_own (State.pieceMay_own (s := u) hrun hbank hslack hturn hfits hb hwait) hb
    refine ⟨_, hexec, State.engine_modEngine u chip b _, ?_, fun w hw => ?_, ?_⟩
    · rw [State.modEngine_own hb]
      rfl
    · rw [State.v_modV_other _ _ hw, State.modEngine_own hb]
      rfl
    · rw [State.v_modV, State.modEngine_own hb]
      rfl
  case shared =>
    rw [exec_preservingPiece_shared (State.pieceMay_shared (s := u) hrun hbank hslack hturn hfits hb) hb]
    exact congrArg (fun t => Host.Outcome.next (State.scrubShared t _)) (State.modEngine_congr rfl)
  all_goals
    have hexec := exec_pieceComplete_fail (dt := dt) (word := word) (bit := bitNo) hrun hbank hfail
    obtain ⟨x, l, m, n, hframe, hengine⟩ := State.pieceFailed_frame u chip b (fun e => e.advance u.nt b false)
      (shortBody b p.piece (word * 128 + bitNo))
    have hlatch := congrArg (fun e => e.fail.getLsbD b) hengine
    rw [hframe] at hexec
    let z : State := { u with vtx := x, engines := l, engN := m, engM := n }
  case ownFail =>
    have hfails : z.pieceFails chip b = z.selfFault chip (.trap .ecc) := State.pieceFails_own hb hrej hin
    refine ⟨_, hexec.trans (congrArg Host.Outcome.next hfails), State.selfFault_stops (s := z) htrial hin _, ?_⟩
    exact ((congrArg (fun e => e.fail.getLsbD b) (State.selfFault_engine (s := z) _ htrial hin _ _)).trans hlatch).trans
      (Engine.fail_advance _ _ hb8)
  case netFail =>
    have hfails : z.pieceFails chip b = z.halt .bistFail := State.pieceFails_net hb hb7
    have hcyc := State.cyc_halt (s := z) hmode .bistFail
    have hkept := congrArg Kept.engN (z.halt_kept .bistFail)
    refine ⟨_, hexec.trans (congrArg Host.Outcome.next hfails), congrArg Cyc.mode hcyc, congrArg Cyc.cause hcyc, ?_⟩
    have hnet : z.engine chip b = m := (if_neg (Nat.not_lt.mpr hb)).trans (if_pos hb7)
    exact (congrArg (fun e : Engine => e.fail.getLsbD b) (hkept.trans hnet.symm)).trans (hlatch.trans (Engine.fail_advance _ _ hb8))
  case k3mFail =>
    have hfails : z.pieceFails chip b = z.k3mFail := by rw [hb]; rfl
    exact ⟨_, hexec.trans (congrArg Host.Outcome.next hfails), rfl, rfl⟩

/-! ### Slices that start and slices that are abandoned (R379 to R381) -/

section
variable {s : State} {dt n : Nat}

theorem exec_sliceStart_due (hfits : (s.elapse dt).fitsSlack sliceNs 0 = true) (hsent : (s.elapse dt).mirrorSent = true)
    (hmay : (s.elapse dt).sliceMayStart n = true) :
    exec (.sliceStart dt n) s = .next ((s.elapse dt).modBst (fun b => b.start n (s.elapse dt).fnum (s.elapse dt).nt)) :=
  if_pos (by rw [hfits, hsent, hmay]; rfl)

/-- A slice that may start: in its reserved slot its channel is clear, and otherwise it is its turn. -/
theorem State.sliceMayStart_turn (h : s.sliceMayStart n = true) :
    ((s.blk.bst.slice n).due s.fnum = true → s.channelClear n = true) ∧
      ((s.blk.bst.slice n).due s.fnum = false → s.ordinaryTurn = true ∧ s.blk.bst.next = n) := by
  simp only [State.sliceMayStart, Bool.and_eq_true, Bool.or_eq_true, Bool.not_eq_true', beq_iff_eq] at h
  obtain ⟨⟨-, hturn⟩, -⟩ := h
  refine ⟨fun hdue => ?_, fun hdue => ?_⟩
  · rcases hturn with ⟨-, hclear⟩ | ⟨⟨⟨hnot, -⟩, -⟩, -⟩
    · exact hclear
    · exact absurd (hdue.symm.trans hnot) (by decide)
  · rcases hturn with ⟨hyes, -⟩ | ⟨⟨⟨-, hnext⟩, -⟩, hord⟩
    · exact absurd (hdue.symm.trans hyes) (by decide)
    · exact ⟨hord, hnext⟩

/-- A slice that starts has its result cleared. -/
theorem Bst.start_cleared (b : Bst) (n f nt : Nat) {x : SliceSt} (h : (b.start n f nt).slices[n]? = some x) :
    x.res = clearedResult := by
  simp only [Bst.start, getElem?_modNth, Option.map_eq_some_iff] at h
  obtain ⟨y, -, rfl⟩ := h
  rfl

theorem exec_sliceAbandon_runs (hyield : sliceYields n = true) (hruns : ∃ r ∈ s.blk.bst.running, r.n = n ∧ r.reserved = false) :
    exec (.sliceAbandon dt n) s = .next ((s.elapse dt).modBst (fun b => b.abandonSlice n (s.elapse dt).fnum)) := by
  obtain ⟨r, hr, hn, hres⟩ := hruns
  have hany : (s.elapse dt).blk.bst.running.any (fun r => r.n == n && !r.reserved) = true :=
    List.any_eq_true.mpr ⟨r, hr, by simp [hn, hres]⟩
  exact if_pos (by rw [hyield, hany]; rfl)

end

/-! ### Service requests (R380) -/

theorem State.foldl_abandon_running (l : List SliceRun) (s : State) :
    (l.foldl (fun t r => t.modBst (fun b => b.abandonSlice r.n t.fnum)) s).blk.bst.running =
      s.blk.bst.running.filter (fun r => l.all (fun x => r.n != x.n)) := by
  induction l generalizing s with
  | nil => exact (List.filter_true _).symm
  | cons x l ih =>
    refine (ih _).trans ((List.filter_filter ..).trans ?_)
    exact List.filter_congr fun r _ => by rw [List.all_cons, Bool.and_comm]

/-- After a service request that asks for slice `m` no run of it is left outside its reserved slot. -/
theorem State.serviceRequest_ends (s : State) {p : Nat → Bool} {m : Nat} (hp : p m = true) :
    ∀ r ∈ (s.serviceRequest p).blk.bst.running, r.n = m → r.reserved = true := by
  intro r hr hm
  rw [State.serviceRequest, State.foldl_abandon_running] at hr
  obtain ⟨hrun, hother⟩ := List.mem_filter.mp hr
  by_contra hres
  have hasked : r ∈ s.blk.bst.running.filter (fun r => p r.n && !r.reserved) :=
    List.mem_filter.mpr ⟨hrun, by simp [hm, hp, hres]⟩
  have hne := List.all_eq_true.mp hother r hasked
  simp at hne

section
variable {s : State} {dt : Nat}

theorem exec_supplyWarn_low {volt : Nat} (h : volt < 1920) :
    exec (.supplyWarn dt volt) s =
      .next ((((s.elapse dt).supplyWarnRec volt).serviceRequest (fun n => n == 57)).modSio (fun x => x.sample (s.elapse dt).nt volt)) := by
  change execSupplyWarn dt volt s = _
  simp only [execSupplyWarn, if_pos h]
  rfl

/-- A new class abandons the slice of its input, whether or not the input then takes the class. -/
theorem exec_classChange_request {i : Fin 32} {a : Nat} (hnew : (s.blk.sio.input i.val).cls ≠ classOf a) :
    ∃ f, exec (.classChange dt i [a, a, a, a] a) s =
      .next (((s.elapse dt).serviceRequest (fun n => n == i.val)).modSio f) := by
  have hrun : classRun ([a, a, a, a] ++ [a]) = some (classOf a) := classRun_five rfl rfl rfl rfl
  have hold : (((s.elapse dt).blk.sio.input i.val).cls == classOf a) = false := beq_eq_false_iff_ne.mpr hnew
  change ∃ f, execClassChange dt i [a, a, a, a] a s = _
  simp only [execClassChange, hrun, hold, Bool.or_false, Bool.false_eq_true, if_false]
  split
  · exact ⟨id, rfl⟩
  · exact ⟨_, rfl⟩

theorem exec_outputTestSlot_request {k : Fin 32} (hgrid : (s.elapse dt).onGrid 31250000 0 = true)
    (hslot : (s.elapse dt).testSlot % 32 = k.val) (hnew : s.blk.sio.lastSlot ≠ some (s.elapse dt).testSlot) :
    ∃ f, exec (.outputTestSlot dt k) s = .next (((s.elapse dt).serviceRequest (fun m => m == 32 + k.val / 2)).modSio f) :=
  ⟨_, if_pos ⟨hgrid, hslot, hnew⟩⟩

theorem exec_tpPulseStart_request {k : Fin 4} {q : TpSt} (hq : s.blk.sio.tps[k.val]? = some q) (hon : q.off = false)
    (hnew : q.pulseAt ≠ some (s.elapse dt).nt) (hdue : (s.elapse dt).pulseDue k.val = true) :
    ∃ f, exec (.tpPulseStart dt k) s =
      .next (((s.elapse dt).serviceRequest (fun n => decide (n < 32) && s.blk.sio.feed n == k.val)).modSio f) := by
  change ∃ f, execTpPulseStart dt k s = _
  simp only [execTpPulseStart, State.elapse_blk, hq, hon, beq_eq_false_iff_ne.mpr hnew, hdue, Bool.not_true, Bool.or_self,
    Bool.false_eq_true, if_false]
  exact ⟨_, rfl⟩

end

/-! ### Results of slices (R379, R382, R383) -/

theorem Bst.passes_iff {b : Bst} {n nt : Nat} {r : TestResult} :
    b.passes n r nt = true ↔ slicePasses n r = true ∧ ∃ q ∈ b.running, q.n = n ∧ nt - q.at_ ≤ 6250 := by
  simp [Bst.passes, usClocks]

theorem Bst.slice_eq {b : Bst} {n : Nat} {x : SliceSt} (h : b.slices[n]? = some x) : b.slice n = x := by
  rw [Bst.slice, List.getD_eq_getElem?_getD, h]
  rfl

section
variable (x : SliceSt) (f : Nat)

@[simp] theorem SliceSt.mark_pass : (x.mark f).pass = x.pass := by unfold SliceSt.mark; split <;> rfl
@[simp] theorem SliceSt.mark_res : (x.mark f).res = x.res := by unfold SliceSt.mark; split <;> rfl
@[simp] theorem SliceSt.mark_cons : (x.mark f).cons = x.cons := by unfold SliceSt.mark; split <;> rfl
@[simp] theorem SliceSt.mark_retry : (x.mark f).retry = x.retry := by unfold SliceSt.mark; split <;> rfl
@[simp] theorem SliceSt.mark_reserved : (x.mark f).reserved = true := by
  unfold SliceSt.mark
  split
  · assumption
  · rfl

end

/-- What a result leaves of a slice that passes, or fails for the first time. -/
theorem SliceSt.finish_result (x : SliceSt) (r : TestResult) (pass two : Bool) (f nt : Nat) (h : pass = true ∨ x.retry = false) :
    (x.finish r pass two f nt).pass = pass ∧ (x.finish r pass two f nt).res = r ∧ (x.finish r pass two f nt).cons = 0 ∧
      (pass = true → (x.finish r pass two f nt).retry = false ∧ (x.finish r pass two f nt).failed = x.failed) ∧
      (pass = false → (x.finish r pass two f nt).retry = true ∧ (x.finish r pass two f nt).reserved = true) := by
  unfold SliceSt.finish
  cases pass with
  | true => exact ⟨rfl, rfl, rfl, fun _ => ⟨rfl, Bool.or_false _⟩, fun h => by cases h⟩
  | false =>
    have hretry : x.retry = false := h.resolve_left Bool.false_ne_true
    simp [hretry]

section
variable {s : State} {dt n : Nat} {r : TestResult} (hruns : ∃ q ∈ s.blk.bst.running, q.n = n)
include hruns

theorem exec_sliceComplete_runs :
    exec (.sliceComplete dt n r) s =
      .next (if (!s.blk.bst.passes n r (s.elapse dt).nt && (s.blk.bst.slice n).retry && s.twoJudge) = true then
        ((((s.elapse dt).modBst (fun b => b.finish n r s.twoJudge s.fnum (s.elapse dt).nt)).record .selftestFail n r.sig.toNat
          r.count).sliceFails n)
        else (s.elapse dt).modBst (fun b => b.finish n r s.twoJudge s.fnum (s.elapse dt).nt)) := by
  obtain ⟨q, hq, hn⟩ := hruns
  have hany : (s.elapse dt).blk.bst.running.any (fun q => q.n == n) = true := List.any_eq_true.mpr ⟨q, hq, by simp [hn]⟩
  refine (if_pos hany).trans ?_
  exact (apply_ite Host.Outcome.next _ _ _).symm

theorem exec_sliceComplete_single (h : s.blk.bst.passes n r (s.elapse dt).nt = true ∨ (s.blk.bst.slice n).retry = false) :
    exec (.sliceComplete dt n r) s =
      .next ((s.elapse dt).modBst (fun b => b.finish n r s.twoJudge s.fnum (s.elapse dt).nt)) := by
  rw [exec_sliceComplete_runs hruns, if_neg]
  rcases h with h | h
  · rw [h]
    simp
  · rw [h]
    simp

theorem exec_sliceComplete_second (hpass : s.blk.bst.passes n r (s.elapse dt).nt = false)
    (hretry : (s.blk.bst.slice n).retry = true) (htwo : 2 ≤ s.serving.length) :
    exec (.sliceComplete dt n r) s =
      .next ((((s.elapse dt).modBst (fun b => b.finish n r true s.fnum (s.elapse dt).nt)).record .selftestFail n r.sig.toNat
        r.count).sliceFails n) := by
  have hjudge : s.twoJudge = true := decide_eq_true htwo
  rw [exec_sliceComplete_runs hruns, hpass, hretry, hjudge]
  rfl

end

/-- A second failure that two vertices judge is latched. -/
theorem Bst.finish_fail {b : Bst} {n f nt : Nat} {r : TestResult} (hpass : b.passes n r nt = false)
    (hretry : (b.slice n).retry = true) : (b.finish n r true f nt).fail = true := by
  simp [Bst.finish, hpass, hretry]

theorem Bst.endAll_fail (b : Bst) (f : Nat) : (b.endAll f).fail = b.fail := by
  have hfold : ∀ (l : List SliceRun) (b : Bst), (l.foldl (fun b r => b.abandonSlice r.n f) b).fail = b.fail := fun l b => by
    induction l generalizing b with
    | nil => rfl
    | cons r l ih => exact (ih _).trans rfl
  exact hfold _ b

/-- SIO_FAIL, where it does not hold yet (R336). -/
theorem State.sioFail_fails {s : State} (h : s.blk.sio.fail = false) :
    s.sioFail.blk.sio.fail = true ∧ s.sioFail.blk.bst.fail = s.blk.bst.fail := by
  have hrun : s.sioFail = ((s.sioFailRecords.endSlices).modSio (fun x => { x.forceOff s.fnum with fail := true })).drive := by
    rw [State.sioFail, if_neg (ne_true_of_eq_false h)]
  rw [hrun]
  exact ⟨rfl, Bst.endAll_fail s.blk.bst s.fnum⟩

/-- The analogue slices: their starts, the requests that end them, their results, and their delay. -/
theorem slicesAreRunAndJudged : SlicesAreRunAndJudged := by
  intro dt n s u b
  refine ⟨fun hfits hsent hmay => ⟨_, exec_sliceStart_due hfits hsent hmay, rfl, rfl, (State.sliceMayStart_turn hmay).1,
      fun x hx => Bst.start_cleared _ _ _ _ hx, fun hdue => ?turn⟩,
    fun hyield hruns => ⟨_, exec_sliceAbandon_runs hyield hruns, rfl, rfl, rfl⟩, ?ends,
    fun r hruns pass hpass => ⟨fun x hx h => ?single, fun hfail hretry htwo => ?second⟩, fun hn hold hlate => ?overdue⟩
  case turn =>
    obtain ⟨hord, hnext⟩ := (State.sliceMayStart_turn hmay).2 hdue
    refine ⟨hord, hnext, ?_⟩
    exact if_neg (ne_true_of_eq_false hdue)
  case ends =>
    intro ends
    refine ⟨fun volt hvolt => ?warn, fun i a hnew => ?cls, fun k hgrid hslot hnew => ?slot,
      fun k m q hq hon hnew hdue hm hfeed => ?pulse⟩
    case warn => exact ⟨_, exec_supplyWarn_low hvolt, State.serviceRequest_ends _ (beq_self_eq_true 57)⟩
    case cls =>
      obtain ⟨f, hexec⟩ := exec_classChange_request (dt := dt) hnew
      exact ⟨_, hexec, State.serviceRequest_ends _ (beq_self_eq_true _)⟩
    case slot =>
      obtain ⟨f, hexec⟩ := exec_outputTestSlot_request hgrid hslot hnew
      exact ⟨_, hexec, State.serviceRequest_ends _ (beq_self_eq_true _)⟩
    case pulse =>
      obtain ⟨f, hexec⟩ := exec_tpPulseStart_request hq hon hnew hdue
      exact ⟨_, hexec, State.serviceRequest_ends _ (by simp [hm, hfeed])⟩
  case single =>
    have hpasses : b.passes n r u.nt = pass := by
      rw [Bool.eq_iff_iff, hpass]
      exact Bst.passes_iff
    have hsingle : b.passes n r u.nt = true ∨ (b.slice n).retry = false := by rwa [hpasses, Bst.slice_eq hx]
    refine ⟨_, exec_sliceComplete_single hruns hsingle, rfl, rfl, x.finish r pass s.twoJudge s.fnum u.nt, ?_, ?_⟩
    · rw [← hpasses]
      exact (getElem?_modNth _ _ _).trans (congrArg (Option.map _) hx)
    · exact x.finish_result r pass _ _ _ h
  case second =>
    have hpasses : b.passes n r u.nt = false := by
      rw [Bool.eq_false_iff, ne_eq, Bst.passes_iff, ← hpass, hfail]
      exact Bool.false_ne_true
    have hexec := exec_sliceComplete_second (dt := dt) hruns hpasses hretry htwo
    let w := (u.modBst (fun b => b.finish n r true s.fnum u.nt)).record .selftestFail n r.sig.toNat r.count
    have hlatch : w.blk.bst.fail = true := Bst.finish_fail hpasses hretry
    refine ⟨fun hn hsio => ?sio, fun hn hmode => ?net, fun hn => ?k3m, fun hn => ?guard⟩
    case sio =>
      obtain ⟨hsf, hbf⟩ := State.sioFail_fails (s := w) hsio
      have hfails : w.sliceFails n = w.sioFail := if_pos hn
      exact ⟨_, hexec.trans (congrArg Host.Outcome.next hfails), hsf, hbf.trans hlatch⟩
    case net =>
      have hcyc := State.cyc_halt (s := w) hmode .bistFail
      have hfails : w.sliceFails n = w.halt .bistFail := by rw [hn]; rfl
      exact ⟨_, hexec.trans (congrArg Host.Outcome.next hfails), congrArg Cyc.mode hcyc, congrArg Cyc.cause hcyc⟩
    case k3m =>
      have hfails : w.sliceFails n = w.k3mFail := by rw [hn]; rfl
      exact ⟨_, hexec.trans (congrArg Host.Outcome.next hfails), rfl, rfl⟩
    case guard =>
      have hfails : w.sliceFails n = w.syncLost .X := by rw [hn]; rfl
      obtain ⟨hlost, hcut, -⟩ := w.syncLost_cuts .X
      exact ⟨_, hexec.trans (congrArg Host.Outcome.next hfails), hlost, hcut⟩
  case overdue =>
    refine ⟨_, if_pos ⟨hn, hold, hlate⟩, rfl, rfl, fun x hx => ?_, fun v hin hroom => ?_⟩
    · exact (getElem?_modNth _ _ _).trans (congrArg (Option.map _) hx)
    · exact State.recs_record (s := u) hin hroom .selftestOverdue _ _ _

/-- Settles O44: the preserving march and the analogue slices. -/
theorem selfTestsAreJudged : Obligations.SelfTestsAreJudged := ⟨marchPiecesAreJudged, slicesAreRunAndJudged⟩

end Sys2Proof.Machine

/-! PROOFS. O51: the mode commands and the vertex commands. -/

namespace Sys2Proof.Machine

/-! ### The fields of a CMD word -/

section
variable (code arg : BitVec 8) (tag : BitVec 16)

theorem getLsbD_cmdWord (i : Nat) : (cmdWord code arg tag).getLsbD i =
    if i < 8 then code.getLsbD i else if i - 8 < 8 then arg.getLsbD (i - 8) else tag.getLsbD (i - 8 - 8) := by
  have h : (cmdWord code arg tag).getLsbD i = ((tag ++ arg) ++ code : BitVec (16 + 8 + 8)).getLsbD i := rfl
  rw [h, BitVec.getLsbD_append, BitVec.getLsbD_append]

theorem extract_code_cmdWord : (cmdWord code arg tag).extractLsb' 0 8 = code := by
  apply BitVec.eq_of_getLsbD_eq
  intro i hi
  rw [BitVec.getLsbD_extractLsb', getLsbD_cmdWord, Nat.zero_add, if_pos hi, decide_eq_true hi, Bool.true_and]

theorem extract_arg_cmdWord : (cmdWord code arg tag).extractLsb' 8 8 = arg := by
  apply BitVec.eq_of_getLsbD_eq
  intro i hi
  rw [BitVec.getLsbD_extractLsb', getLsbD_cmdWord, if_neg (by omega), Nat.add_sub_cancel_left, if_pos hi, decide_eq_true hi,
    Bool.true_and]

theorem cmdCode_cmdWord : cmdCode (cmdWord code arg tag) = code.toNat := by
  rw [cmdCode, extract_code_cmdWord]

theorem cmdArg_cmdWord : cmdArg (cmdWord code arg tag) = arg.toNat := by
  rw [cmdArg, extract_arg_cmdWord]

end

/-! ### A command that is checked and answered -/

/-- The state after a command with result `r` that left `u`: the record, CMDRES, and none further in this furlong. -/
def State.answered (u : State) (w : Word) (r : Res) : State :=
  { (u.cmdRec w r).modCyc (fun c => { c with resCode := r.code, resTag := cmdTag w }) with taken := true }

section
variable {s u : State} {w : Word} {r : Res} {P : State → Prop}

/-- No restart follows at once where boundaries are raised or no restart was asked for. -/
theorem State.finishCmd_eq_answered (hb : u.boundaries = true ∨ u.change = none) :
    State.finishCmd (r, u) w = u.answered w r := by
  refine if_neg fun h => ?_
  obtain ⟨hq, hc⟩ := (Bool.and_eq_true _ _).mp h
  rcases hb with hb | hb
  · exact Bool.noConfusion (hb.symm.trans ((Bool.not_eq_true' u.boundaries).mp hq))
  · exact Bool.noConfusion ((congrArg (· == some (Mode.start, MCause.restartCmd)) hb).symm.trans hc)

theorem State.takeCommand_of_check (hr : s.inReset = false) (ht : (s.taken && s.boundaries) = false) (hq : s.checkCmd w = (r, u)) :
    s.takeCommand w = State.finishCmd (r, u) w := by
  rw [State.takeCommand, hr, ht, hq]
  rfl

theorem commandTaken_answered (h : s.takeCommand w = u.answered w r) (hP : P (u.answered w r)) :
    CommandTaken (ok (s.takeCommand w)) w r P :=
  ⟨_, congrArg Host.Outcome.next h, rfl, rfl, rfl, hP⟩

/-- A command that may be taken, whose checks give `r` and leave `u`. -/
theorem commandTaken_of_check (h : MayCommand s) (hq : s.checkCmd w = (r, u)) (hb : u.boundaries = s.boundaries)
    (hP : P (u.answered w r)) : CommandTaken (ok (s.takeCommand w)) w r P := by
  obtain ⟨hreset, hbound, htaken⟩ := h
  refine commandTaken_answered ?_ hP
  rw [State.takeCommand_of_check hreset (by rw [htaken]; rfl) hq]
  exact State.finishCmd_eq_answered (.inl (hb.trans hbound))

/-- What the two checks of the model's `takeIf` come to. -/
theorem takeIf_of {good : Bool} {r : Res} {s t : State} (h : good = true) : takeIf good r s t = (.accepted, t) := if_pos h

theorem takeIf_of_not {good : Bool} {r : Res} {s t : State} (h : good = false) : takeIf good r s t = (r, s) :=
  if_neg (ne_true_of_eq_false h)

end

section
variable {s : State} {c : Cmd} {code arg : BitVec 8} {tag : BitVec 16}

/-- A word that passes the checks of R78 before the command's own. -/
theorem State.checkCmd_of (hc : cmdOf code.toNat = some c) (ha : c.argOk arg.toNat = true) (hl : c.legal arg.toNat s.mode = true)
    (hs : s.cmdSeal (cmdWord code arg tag) = true) :
    s.checkCmd (cmdWord code arg tag) = s.runCmd c arg.toNat (cmdWord code arg tag) := by
  simp only [State.checkCmd, cmdCode_cmdWord, cmdArg_cmdWord, hc, ha, hl, hs, Bool.not_true, Bool.false_eq_true, if_false]

theorem State.checkCmd_of_not_legal (hc : cmdOf code.toNat = some c) (ha : c.argOk arg.toNat = true)
    (hl : c.legal arg.toNat s.mode = false) : s.checkCmd (cmdWord code arg tag) = (.wrongMode, s) := by
  simp only [State.checkCmd, cmdCode_cmdWord, cmdArg_cmdWord, hc, ha, hl, Bool.not_true, Bool.false_eq_true, if_false,
    Bool.not_false, if_true]

theorem State.checkCmd_of_not_seal (hc : cmdOf code.toNat = some c) (ha : c.argOk arg.toNat = true)
    (hl : c.legal arg.toNat s.mode = true) (hs : s.cmdSeal (cmdWord code arg tag) = false) :
    s.checkCmd (cmdWord code arg tag) = (.sealRefused, s) := by
  simp only [State.checkCmd, cmdCode_cmdWord, cmdArg_cmdWord, hc, ha, hl, hs, Bool.not_true, Bool.false_eq_true, if_false,
    Bool.not_false, if_true]

/-- RESTART needs SW4 in the modes that run the application. -/
theorem State.cmdSeal_restart (h : s.blk.cyc.sw4 = true ∨ (s.mode ≠ .resync ∧ s.mode ≠ .standby ∧ s.mode ≠ .active)) :
    s.cmdSeal (cmdWord 1 arg tag) = true := by
  simp only [State.cmdSeal, extract_code_cmdWord]
  change (s.blk.cyc.sw4 || !(s.mode == .resync || s.mode == .standby || s.mode == .active)) = true
  rcases h with h | ⟨hr, hs, ha⟩
  · rw [h]; rfl
  · rw [beq_false_of_ne hr, beq_false_of_ne hs, beq_false_of_ne ha]; simp

/-- ENTER_MAINT, END_MAINT, WITHDRAW and DEBUG need SW4. -/
theorem State.cmdSeal_maint (h : 2 ≤ code.toNat ∧ code.toNat ≤ 5) : s.cmdSeal (cmdWord code arg tag) = s.blk.cyc.sw4 := by
  simp only [State.cmdSeal, extract_code_cmdWord]
  obtain h | h | h | h : code.toNat = 2 ∨ code.toNat = 3 ∨ code.toNat = 4 ∨ code.toNat = 5 := by omega
  all_goals (rw [h]; rfl)

/-- REJOIN, HANDOVER, CONFIRM and CANCEL_STAGE need no seal switch. -/
theorem State.cmdSeal_free (h : code.toNat = 6 ∨ code.toNat = 7 ∨ code.toNat = 10 ∨ code.toNat = 11) :
    s.cmdSeal (cmdWord code arg tag) = true := by
  simp only [State.cmdSeal, extract_code_cmdWord]
  rcases h with h | h | h | h
  all_goals (rw [h]; rfl)

end

/-- The answer touches nothing of a vertex but the buffer of its records and their counts. -/
theorem State.v_answered (u : State) (w : Word) (r : Res) (v : Vtx) :
    ((u.answered w r).v v).dbg = (u.v v).dbg ∧ ((u.answered w r).v v).cur = (u.v v).cur := by
  have h : (u.answered w r).v v = (u.cmdRec w r).v v := rfl
  rw [h, State.cmdRec, State.v_record_eq]
  exact ⟨rfl, rfl⟩

/-! ### The mode commands -/

section
variable {s : State} {arg : BitVec 8} {tag : BitVec 16}

theorem State.checkCmd_restart (h : s.blk.cyc.sw4 = true ∨ (s.mode ≠ .resync ∧ s.mode ≠ .standby ∧ s.mode ≠ .active)) :
    s.checkCmd (cmdWord 1 arg tag) = (.accepted, s.requestMode .start .restartCmd (cmdWord 1 arg tag)) :=
  State.checkCmd_of (c := .restart) rfl rfl rfl (State.cmdSeal_restart h)

/-- ISOLATED after a position mismatch is the only mode under R478. -/
theorem State.r478_of_not_isolated (h : s.mode ≠ .isolated) : s.r478 = false := by
  rw [State.r478, beq_false_of_ne h, Bool.false_and]

theorem beq_or_of {m a b : Mode} (h : m = a ∨ m = b) : (m == a || m == b) = true := by
  rcases h with h | h <;> simp [h]

end

theorem modeCommandsAskForTheirChange : ModeCommandsAskForTheirChange := by
  refine ⟨fun arg tag s hreset hbound hsw => ?atOnce, fun arg tag s h => ⟨fun hsw => ?restart, fun hmode hsw => ?enter,
    fun hsb hiso => ?wrongMode, fun hsb hsw => ?sealed, fun hm hsw hstr hdbg => ?endMaint, fun hm hsw hstr => ?notReady,
    fun hm hready hfree => ?handover, fun w hw => ?second⟩⟩
  case atOnce =>
    obtain ⟨-, hreset', hmode', hbound'⟩ := State.restart_rest
      ((s.requestMode .start .restartCmd (cmdWord 1 arg tag)).answered (cmdWord 1 arg tag) .accepted)
    refine ⟨_, congrArg Host.Outcome.next ?_, hreset', hmode', hbound', rfl⟩
    rw [State.takeCommand_of_check hreset (by rw [hbound, Bool.and_false]) (State.checkCmd_restart hsw)]
    exact if_pos (by change (!s.boundaries && true) = true; rw [hbound]; rfl)
  case restart => exact commandTaken_of_check h (State.checkCmd_restart hsw) rfl ⟨rfl, rfl, h.1⟩
  case enter =>
    have h478 : s.r478 = false := hmode.elim (fun hm => State.r478_of_not_isolated (by rw [hm]; decide)) And.right
    have hcheck := (State.checkCmd_of (code := 2) (arg := arg) (tag := tag) (c := .enterMaint) rfl rfl
      (beq_or_of (hmode.imp_right And.left)) ((State.cmdSeal_maint (by decide)).trans hsw)).trans
      (takeIf_of (by rw [h478]; rfl))
    exact commandTaken_of_check h hcheck rfl ⟨rfl, rfl⟩
  case wrongMode =>
    refine commandTaken_of_check h (State.checkCmd_of_not_legal (c := .enterMaint) rfl rfl ?_) rfl ⟨rfl, rfl, fun v hv hroom => ?_⟩
    · change (s.mode == .standby || s.mode == .isolated) = false
      rw [beq_false_of_ne hsb, beq_false_of_ne hiso]; rfl
    · exact State.recs_record hv hroom .command _ _ _
  case sealed =>
    exact commandTaken_of_check h (State.checkCmd_of_not_seal (c := .enterMaint) rfl rfl (beq_or_of (.inl hsb))
      ((State.cmdSeal_maint (by decide)).trans hsw)) rfl rfl
  case endMaint =>
    have hcheck := (State.checkCmd_of (code := 3) (arg := arg) (tag := tag) (c := .endMaint) rfl rfl (beq_iff_eq.mpr hm)
      ((State.cmdSeal_maint (by decide)).trans hsw)).trans (takeIf_of (by rw [hstr, hdbg]; rfl))
    exact commandTaken_of_check h hcheck rfl ⟨rfl, rfl⟩
  case notReady =>
    have hcheck := (State.checkCmd_of (code := 3) (arg := arg) (tag := tag) (c := .endMaint) rfl rfl (beq_iff_eq.mpr hm)
      ((State.cmdSeal_maint (by decide)).trans hsw)).trans (takeIf_of_not (by rw [beq_false_of_ne hstr]; rfl))
    exact commandTaken_of_check h hcheck rfl rfl
  case handover =>
    have hcheck := (State.checkCmd_of (code := 7) (arg := arg) (tag := tag) (c := .handover) rfl rfl (beq_or_of hm)
      (State.cmdSeal_free (by decide))).trans (takeIf_of (by rw [hready, hfree]; rfl))
    exact commandTaken_of_check h hcheck rfl ⟨rfl, rfl, rfl, rfl⟩
  case second =>
    subst hw
    obtain ⟨hreset, hbound, -⟩ := h
    refine congrArg Host.Outcome.next ?_
    rw [State.takeCommand, show ({ s with taken := true } : State).inReset = false from hreset,
      show (({ s with taken := true } : State).taken && ({ s with taken := true } : State).boundaries) = true from hbound]
    rfl

/-! ### The vertex commands -/

section
variable (v : Vtx)

/-- The ARG that names vertex `v`. -/
theorem toNat_vtxArg : (BitVec.ofNat 8 v.num).toNat = v.num := by cases v <;> rfl

/-- The ARG of DEBUG, bit 7 clear, and of DEBUG_END, bit 7 set. -/
theorem vtxArg_debug : BitVec.ofNat 8 v.num &&& 0x7F#8 = BitVec.ofNat 8 v.num := by cases v <;> rfl

theorem toNat_vtxArg_debugEnd : (BitVec.ofNat 8 v.num ||| 0x80#8).toNat = v.num + 128 := by cases v <;> rfl

theorem vtx_of_arg : (Vtx.ofNum (v.num % 4)).getD .A = v := by cases v <;> rfl

theorem vtx_of_arg_debugEnd : (Vtx.ofNum ((v.num + 128) % 4)).getD .A = v := by cases v <;> rfl

variable {s : State} {tag : BitVec 16}

/-- WITHDRAW, DEBUG and DEBUG_END are legal in STANDBY and MAINTENANCE, with SW4. -/
theorem State.checkCmd_withdraw (hm : s.mode = .standby ∨ s.mode = .maintenance) (hsw : s.blk.cyc.sw4 = true) :
    s.checkCmd (cmdWord 4 (BitVec.ofNat 8 v.num) tag) = s.takeWithdraw v (cmdWord 4 (BitVec.ofNat 8 v.num) tag) := by
  rw [State.checkCmd_of (c := .withdraw) rfl (by cases v <;> rfl) (beq_or_of hm) ((State.cmdSeal_maint (by decide)).trans hsw),
    toNat_vtxArg]
  simp only [State.runCmd, vtx_of_arg]

theorem State.checkCmd_debug (hm : s.mode = .standby ∨ s.mode = .maintenance) (hsw : s.blk.cyc.sw4 = true) :
    s.checkCmd (cmdWord 5 (BitVec.ofNat 8 v.num) tag) = s.takeDebug v false := by
  rw [State.checkCmd_of (c := .debug) rfl (by cases v <;> rfl) (beq_or_of hm) ((State.cmdSeal_maint (by decide)).trans hsw),
    toNat_vtxArg]
  have hend : testB v.num 7 = false := by cases v <;> rfl
  simp only [State.runCmd, vtx_of_arg, hend]

theorem State.checkCmd_debugEnd (hm : s.mode = .standby ∨ s.mode = .maintenance) (hsw : s.blk.cyc.sw4 = true) :
    s.checkCmd (cmdWord 5 (BitVec.ofNat 8 v.num ||| 0x80#8) tag) = s.takeDebug v true := by
  rw [State.checkCmd_of (c := .debug) rfl (by cases v <;> rfl) (beq_or_of hm) ((State.cmdSeal_maint (by decide)).trans hsw),
    toNat_vtxArg_debugEnd]
  have hend : testB (v.num + 128) 7 = true := by cases v <;> rfl
  simp only [State.runCmd, vtx_of_arg_debugEnd, hend]

theorem State.checkCmd_rejoin (hm : s.mode = .resync ∨ s.mode = .standby ∨ s.mode = .active ∨ s.mode = .maintenance) :
    s.checkCmd (cmdWord 6 (BitVec.ofNat 8 v.num) tag) = s.takeRejoin v (cmdWord 6 (BitVec.ofNat 8 v.num) tag) := by
  rw [State.checkCmd_of (c := .rejoin) rfl (by cases v <;> rfl) (by rcases hm with h | h | h | h <;> (rw [h]; rfl))
    (State.cmdSeal_free (by decide)), toNat_vtxArg]
  simp only [State.runCmd, vtx_of_arg]

theorem State.v_modCen_modV (f : Vertex → Vertex) (g : Cen → Cen) : ((s.modV v f).modCen g).v v = f (s.v v) :=
  State.v_modV s v f

/-- DEBUG of a withdrawn vertex without a session. -/
theorem State.takeDebug_opens (hw : s.blk.cen.withdrawn.get v = true) (hold : s.blk.cen.wdOld.get v = false)
    (hd : s.blk.cen.debugged.get v = false) :
    s.takeDebug v false = (.accepted, (s.modV v (fun x => { x with dbg := .reset })).modCen (fun c =>
      { c with debugged := c.debugged.set v true })) := by
  refine (takeIf_of (by rw [hw, hold]; rfl)).trans (congrArg (Prod.mk Res.accepted) ?_)
  exact if_neg (ne_true_of_eq_false hd)

/-- DEBUG_END of a vertex with a session. -/
theorem State.takeDebug_ends (hw : s.blk.cen.withdrawn.get v = true) (hold : s.blk.cen.wdOld.get v = false) :
    s.takeDebug v true = (.accepted, s.endDebug v) :=
  takeIf_of (by rw [hw, hold]; rfl)

/-- The end of a session: the vertex has no running task and is halted. -/
theorem State.endDebug_of_debugged (hd : s.blk.cen.debugged.get v = true) :
    (s.endDebug v).blk.cen.debugged.get v = false ∧ ((s.endDebug v).v v).cur = none ∧
      ((s.endDebug v).v v).dbg.halted = true ∧ (s.endDebug v).boundaries = s.boundaries := by
  generalize hu : s.record .debugEnded v.num 0 0 = u
  have hb : u.boundaries = s.boundaries := by rw [← hu]; rfl
  rw [State.endDebug, if_pos hd, hu]
  refine ⟨Tri.get_set_same _ _ _, ?_, ?_, hb⟩
  · rw [State.v_modCen_modV]
  · rw [State.v_modCen_modV]

end

theorem vertexCommandsActOnTheirVertex : VertexCommandsActOnTheirVertex := by
  refine fun v tag s h => ⟨fun hm hsw => ⟨fun hstr hfree => ?withdraw, fun hstr => ?notThree, fun hold => ?old,
    fun hw hold => ⟨fun hd => ?debug, fun hd => ?debugEnd⟩⟩, fun hm => ⟨fun hs hd hfree hfew => ?rejoin, fun hs => ?serves⟩⟩
  case withdraw =>
    have hcheck := (State.checkCmd_withdraw v (tag := tag) hm hsw).trans (takeIf_of (by rw [hstr, hfree]; rfl))
    exact commandTaken_of_check h hcheck rfl ⟨rfl, rfl, rfl⟩
  case notThree =>
    have hcheck := (State.checkCmd_withdraw v (tag := tag) hm hsw).trans (takeIf_of_not (by rw [beq_false_of_ne hstr]; rfl))
    exact commandTaken_of_check h hcheck rfl rfl
  case old =>
    have hcheck := (State.checkCmd_debug v (tag := tag) hm hsw).trans (takeIf_of_not (by rw [hold, Bool.not_true, Bool.and_false]))
    rw [exec, execDebug, vtxArg_debug]
    exact commandTaken_of_check h hcheck rfl rfl
  case debug =>
    have hcheck := (State.checkCmd_debug v (tag := tag) hm hsw).trans (State.takeDebug_opens v hw hold hd)
    rw [exec, execDebug, vtxArg_debug]
    refine commandTaken_of_check h hcheck rfl ⟨rfl, ?_⟩
    rw [(State.v_answered ..).1, State.v_modCen_modV]
  case debugEnd =>
    have hcheck := (State.checkCmd_debugEnd v (tag := tag) hm hsw).trans (State.takeDebug_ends v hw hold)
    obtain ⟨hend, hcur, hhalt, hbound⟩ := State.endDebug_of_debugged v hd
    obtain ⟨hdbg', hcur'⟩ := State.v_answered (s.endDebug v) (cmdWord 5 (BitVec.ofNat 8 v.num ||| 0x80#8) tag) .accepted v
    exact commandTaken_of_check h hcheck hbound ⟨hend, hcur'.trans hcur, (congrArg Debug.halted hdbg').trans hhalt⟩
  case rejoin =>
    have hcheck := (State.checkCmd_rejoin v (tag := tag) hm).trans
      (takeIf_of (by rw [hs, hd, hfree, decide_eq_true hfew]; rfl))
    exact commandTaken_of_check h hcheck rfl ⟨rfl, rfl, rfl, hs⟩
  case serves =>
    have hcheck := (State.checkCmd_rejoin v (tag := tag) hm).trans (takeIf_of_not (by rw [hs]; rfl))
    exact commandTaken_of_check h hcheck rfl rfl

/-- Settles O51: the mode commands pass the checks of R78 or fail the first that fails, the vertex commands meet their own conditions. -/
theorem modeAndVertexCommands : Obligations.ModeAndVertexCommands :=
  ⟨modeCommandsAskForTheirChange, vertexCommandsActOnTheirVertex⟩

end Sys2Proof.Machine

/-! PROOFS. O52: the staging and update commands, and the end of a confirmed probation. -/

namespace Sys2Proof.Machine

/-! ### Seal switches -/

section
variable {s : State} {arg : BitVec 8} {tag : BitVec 16}

/-- STAGE needs SW1 for a patch list, SW4 for I/O parameters. -/
theorem State.cmdSeal_stage : s.cmdSeal (cmdWord 8 arg tag) = if arg = 0 then s.blk.cyc.sw1 else s.blk.cyc.sw4 := by
  simp only [State.cmdSeal, extract_code_cmdWord, extract_arg_cmdWord]
  rfl

theorem State.cmdSeal_schedule : s.cmdSeal (cmdWord 9 arg tag) = s.blk.cyc.sw2 := by
  simp only [State.cmdSeal, extract_code_cmdWord]
  rfl

theorem State.cmdSeal_burn : s.cmdSeal (cmdWord 12 arg tag) = s.blk.cyc.sw3 := by
  simp only [State.cmdSeal, extract_code_cmdWord]
  rfl

/-! ### The checks of each command -/

theorem State.checkCmd_stagePatch (hm : s.mode = .standby ∨ s.mode = .active) (hsw : s.blk.cyc.sw1 = true) :
    s.checkCmd (cmdWord 8 0 tag) = s.stagePatch :=
  State.checkCmd_of (c := .stage) rfl rfl (beq_or_of hm.symm) (State.cmdSeal_stage.trans hsw)

theorem State.checkCmd_stageIo (hm : s.mode = .standby ∨ s.mode = .maintenance) (hsw : s.blk.cyc.sw4 = true) :
    s.checkCmd (cmdWord 8 1 tag) = s.stageIo :=
  State.checkCmd_of (c := .stage) rfl rfl (beq_or_of hm) (State.cmdSeal_stage.trans hsw)

theorem State.checkCmd_schedule (hm : s.mode = .standby ∨ s.mode = .active) (hsw : s.blk.cyc.sw2 = true) :
    s.checkCmd (cmdWord 9 arg tag) = s.takeSchedule :=
  State.checkCmd_of (c := .scheduleAct) rfl rfl (beq_or_of hm.symm) (State.cmdSeal_schedule.trans hsw)

theorem State.checkCmd_confirm (hm : s.mode = .standby ∨ s.mode = .active) :
    s.checkCmd (cmdWord 10 arg tag) =
      takeIf s.upd.onProbation .notReady s (s.modUpd (fun u => { u with commanded := some s.fnum })) :=
  State.checkCmd_of (c := .confirm) rfl rfl (beq_or_of hm.symm) (State.cmdSeal_free (by decide))

theorem State.checkCmd_cancelAct (hm : s.mode = .standby ∨ s.mode = .active) :
    s.checkCmd (cmdWord 11 2 tag) = takeIf ((s.area 2).state != 0) .notReady s (s.discard 2 0x0C) :=
  State.checkCmd_of (c := .cancelStage) rfl rfl (beq_or_of hm.symm) (State.cmdSeal_free (by decide))

theorem State.checkCmd_burn (hm : s.mode = .commission) (hsw : s.blk.cyc.sw3 = true) (harg : arg.toNat ≤ 7) :
    s.checkCmd (cmdWord 12 arg tag) = takeIf (s.burnReady arg.toNat) .notReady s s :=
  State.checkCmd_of (c := .fuseBurn) rfl (decide_eq_true harg) (beq_iff_eq.mpr hm) (State.cmdSeal_burn.trans hsw)

/-! ### Staging a set -/

theorem State.stagePatch_busy (hserved : s.served = false) (hbusy : s.blk.cyc.stg0.state ≠ 0) : s.stagePatch = (.busyStaged, s) := by
  have harea : (s.area 0).state ≠ 0 := hbusy
  simp only [State.stagePatch, hserved, if_pos harea, Bool.false_eq_true, if_false]

/-- A patch list is checked where its area is free and its target has not passed. -/
theorem State.stagePatch_accepted {h : AppHeader} (hh : s.hdr = some h) (hserved : s.served = false)
    (hfree : s.blk.cyc.stg0.state = 0) (hlate : s.latePast (setTarget (s.viewBody 2)) = false)
    (hgood : patchAtStaging h s.tuneSeq (s.viewBody 2) = none) :
    s.stagePatch = (.accepted, (s.copySet 0 2).stage 0 (setTarget (s.viewBody 2)) (s.viewBody 2)) := by
  have harea : (s.area 0).state = 0 := hfree
  simp only [State.stagePatch, hserved, harea, hlate, hh, hgood, ne_eq, not_true_eq_false, Bool.false_eq_true, if_false]

theorem State.stagePatch_bad {h : AppHeader} {q : Nat × Nat} (hh : s.hdr = some h) (hserved : s.served = false)
    (hfree : s.blk.cyc.stg0.state = 0) (hlate : s.latePast (setTarget (s.viewBody 2)) = false)
    (hbad : patchAtStaging h s.tuneSeq (s.viewBody 2) = some q) :
    s.stagePatch = (.badParam, (s.copySet 0 2).patchDiscarded (s.viewBody 2) q.1 q.2) := by
  have harea : (s.area 0).state = 0 := hfree
  simp only [State.stagePatch, hserved, harea, hlate, hh, hbad, ne_eq, not_true_eq_false, Bool.false_eq_true, if_false]

theorem State.stageIo_accepted {h : AppHeader} (hh : s.hdr = some h) (hfree : s.blk.cyc.stg1.state = 0)
    (hlate : s.latePast (setTarget (s.viewBody 3)) = false) (hgood : ioAtStaging h s.blk.sio.params.seq (s.viewBody 3) = none) :
    s.stageIo = (.accepted, (s.copySet 1 3).stage 1 (setTarget (s.viewBody 3)) (s.viewBody 3)) := by
  have harea : (s.area 1).state = 0 := hfree
  simp only [State.stageIo, harea, hlate, hh, hgood, ne_eq, not_true_eq_false, Bool.false_eq_true, if_false]

theorem State.takeSchedule_accepted (hserved : s.served = false) (hprob : s.upd.onProbation = false)
    (hfree : s.blk.cyc.stg2.state = 0) (hlen : (s.viewBody 4).length = 32) (hset : s.stagingHolds (actDig (s.viewBody 4)) = true)
    (hlate : s.latePast (leAt (s.viewBody 4) 0 6) = false)
    (hcrc : (crc32c ((s.viewBody 4).take 28)).toNat = leAt (s.viewBody 4) 28 4) (hzero : leAt (s.viewBody 4) 6 2 = 0) :
    s.takeSchedule = (.accepted, s.stage 2 (leAt (s.viewBody 4) 0 6) (s.viewBody 4)) := by
  have harea : (s.area 2).state = 0 := hfree
  simp only [State.takeSchedule, hserved, hprob, harea, hlen, hset, hlate, hcrc, hzero, ne_eq, not_true_eq_false, or_self,
    Bool.not_true, Bool.false_eq_true, if_false]

end

/-! ### CONFIRM in the status mirror -/

section
variable (s : State)

/-- An abandoned download leaves the journal and what CONFIRM asked for. -/
theorem State.dropDownload_confirm (why : Nat) :
    (s.dropDownload why).upd.slots = s.upd.slots ∧ (s.dropDownload why).upd.commanded = s.upd.commanded := by
  by_cases h : s.upd.sstate = .loading
  · rw [State.dropDownload_eq h]
    exact ⟨rfl, rfl⟩
  · rw [State.dropDownload, if_neg h]
    exact ⟨rfl, rfl⟩

theorem State.commanded_elapse (dt : Nat) : (s.elapse dt).upd.commanded = s.upd.commanded := by
  unfold State.elapse Update.elapse
  split <;> rfl

/-- The state when the mirror of furlong `f` has been taken up, before a confirmed probation ends. -/
def State.takeMirror (f : Nat) : State :=
  let t := (s.takeRecords).modRec (fun r => { r with intake := some f })
  let u : State := { t with k3m := { t.k3m with waiting := none, edges := [] } }
  if u.mirrorBlk.cyc.sw2 then u else u.dropDownload 1

theorem State.takeMirror_confirm (f : Nat) :
    (s.takeMirror f).upd.slots = s.upd.slots ∧ (s.takeMirror f).upd.commanded = s.upd.commanded := by
  have hrec := s.takeRecords_upd
  unfold State.takeMirror
  generalize s.takeRecords = t at hrec ⊢
  dsimp only
  split
  · exact ⟨congrArg Update.slots hrec, congrArg Update.commanded hrec⟩
  · rw [(State.dropDownload_confirm _ 1).1, (State.dropDownload_confirm _ 1).2]
    exact ⟨congrArg Update.slots hrec, congrArg Update.commanded hrec⟩

/-- What the intake leaves of the update path. -/
theorem exec_statusMirrorIntake (dt : Nat) {f : Nat} (hw : s.k3m.waiting = some f) (hrun : s.k3m.failed = false) :
    ∃ t, exec (.statusMirrorIntake dt) s = .next t ∧ ∃ seen, t.upd = { (
      if ((s.elapse dt).takeMirror f).confirmSeen f && ((s.elapse dt).takeMirror f).upd.onProbation then
        ((s.elapse dt).takeMirror f).endProbation 1 else (s.elapse dt).takeMirror f : State).upd with seen := seen } := by
  have hw' : (s.elapse dt).k3m.waiting = some f := hw
  have hrun' : (s.elapse dt).k3m.failed = false := hrun
  change ∃ t, execStatusMirrorIntake dt s = _ ∧ _
  simp only [execStatusMirrorIntake, hw', hrun', Bool.false_eq_true, if_false]
  exact ⟨_, rfl, _, rfl⟩

end

/-- Settles O52: the staging commands meet the checks of their sets in order, CONFIRM waits for its mirror, FUSE_BURN for a repair. -/
theorem stagingCommandsStageTheirSets : Obligations.StagingCommandsStageTheirSets := by
  refine ⟨fun arg tag s h => ⟨fun hd hh hm hsw hserved hlate => ⟨fun hbusy => ?busy, fun hfree hgood => ?patch,
    fun q hfree hbad => ?badPatch⟩, fun hd hh hm hsw hfree hlate hgood => ?io,
    fun hm hsw hserved hprob hfree hlen hset hlate hcrc hzero => ?schedule,
    fun hm => ⟨fun hprob => ?confirm, fun hprob => ?noProbation, fun hstaged => ?cancel⟩⟩,
    fun dt f g s hw hrun hcmd hprob hseq => ?intake,
    fun arg tag s hreset hbound hchange hm hsw harg => ⟨fun hready => ?burn, fun hready => ?noRepair⟩⟩
  case busy =>
    exact commandTaken_of_check h ((State.checkCmd_stagePatch hm hsw).trans (State.stagePatch_busy hserved hbusy)) rfl ⟨rfl, rfl⟩
  case patch =>
    exact commandTaken_of_check h ((State.checkCmd_stagePatch hm hsw).trans
      (State.stagePatch_accepted hh hserved hfree hlate hgood)) rfl ⟨rfl, rfl, rfl⟩
  case badPatch =>
    exact commandTaken_of_check h ((State.checkCmd_stagePatch hm hsw).trans
      (State.stagePatch_bad hh hserved hfree hlate hbad)) rfl ⟨rfl, rfl⟩
  case io =>
    exact commandTaken_of_check h ((State.checkCmd_stageIo hm hsw).trans (State.stageIo_accepted hh hfree hlate hgood)) rfl
      ⟨rfl, rfl, rfl⟩
  case schedule =>
    exact commandTaken_of_check h ((State.checkCmd_schedule hm hsw).trans
      (State.takeSchedule_accepted hserved hprob hfree hlen hset hlate hcrc hzero)) rfl ⟨rfl, rfl⟩
  case confirm => exact commandTaken_of_check h ((State.checkCmd_confirm hm).trans (takeIf_of hprob)) rfl rfl
  case noProbation => exact commandTaken_of_check h ((State.checkCmd_confirm hm).trans (takeIf_of_not hprob)) rfl rfl
  case cancel =>
    exact commandTaken_of_check h ((State.checkCmd_cancelAct hm).trans (takeIf_of (bne_iff_ne.mpr hstaged))) rfl ⟨rfl, rfl, rfl⟩
  case intake =>
    obtain ⟨t, hexec, seen, hupd⟩ := exec_statusMirrorIntake s dt hw hrun
    obtain ⟨hslots, hcmd'⟩ := (s.elapse dt).takeMirror_confirm f
    generalize (s.elapse dt).takeMirror f = w at hupd hslots hcmd'
    replace hslots := hslots.trans (s.slots_elapse dt)
    replace hcmd' := hcmd'.trans ((s.commanded_elapse dt).trans hcmd)
    have hseen : w.confirmSeen f = decide (g ≤ f) := by rw [State.confirmSeen, hcmd']
    refine ⟨t, hexec, fun hle => ?_, fun hlt => ?_⟩
    · have hprob' : w.upd.onProbation = true := by rw [Update.onProbation_eq, hslots, ← Update.onProbation_eq, hprob]
      obtain ⟨log, hend⟩ := w.endProbation_eq 1
      have hidle := congrArg Journal.state (JSlots.cur_write (hslots ▸ hseq : w.upd.slots.cur.jseq.toNat + 1 < 2 ^ 32) fun j =>
        { j with state := .idle, clean := w.upd.clean })
      rw [hseen, decide_eq_true hle, hprob', if_pos (by rfl), hend] at hupd
      rw [Update.onProbation_eq, hupd]
      exact ⟨hidle, congrArg (· == JState.probation) hidle, rfl⟩
    · rw [hseen, decide_eq_false (Nat.not_le.mpr hlt), Bool.false_and, if_neg Bool.false_ne_true] at hupd
      rw [hupd]
      exact ⟨hslots, hcmd'⟩
  case burn =>
    refine commandTaken_answered ?_ rfl
    rw [State.takeCommand_of_check hreset (by rw [hbound, Bool.and_false])
      ((State.checkCmd_burn hm hsw harg).trans (takeIf_of hready))]
    exact State.finishCmd_eq_answered (.inr hchange)
  case noRepair =>
    refine commandTaken_answered ?_ rfl
    rw [State.takeCommand_of_check hreset (by rw [hbound, Bool.and_false])
      ((State.checkCmd_burn hm hsw harg).trans (takeIf_of_not hready))]
    exact State.finishCmd_eq_answered (.inr hchange)

end Sys2Proof.Machine

/-! PROOFS. O53: the registers of one vertex, and the accesses of the K3M. -/

namespace Sys2Proof.Machine

/-! ### Addresses at which no register is listed -/

section
variable {s : State} {v : Vtx}

/-- A vertex at fault keeps its records. -/
theorem State.recs_selfFault (ht : s.trial v = false) (hs : s.inService v = true) (c : XCause) :
    ((s.selfFault v c).v v).recs = (s.v v).recs := by
  have h : s.selfFault v c = (s.modV v Vertex.stop).sendEntry v (wdEntry c) := by simp [State.selfFault, ht, hs]
  rw [h, State.sendEntry_v, State.v_modV, Vertex.stop]

theorem State.trapNoted_access (user addr : Nat) (pc : Word) (count : Nat) : s.trapNoted v .access user addr pc count =
    s.recOwn v .vertexTrap (trapBody v .access user (s.v v).core.task pc addr (s.v v).core.tcw s.fnum count) := rfl

/-- The first trap of a furlong leaves one VERTEX_TRAP record in the vertex. -/
theorem State.recs_raiseTrap_access (hd : s.debugging v = false) (hs : s.inService v = true) (ht : s.trial v = false)
    (h : s.traps = []) (hroom : (s.v v).recs.length < 64) (a : Nat) (pc : Word) (count : Nat) :
    ((s.raiseTrap v .access 0 a pc count).v v).recs = (s.v v).recs ++ [⟨.vertexTrap, 0x11 + v.num,
      trapBody v .access 0 (s.v v).core.task pc a (s.v v).core.tcw s.fnum count⟩] := by
  obtain ⟨l, hl⟩ := s.trapNoted_frame v .access 0 a pc count
  have hv : (s.withVtx l).v v = (s.v v).addRec ⟨.vertexTrap, 0x11 + v.num,
      trapBody v .access 0 (s.v v).core.task pc a (s.v v).core.tcw s.fnum count⟩ := by
    rw [← hl, State.trapNoted_access, State.recOwn, State.v_modV]
  rw [State.raiseTrap_outcome hd ht, hl, State.trapOutcome_first (s := s.withVtx l) h]
  refine (State.recs_selfFault (s := { s.withVtx l with traps := _ }) ht hs (.trap .access)).trans ?_
  refine (congrArg Vertex.recs hv).trans ?_
  rw [Vertex.addRec, if_pos hroom]

theorem exec_registerWrite_unlisted {a : Word} (ha : s.readReg v a.toNat = none) (val : Word) :
    exec (.registerWrite (.vertex v) a val) s = .next (s.badRegister v a.toNat) := by
  change ok (if (s.readReg v a.toNat).isSome then _ else _) = _
  rw [ha]
  rfl

end

/-! ### The debug furlong -/

section
variable {s : State} {v : Vtx}

/-- A debug furlong with tasks to run begins: the pass is done, the tasks of DFUR wait, and the vertex is not halted. -/
theorem State.debugStart_of (hecc : (s.v v).passEcc = none) (hne : tasksFor s.blk.cyc.tasks (s.v v).dbg.dfur.toNat ≠ [])
    (one : Bool) :
    ∃ y, s.debugStart v one = s.setV v y ∧ y.dbg.started = true ∧ y.dbg.halted = false ∧ y.dbg.single = one ∧
      y.todo = tasksFor s.blk.cyc.tasks (s.v v).dbg.dfur.toNat ∧ y.lat.passDone = true := by
  have hfull : (tasksFor s.blk.cyc.tasks (s.v v).dbg.dfur.toNat).isEmpty = false := List.isEmpty_eq_false_iff.mpr hne
  unfold State.debugStart
  dsimp only
  rw [hecc]
  exact ⟨_, rfl, congrArg not hfull, hfull, rfl, rfl, rfl⟩

theorem State.debugGo_closed (h : s.blk.cen.debugged.get v = false) (one : Bool) : s.debugGo v one = s :=
  if_pos (by rw [h]; rfl)

theorem State.debugGo_open (h : s.blk.cen.debugged.get v = true) (one : Bool) :
    s.debugGo v one =
      if (s.v v).dbg.started then
        s.modV v (fun x => { x with dbg := { x.dbg with halted := false, single := one, fresh := x.dbg.halted } })
      else s.debugStart v one :=
  if_neg (by rw [h]; exact Bool.false_ne_true)

/-- A halted vertex in a debug furlong runs on. -/
theorem State.debugGo_started (h : s.blk.cen.debugged.get v = true) (hhalt : (s.v v).dbg.halted = true)
    (hst : (s.v v).dbg.started = true) (one : Bool) :
    s.debugGo v one =
      s.setV v { s.v v with dbg := { (s.v v).dbg with halted := false, single := one, fresh := true } } := by
  rw [State.debugGo_open h, if_pos hst, State.modV, hhalt]

end

/-! ### The accesses of the K3M -/

section
variable {s : State}

theorem State.k3mWriteFails_of {a : Nat} (h : a % 4 ≠ 0 ∨ s.k3mRead a = none) : s.k3mWriteFails a = true := by
  rw [State.k3mWriteFails]
  rcases h with h | h
  · rw [bne_iff_ne.mpr h]; rfl
  · rw [h]; simp

/-- The host window is listed, and no bank of it is read-only. -/
theorem State.k3mWriteFails_window {a : Nat} (hal : a % 4 = 0) (hlo : 0x41000000 ≤ a) (hhi : a < 0x41010000) :
    s.k3mWriteFails a = false := by
  have hread : (s.k3mRead a).isNone = false := by
    rw [State.k3mRead, if_neg (by omega), if_pos ⟨hlo, hhi⟩]; rfl
  rw [State.k3mWriteFails, hread, hal, decide_eq_false (show ¬ a < 0x40000000 by omega),
    decide_eq_false (show ¬ a < 0x40001000 by omega)]
  simp

theorem State.k3mWrite_window {a : Nat} (hal : a % 4 = 0) (hlo : 0x41000000 ≤ a) (hhi : a < 0x41010000)
    (hsoft : s.shEcc.soft = []) (val : Word) :
    s.k3mWrite a val =
      { s with hwin := { s.hwin with mem := Memory.store s.hwin.mem (a - 0x41000000) 4 val.toNat } } := by
  rw [State.k3mWrite, if_neg (not_not.mpr hal), if_pos ⟨hlo, hhi⟩, State.windowStore, State.scrubShared_eq hsoft]

/-- The address of DMD of the debug channel of vertex `v`. -/
def dmdAddr (v : Vtx) : Word := BitVec.ofNat 32 (0x40004094 + 256 * v.num)

theorem k3mRead_dmd (v : Vtx) : ((dmdAddr v).toNat % 4 != 0 || (s.k3mRead (dmdAddr v).toNat).isNone) = false := by
  cases v <;> rfl

theorem afterK3mRead_dmd (v : Vtx) : s.afterK3mRead (dmdAddr v).toNat =
    if s.blk.cen.debugged.get v then s.modV v (fun x => { x with dbg := { x.dbg with dma := x.dbg.dma + 4 } }) else s := by
  cases v <;> rfl

theorem exec_k3mReads_dmd (v : Vtx) (val : Word) : exec (.registerWrite .k3mReads (dmdAddr v) val) s =
    .next (if s.blk.cen.debugged.get v then s.modV v (fun x => { x with dbg := { x.dbg with dma := x.dbg.dma + 4 } }) else s) := by
  change ok (if _ then _ else _) = _
  rw [k3mRead_dmd, afterK3mRead_dmd]
  rfl

end

/-- Settles O53: a register row changes its fields alone, an unlisted address traps or ends with a bus error, and the debug channel
reaches the vertex whose session is open. -/
theorem vertexRegistersAreWritten : Obligations.VertexRegistersAreWritten := by
  intro v val s x
  refine ⟨rfl, rfl, fun a ha => ⟨fun hs ht hd htraps => ?traps, fun hs ht hd => ?nothing⟩, fun a ha => ⟨?busWrite, ?busRead⟩,
    fun a hal hlo hhi hsoft => ?window, fun k => rfl, fun hpass => ?lat, rfl, rfl, fun hopen hhalt hst => ⟨?run, ?step⟩,
    fun hidle => ?idle, fun hclosed => ?closed, ⟨fun hopen => ?dmd, fun hclosed => ?dmdClosed⟩,
    fun hopen hst hecc hne => ?begin, fun hopen hhalt hst hecc hne => ?beginRun⟩
  case traps =>
    refine ⟨_, (exec_registerWrite_unlisted ha val).trans (congrArg Host.Outcome.next (if_pos (by rw [hs]; rfl))),
      State.raiseTrap_stops hd hs ht htraps .access 0 a.toNat x.core.pc x.core.count, fun hroom => ?_⟩
    exact State.recs_raiseTrap_access hd hs ht htraps hroom a.toNat x.core.pc x.core.count
  case nothing =>
    refine (exec_registerWrite_unlisted ha val).trans (congrArg Host.Outcome.next (if_neg ?_))
    rw [hs, ht, hd]
    exact Bool.false_ne_true
  case busWrite => exact congrArg Host.Outcome.next (if_pos (State.k3mWriteFails_of ha))
  case busRead =>
    refine congrArg Host.Outcome.next (if_pos ?_)
    rcases ha with ha | ha
    · rw [bne_iff_ne.mpr ha]; rfl
    · rw [ha]; exact Bool.or_true _
  case window =>
    refine congrArg Host.Outcome.next ((if_neg ?_).trans (State.k3mWrite_window hal hlo hhi hsoft val))
    rw [State.k3mWriteFails_window hal hlo hhi]
    exact Bool.false_ne_true
  case lat => exact congrArg (fun y => Host.Outcome.next (s.setV v y)) (if_pos hpass)
  case run =>
    exact congrArg Host.Outcome.next ((if_pos hhalt).trans (State.debugGo_started hopen hhalt hst false))
  case step => exact congrArg Host.Outcome.next (State.debugGo_started hopen hhalt hst true)
  case idle =>
    refine congrArg Host.Outcome.next ?_
    split
    next hhalt => exact State.debugGo_closed (hidle.resolve_left (ne_false_of_eq_true hhalt)) false
    next => rfl
  case closed => exact congrArg Host.Outcome.next (State.debugGo_closed hclosed true)
  case dmd => exact (exec_k3mReads_dmd v val).trans (congrArg Host.Outcome.next (if_pos hopen))
  case dmdClosed => exact (exec_k3mReads_dmd v val).trans (congrArg Host.Outcome.next (if_neg (ne_true_of_eq_false hclosed)))
  case begin =>
    obtain ⟨y, hy, hstart, hhalted, hsingle, htodo, hpass⟩ := State.debugStart_of (s := s) hecc hne true
    have hgo := ((State.debugGo_open hopen true).trans (if_neg (ne_true_of_eq_false hst))).trans hy
    refine ⟨_, congrArg Host.Outcome.next hgo, ?_⟩
    rw [State.v_setV]
    exact ⟨hstart, hhalted, hsingle, htodo, hpass, rfl⟩
  case beginRun =>
    obtain ⟨y, hy, hstart, hhalted, -, htodo, hpass⟩ := State.debugStart_of (s := s) hecc hne false
    have hgo := ((State.debugGo_open hopen false).trans (if_neg (ne_true_of_eq_false hst))).trans hy
    refine ⟨_, congrArg Host.Outcome.next ((if_pos hhalt).trans hgo), ?_⟩
    rw [State.v_setV]
    exact ⟨hstart, hhalted, htodo, hpass, rfl⟩

end Sys2Proof.Machine

/-! PROOFS. What the work of a furlong boundary leaves of the furlong that is open: its number, whether boundaries are raised, and
how far its phase 2 has come. -/

namespace Sys2Proof.Machine

theorem opened_foldl {α : Type} {f : State → α → State} (h : ∀ s a, (f s a).opened = s.opened) (l : List α) (s : State) :
    (l.foldl f s).opened = s.opened := by
  induction l generalizing s with
  | nil => rfl
  | cons a l ih => exact (ih _).trans (h s a)

section
variable (s : State)

/-! ### The operations of the state -/

@[simp] theorem State.modAll_opened (f : Vtx → Vertex → Vertex) : (s.modAll f).opened = s.opened := rfl
@[simp] theorem State.setV_opened (v : Vtx) (x : Vertex) : (s.setV v x).opened = s.opened := rfl
@[simp] theorem State.modV_opened (v : Vtx) (f : Vertex → Vertex) : (s.modV v f).opened = s.opened := rfl
@[simp] theorem State.modCen_opened (f : Cen → Cen) : (s.modCen f).opened = s.opened := rfl
@[simp] theorem State.modNic_opened (f : Nic → Nic) : (s.modNic f).opened = s.opened := rfl
@[simp] theorem State.modNtm_opened (f : Ntm → Ntm) : (s.modNtm f).opened = s.opened := rfl
@[simp] theorem State.modSio_opened (f : Sio → Sio) : (s.modSio f).opened = s.opened := rfl
@[simp] theorem State.modChd_opened (f : Chd → Chd) : (s.modChd f).opened = s.opened := rfl
@[simp] theorem State.modPair_opened (f : PairSt2 → PairSt2) : (s.modPair f).opened = s.opened := rfl
@[simp] theorem State.modUpd_opened (f : Update → Update) : (s.modUpd f).opened = s.opened := rfl
@[simp] theorem State.modSeals_opened (f : Seals → Seals) : (s.modSeals f).opened = s.opened := rfl
@[simp] theorem State.modRejoin_opened (f : Rejoin → Rejoin) : (s.modRejoin f).opened = s.opened := rfl
@[simp] theorem State.recBody_opened (t : RecType) (body : List Byte) : (s.recBody t body).opened = s.opened := rfl
@[simp] theorem State.record_opened (t : RecType) (a1 a2 a3 : Nat) : (s.record t a1 a2 a3).opened = s.opened := rfl

theorem State.setMode_opened (m : Mode) (c : MCause) : (s.setMode m c).opened = s.opened :=
  congrArg Kept.opened (s.setMode_kept m c)

theorem State.halt_opened (c : MCause) : (s.halt c).opened = s.opened := congrArg Kept.opened (s.halt_kept c)

theorem State.selfFault_opened (v : Vtx) (c : XCause) : (s.selfFault v c).opened = s.opened :=
  congrArg Kept.opened (s.selfFault_kept v c)

theorem State.eccTrap_opened (v : Vtx) (a : Nat) : (s.eccTrap v a).opened = s.opened :=
  congrArg Kept.opened (s.eccTrap_kept v a)

theorem State.rejoinFail_opened (reason : Nat) : (s.rejoinFail reason).opened = s.opened :=
  congrArg Kept.opened (s.rejoinFail_kept reason)

theorem State.outputsMode_opened : s.outputsMode.opened = s.opened := congrArg Kept.opened s.outputsMode_kept

theorem State.modRunning_opened (v : Vtx) (f : Vertex → Vertex) : (s.modRunning v f).opened = s.opened := by
  unfold State.modRunning
  split <;> rfl

theorem State.endDebug_kept (v : Vtx) : (s.endDebug v).kept = s.kept := by
  unfold State.endDebug
  split
  · rw [State.modCen_kept _ rfl, State.modV_kept _ fun _ => by rfl, State.record_kept]
  · rfl

theorem State.endDebugs_kept : s.endDebugs.kept = s.kept := kept_foldl State.endDebug_kept _ s

/-! ### Stores of phase 0 -/

theorem State.closeFull_opened (v : Vtx) : (s.closeFull v).opened = s.opened := by
  unfold State.closeFull
  dsimp only
  split
  · rfl
  · split <;> rfl

theorem State.phase0Store_opened (v : Vtx) (n a val : Nat) : (s.phase0Store v n a val).opened = s.opened :=
  State.closeFull_opened _ v

theorem State.setStore_opened (v : Vtx) (n a val : Nat) : (s.setStore v n a val).opened = s.opened := by
  unfold State.setStore
  split
  · rfl
  · split
    · exact s.eccTrap_opened v a
    · exact State.phase0Store_opened _ v n a val

/-! ### Staging areas -/

theorem State.setArea_opened (n : Nat) (g : Stg) (b : List Byte) : (s.setArea n g b).opened = s.opened :=
  match n with
  | 0 => rfl
  | 1 => rfl
  | _ + 2 => rfl

theorem State.clearArea_opened (n : Nat) : (s.clearArea n).opened = s.opened := by
  unfold State.clearArea
  dsimp only
  split <;> exact s.setArea_opened n ⟨0, 0⟩ []

theorem State.discard_opened (n why : Nat) : (s.discard n why).opened = s.opened := by
  refine (State.clearArea_opened _ n).trans ?_
  split <;> rfl

theorem State.copyOne_opened (n : Nat) (v : Vtx) (b : List Byte) : (s.copyOne n v b).opened = s.opened :=
  opened_foldl (fun t _ => t.phase0Store_opened v 8 _ _) _ s

theorem State.opened_stageCopy (l : List (Nat × Tri (List Byte))) : ({ s with stageCopy := l } : State).opened = s.opened := rfl

theorem State.makeCopies_opened : s.makeCopies.opened = s.opened := by
  rw [State.makeCopies, State.opened_stageCopy]
  refine opened_foldl (fun t c => ?_) _ s
  exact opened_foldl (fun w v => w.copyOne_opened c.1 v (c.2.get v)) _ t

theorem State.tuneStore_opened (v : Vtx) (k : Nat) (d : Tunable) (val : Nat) : (s.tuneStore v k d val).opened = s.opened :=
  (State.modRunning_opened _ v _).trans (s.setStore_opened v _ _ _)

theorem State.tuneOne_opened (h : AppHeader) (v : Vtx) : (s.tuneOne h v).opened = s.opened :=
  (State.modRunning_opened _ v _).trans (opened_foldl (fun t i => t.tuneStore_opened v i.item (tunableOf h i) i.value) _ s)

theorem State.applyPatch_opened (h : AppHeader) (b : List Byte) : (s.applyPatch h b).opened = s.opened :=
  (State.clearArea_opened _ 0).trans (opened_foldl (fun t v => t.tuneOne_opened h v) _ s)

theorem State.patchDue_opened : s.patchDue.opened = s.opened := by
  unfold State.patchDue
  split
  · rfl
  · split
    · exact s.discard_opened 0 _
    · split
      · exact s.discard_opened 0 _
      · split
        · rfl
        · split
          · exact State.clearArea_opened _ 0
          · exact s.applyPatch_opened _ _

theorem State.ioClearIf_opened (set : Bool) (group kind chan : Nat) :
    (if set then s.ioClear group kind chan 0 else s).opened = s.opened := by
  split <;> rfl

theorem State.renewClears_opened (p : IoParams) : (s.renewClears p).opened = s.opened :=
  opened_foldl (fun t _ => (opened_foldl (fun u _ =>
    (State.ioClearIf_opened _ _ _ _ _).trans ((State.ioClearIf_opened _ _ _ _ _).trans (u.ioClearIf_opened _ _ _ _))) _ _).trans
    (t.ioClearIf_opened _ _ _ _)) _ s

theorem State.ioDue_opened : s.ioDue.opened = s.opened := by
  unfold State.ioDue
  split
  · rfl
  · split
    · exact s.discard_opened 1 _
    · split
      · exact s.discard_opened 1 _
      · split
        · rfl
        · split
          · exact State.clearArea_opened _ 1
          · rw [State.clearArea_opened, State.record_opened, State.drive, State.modSio_opened, State.modSio_opened,
              State.renewClears_opened]

theorem State.patchBoundary_opened (applied : Bool) (before : Mode) : (s.patchBoundary applied before).opened = s.opened := by
  unfold State.patchBoundary
  split
  · exact s.clearArea_opened 0
  · exact s.patchDue_opened

/-! ### The set of the partner -/

theorem State.applyTuning_opened (v : Vtx) (b : List Byte) (l : List Tunable) : (s.applyTuning v b l).opened = s.opened := by
  refine (State.modRunning_opened _ v _).trans (opened_foldl (fun t d => ?_) _ s)
  dsimp only
  split
  · rfl
  · exact (State.modRunning_opened _ v _).trans (t.setStore_opened v _ _ _)

theorem State.streamStaging_opened (v : Vtx) (g : List Byte) : (s.streamStaging v g).opened = s.opened := by
  have hput : ∀ (u : State) (area base at_ n : Nat), ((List.range (n / 8)).foldl (fun w i =>
      w.phase0Store v 8 (Config.stageAddr area (at_ - base + 8 * i)) (leAt g (at_ + 8 * i) 8)) u).opened = u.opened :=
    fun u area base at_ n => opened_foldl (fun w _ => w.phase0Store_opened v 8 _ _) _ u
  exact (hput _ _ _ _ _).trans ((hput _ _ _ _ _).trans ((hput _ _ _ _ _).trans (hput s _ _ _ _)))

theorem State.writeLattice_opened (v : Vtx) (b : List Byte) : (s.writeLattice v b).opened = s.opened :=
  (opened_foldl (fun u _ => u.phase0Store_opened v 4 _ _) _ _).trans
    (opened_foldl (fun u _ => (State.phase0Store_opened _ v 8 _ _).trans (u.phase0Store_opened v 8 _ _)) _ _)

theorem State.applyLattice_opened (v : Vtx) (b : List Byte) : (s.applyLattice v b).opened = s.opened := by
  unfold State.applyLattice
  dsimp only
  split
  · rfl
  · split
    · exact s.eccTrap_opened v _
    · exact State.writeLattice_opened _ v b

theorem State.applyRegions_opened (v : Vtx) (l : List (Nat × Nat)) (b : List Byte) : (s.applyRegions v l b).opened = s.opened := by
  induction l generalizing s b with
  | nil => rfl
  | cons p l ih => exact (ih _ _).trans (opened_foldl (fun u _ => u.setStore_opened v 8 _ _) _ s)

theorem State.applySet_opened (v : Vtx) : (s.applySet v).opened = s.opened :=
  (State.applyRegions_opened _ v _ _).trans ((State.applyLattice_opened _ v _).trans ((State.modRunning_opened _ v _).trans
    ((State.streamStaging_opened _ v _).trans (s.applyTuning_opened v _ _))))

theorem State.takeStaging_opened (b : List Byte) : (s.takeStaging b).opened = s.opened :=
  (State.setArea_opened _ 2 _ _).trans (State.setArea_opened _ 0 _ _)

theorem State.applyAll_opened (r : RxSet) : (s.applyAll r).opened = s.opened := by
  unfold State.applyAll
  dsimp only
  rw [State.modChd_opened, State.takeStaging_opened, opened_foldl State.applySet_opened, State.modAll_opened]
  refine opened_foldl (fun u v => ?_) _ s
  split
  · exact u.eccTrap_opened v _
  · rfl

theorem State.setAtBoundary_opened (f : Nat) : (s.setAtBoundary f).1.opened = s.opened := by
  unfold State.setAtBoundary
  split
  · rfl
  · dsimp only
    split
    · split
      · exact State.applyAll_opened _ _
      · rfl
    · split <;> rfl

/-! ### Readings -/

theorem State.readPosition_opened (j : Tri J6Sample) : (s.readPosition j).opened = s.opened := by
  refine opened_foldl (fun t v => ?_) _ _
  split <;> rfl

theorem Cyc.fnum_setSw (c : Cyc) (k : Nat) (b : Bool) : (c.setSw k b).fnum = c.fnum :=
  match k with
  | 0 => rfl
  | 1 => rfl
  | 2 => rfl
  | _ + 3 => rfl

theorem State.sealChange_opened (k : Nat) : (s.sealChange k).opened = s.opened := by
  unfold State.sealChange
  split
  · split
    · rw [State.modSeals_opened]
      exact congrArg Kept.opened (s.modCyc_kept (f := fun c => c.setSw k _) (Cyc.fnum_setSw _ k _))
    · rfl
  · rfl

theorem State.sealDisagree_opened (k : Nat) : (s.sealDisagree k).opened = s.opened := by
  unfold State.sealDisagree
  split <;> rfl

theorem State.readSeals_opened (r : Tri (BitVec 4)) : (s.readSeals r).opened = s.opened := by
  refine (opened_foldl (fun w k => (State.sealDisagree_opened _ k).trans (w.sealChange_opened k)) _ _).trans ?_
  have hcount : ((List.range 4).foldl State.countSeal (s.modSeals (fun x => { x with reads := r }))).opened = s.opened :=
    opened_foldl (f := State.countSeal) (fun _ _ => rfl) _ _
  split <;> exact hcount

/-! ### Changes of mode -/

theorem State.dropChange_opened : s.dropChange.opened = s.opened := by
  unfold State.dropChange
  split <;> rfl

theorem State.opened_sequence (x : Start) (n : Nat) : ({ s with start := x, clean := n } : State).opened = s.opened := rfl

theorem State.opened_clean (n : Nat) : ({ s with clean := n } : State).opened = s.opened := rfl

/-- Bus integration is over: the power-on sequence goes on. -/
theorem State.busSequence_opened : (if s.blk.ttb.state = .integrated ∧ s.start.step = 7 then
    { ({ s with start := { s.start with step := 8 } } : State).setMode .isolated .sequence with clean := 0 }
    else s : State).opened = s.opened := by
  split
  · rw [State.opened_clean, State.setMode_opened]
    rfl
  · rfl

theorem State.busBoundary_opened : s.busBoundary.opened = s.opened := by
  refine (State.busSequence_opened _).trans ?_
  split
  · rfl
  · rfl
  · split <;> rfl
  · rfl

theorem State.isolatedDone_opened : s.isolatedDone.opened = s.opened := by
  unfold State.isolatedDone
  split
  · rw [State.opened_sequence, State.setMode_opened]
  · rfl

theorem State.loadInitial_opened : s.loadInitial.opened = s.opened := by
  unfold State.loadInitial
  split
  · rfl
  · exact (State.clearArea_opened _ 2).trans ((State.clearArea_opened _ 1).trans (State.clearArea_opened _ 0))

theorem State.endDebugs_opened : s.endDebugs.opened = s.opened := congrArg Kept.opened s.endDebugs_kept

theorem State.soloStart_opened : s.soloStart.opened = s.opened :=
  (State.loadInitial_opened _).trans ((State.setMode_opened _ _ _).trans s.endDebugs_opened)

theorem State.startRule_opened : s.startRule.opened = s.opened := by
  unfold State.startRule
  dsimp only
  split
  · exact s.soloStart_opened
  · split <;> rfl

theorem State.resyncBoundary_opened (applied : Bool) : (s.resyncBoundary applied).opened = s.opened := by
  unfold State.resyncBoundary
  split
  · exact s.setMode_opened _ _
  · exact s.startRule_opened

theorem State.toStandby_opened (c : MCause) : (s.toStandby c).opened = s.opened := by
  rw [State.toStandby, State.modChd_opened, State.modPair_opened, State.setMode_opened]

theorem State.becomeActive_kept (m : MCause) (cause : Nat) : (s.becomeActive m cause).kept = s.kept := by
  rw [State.becomeActive, State.modPair_kept, State.modChd_kept, State.recBody_kept, State.setMode_kept, State.endDebugs_kept]

theorem State.yieldBoundary_opened : s.yieldBoundary.opened = s.opened := by
  refine (State.dropChange_opened _).trans ((State.toStandby_opened _ _).trans ?_)
  split
  · split <;> rfl
  · rfl

theorem State.pairBoundary_opened : s.pairBoundary.opened = s.opened := by
  unfold State.pairBoundary
  split
  · split
    · exact s.yieldBoundary_opened
    · split
      · split
        · exact s.toStandby_opened _
        · rfl
      · rfl
  · split
    · split
      · exact congrArg Kept.opened (s.becomeActive_kept _ _)
      · rfl
    · rfl

theorem State.ownChange_opened (applied : Bool) : (s.ownChange applied).opened = s.opened := by
  unfold State.ownChange
  split
  · exact s.busBoundary_opened
  · exact s.isolatedDone_opened
  · exact s.resyncBoundary_opened applied
  · exact s.pairBoundary_opened
  · exact s.pairBoundary_opened
  · rfl

theorem State.positionIsolate_opened : s.positionIsolate.opened = s.opened :=
  (State.setMode_opened _ _ _).trans (s.rejoinFail_opened 6)

theorem State.wrongHandover_opened : s.wrongHandover.opened = s.opened := by
  unfold State.wrongHandover
  split
  · split <;> rfl
  · rfl

theorem State.takeoverDue_kept : s.takeoverDue.kept = s.kept := by
  unfold State.takeoverDue
  split
  · rfl
  · split
    · exact s.becomeActive_kept _ _
    · rfl

theorem State.yieldDue_kept : s.yieldDue.kept = s.kept := by
  unfold State.yieldDue
  split <;> rfl

/-! ### Rejoin and withdrawal -/

theorem State.rejoinClear_opened : s.rejoinClear.opened = s.opened := by
  unfold State.rejoinClear
  split <;> rfl

theorem State.rejoinStart_opened : s.rejoinStart.opened = s.opened := by
  unfold State.rejoinStart
  split
  · rfl
  · split
    · rfl
    · exact State.rejoinClear_opened _

theorem State.rejoinEnter_opened (k : Nat) : (s.rejoinEnter k).opened = s.opened := by
  unfold State.rejoinEnter State.rejoinMark
  dsimp only
  split
  · split <;> rfl
  · rfl

theorem State.rejoinLimit_opened : s.rejoinLimit.opened = s.opened := by
  unfold State.rejoinLimit
  dsimp only
  split
  · exact s.rejoinFail_opened 1
  · split
    · exact s.rejoinFail_opened 3
    · rfl

theorem State.rejoinDue_opened (v : Vtx) (gone : Bool) : (
    if s.blk.cen.rejStep = 0 then s
    else if gone then (s.rejoinFail 5).rejoinClear
    else if s.rejoin.stepDue ≠ 0 then s.rejoinEnter s.rejoin.stepDue
    else if s.blk.cen.rejStep = 5 then s.rejoinStep 6
    else if s.blk.cen.rejStep = 6 then s.rejoinStep 7
    else if s.blk.cen.rejStep = 7 then (if s.keyBack v then (s.readmit v).rejoinClear else s.rejoinCount)
    else s.rejoinLimit.rejoinClear : State).opened = s.opened := by
  repeat' split
  · rfl
  · rw [State.rejoinClear_opened, State.rejoinFail_opened]
  · exact s.rejoinEnter_opened _
  · rfl
  · rfl
  · exact State.rejoinClear_opened _
  · rfl
  · rw [State.rejoinClear_opened, State.rejoinLimit_opened]

theorem State.rejoinBoundary_opened : s.rejoinBoundary.opened = s.opened := by
  unfold State.rejoinBoundary
  dsimp only
  generalize hs : s.modRejoin _ = t
  have ht : t.opened = s.opened := by rw [← hs, State.modRejoin_opened]
  rw [← ht]
  cases t.blk.cen.rejVtx with
  | none => exact t.rejoinClear_opened
  | some v => exact t.rejoinDue_opened v _

theorem State.judgePosition_opened : s.judgePosition.opened = s.opened := by
  unfold State.judgePosition
  split <;> rfl

theorem State.withdrawBoundary_opened : s.withdrawBoundary.opened = s.opened := by
  unfold State.withdrawBoundary
  split
  · rfl
  · split
    · rfl
    · split
      · rfl
      · split <;> rfl

/-! ### The clocks -/

theorem State.superviseClocks_opened (n : Tri Nat) : (s.superviseClocks n).opened = s.opened := by
  unfold State.superviseClocks
  dsimp only
  split
  · exact s.halt_opened _
  · refine opened_foldl (fun t v => ?_) _ s
    split
    · rfl
    · exact t.selfFault_opened v _

/-! ### Phase 0 after the staged sets -/

theorem State.homeSeconds_opened (formed applied : Bool) : (s.homeSeconds formed applied).opened = s.opened := by
  unfold State.homeSeconds
  dsimp only
  split
  · rfl
  · split <;> rfl

theorem State.homeReturn_opened : s.homeReturn.opened = s.opened := by
  unfold State.homeReturn
  split
  · rfl
  · split <;> rfl

theorem State.ptbBoundary_opened : s.ptbBoundary.opened = s.opened := by
  unfold State.ptbBoundary
  split
  · exact congrArg Kept.opened s.ptbClear_kept
  · dsimp only
    split <;> split <;> rfl

theorem State.serviceRequest_opened (p : Nat → Bool) : (s.serviceRequest p).opened = s.opened := by
  refine opened_foldl (fun t r => ?_) _ s
  rfl

/-- The safe I/O chip takes the mode that it has missed. -/
theorem State.missedMode_opened : (if s.blk.sio.mode = s.mode then s else s.outputsMode).opened = s.opened := by
  split
  · rfl
  · exact s.outputsMode_opened

theorem State.boundaryLinks_opened (good : Tri Bool) : (s.boundaryLinks good).opened = s.opened :=
  (State.missedMode_opened _).trans (s.modSio_opened _)

theorem State.supplyWarnRec_opened (volt : Nat) : (s.supplyWarnRec volt).opened = s.opened := by
  unfold State.supplyWarnRec
  split <;> rfl

theorem State.boundarySupply_opened (b : BoundaryIn) : (s.boundarySupply b).opened = s.opened := by
  unfold State.boundarySupply
  dsimp only
  rw [State.modSio_opened]
  split
  · rw [State.serviceRequest_opened, State.supplyWarnRec_opened, State.boundaryLinks_opened]
  · exact s.boundaryLinks_opened _

theorem State.freezeSlot_opened (n : Nat) (b : Binding) (l : List (Nat × SlotDesc)) : (s.freezeSlot n b l).opened = s.opened := by
  unfold State.freezeSlot
  dsimp only
  split
  · rfl
  · split <;> rfl

theorem State.freezeBinding_opened (h : AppHeader) (good : Tri Bool) (n : Nat) (b : Binding) :
    (s.freezeBinding h good n b).opened = s.opened := by
  unfold State.freezeBinding
  split
  · rfl
  · split
    · rfl
    · split
      · split
        · rfl
        · split
          · rfl
          · exact s.freezeSlot_opened _ _ _
      · rfl

theorem State.freezeInputs_opened (tasks : List Nat) (good : Tri Bool) : (s.freezeInputs tasks good).opened = s.opened := by
  unfold State.freezeInputs
  split
  · rfl
  · refine opened_foldl (fun u q => ?_) _ s
    obtain ⟨b, n⟩ := q
    exact u.freezeBinding_opened _ good n b

theorem State.release_opened (good : Tri Bool) : (s.release good).opened = s.opened := by
  unfold State.release
  split
  · rfl
  · exact State.freezeInputs_opened _ _ _

theorem State.boundaryFields_opened : s.boundaryFields.opened = s.opened := by
  unfold State.boundaryFields
  dsimp only
  rw [State.modNic_opened, State.modChd_opened, State.modNtm_opened]
  split <;> rfl

/-! ### Commands -/

theorem takeIf_opened {good : Bool} {r : Res} {t : State} (h : t.opened = s.opened) : (takeIf good r s t).2.opened = s.opened := by
  unfold takeIf
  split
  · exact h
  · rfl

theorem State.takeDebug_opened (v : Vtx) (ends : Bool) : (s.takeDebug v ends).2.opened = s.opened := by
  refine takeIf_opened s ?_
  split
  · exact congrArg Kept.opened (s.endDebug_kept v)
  · split <;> rfl

theorem State.stagePatch_opened : s.stagePatch.2.opened = s.opened := by
  unfold State.stagePatch
  dsimp only
  split
  · rfl
  · split
    · rfl
    · split
      · rfl
      · split
        · rfl
        · split
          · rfl
          · exact State.setArea_opened _ _ _ _

theorem State.stageIo_opened : s.stageIo.2.opened = s.opened := by
  unfold State.stageIo
  dsimp only
  split
  · rfl
  · split
    · rfl
    · split
      · rfl
      · split
        · rfl
        · exact State.setArea_opened _ _ _ _

theorem State.takeSchedule_opened : s.takeSchedule.2.opened = s.opened := by
  unfold State.takeSchedule
  dsimp only
  repeat' split
  all_goals rfl

theorem State.runCmd_opened (c : Cmd) (arg : Nat) (w : Word) : (s.runCmd c arg w).2.opened = s.opened :=
  match c with
  | .restart => rfl
  | .enterMaint => takeIf_opened s rfl
  | .endMaint => takeIf_opened s rfl
  | .withdraw => takeIf_opened s rfl
  | .debug => s.takeDebug_opened _ _
  | .rejoin => takeIf_opened s rfl
  | .handover => takeIf_opened s rfl
  | .stage => by
    unfold State.runCmd
    dsimp only
    split
    · exact s.stagePatch_opened
    · exact s.stageIo_opened
  | .scheduleAct => s.takeSchedule_opened
  | .confirm => takeIf_opened s rfl
  | .cancelStage => takeIf_opened s (s.discard_opened _ _)
  | .fuseBurn => takeIf_opened s rfl

theorem State.checkCmd_opened (w : Word) : (s.checkCmd w).2.opened = s.opened := by
  unfold State.checkCmd
  split
  · rfl
  · split
    · rfl
    · split
      · rfl
      · split
        · rfl
        · exact s.runCmd_opened _ _ _

end

end Sys2Proof.Machine

/-! PROOFS. O21: the furlong boundary opens its furlong, or restarts the module. -/

namespace Sys2Proof.Machine

/-! ### A furlong that stands unless the module restarts -/

/-- The furlong that is open in `s` is open in `t` too, or the module has restarted with the same furlong number. -/
def State.Stays (s t : State) : Prop := t.opened = s.opened ∨ t.fnum = s.fnum ∧ t.inReset = true

section
variable {s t u : State}

theorem State.Stays.trans (h : s.Stays t) (h' : t.Stays u) : s.Stays u := by
  rcases h' with h' | ⟨hf, hr⟩
  · rcases h with h | ⟨hf, hr⟩
    · exact .inl (h'.trans h)
    · exact .inr ⟨(congrArg Opened.fnum h').trans hf, (congrArg Opened.inReset h').trans hr⟩
  · rcases h with h | ⟨hf', -⟩
    · exact .inr ⟨hf.trans (congrArg Opened.fnum h), hr⟩
    · exact .inr ⟨hf.trans hf', hr⟩

theorem State.Stays.of_opened (h : s.Stays t) (h' : u.opened = t.opened) : s.Stays u := h.trans (.inl h')

theorem State.Stays.fnum (h : s.Stays t) : t.fnum = s.fnum := by
  rcases h with h | ⟨hf, -⟩
  · exact congrArg Opened.fnum h
  · exact hf

/-- Outside reset the furlong is the one that was open. -/
theorem State.Stays.opened (h : s.Stays t) (hr : t.inReset = false) : t.opened = s.opened :=
  h.resolve_right fun ⟨_, hr'⟩ => Bool.false_ne_true (hr.symm.trans hr')

end

/-! ### The restart -/

section
variable (s : State)

theorem State.staleList_opened : s.staleList.opened = s.opened := by
  unfold State.staleList
  split
  · rfl
  · exact s.discard_opened 0 _

theorem State.localCleared_opened : s.localCleared.opened = s.opened := by
  unfold State.localCleared
  split
  · exact State.staleList_opened _
  · rfl

theorem State.recRec_opened (t : RecType) (a1 a2 a3 : Nat) : (s.recRec t a1 a2 a3).opened = s.opened := by
  rw [State.recRec, State.k3mRec_eq]
  rfl

theorem State.takeRecords_opened : s.takeRecords.opened = s.opened := by
  unfold State.takeRecords
  dsimp only
  split
  · rw [State.recRec_opened]
    rfl
  · rfl

theorem State.deliver_opened (f start : Nat) : (s.deliver f start).opened = s.opened := rfl

theorem State.opened_k3m (k : K3m) : ({ s with k3m := k } : State).opened = s.opened := rfl

theorem State.lastDelivery_opened : s.lastDelivery.opened = s.opened := by
  unfold State.lastDelivery
  split
  · rfl
  · dsimp only
    rw [State.opened_k3m, State.takeRecords_opened, State.deliver_opened]
    split
    · exact s.takeRecords_opened
    · rfl

theorem State.enterReset_fnum : s.enterReset.fnum = s.fnum := rfl

/-- A restart keeps the furlong number and puts the module into reset. -/
theorem State.restart_stays : s.Stays s.restart := by
  refine .inr ⟨?_, (State.restart_rest s).2.1⟩
  have hopened : (((s.keepWithdrawn.endDebugs).localCleared).setMode .start .restartCmd).lastDelivery.opened = s.opened := by
    rw [State.lastDelivery_opened, State.setMode_opened, State.localCleared_opened, State.endDebugs_opened]
    rfl
  exact (State.enterReset_fnum _).trans (congrArg Opened.fnum hopened)

/-! ### The steps of phase 0 that may restart the module -/

/-- A commanded change that is legal is made. -/
theorem State.changeMade_stays (legal : Bool) (m : Mode) (c : MCause) :
    s.Stays (if !legal then s.dropChange
      else if m = .start then ({ s with change := none } : State).restart
      else ({ s with change := none } : State).setMode m c) := by
  have hclear : s.Stays { s with change := none } := .inl rfl
  split
  · exact .inl s.dropChange_opened
  · generalize ({ s with change := none } : State) = t at hclear
    split
    · exact hclear.trans t.restart_stays
    · exact hclear.of_opened (t.setMode_opened m c)

theorem State.commandedChange_stays : s.Stays s.commandedChange := by
  unfold State.commandedChange
  split
  · exact .inl rfl
  · exact s.changeMade_stays _ _ _

/-- What was judged for this boundary is done with. -/
theorem State.Stays.settled {s t : State} (h : s.Stays t) :
    s.Stays { t with faultChange := none, cleanDue := false, startDue := none } := h.of_opened rfl

theorem State.boundaryModes_stays (applied halted : Bool) : s.Stays (s.boundaryModes applied halted) := by
  refine State.Stays.settled ?_
  split
  · split
    · exact .inl ((State.dropChange_opened _).trans s.positionIsolate_opened)
    · exact s.commandedChange_stays
  · split
    · exact .inl s.dropChange_opened
    · exact State.Stays.trans (.inl (s.ownChange_opened applied)) (State.commandedChange_stays _)

theorem State.activationDue_stays : s.Stays s.activationDue := by
  unfold State.activationDue
  split
  · exact .inl rfl
  · split
    · exact .inl (s.discard_opened 2 _)
    · split
      · exact .inl (s.discard_opened 2 _)
      · split
        · exact .inl (s.discard_opened 2 _)
        · dsimp only
          refine State.Stays.trans (.inl ?_) (State.restart_stays _)
          rw [State.modUpd_opened, State.modPair_opened, State.clearArea_opened, State.staleList_opened]
          split
          · exact congrArg Kept.opened s.abdicate_kept
          · rfl

theorem State.stagedBoundary_stays (applied : Bool) (before : Mode) : s.Stays (s.stagedBoundary applied before) :=
  State.Stays.trans (.inl ((State.patchBoundary_opened _ applied before).trans
    ((State.ioDue_opened _).trans s.makeCopies_opened))) (State.activationDue_stays _)

theorem State.restartIf_stays (b : Bool) : s.Stays (if b then s.restart else s) := by
  split
  · exact s.restart_stays
  · exact .inl rfl

theorem State.answered_opened (w : Word) (r : Res) : (s.answered w r).opened = s.opened := rfl

theorem State.finishCmd_stays (q : Taken) (w : Word) : q.2.Stays (State.finishCmd q w) :=
  State.Stays.trans (t := q.2.answered w q.1) (.inl (State.answered_opened _ w _)) (State.restartIf_stays _ _)

/-- A word of the mailbox is recorded, turned away or checked. -/
theorem State.firmwareWord_stays (second other : Bool) (w : Word) :
    s.Stays (if second then s.cmdRec w .badParam else if other then State.finishCmd (.wrongMode, s) w
      else State.finishCmd (s.checkCmd w) w) := by
  split
  · exact .inl rfl
  · split
    · exact State.finishCmd_stays (.wrongMode, s) w
    · exact State.Stays.trans (.inl (s.checkCmd_opened w)) (State.finishCmd_stays _ w)

theorem State.takeFirmware_stays (w : Word) : s.Stays (s.takeFirmware w) := s.firmwareWord_stays _ _ w

theorem State.firmware_stays : s.Stays s.firmware := by
  unfold State.firmware
  dsimp only
  repeat' split
  · exact .inl rfl
  · exact .inl rfl
  · exact .inl rfl
  · exact .inl rfl
  · exact .inl rfl
  · exact State.takeFirmware_stays { s with fwHash := s.blk.mbx.item.mseq.toNat } _

/-! ### Phase 0 -/

/-- Phase 0 from the firmware to the latch of the register blocks. -/
def State.afterFirmware (s : State) (b : BoundaryIn) : State :=
  (((s.ptbBoundary.marchRequests.modBst Bst.atBoundary).boundarySupply b).release b.siOk).boundaryFields

theorem State.marchRequests_opened : s.marchRequests.opened = s.opened := rfl

theorem State.modBst_opened (f : Bst → Bst) : (s.modBst f).opened = s.opened := rfl

theorem State.afterFirmware_opened (b : BoundaryIn) : (s.afterFirmware b).opened = s.opened := by
  rw [State.afterFirmware, State.boundaryFields_opened, State.release_opened, State.boundarySupply_opened, State.modBst_opened,
    State.marchRequests_opened, State.ptbBoundary_opened]

/-- Phase 0 up to the latch of the register blocks. -/
def State.beforeLatch (s : State) (b : BoundaryIn) : State :=
  ((s.homeReturn.mailboxCopy.k3mLive s.fnum).firmware).afterFirmware b

theorem State.phaseZeroEnd_eq (b : BoundaryIn) : s.phaseZeroEnd b = (s.beforeLatch b).latch.clearHeard := rfl

theorem State.mailbox_opened (g : Nat) : (s.mailboxCopy.k3mLive g).opened = s.opened := rfl

theorem State.beforeLatch_stays (b : BoundaryIn) : s.Stays (s.beforeLatch b) :=
  (State.Stays.trans (.inl ((State.mailbox_opened _ _).trans s.homeReturn_opened)) (State.firmware_stays _)).of_opened
    (State.afterFirmware_opened _ b)

theorem State.latched_opened : s.latch.clearHeard.opened = s.opened := rfl

/-- Phase 0 ends in reset, or with the latch. -/
theorem State.phaseZero_ends (b : BoundaryIn) (formed : Bool) (before : Mode) :
    s.Stays (s.phaseZero b formed before) ∧
      ((s.phaseZero b formed before).inReset = true ∨ ∃ y : State, s.phaseZero b formed before = y.latch.clearHeard) := by
  have hread : ((s.readPosition b.j6).readSeals b.seals).opened = s.opened :=
    (State.readSeals_opened _ b.seals).trans (s.readPosition_opened b.j6)
  unfold State.phaseZero
  dsimp only
  generalize hq : ((s.readPosition b.j6).readSeals b.seals).setAtBoundary (s.fnum - 1) = q
  have hset : q.1.opened = s.opened := by rw [← hq, State.setAtBoundary_opened, hread]
  generalize hu : ((q.1.boundaryModes q.2 (q.1.mode == .halt && before != .halt)).wrongHandover).rejoinStart = u
  have hmodes : s.Stays u := by
    rw [← hu]
    exact (State.Stays.trans (.inl hset) (q.1.boundaryModes_stays q.2 _)).of_opened
      ((State.rejoinStart_opened _).trans (State.wrongHandover_opened _))
  split
  next hr => exact ⟨hmodes, .inl hr⟩
  next =>
    generalize hw : (u.judgePosition.withdrawBoundary).stagedBoundary q.2 before = w
    have hstaged : s.Stays w := by
      rw [← hw]
      exact (hmodes.of_opened ((State.withdrawBoundary_opened _).trans u.judgePosition_opened)).trans
        (State.stagedBoundary_stays _ q.2 before)
    split
    next hr => exact ⟨hstaged, .inl hr⟩
    next =>
      rw [State.phaseZeroEnd_eq]
      exact ⟨((hstaged.of_opened (w.homeSeconds_opened formed q.2)).trans (State.beforeLatch_stays _ b)).of_opened (State.latched_opened _),
        .inr ⟨_, rfl⟩⟩

/-! ### The boundary -/

/-- The furlong number stands in what the vertices in service latch. -/
theorem State.view_latch {v : Vtx} (h : s.latch.clearHeard.inService v = true) :
    (s.latch.clearHeard.view.get v).cyc.fnum = s.latch.clearHeard.fnum := by
  have hserve : (s.inService v || s.trial v) = true := by rw [show s.inService v = true from h]; rfl
  have hview : s.latch.clearHeard.view.get v = s.latchOf v := by
    refine (Tri.get_mapv _ _ _).trans ?_
    rw [if_pos hserve]
  rw [hview]
  rfl

/-- The state in which the boundary opens furlong `f`, before phase 0. -/
def State.atOpening (s : State) (b : BoundaryIn) (f : Nat) : State :=
  let t := (s.closeWindows.countClean.flushWd).deliver (f - 1) ((f - 1) * furlongNs s.profile)
  let u := (((t.modCyc (fun c => { c with fnum := f })).rodWork.lastFields).rejoinBoundary).openFurlong
  if s.boundaries then u.superviseClocks b.clocks else u

theorem State.furlongBoundary_eq (b : BoundaryIn) : s.furlongBoundary b =
    let z := (s.atOpening b s.nextFurlong).phaseZero b s.keyNt.pair.isSome s.mode
    if z.inReset then z else z.takeoverDue.yieldDue := rfl

/-- The furlong that opens: its boundaries are raised, and its phase 2 is still to come. -/
theorem State.opened_atOpening (b : BoundaryIn) (f : Nat) :
    (s.atOpening b f).fnum = f ∧ (s.atOpening b f).boundaries = true ∧ (s.atOpening b f).p2 = false ∧
      (s.atOpening b f).p2End = false := by
  unfold State.atOpening
  dsimp only
  generalize (s.closeWindows.countClean.flushWd).deliver (f - 1) ((f - 1) * furlongNs s.profile) = t
  obtain ⟨hcyc, -⟩ := State.rodWork_stands (t.modCyc (fun c => { c with fnum := f }))
  generalize (t.modCyc (fun c => { c with fnum := f })).rodWork = r at hcyc
  have hf : r.lastFields.rejoinBoundary.fnum = f :=
    (congrArg Opened.fnum r.lastFields.rejoinBoundary_opened).trans (congrArg Cyc.fnum hcyc)
  generalize r.lastFields.rejoinBoundary = w at hf
  have hopen : w.openFurlong.opened = ⟨f, true, false, false, w.inReset⟩ := by
    rw [← hf]; rfl
  have hw : (if s.boundaries then w.openFurlong.superviseClocks b.clocks else w.openFurlong).opened =
      ⟨f, true, false, false, w.inReset⟩ := by
    rw [← hopen]
    split
    · exact State.superviseClocks_opened _ _
    · rfl
  exact ⟨congrArg Opened.fnum hw, congrArg Opened.boundaries hw, congrArg Opened.p2 hw, congrArg Opened.p2End hw⟩

/-- The boundary opens the next furlong. -/
theorem State.furlongBoundary_opens (b : BoundaryIn) : Opens (s.furlongBoundary b) s.nextFurlong := by
  obtain ⟨hf, hb, hp, he⟩ := s.opened_atOpening b s.nextFurlong
  rw [State.furlongBoundary_eq]
  generalize s.atOpening b s.nextFurlong = o at hf hb hp he
  obtain ⟨hstays, hends⟩ := o.phaseZero_ends b s.keyNt.pair.isSome s.mode
  dsimp only
  generalize o.phaseZero b s.keyNt.pair.isSome s.mode = z at hstays hends
  split
  next hr => exact ⟨hstays.fnum.trans hf, fun hr' => absurd hr (ne_true_of_eq_false hr')⟩
  next hr =>
    have hopened := hstays.opened (eq_false_of_ne_true hr)
    have hkept : z.takeoverDue.yieldDue.kept = z.kept := (State.yieldDue_kept _).trans z.takeoverDue_kept
    obtain ⟨y, rfl⟩ := hends.resolve_left hr
    have hlast : y.latch.clearHeard.takeoverDue.yieldDue.opened = o.opened := (congrArg Kept.opened hkept).trans hopened
    refine ⟨(congrArg Opened.fnum hlast).trans hf, fun _ => ⟨(congrArg Opened.boundaries hlast).trans hb,
      (congrArg Opened.p2 hlast).trans hp, (congrArg Opened.p2End hlast).trans he, fun v hv => ?_⟩⟩
    have hview : y.latch.clearHeard.takeoverDue.yieldDue.view = y.latch.clearHeard.view := congrArg Kept.view hkept
    have hexcl := congrArg Kept.excl hkept
    have hv' : y.latch.clearHeard.inService v = true := (congrArg (fun e => !Tri.get e v) hexcl).symm.trans hv
    rw [hview, State.view_latch y hv', ← hf]
    exact congrArg Opened.fnum hopened

end

/-- Settles O21: phase 0 keeps the furlong that the boundary has opened, but for a restart, and ends with the latch. -/
theorem boundaryRaisesTheFurlong : Obligations.BoundaryRaisesTheFurlong := by
  intro dt b s u hacq hreset hgrid
  have hexec : ∀ hdue : u.boundaryDue = true, exec (.furlongBoundary dt b) s = .next (u.furlongBoundary b) :=
    fun hdue => if_pos hdue
  have hfirst : (u.start.acquired && !u.inReset && u.onGrid (furlongNs u.profile) 0) = true := by
    have hacq' : u.start.acquired = true := hacq
    have hreset' : u.inReset = false := hreset
    have hgrid' : u.onGrid (furlongNs u.profile) 0 = true := hgrid
    rw [hacq', hreset', hgrid']
    rfl
  refine ⟨fun hon htime => ?later, fun hoff => ?first⟩
  case later =>
    have hon' : u.boundaries = true := hon
    have htime' : u.fnum + 1 ≤ u.time / furlongNs u.profile := htime
    refine ⟨_, hexec ?_, ?_⟩
    · rw [State.boundaryDue, hfirst, decide_eq_true htime', Bool.or_true, Bool.and_self]
    · have hnext : u.nextFurlong = u.fnum + 1 := if_pos hon'
      exact hnext ▸ u.furlongBoundary_opens b
  case first =>
    have hoff' : u.boundaries = false := hoff
    refine ⟨_, hexec ?_, ?_⟩
    · rw [State.boundaryDue, hfirst, hoff']
      rfl
    · have hnext : u.nextFurlong = u.time / furlongNs u.profile % 2 ^ 48 := if_neg (ne_true_of_eq_false hoff')
      exact hnext ▸ u.furlongBoundary_opens b

end Sys2Proof.Machine
